-- ==== Sys2Proof/Word.lean ====
section
/-! DEFINITION. The word types: the native 64-bit word (00_scope.md, "Units and types"), bytes, and the sparse
table that stands for every keyed collection of the part. -/

namespace Sys2Proof

/-- The native word of the part: 64 bits everywhere (00_scope.md). -/
abbrev Word := BitVec 64

/-- The smallest unit of DRAM and MRAM. -/
abbrev Byte := BitVec 8

/-- A string of bytes, first byte first. -/
abbrev Bytes := List Byte

/-- A sparse table: keys strictly rising, no entry equal to what an absent key reads as. -/
abbrev Tab (α : Type) := List (Nat × α)

/-- 2^64, the modulus of every 64-bit count. -/
abbrev two64 : Nat := 18446744073709551616

end Sys2Proof
end

