-- ==== Sys2Proof/Syntax.lean ====
section
/-! DEFINITION. The commands the part takes: one constructor of Instr per row of spec/opcode_table.json, and the
operand forms they carry. Every command carries `t`, the fabric cycle (COR_CYC, R17) at which it happens. What a
cited standard decodes or verifies (a signature, a tag, an IEEE 802.15.4 header, a DLMS APDU) arrives decoded, with
its verdict, because the manual leaves the standards themselves outside (Table 0-1). -/

namespace Sys2Proof

/-- How a dictionary message reached the Concierge (12_dictionary.md): an EMP session or a mailbox slot (R362); or
the strongroom request slot that carries it to the Keeper (R164). -/
inductive Via where
  | session (n : Nat)
  | mailbox (wing slot : Nat)
  | slot (k : Nat)
  deriving DecidableEq, Repr

/-- A LEGAL authorisation of Table 12-2, with the three verdicts of the standards it rests on: the public key's
hash equals the fused one, the value hash matches, the P-384 signature verifies (R165). (DESIGN CHOICE, log 34) -/
structure LegalAuth where
  keyOk   : Bool
  unitId  : Bytes
  object  : Nat
  counter : Nat
  hashOk  : Bool
  sigOk   : Bool
  deriving DecidableEq, Repr

/-- An IEEE 802.15.4 address. -/
inductive Addr where
  | absent
  | short (n : Nat)
  | ext   (n : Nat)
  deriving DecidableEq, Repr

/-- Frame types of Table 4-1. -/
inductive FrameType where
  | beacon | data | enhAck | command | multipurpose | other
  deriving DecidableEq, Repr

/-- What the ciphering of a DLMS APDU comes to under its endpoint's keys (R143, R144): the plaintext, whether the authentication
tag verifies, and for a signed one whether the signature does. -/
structure Opened where
  plain : Bytes
  tagOk : Bool
  sigOk : Bool
  deriving DecidableEq, Repr

/-- A received MAC frame as IEEE 802.15.4-2020 decodes it (R89 to R99), with the verdicts of the standard: every
header complete, every IE length inside, the MIC verifies. -/
structure MacFrame where
  version   : Nat
  ftype     : FrameType
  seqSuppressed : Bool
  complete  : Bool
  ieOk      : Bool
  dstPan    : Nat
  dst       : Addr
  src       : Addr
  ar        : Bool
  secured   : Bool
  level     : Nat
  keyMode   : Nat
  ctrSuppressed : Bool
  keyIdx    : Nat
  counter   : Nat
  seq       : Nat
  micOk     : Bool
  cslPhase  : Nat
  cslPeriod : Nat
  hasCsl    : Bool
  ebRequest : Bool
  payload   : Bytes
  payloadOff : Nat
  psdu      : Bytes
  opened    : Opened
  deriving DecidableEq, Repr

/-- The PHR of a SUN FSK frame (R77). -/
structure Phr where
  modeSwitch : Bool
  fcsShort   : Bool
  dw         : Bool
  coded      : Bool
  length     : Nat
  deriving DecidableEq, Repr

/-- Slot classes of Table 1-3. -/
inductive FabClass where
  | core | ingest | store | audit | reg | uplink | srlink | fabric
  deriving DecidableEq, Repr

/-- A Corridor message (R18, R19): class, beats, the wings it runs between, the cycle it is ready, the number of its
requester within the class, and the address of the access it carries. -/
structure FabMsg where
  cls   : FabClass
  beats : Nat
  src   : Nat
  dst   : Nat
  ready : Nat
  rq    : Nat
  addr  : Nat
  deriving DecidableEq, Repr

/-- A frame received on an uplink port (R311, R315): its octets from the destination address, without FCS, and whether the
FCS is good. -/
structure UplinkFrame where
  fcsOk : Bool
  bytes : Bytes
  deriving DecidableEq, Repr

/-- An Announce as the best master clock algorithm compares it (R322; IEEE 1588-2019 clause 9.3): the grandmaster's
priority1, class, accuracy, variance, priority2 and identity, and the steps removed. -/
structure AnnounceMsg where
  prio1    : Nat
  cls      : Nat
  accuracy : Nat
  variance : Nat
  prio2    : Nat
  identity : Nat
  steps    : Nat
  deriving DecidableEq, Repr

/-- A client's certificate chain in a handshake (R353, R354): its certificates, the octets of the longest, the anchor it ends in, and
whether its signatures verify, its validity dates hold at PTIME, and its one certificate is self-signed. -/
structure ClientChain where
  certs      : Nat
  longest    : Nat
  anchor     : Nat
  sigsOk     : Bool
  datesOk    : Bool
  selfSigned : Bool
  deriving DecidableEq, Repr

/-- One EMP segment (Table 12-5). -/
structure EmpSegment where
  version : Nat
  kind    : Nat
  index   : Nat
  count   : Nat
  reqId   : Nat
  object  : Nat
  flags   : Nat
  body    : Bytes
  deriving DecidableEq, Repr

/-- The commands: one constructor per row of spec/opcode_table.json. (DESIGN CHOICE, log 223) -/
inductive Instr where
  -- 00, 01: registers, fabric, modes
  | registerWrite (t rq addr t0 : Nat) (v : Word)
  | busError (t rq addr : Nat) (write : Bool)
  | fabricMessageArrival (t : Nat) (m : FabMsg)
  | remoteRegisterReadDone (t rq addr t0 : Nat)
  | corridorLinkLost (t w port : Nat)
  | corridorRetrainStart (t w port : Nat)
  | corridorLinkRetrained (t w port : Nat)
  | corridorRetrainFailed (t w port : Nat)
  | modeRequest (t : Nat) (via : Via) (mode : Nat)
  | cclkDividerChange (t : Nat)
  | nightAuditLaneChange (t : Nat)
  | corePark (t w : Nat)
  | coreResume (t : Nat)
  -- 02: mains angle, Timetable, armed responses
  | zeroCrossing (t ch : Nat) (up : Bool) (tc rms : Nat)
  | matLoss (t : Nat)
  | sourceChannelChange (t : Nat)
  | matUpdateApply (t : Nat)
  | replicaStale (t w : Nat)
  | timetableGo (t w e : Nat)
  | timetableStop (t w e : Nat)
  | timetableFire (t w e : Nat)
  | airLaunchLead (t w e : Nat)
  | captureEnd (t : Nat)
  | metrologySample (t : Nat) (codes : List Int)
  | armResponse (t : Nat) (via : Via) (rec : Bytes) (sigOk : Bool)
  | disarmSlot (t : Nat) (via : Via) (slot : Nat)
  | armedResponseExpiry (t slot : Nat)
  | armedTriggerDecision (t slot : Nat)
  | fireCycle (t slot : Nat)
  | armedFrameStart (t slot pn : Nat)
  | armedUplinkCopy (t slot pn : Nat)
  -- 03: Air Ports
  | portEnable (t w p : Nat)
  | portDisable (t w p : Nat)
  | train (t w p : Nat)
  | alignmentGained (t w p : Nat)
  | alignmentLost (t w p : Nat)
  | preambleDetect (t w p bin : Nat) (pwr : Int)
  | laneGrant (t w : Nat)
  | watcherWithdraw (t w p bin : Nat) (matched : Bool) (pwr : Int)
  | laneAcquired (t w lane : Nat)
  | sfdTimeout (t w lane : Nat) (matched : Bool) (pwr : Int)
  | sfdFound (t w lane : Nat) (phr : Phr)
  | frameEnd (t w lane : Nat) (fcsOk : Bool) (rssi foff : Int) (frame : MacFrame)
  | sourceAddressLookup (t w lane : Nat) (src : Addr) (ftype : FrameType)
  | ownerCommit (t w lane : Nat)
  | macVerdict (t w lane : Nat)
  | ackTxen (t w p : Nat)
  | txDescriptorPost (t w p addr : Nat)
  | transmissionEnd (t w p : Nat)
  | txenRelease (t w p : Nat)
  | blankingEnd (t w p : Nat)
  | spiGo (t w p : Nat) (v : Word)
  | spiComplete (t w p : Nat) (miso : Nat)
  | clipReport (t w p n : Nat)
  -- 04: radio MAC and Town Crier
  | keyMaterialWrite (t : Nat) (via : Via) (kk : Nat) (key : Bytes)
  | keyStateWrite (t : Nat) (via : Via) (kk st : Nat)
  | armedKeyWrite (t : Nat) (via : Via) (key : Bytes)
  | counterRequest (t w p assertion kk : Nat)
  | counterAssign (t : Nat)
  | counterBlockReserve (t kk : Nat)
  | ackWaitTimeout (t pn : Nat)
  | sendRequestTake (t w : Nat)
  | csmaBackoffEnd (t pn : Nat)
  | ccaEnd (t pn : Nat) (pwr : Int) (preamble : Bool)
  | enhancedBeaconInterval (t : Nat)
  | parentWindowClose (t : Nat)
  | scanEnd (t : Nat)
  | takeParent (t : Nat) (via : Via) (pp : Nat)
  | floodAtWing0 (t : Nat)
  | relayHoldEnd (t : Nat)
  | floodRequest (t : Nat) (via : Via) (rec : Bytes)
  | floodRepetition (t n : Nat)
  | floodExpired (t idx : Nat)
  | seenCacheExpiry (t w : Nat)
  | nbrRead (t w idx : Nat)
  | nbrPin (t w idx : Nat)
  | nbrUnpin (t w idx : Nat)
  | lookUpEntryByAddress (t : Nat) (via : Via) (addr : Nat)
  | pinEntryByAddress (t : Nat) (via : Via) (addr : Nat)
  | unpinEntryByAddress (t : Nat) (via : Via) (addr : Nat)
  -- 05: Check-in
  | provision (t : Nat) (via : Via) (rec : Bytes)
  | deprovision (t : Nat) (via : Via) (idx : Nat)
  | suspend (t : Nat) (via : Via) (idx : Nat)
  | resume (t : Nat) (via : Via) (idx : Nat)
  | setDed (t : Nat) (via : Via) (idx : Nat) (key : Bytes)
  | clearDed (t : Nat) (via : Via) (idx : Nat)
  | rekey (t : Nat) (via : Via) (idx : Nat) (keys : Bytes)
  | pinEndpoint (t : Nat) (via : Via) (idx : Nat)
  | unpinEndpoint (t : Nat) (via : Via) (idx : Nat)
  | exportSession (t : Nat) (via : Via) (idx : Nat)
  | importSession (t : Nat) (via : Via) (idx : Nat) (sealed : Bytes) (tagOk : Bool) (entry : Bytes)
  | lookUpEndpointByIndex (t : Nat) (via : Via) (idx : Nat)
  | carriedFrame (t w : Nat) (opened : Opened)
  | admission (t w : Nat)
  | batchClose (t w : Nat)
  | fill (t w : Nat) (dramOk : Bool)
  | signatureVerifyStart (t w : Nat)
  | checkinOutcome (t w : Nat)
  | gbRead (t w idx : Nat)
  | gbPin (t w idx : Nat)
  | gbUnpin (t w idx : Nat)
  | writeback (t w idx : Nat)
  | holdReply (t w idx : Nat)
  | flushGuestBook (t w : Nat)
  | stagingConfirm (t w : Nat) (v : Word)
  | directorySweep (t w : Nat)
  -- 06: strongroom
  | linkFrameReceive (t link : Nat) (toStrongroom : Bool) (ctr : Nat) (tagOk : Bool)
  | guardRead (t rq off : Nat) (ok : Bool)
  | guardWrite (t rq off : Nat) (v : Word)
  | logAppend (t w seq : Nat) (rec : Bytes)
  | linkIdle (t link : Nat) (fromStrongroom : Bool)
  | strongroomLinkDown (t link : Nat)
  | strongroomLinkTrained (t link : Nat) (nonceS nonceG : Bytes)
  | strongroomTrainingRetry (t link : Nat)
  | carryingChange (t : Nat)
  | strongroomReset (t : Nat) (watchdog crcOk : Bool)
  | commit (t : Nat)
  | legalSet (t : Nat) (via : Via) (obj : Nat) (val : Bytes) (auth : LegalAuth)
  | legalExec (t : Nat) (via : Via) (obj : Nat) (arg : Bytes) (auth : LegalAuth)
  | switchToVbak (t vsr vbak : Nat)
  | returnToVsr (t vsr vbak : Nat)
  | metrologyRestart (t mask : Nat)
  | metrologyCycleEnd (t f : Nat)
  | tamperInputChange (t k : Nat) (level : Bool) (since : Nat)
  | readTheRegisterBook (t : Nat) (via : Via) (seq : Nat)
  | acknowledgeTheRegisterBook (t : Nat) (via : Via) (seq : Nat)
  -- 07: billing
  | keeperTick (t : Nat)
  | disciplineComparison (t : Nat)
  | clockStep (t : Nat)
  | setLtime (t : Nat) (via : Via) (target : Nat) (auth : LegalAuth)
  | profileIntervalEnd (t : Nat)
  | demandSubperiodEnd (t : Nat)
  | billingPeriodEnd (t : Nat)
  | endTheBillingPeriodNow (t : Nat) (via : Via) (auth : LegalAuth)
  | taiUtcChange (t : Nat)
  | calendarActivation (t : Nat)
  | tariffSwitch (t : Nat)
  | repeatGenerationReset (t : Nat)
  | powerFailCapture (t : Nat)
  | powerUpCapture (t : Nat)
  | calendarImageWrite (t : Nat) (via : Via) (img : Bytes) (auth : LegalAuth)
  | withdrawThePassiveCalendar (t : Nat) (via : Via) (auth : LegalAuth)
  | rateAndPriceAtAnLtime (t : Nat) (via : Via) (l : Nat)
  | readSnapshotByAge (t : Nat) (via : Via) (age : Nat)
  | readProfileRecords (t : Nat) (via : Via) (seq : Nat)
  | consistentRegisterSet (t : Nat) (via : Via) (f : Nat)
  | minutePublish (t : Nat)
  -- 08: prepayment
  | chargeSend (t w : Nat)
  | charge (t w : Nat)
  | voucher (t : Nat) (via : Via) (rec : Bytes) (sigOk : Bool)
  | dueScan (t start : Nat)
  | supplyAuth (t0 t w account action : Nat) (leaseSigOk : Bool)
  | supplyConfirm (t w account number result : Nat)
  | authorisationLapse (t account : Nat)
  | openAccount (t : Nat) (via : Via) (rec : Bytes) (auth : LegalAuth)
  | closeAccount (t : Nat) (via : Via) (rec : Bytes) (auth : LegalAuth)
  | setPlan (t : Nat) (via : Via) (rec : Bytes) (auth : LegalAuth)
  | readAccount (t : Nat) (via : Via) (account : Nat)
  | friendlyHoursWrite (t : Nat) (via : Via) (img : Bytes) (auth : LegalAuth)
  -- 09: Night Audit
  | intervalFold (t w : Nat)
  | voltageFold (t w : Nat)
  | assignEndpoint (t : Nat) (via : Via) (rec : Bytes)
  | assignmentEffect (t idx : Nat)
  | commitThePendingSegmentTable (t : Nat) (via : Via) (g : Nat)
  | auditJobReady (t : Nat)
  | closeJobStart (t : Nat)
  | closeJobEnd (t : Nat)
  | identificationJobStart (t w : Nat)
  | identificationJobEnd (t w : Nat)
  | identificationSkipped (t w : Nat)
  | readEndpointAuditState (t : Nat) (via : Via) (idx : Nat)
  | readResults (t : Nat) (via : Via) (seq : Nat)
  | readLocalisationRecords (t : Nat) (via : Via) (age : Nat)
  -- 0A: Profile Store
  | profileDecision (t w : Nat)
  | intakeUnitClose (t w : Nat)
  | programComplete (t w : Nat) (ok : Bool)
  | pageReadComplete (t w page : Nat) (decoded : Bool) (corrections : Nat)
  | eraseComplete (t w block : Nat) (ok : Bool)
  | spanSeal (t w : Nat)
  | sealDone (t w : Nat)
  | latePath (t w : Nat)
  | patchMerge (t w : Nat)
  | dayExpiry (t w : Nat)
  | garbageCollection (t w : Nat)
  | wearMove (t w : Nat)
  | bakeHours (t w : Nat) (minuteTemps : List Int)
  | refresh (t w block : Nat)
  | checkpoint (t w : Nat)
  | ckpt (t w : Nat)
  | stop (t w : Nat)
  | storeStart (t w : Nat) (mapOk : Bool)
  | readASpan (t : Nat) (via : Via) (rec : Bytes)
  -- 0B: uplink, clock, leases
  | prpReceive (t pn : Nat) (f : UplinkFrame)
  | supervisionSend (t w : Nat)
  | portSilent (t pn : Nat)
  | uplinkLinkUp (t pn : Nat)
  | uplinkLinkDown (t pn : Nat)
  | uplinkTransmitDescriptor (t pn : Nat)
  | timedLaunchLead (t pn e : Nat)
  | timedLaunchSend (t pn e : Nat)
  | syncReceive (t dn pn t1 : Nat) (corr : Int)
  | announceReceive (t dn pn : Nat) (a : AnnounceMsg)
  | pdelayReq (t pn resp : Nat)
  | peerDelayMeasurement (t pn treq : Nat) (turn : Int)
  | syncTimeout (t d : Nat)
  | announceReceiptTimeout (t d pn : Nat)
  | holdoverLimit (t d : Nat)
  | domainRevert (t : Nat)
  | ptimeApply (t : Nat)
  | installALease (t : Nat) (via : Via) (rec : Bytes) (sigOk : Bool)
  | leaseFloor (t : Nat)
  | leaseFloorFree (t group : Nat)
  | releaseTheLeases (t : Nat) (via : Via) (group : Nat)
  | readTheLeases (t : Nat) (via : Via) (group : Nat)
  | leaseRollover (t group : Nat)
  | leaseUnusable (t group : Nat)
  | runADrill (t : Nat) (via : Via) (group : Nat) (leaseSigOk : Bool)
  | lastExportNumberImported (t : Nat) (via : Via) (src : Nat)
  -- 0C..: dictionary and EMP
  | dtlsHandshake (t iface source : Nat) (chain : ClientChain)
  | sessionEnd (t n why : Nat)
  | segmentReceive (t n : Nat) (seg : EmpSegment)
  | incomplete (t n reqId : Nat)
  | getObj (t : Nat) (via : Via) (obj : Nat)
  | setObj (t : Nat) (via : Via) (obj : Nat) (val : Bytes)
  | subscribe (t n obj : Nat) (body : Bytes)
  | unsubscribe (t n sub : Nat)
  | ack (t n seq : Nat)
  | notify (t n : Nat)
  | notifyRetransmit (t n seq : Nat)
  | mailboxGo (t w slot : Nat)
  | unreachable (t : Nat) (via : Via) (obj : Nat)
  -- 13: power, reset, start
  | railTrip (t rail : Nat)
  | wingRailsInRange (t : Nat)
  | vanaTrip (t : Nat)
  | vanaReturn (t : Nat)
  | strongroomPowerLost (t : Nat)
  | powerFailDeclared (t since : Nat)
  | graceEnd (t : Nat)
  | powerFailFlush (t w : Nat)
  | powerFailRecovery (t since : Nat)
  | holdupPublish (t mv : Nat)
  | warm (t w : Nat)
  | cold (t w : Nat)
  | resetThePart (t : Nat) (via : Via) (kind : Nat)
  | rstnLow (t release : Nat)
  | porterWatchdog (t w : Nat)
  | thermalTrip (t : Nat)
  | junctionBelowRecover (t : Nat)
  | quiesceEnd (t : Nat)
  | domainRelease (t w k locked : Nat)
  | pllLockLost (t w pll : Nat)
  | stretchEnd (t : Nat)
  | optionLoad (t : Nat) (bad : List Nat)
  | optionLoadNoLink (t : Nat)
  | optionWordSet (t : Nat) (via : Via) (ww : Nat) (v : Word)
  | warmTokenCheck (t : Nat)
  | imageHashDone (t : Nat) (hash : Nat)
  | dramTrainingDone (t w : Nat) (ok : Bool) (trcd taa trfc trc : Nat)
  | releaseHeldPinGroups (t : Nat) (via : Option Via) (w mask : Nat)
  -- 14: update and keys
  | beginDownload (t : Nat) (via : Via) (header : Bytes)
  | writeChunk (t : Nat) (via : Via) (c : Nat) (data : Bytes)
  | abandonDownload (t : Nat) (via : Via)
  | verify (t : Nat) (via : Via)
  | verifyHead (t : Nat) (head sig : Bytes)
  | verifyLms (t : Nat) (sig : Bytes)
  | downloadRecord (t : Nat) (header : Bytes)
  | counterRead (t : Nat)
  | startTheSlotWrite (t : Nat) (via : Via)
  | slotWriteDone (t : Nat)
  | commitTheActivation (t : Nat) (via : Via)
  | activationReset (t : Nat)
  | start (t : Nat) (slotA slotB : Bytes) (bad : List Nat)
  | trialTimeEnd (t : Nat)
  | confirm (t : Nat) (via : Via) (arg : Nat)
  | shuttered (t : Nat)
  | enterTheRecoveryLoader (t : Nat) (via : Via)
  -- 15: Logbook, Bell Board, Tally
  | eventRaise (t w code src p0 p1 : Nat)
  | logSwraise (t w : Nat) (v : Word)
  | logbookFlush (t w : Nat)
  | flushComplete (t : Nat)
  | flushEveryWingNow (t : Nat) (via : Via)
  | readRecordsFromMram (t : Nat) (via : Via) (arg : Nat)
  | bellBoardDelivery (t w source : Nat)
  | bbSwset (t w : Nat) (v : Word)
  | bbRouteWrite (t w source : Nat) (v : Word)
  | bbFlagClear (t w bank : Nat) (v hwSet : Word)
  | strongroomSourceArrival (t source : Nat)
  | pathReturnDelivery (t w : Nat)
  | talFrzAtWrite (t w : Nat) (v : Word)
  | armAFreezeOnEveryWing (t : Nat) (via : Via) (p : Nat)
  | freezeLatch (t : Nat)
  | talSwinc (t w : Nat) (v : Word)
  -- 16: DRAM
  | refreshWindow (t w b : Nat)
  | refreshScheduleChange (t w : Nat) (hot : Bool)
  | dramAccessIssue (t w rq addr arrived : Nat) (write : Option Bytes)
  | dramReadData (t w : Nat)
  | engineDramAccess (t w addr : Nat) (write : Option Bytes)
  | requestResubmit (t w slot : Nat)
  deriving DecidableEq, Repr

end Sys2Proof
end

