-- ==== Sys2Proof/Decode.lean ====
section
/-! DEFINITION. The command a word spells. The opcode table gives no row any bits: the part has no instruction
words, so no word spells a command. -/

namespace Sys2Proof

/-- The command an instruction word of `nbits` bits spells, by the table's bits: no row of the table has bits. -/
def decodeTableWord (_nbits _w : Nat) : Option Instr := none

end Sys2Proof
end

