-- ==== Sys2Proof/Machine/State.lean ====
section
/-! DEFINITION. The state of the part, as plain data: every register, buffer, queue, counter, mode and pin the spec
gives it, the queue of waiting commands, and the state at power-on (`State.reset`). Keyed collections are tables
(`Tab`); per-wing things are keyed by the wing number, per-wing arrays by `wing * size + index`. -/

namespace Sys2Proof.Machine

/-- Faults. No meaning of this model ends in one: the inductive keeps one name for an access outside every address
space, which the address map answers with a bus error instead (R22). Safe. -/
inductive Fault where
  /-- Raised by no command: kept so that a fault has a name. Safe. -/
  | addressSpace
  deriving DecidableEq, Repr

/-- Refusals. -/
inductive Refusal where
  /-- A command with no meaning yet, by its mnemonic. Safe. -/
  | notModelled (mnemonic : String)
  deriving DecidableEq, Repr

/-! ### The part, time and the fabric -/

/-- Which variant the part is, and the DRAM fitted (R12, R13). -/
structure PartInfo where
  wings : Nat
  dram  : List Nat
  deriving DecidableEq, Repr

/-- A change of PTIME on its way to the replicas (R324): its apply cycle, the rate, a step, and the limit of a slew that begins
(R326). Units: rates in 2^-32 ppb, times in 2^-32 * 10^-9 ns. -/
structure ClkChange where
  at_  : Nat
  rate : Int
  step : Int
  slew : Option Int
  deriving DecidableEq, Repr

/-- The running times (R4, R17, R324, R190): fabric cycle, PTIME replica with its rate and slew remainder, LTIME
with its crystal's deviation and slew, the sum of the slews of the disciplined seconds and their number (R470); `tick0` the
cycle from which each wing counts air ticks. -/
structure Clk where
  now    : Nat
  ptime  : Int
  rate   : Int
  q      : Int
  qLimit : Int
  pend   : List ClkChange
  ltime  : Int
  slew   : Int
  xtal   : Int
  learn  : Int
  learnN : Nat
  tick0  : Tab Nat
  deriving DecidableEq, Repr

/-- An access under way (R20, R21, R22); `bad`: its word was read uncorrectable, and is marked so (R166). -/
structure Access where
  rq    : Nat
  addr  : Nat
  write : Bool
  done  : Nat
  value : Option Word
  bad   : Bool
  deriving DecidableEq, Repr

/-- A Corridor message under way: where it is, where it goes, when it arrives there (R18). -/
structure Flight where
  cls    : FabClass
  beats  : Nat
  src    : Nat
  dst    : Nat
  here   : Nat
  arrive : Nat
  deriving DecidableEq, Repr

/-- One Corridor link, by its lower wing and port: training lost, and at which cycle; attempts made, retrain in progress
(R21, R387). -/
structure Link where
  down     : Bool
  attempts : Nat
  training : Bool
  due      : Nat
  rejoin   : Nat
  given    : Bool
  lostAt   : Nat
  deriving DecidableEq, Repr

/-- A Corridor message on a wing, waiting for a link direction's phases: the wing, the cycle its first beat is ready
there, whether the wing only forwards it (R19). -/
structure Waiting where
  msg  : FabMsg
  here : Nat
  at_  : Nat
  fwd  : Bool
  deriving DecidableEq, Repr

/-- A register write as applied: its cycle, address, requester, cycle of issue, and what the register read before it
(R20: a read of one issued before it does not see it). -/
structure PastWrite where
  at_  : Nat
  addr : Nat
  rq   : Nat
  t0   : Nat
  old  : Word
  deriving DecidableEq, Repr

/-- The Corridor: links by `wing * 3 + port` of the lower wing; by link direction and class ((wing * 3 + port) * 8 + the
class's place in Table 1-3) the messages waiting, in the order in which they leave, and the cycle from which the class's
phases are free; messages arrived, completed accesses and register writes applied, newest first. -/
structure Fab where
  links   : Tab Link
  queues  : Tab (List Waiting)
  taken   : Tab Nat
  flights : List Flight
  done    : List Access
  past    : List PastWrite
  deriving DecidableEq, Repr

/-- Register bits that hardware set in one FCLK (R10): the cycle plus one, and the bits by address. -/
structure Clash where
  at_  : Nat
  bits : Tab Word
  deriving DecidableEq, Repr

/-- Mode of service (R29 to R33): in force, its changes, the sequence of Table 1-14 in progress. -/
structure Mode where
  cur      : Nat
  old      : Nat
  divider  : Nat
  divAt    : Option Nat
  lanes    : Nat
  lanesAt  : Option Nat
  parked   : Nat
  toPark   : Nat
  resumeAt : Option Nat
  changes  : Nat
  deriving DecidableEq, Repr

/-! ### Logbook, Bell Board, Tally (chapter 15) -/

/-- An event record of Table 15-1, with the cycle of its raise. -/
structure LogRec where
  seq  : Nat
  code : Nat
  src  : Nat
  time : Nat
  p0   : Nat
  p1   : Nat
  at_  : Nat
  deriving DecidableEq, Repr

/-- A wing's Logbook buffer: newest record first, at most 4,096 (R430). -/
structure LogWing where
  recs      : List LogRec
  last      : Nat
  flushed   : Nat
  unflushed : Nat
  deriving DecidableEq, Repr

/-- A flush demanded, and a flush running (R432): the wing, the cycle of its demand or start, and records sent ahead of their
turn because a raise overwrote them (R444). -/
structure Flush where
  wing : Nat
  at_  : Nat
  sent : Nat
  deriving DecidableEq, Repr

/-- A record on its way to a wing's DRAM ring (R431): complete at a cycle, at an address. -/
structure RingDue where
  wing  : Nat
  due   : Nat
  seq   : Nat
  place : Nat
  bytes : Bytes
  deriving DecidableEq, Repr

/-- The Logbooks: wings 0 to 7's buffers, the MRAM regions of the nine writers (newest first), the flush queue; by the key of
an event limited in time its last raise (cycle plus one), and what happened in the time it reports on (cycle, count); records
on their way to the DRAM rings. -/
structure Log where
  wing   : Tab LogWing
  mram   : Tab (List LogRec)
  queue  : List Flush
  active : Option Flush
  once   : Tab Nat
  recent : Tab (List (Nat × Nat))
  ring   : List RingDue
  deriving DecidableEq, Repr

/-- A Bell Board delivery on its way (R438): the wing and source, the core and its wing, the cycles of its raise and arrival. -/
structure Delivery where
  wing   : Nat
  source : Nat
  core   : Nat
  target : Nat
  at_    : Nat
  arrive : Nat
  deriving DecidableEq, Repr

/-- The Bell Boards beyond their registers: deliveries on the way, flags whose delivery found no path (R439),
strongroom sources on their way (arrival cycle) and held (R437). -/
structure Bell where
  going   : List Delivery
  undeliv : List (Nat × Nat)
  srGoing : List (Nat × Nat)
  srHeld  : List Nat
  deriving DecidableEq, Repr

/-- The Tally freeze of each wing (R442): armed instant, a later instant waiting, and the part's last freeze. -/
structure Tally where
  armed : Tab (Option Nat)
  frz   : Tab Nat
  seq   : Tab Nat
  last  : Nat
  deriving DecidableEq, Repr

/-! ### Mains angle, Timetable, armed responses (chapter 2) -/

/-- A wing's MAT replica (R39 to R41, R393): it has its epoch's origin and advances; it is to be loaded, as after the wing's
restart; TT_STAT.EPOCH; accumulator in 2^-56 cycle, increment, stale, skew, state last given, cycle of
the last update, and the correction still to add with its bound per FCLK. -/
structure Replica where
  live  : Bool
  fresh : Bool
  epoch : Nat
  acc   : Nat
  inc   : Nat
  stale : Bool
  skew  : Bool
  given : Nat
  upd   : Nat
  corr  : Int
  lim   : Nat
  deriving DecidableEq, Repr

/-- A phase-voltage channel's crossings (R42): times in ps of the last of each direction since a loss, whether
the last half-cycle and the last full cycle were valid, the latest frequency, the cycle (plus one) of the last valid
crossing. -/
structure Chan where
  lastUp : Option Nat
  lastDn : Option Nat
  half   : Bool
  full   : Bool
  freq   : Nat
  validAt : Nat
  deriving DecidableEq, Repr

/-- An update on its way to the replicas (R39): apply cycle, increment, reference MAT loaded at an origin, sets the origin,
the epoch has its origin, the wings it reached. -/
structure MatUpdate where
  at_    : Nat
  inc    : Nat
  ref    : Nat
  origin : Bool
  live   : Bool
  mask   : Nat
  deriving DecidableEq, Repr

/-- The mains angle (R34 to R42): strongroom state and reference, a source channel asked for and when, increments the
reference has yet to load (cycle, increment), and the replicas, wing 0 first. -/
structure Mat where
  state   : Nat
  epoch   : Nat
  origin  : Bool
  once    : Bool
  good    : Nat
  run     : Nat
  why     : Nat
  source  : Nat
  pendSrc : Option (Nat × Nat)
  refAcc  : Nat
  refInc  : Nat
  refPend : List (Nat × Nat)
  lossAt  : Option Nat
  pend    : List MatUpdate
  chans   : Tab Chan
  reps    : List Replica
  deriving DecidableEq, Repr

/-- A Timetable entry: the value in force, and the writes held while ARMED (R44). -/
structure Entry where
  tgt    : Nat
  ctl    : Nat
  rep    : Nat
  arg    : Nat
  hTgt   : Option Nat
  hCtl   : Option Nat
  hRep   : Option Nat
  hArg   : Option Nat
  leadAt : Option Nat
  stopped : Bool
  deriving DecidableEq, Repr

/-- A capture (R52). -/
structure Capture where
  wing  : Nat
  entry : Nat
  base  : Nat
  mask  : Nat
  n     : Nat
  limit : Nat
  endAt : Nat
  deriving DecidableEq, Repr

/-- An armed slot (R53 to R60): with the PHY frame built at arming, the wings the fire message reaches, and the Air and
uplink ports actually used. -/
structure Slot where
  state   : Nat
  record  : Bytes
  count   : Nat
  ts      : Nat
  tsPtime : Nat
  decide  : Option Nat
  fireAt  : Option Nat
  matFire : Nat
  air     : Nat
  why     : Nat
  lost    : Bool
  ports   : Nat
  upls    : Nat
  frames  : Nat
  ctr     : Nat
  frame   : Bytes
  gate    : Nat
  reach   : Nat
  usedAir : Nat
  usedUpl : Nat
  deriving DecidableEq, Repr

/-! ### The dictionary and EMP (chapter 12) -/

/-- A message being reassembled (R357). -/
structure Partial where
  reqId : Nat
  kind  : Nat
  count : Nat
  obj   : Nat
  flags : Nat
  segs  : Tab Bytes
  since : Nat
  deriving DecidableEq, Repr

/-- A stored response of a session (R357). -/
structure Stored where
  reqId  : Nat
  obj    : Nat
  status : Nat
  body   : Bytes
  deriving DecidableEq, Repr

/-- A subscription (R359): object change or events. -/
structure Sub where
  id    : Nat
  event : Bool
  obj   : Nat
  code  : Nat
  mask  : Nat
  least : Nat
  last  : Option Nat
  seen  : Nat
  deriving DecidableEq, Repr

/-- A notification waiting or sent (R360). -/
structure Notif where
  seq   : Nat
  sub   : Nat
  lost  : Nat
  body  : Bytes
  sentAt : Nat
  tries : Nat
  deriving DecidableEq, Repr

/-- An EMP session (R353 to R360). -/
structure Session where
  isOpen  : Bool
  level   : Nat
  iface   : Nat
  last    : Nat
  parts   : List Partial
  stored  : List Stored
  subs    : List Sub
  nextSub : Nat
  seq     : Nat
  lost    : Nat
  queue   : List Notif
  unacked : List Notif
  deriving DecidableEq, Repr

/-- A message in the Concierge's queue (R363), with the cycle in which it became complete. -/
structure Msg where
  at_   : Nat
  via   : Via
  reqId : Nat
  kind  : Nat
  obj   : Nat
  flags : Nat
  body  : Bytes
  deriving DecidableEq, Repr

/-- The response of the message served last. -/
structure Reply where
  via    : Option Via
  reqId  : Nat
  obj    : Nat
  status : Nat
  body   : Bytes
  deriving DecidableEq, Repr

/-- Sessions and the Concierge (R355, R363), and how often an EXEC of an object was refused with a status (object number
* 64 + status; R54, R130). -/
structure Emp where
  sessions : Tab Session
  queue    : List Msg
  reply    : Option Reply
  refused  : Tab Nat
  deriving DecidableEq, Repr

/-! ### Air Ports (chapter 3) -/

/-- A transmission on a port: its rank in Table 3-12, whose it is (slot, entry `wing * 256 + e`, or the MAC's), its
descriptor, the cycles of TXEN assertion, first symbol, end of last symbol and TXEN release, and for an acknowledgement its MAC
header up to the frame counter (Table 4-4). -/
structure Span where
  rank  : Nat
  ident : Nat
  desc  : Nat
  on_   : Nat
  first : Nat
  last  : Nat
  rel   : Nat
  bin   : Nat
  bellOn : Bool
  kind  : Nat
  hdr   : Bytes := []
  deriving DecidableEq, Repr

/-- An Air Port, by port number 2w + p: TXEN, the transmission that holds it, its last symbol sent, its first symbol sent,
reserved instants, blanked bins with the cycle at which each resumes once TXEN is released, alignment attempts since the last
gain, c0 of R66, SMPCLK driven and the cycle to which it still is after EN is cleared (R69), SPI transaction (end, LEN), the armed
buffers in use (slot, PHY frame; R83), the clipped samples reported in the last second (cycle, count), the parent's window. -/
structure AirPort where
  txen    : Bool
  cur     : Option Span
  ended   : Bool
  onAir   : Bool
  resv    : List Span
  blank   : List (Nat × Option Nat)
  tries   : Nat
  origin  : Nat
  smpclk  : Bool
  smpOff  : Nat
  spi     : Option (Nat × Nat)
  bufs    : List (Nat × Bytes)
  clips   : List (Nat × Nat)
  window  : Option (Nat × Nat)
  deriving DecidableEq, Repr

/-- A demodulator lane, by wing * 24 + lane (R74 to R78, R95 to R97). -/
structure Lane where
  st      : Nat
  port    : Nat
  bin     : Nat
  mode    : Nat
  grant   : Nat
  acq     : Bool
  sfd     : Nat
  phr     : Option Phr
  places  : Nat
  noplace : Bool
  ends    : Nat
  freeAt  : Option Nat
  rssi    : Int
  foff    : Int
  frame   : Option MacFrame
  src     : Addr
  ftype   : FrameType
  owner   : Nat
  home    : Nat
  dir     : Nat
  looked  : Bool
  outcome : Option Nat
  deriving DecidableEq, Repr

/-- A wing's arbiter: waiting watchers (port * 64 + bin), the watcher granted last and the cycle (plus one) of its grant
(R74). -/
structure Arbiter where
  waiting : List Nat
  last    : Nat
  lastAt  : Nat
  deriving DecidableEq, Repr

/-- The Air Ports of the part, and the Check-in places taken in each wing (R26). -/
structure Air where
  ports  : Tab AirPort
  lanes  : Tab Lane
  arb    : Tab Arbiter
  places : Tab Nat
  deriving DecidableEq, Repr

/-! ### Radio MAC and Town Crier (chapter 4) -/

/-- A neighbour entry (Table 4-5), by wing * 8192 + index; flags bit 0 VALID to bit 14 as the table. -/
structure Nbr where
  addr   : Nat
  short  : Nat
  flags  : Nat
  dir    : Nat
  ctrA   : Nat
  ctrB   : Nat
  keyA   : Nat
  keyB   : Nat
  genA   : Nat
  genB   : Nat
  seq    : Nat
  slot   : Nat
  ends   : Nat
  heard  : Nat
  anchor : Nat
  period : Nat
  port   : Nat
  bin    : Nat
  drift  : Int
  rssi   : Int
  pend   : Nat
  exch   : Nat
  deriving DecidableEq, Repr

/-- A counter request held by wing 0 (R93). -/
structure CtrReq where
  wing   : Nat
  port   : Nat
  assert : Nat
  key    : Nat
  ends   : Nat
  deriving DecidableEq, Repr

/-- The MAC's work on one Air Port (R106 to R112): a send request, a held reply, a flood repetition, a relay or an
enhanced beacon; phase 0 backoff, 1 CCA, 2 on the port, 3 awaiting the acknowledgement, 4 waiting to start again, 5 its
counter requested, TXEN to be asserted at `start`. `air` is the whole transmission's length in FCLK, `flood` its flood's message ID. -/
structure Job where
  kind   : Nat
  wing   : Nat
  entry  : Nat
  dst    : Nat
  nbr    : Nat
  payload : Nat
  len    : Nat
  flags  : Nat
  limit  : Nat
  tries  : Nat
  nb     : Nat
  be     : Nat
  phase  : Nat
  start  : Nat
  unit   : Nat
  bin    : Nat
  mode   : Nat
  preamble : Nat
  psdu   : Nat
  seq    : Nat
  ctr    : Option Nat
  level  : Nat
  firstAt : Nat
  winEnd : Nat
  csl    : Bool
  air    : Nat
  flood  : Nat
  deriving DecidableEq, Repr

/-- A flood queued for its repetitions, or a relay (R118 to R120). -/
structure Flood where
  ident  : Nat
  origin : Nat
  ttl    : Nat
  flags  : Nat
  mask   : Nat
  mode   : Nat
  bin    : Nat
  reps   : Nat
  gap    : Nat
  data   : Bytes
  since  : Nat
  nextRep : Nat
  sent   : Nat
  left   : Nat
  deriving DecidableEq, Repr

/-- A seen-cache entry (R117). -/
structure Seen where
  origin : Nat
  ident  : Nat
  at_    : Nat
  deriving DecidableEq, Repr

/-- The MAC of the part: neighbour tables, keys' sequence numbers and reserved counter blocks, counter requests, jobs
by Air Port, parent tracking, floods, relays, seen-caches; `waits` the frames waiting for their port's channel access
(port, job), `replies` those Check-in holds (owner wing, directory index), `heardAt` the last beacon of each parent
candidate (PTIME, port). -/
structure Mac where
  nbrs   : Tab Nbr
  seqs   : Tab Nat
  resv   : Tab Nat
  block  : List Nat
  held   : List CtrReq
  jobs   : Tab (Option Job)
  parent : Nat
  lostP  : Nat
  misses : Nat
  beacon : Nat
  bport  : Nat
  drift  : Option Int
  window : Option (Nat × Nat)
  scan   : Option Nat
  heard  : Nat
  scans  : Nat
  ebNext : Option Nat
  ebReq  : List (Nat × Nat)
  floods : List Flood
  relays : List Flood
  accept : List (Flood × Nat × Nat)
  seen   : Tab (List Seen)
  waits  : List (Nat × Job)
  replies : List (Nat × Nat)
  heardAt : Tab (Nat × Nat)
  deriving DecidableEq, Repr

/-! ### Clocks and leases of the uplink (chapter 11) -/

/-- A PTP domain (R322, R323): state, selected port, grandmaster, offsets, consecutive counts, estimate of its offset
from PTIME (in units of PTIME, 2^-32 * 10^-9 ns), cycle of the last Sync and of entry to a state, last
Announce by port with its cycle plus one (0: none). -/
structure Domain where
  state  : Nat
  sel    : Option Nat
  gm     : Nat
  offset : Int
  est    : Int
  near   : Nat
  far    : Nat
  big    : Nat
  sync   : Option Nat
  since  : Nat
  hist   : List Nat
  ann    : Tab (AnnounceMsg × Nat)
  deriving DecidableEq, Repr

/-- The PTP engine: domains, the disciplining one, the servo's sum, HOLDOVER's entry uncertainty and PTIME, a switch
waiting for the new domain's next Sync and whether it is a hand-over (R326), peer delays of each port (R321 to R327). -/
structure Ptp where
  dom    : Tab Domain
  disc   : Nat
  sum    : Int
  ue     : Nat
  te     : Nat
  switch : Option Nat
  hand   : Bool
  pdelay : Tab (List Int)
  deriving DecidableEq, Repr

/-- A lease as installed (Table 11-8), with the start of its span (R333). -/
structure Lease where
  record : Bytes
  number : Nat
  start  : Nat
  expiry : Nat
  span   : Nat
  deriving DecidableEq, Repr

/-- A group's leases (R332). -/
structure LeaseGroup where
  cur   : Option Lease
  next  : Option Lease
  drill : Option Lease
  was   : Bool
  wasD  : Bool
  deriving DecidableEq, Repr

/-- A lease on its way to the wings (R330): the cycle in which it is written, its group and place. -/
structure LeaseInst where
  at_   : Nat
  group : Nat
  place : Nat
  lease : Lease
  deriving DecidableEq, Repr

/-- A lease floor (R331). -/
structure Floor where
  number : Nat
  digest : Bytes
  latest : Nat
  deriving DecidableEq, Repr

/-- The lease table (equal on every wing), the floors, installs waiting for their floor, a lease on its way to the wings, and export
numbers seen. -/
structure Leases where
  groups : Tab LeaseGroup
  floors : Tab Floor
  wait   : List (Via × Bytes)
  inst   : Option LeaseInst
  seen   : Tab Nat
  deriving DecidableEq, Repr

/-! ### Check-in (chapter 5) -/

/-- A date-time of IEC 62056-6-2 as Check-in reads it (R149): whole (every field specified and a deviation
given), its UTC value in seconds since 2000-01-01, its seconds and hundredths both 0, the clock status doubtful. -/
structure DateTime where
  specified  : Bool
  utcSeconds : Int
  subZero    : Bool
  doubtful   : Bool
  deriving DecidableEq, Repr

/-- The push body of Table 5-11 (R149), or another body. -/
inductive PushBody where
  | interval (dt : DateTime) (minutes status : Nat) (values : List Nat)
  | voltage  (dt : DateTime) (values : List Nat)
  | other
  deriving DecidableEq, Repr

/-- A plaintext as steps 15 to 18 of Table 5-9 read it. -/
structure Plain where
  isDataNotification : Bool
  invokeId   : Nat
  lengthsOk  : Bool
  body       : PushBody
  raw        : Bytes
  deriving DecidableEq, Repr

/-- general-signing fields: every length within Table 5-10, the titles, the signature's length. -/
structure Signing where
  lengthsOk      : Bool
  originTitle    : Bytes
  recipientTitle : Bytes
  sigLen         : Nat
  deriving DecidableEq, Repr

/-- A MAC payload as Check-in reads it (R143, R148): the wrapper, the APDU's tag, that of the ciphered APDU in it, the ciphering
system title (none where its length is wrong or passes the end), the content's length form right and its end that of the APDU,
security control, invocation counter. -/
structure Apdu where
  wrapped   : Bool
  dstPort   : Nat
  length    : Nat
  after     : Nat
  outer     : Nat
  tag       : Nat
  inSubset  : Bool
  signing   : Option Signing
  title     : Option Bytes
  cipherOk  : Bool
  control   : Nat
  ic        : Nat
  tagOk     : Bool
  sigOk     : Bool
  plain     : Plain
  raw       : Bytes
  deriving DecidableEq, Repr

/-- A frame in Check-in's input queue or pipeline (R132 to R147): endpoint, MAC payload as it came and as
Check-in reads it, ready instant, how it
was heard, the MAC's verdict (0 awaited, 1 ACCEPTED, 2 another), the mode of service at its ready instant (none before it),
the admission instant of its closed batch, and once admitted: admission, fill slot, entry as it stood, wPorts in force, signature queue entry and unit end,
due outcome, and the judgement once made; with the Lobby record it would be and the wing of that Lobby. -/
structure InFrame where
  dir     : Nat
  pay     : Bytes
  opened  : Opened
  apdu    : Apdu
  t0      : Nat
  air     : Bool
  lane    : Nat
  port    : Nat
  bin     : Nat
  rssi    : Int
  heard   : Nat
  desc    : Nat
  bellOn  : Bool
  unsec   : Bool
  verdict : Nat
  mode    : Option Nat
  batch   : Option Nat
  waited  : Nat
  a       : Nat
  f       : Option Nat
  filled  : Bool
  entry   : Bytes
  wpInt   : Nat
  wpVolt  : Nat
  body    : Bool
  sigIn   : Option Nat
  nat     : Option Nat
  dirErr  : Bool
  judged  : Option (Nat × Bool)
  lobby   : Bytes
  owner   : Nat
  deriving DecidableEq, Repr

/-- A staged record not yet released (R151): sequence, cycle of its outcome, required and confirmed destinations, body
slot. -/
structure Unrel where
  seq  : Nat
  at_  : Nat
  req  : Nat
  conf : Nat
  body : Option Nat
  deriving DecidableEq, Repr

/-- An endpoint operation waiting for the endpoint's frames in flight (R131): operation 1, 2 or 9. -/
structure OpWait where
  via : Via
  op  : Nat
  dir : Nat
  deriving DecidableEq, Repr

/-- A wing's Check-in: queue, pipeline, open batch, spacing, fills, verify units (busy until), staging, Guest Book by
entry number, Lobby tokens (in 10^-9 frame, cycle), waiting operations, by endpoint the cycles of its last judgement and
commit plus one, the cycle of the last descriptor taken plus one, the last complete sweep, the cycle of the last one, and a cold start's restoration still to be made. -/
structure Ing where
  queue  : List InFrame
  pipe   : List InFrame
  open_  : Option (Nat × Nat)
  lastA  : Option Nat
  lastB  : Option Nat
  lastF  : Option Nat
  units  : List Nat
  seq    : Nat
  cons   : Nat
  unrel  : List Unrel
  gb     : Tab Bytes
  tokens : Nat
  tokAt  : Nat
  ops    : List OpWait
  commits : Tab (Nat × Nat)
  xqAt   : Nat
  swept  : Tab Bytes
  sweepAt : Nat
  restore : Bool
  deriving DecidableEq, Repr

/-! ### Billing (chapter 7) -/

/-- An ended demand subperiod (R208, R209): energy by feeder * 2 + direction, incomplete, its status bits of Table 7-5, the
largest g. -/
structure SubPeriod where
  e     : Tab Nat
  bad   : Bool
  flags : Nat
  g     : Nat
  deriving DecidableEq, Repr

/-- The billing state beyond its objects. The running profile interval: start, status, largest g, energy by
feeder * 6 + quantity, phase energy by direction * 6 + phase, cut by a new grid. The running subperiod: start, energy by
feeder * 2 + direction, incomplete, cut by a new grid, status, largest g; the ended ones newest first; how many more a new
configuration makes incomplete. LTIME of the tick from which the grid is in force. Energy registers whose saturation is
recorded. Profile records, published intervals, published minutes by minute count, snapshots, all newest first. The running
period: start, end of the last, the civil instant of the last scheduled end taken (plus one; 0 none), status, LTIME at which a
manual end was asked for. Discipline: first offset and count of confirmations, a step due (offset, LTIME from which), a set's
step due (the same), what a set still slews, a step withheld, last second compared, the cycle of the last event 0x0708.
Since when the active calendar is active; power-fail capture due and the last one's values; power-up capture
due (seconds); the minute's sums of RMS, their counts and status; last minute published; a civil time before which no
civil event acts again. -/
structure Bill where
  iStart  : Nat
  iFlags  : Nat
  iG      : Nat
  iE      : Tab Nat
  iPh     : Tab Nat
  iGrid   : Bool
  sStart  : Nat
  sE      : Tab Nat
  sBad    : Bool
  sGrid   : Bool
  sFlags  : Nat
  sG      : Nat
  subs    : List SubPeriod
  fresh   : Nat
  gridAt  : Nat
  sat     : List Nat
  recs    : List Bytes
  pubs    : List Bytes
  mins    : Tab Bytes
  snaps   : List Bytes
  pStart  : Nat
  tLast   : Nat
  pInst   : Int
  pFlags  : Nat
  endNow  : Option Nat
  first   : Option Int
  confirms : Nat
  step    : Option (Int × Nat)
  setStep : Option (Int × Nat)
  slewLeft : Option Int
  withheld : Bool
  second  : Nat
  heldAt  : Option Nat
  calAt   : Nat
  failDue : Bool
  capture : List Nat
  upDue   : Option Nat
  mSum    : Tab Nat
  mN      : Tab Nat
  mFlags  : Nat
  minute  : Nat
  civil   : Int
  deriving DecidableEq, Repr

/-! ### Prepayment (chapter 8) -/

/-- A wing's charge request (R225): staged sequences of its items, outstanding, the cycle at which it is sent again,
the last staged sequence taken. -/
structure ChargeReq where
  items   : List Nat
  sent    : Bool
  retryAt : Option Nat
  last    : Nat
  deriving DecidableEq, Repr

/-- An issued supply authorisation (R238): number, valid until, action. -/
structure SupplyOrder where
  number : Nat
  till   : Nat
  action : Nat
  deriving DecidableEq, Repr

/-- Prepayment: account records (Table 8-1), replay store (ID, valid until), last authorisations, charge requests by
wing, the last due scan (accounts and actions) and the account it resumes at. -/
structure Prepay where
  accounts : Tab Bytes
  store    : Tab (Nat × Nat)
  orders   : Tab SupplyOrder
  charges  : Tab ChargeReq
  scan     : List (Nat × Nat)
  resume   : Nat
  deriving DecidableEq, Repr

/-! ### Night Audit (chapter 9) -/

/-- A segment of the table in use (R246): parent, resistances of the three phases (F64 words). -/
structure Seg where
  parent : Nat
  res    : List Word
  deriving DecidableEq, Repr

/-- A wing's accumulators of one audit interval (R253, R255): its end in TAI seconds; by (group * 3 + phase) * 4,096 +
segment the energy in thirds of a uWh and the count; a CLOCK_DOUBT fold. -/
structure AuditInt where
  ends  : Nat
  cells : Tab (Int × Nat)
  doubt : Bool
  deriving DecidableEq, Repr

/-- A job ready (R262): kind 1 close, 3 identification; interval or window end in TAI seconds; of an interval its seconds and
the endpoint intervals in it; group or wing; the feeder records covered the interval at its deadline; it waited for QUIET
HOURS. -/
structure AuditJob where
  kind   : Nat
  ends   : Nat
  len    : Nat
  per    : Nat
  who    : Nat
  feeder : Bool
  waited : Bool
  deriving DecidableEq, Repr

/-- A job running: the cycle it ends and the segment table it started with. -/
structure AuditRun where
  job  : AuditJob
  done : Nat
  segs : Tab Seg
  deriving DecidableEq, Repr

/-- A fit (R259): candidates, theta, P by rows. -/
structure AuditFit where
  cands : List Nat
  theta : List Word
  p     : List (List Word)
  deriving DecidableEq, Repr

/-- An audit interval of a group's phase as kept for the refit (R258, R260): its end, auditable, U, regressors by segment,
segments with a residual. -/
structure AuditDay where
  ends  : Nat
  ok    : Bool
  u     : Word
  x     : Tab Word
  resid : List Nat
  deriving DecidableEq, Repr

/-- Night Audit: per wing the last fold's start, the last staged sequence folded, the open accumulators, the number of the
last identification window begun (plus one), the identification running; intervals closed early (end, reason bit); spans
in which it was disabled (from, to; TAI ns); the next interval and window ends to become ready (0 before the first); jobs
ready; the close job running; segment tables in use by group * 4,096 + segment and groups whose table is new; fits and
days by group * 3 + phase; new assignments by index (six bytes, boundary) and the journal's copies; localisation records
written; the end of the last cold start. -/
structure Audit where
  lastB  : Tab Nat
  taken  : Tab Nat
  ints   : Tab (List AuditInt)
  begun  : Tab Nat
  ident  : Tab (Option AuditRun)
  early  : List (Nat × Nat)
  off    : List (Nat × Option Nat)
  next   : Nat
  window : Nat
  jobs   : List AuditJob
  close  : Option AuditRun
  segs   : Tab Seg
  fresh  : List Nat
  fits   : Tab AuditFit
  days   : Tab (List AuditDay)
  pend   : Tab (Bytes × Nat)
  kept   : Tab Bytes
  locs   : Nat
  cold   : Nat
  deriving DecidableEq, Repr

/-! ### Profile Store (chapter 10) -/

/-- A NAND target fitted, as its parameter page reports it (R272, Table 10-1): interface, voltage and rate as required,
bytes of a page and its spare, planes, pages per block, blocks per plane, LUNs, three bits a cell, and the blocks with a
factory mark (LUN * 65,536 + block address, rising). -/
structure NandTarget where
  onfi   : Bool
  page   : Nat
  spare  : Nat
  planes : Nat
  pages  : Nat
  blocks : Nat
  luns   : Nat
  tlc    : Bool
  bad    : List Nat
  deriving DecidableEq, Repr

/-- A programmed page: metadata of Table 10-4, its data bytes, whether the map refers to it (R291), and whether no retry
decodes it (R297). -/
structure NandPage where
  logical : Nat
  seq     : Nat
  typ     : Nat
  count   : Nat
  data    : Bytes
  valid   : Bool
  lost    : Bool
  deriving DecidableEq, Repr

/-- A block (R273, R277, R293): state 0 free, 1 open, 2 closed, 3 retired, 4 being erased; stream, SLC mode, death day of
a day stream, erase count, bake-equivalent hours (2^-32 h) now and at the last checkpoint or close, PTIME and NAND
temperature (0.25 degrees) at open and close, pages oldest first, to be refreshed. -/
structure NandBlock where
  st     : Nat
  stream : Nat
  slc    : Bool
  day    : Nat
  erases : Nat
  bake   : Nat
  bakeCk : Nat
  openAt : Nat
  closeAt : Nat
  openT  : Int
  closeT : Int
  pages  : List NandPage
  weak   : Bool
  deriving DecidableEq, Repr

/-- An intake-format entry (Table 10-7) and its record's staging sequence. -/
structure StoreEntry where
  seq  : Nat
  data : Bytes
  deriving DecidableEq, Repr

/-- A NAND operation queued or running: kind 0 program, 1 read, 2 erase; stream and death day; a relocation; channel it
must use; block and page; the pages programmed, the entries they carry, the pages they supersede (block, page); its task;
ready, started, retries made. -/
structure NandOp where
  kind    : Nat
  stream  : Nat
  day     : Nat
  reloc   : Bool
  chan    : Option Nat
  blk     : Option Nat
  page    : Nat
  pages   : List NandPage
  entries : List StoreEntry
  src     : List (Nat × Nat)
  task    : Nat
  ready   : Nat
  start   : Option Nat
  tries   : Nat
  deriving DecidableEq, Repr

/-- Work that ends when its operations have completed: kind 1 garbage collection, 2 wear move, 3 refresh, 4 relocation
from a failing block, 5 merge, 6 checkpoint, 7 seal, 8 a merge's directory; two numbers of its kind. -/
structure StoreTask where
  id   : Nat
  kind : Nat
  a    : Nat
  b    : Nat
  deriving DecidableEq, Repr

/-- A sealed span (R287): interval minutes, span, death day, pages. -/
structure SpanDir where
  mu    : Nat
  span  : Nat
  day   : Nat
  pages : Nat
  deriving DecidableEq, Repr

/-- A seal asked for or in progress: interval minutes, span, record flags, packed, its directory written, its task. -/
structure SealJob where
  mu     : Nat
  span   : Nat
  flags  : Nat
  packed : Bool
  listed : Bool
  task   : Nat
  deriving DecidableEq, Repr

/-- A wing's Profile Store: good blocks and blocks of IMAGE; last record taken and t_j; open intake and late units with
the cycle of their first entry; late queue (staged sequences), its front being read; blocks; page sequence; channel used
last by stream; operations, tasks, channel free cycles; spans held; newest span sealed plus one by interval minutes; seals
asked for and running; patches; merge due; journal record number, checkpoint generation, next checkpoint, clean; cycles of the last wear
comparison, bake hour and late expiry; the newest death day deferred; NAND temperature last taken (0.25 degrees); by LUN
((channel * 8 + target) * 4 + LUN) the feature address and parameters set last (bits 39:0). -/
structure Store where
  good    : Nat
  image   : Nat
  taken   : Nat
  lastT   : Nat
  intake  : List StoreEntry
  intakeAt : Nat
  late    : List StoreEntry
  lateAt  : Nat
  lateQ   : List Nat
  reading : Bool
  blocks  : Tab NandBlock
  pageSeq : Nat
  flip    : Tab Nat
  ops     : List NandOp
  tasks   : List StoreTask
  nextTask : Nat
  chFree  : Tab Nat
  dirs    : List SpanDir
  sigmas  : Tab Nat
  sealQ   : List SealJob
  sealing : Option SealJob
  patches : List StoreEntry
  mergeDue : Bool
  jnum    : Nat
  gen     : Nat
  ckptAt  : Nat
  clean   : Bool
  wearAt  : Nat
  bakeAt  : Nat
  expAt   : Nat
  dayLate : Nat
  temp    : Int
  feats   : Tab Nat
  deriving DecidableEq, Repr

/-! ### Power, reset and start (chapter 13) -/

/-- A reset asked for: cause (Table 13-6), cold, the wing whose watchdog or PLL gave it. -/
structure ResetReq where
  cause : Nat
  cold  : Bool
  wing  : Nat
  deriving DecidableEq, Repr

/-- A warm token (R392): hash, slot, GEN at sealing. -/
structure WarmToken where
  hash : Bytes
  slot : Nat
  gen  : Nat
  deriving DecidableEq, Repr

/-- Power: PFSENSE low, and the cycle since it stands as it does; the cycle of a declared power-fail, its grace over, wings quiet,
flushing stopped, the wing flushing and its end, mask of wings not flushed and records lost; the cycle (plus one) of the last
publication of U each wing took; a warm reset quiescing and its request's cycle, a reset held until quiet, a thermal trip's cold
reset held; the cycle (plus one) at which each domain was released, by wing * 8 + domain; the cycle at which the last reset's source
ended, and to which the board holds RSTn low; the cycle at which each PLL was last without lock, by wing * 4 + PLL; wings restarting
alone (mask); RSTn and RSTOUTn driven; Option Word copies A and B (17 words), the cycle the load was asked for, loaded; warm token;
image step: verdict and the hash in hand; start complete; wings whose DRAM training failed, or has ended (masks), and the cycle
(plus one) at which it ended; the wing rails are out. -/
structure Power where
  pfLow   : Bool
  pfAt    : Nat
  fail    : Option Nat
  graced  : Bool
  quiet   : Nat
  noFlush : Bool
  flush   : Option (Nat × Nat)
  lostMask : Nat
  lost    : Nat
  heldAt  : Tab Nat
  quiesce : Option (ResetReq × Nat)
  held    : Option ResetReq
  thermal : Bool
  relAt   : Tab Nat
  resetAt : Nat
  rstn    : Nat
  lossAt  : Tab Nat
  alone   : Nat
  driven  : Bool
  optCopies : List (List Word)
  optAt   : Option Nat
  optDone : Bool
  token   : Option WarmToken
  hash    : Option Bytes
  image   : Option Nat
  started : Bool
  untrained : Nat
  trained : Nat
  trainAt : Tab Nat
  railsOut : Bool
  deriving DecidableEq, Repr

/-! ### DRAM controllers (chapter 16) -/

/-- A line read: requester, address, cycle of its data, the data. -/
structure DramLine where
  rq   : Nat
  addr : Nat
  at_  : Nat
  data : Bytes
  deriving DecidableEq, Repr

/-- A wing's DDR5 controller (R449, R450): cycle (plus one) of the last CORE issue and of the last issue by bank, CORE
reads issued (data not yet ready), lines delivered newest first, a change of refresh schedule (cycle, hot), and the cycle (plus one) of
the last window of each bank index; the device's tRC in FCLK as training programs it, and the arrival of the last access issued
(cycle, then the way it came: 0 local, 1 + port). -/
structure Ddr where
  last  : Nat
  banks : Tab Nat
  reads : List DramLine
  lines : List DramLine
  pend  : Option (Nat × Bool)
  refreshed : Tab Nat
  trc   : Nat
  came  : Nat × Nat
  deriving DecidableEq, Repr

/-! ### Uplink ports (chapter 11) -/

/-- A frame an uplink port has sent: PTIME of its delimiter, PRP sequence, octets (empty where the part built them by a
cited standard). -/
structure LanSent where
  at_   : Nat
  seq   : Option Nat
  frame : Bytes
  deriving DecidableEq, Repr

/-- A timed launch taken (R328): its Timetable entry or none for a ring's descriptor, the descriptor's address, PTIME of the
launch (a Timetable's: its cycle), its ports (mask of LANs), the frame read at the lead, lead begun, written back already. -/
structure LanLaunch where
  entry : Option Nat
  desc  : Nat
  due   : Nat
  lans  : Nat
  frame : Bytes
  led   : Bool
  back  : Bool
  deriving DecidableEq, Repr

/-- An uplink port: cycle (plus one; 0: none) and PTIME of the last good frame, the cycle to which the wire is held, a ring's
launch taken, the Timetable's launches led, the frames sent, newest first, and the time-stamps of the last Pdelay_Req answered:
its receipt and the response's (R320, R321). -/
structure LanPort where
  good   : Nat
  goodPt : Nat
  wire   : Nat
  launch : Option LanLaunch
  leads  : List LanLaunch
  sent   : List LanSent
  pdelay : Nat × Nat
  deriving DecidableEq, Repr

/-- A source table entry (R315, R316): address, newest sequence, window (bit j: newest - j seen), cycle last heard, the
last 16 accepted (sequence, length, CRC). -/
structure PrpEntry where
  mac    : Nat
  newest : Nat
  window : Nat
  heard  : Nat
  kept   : List (Nat × Nat × Nat)
  deriving DecidableEq, Repr

/-- A pair: its sequence counter, source table, cycle of the last supervision frames, sequences of armed slots' copies
(plus one). -/
structure LanPair where
  seq   : Nat
  table : List PrpEntry
  supAt : Nat
  armed : Tab Nat
  deriving DecidableEq, Repr

/-! ### Firmware update (chapter 14) -/

/-- A chunk write not yet answered (R411): chunk, path, its number, programs not yet complete; a number of 0 waits for
another write of the same chunk. -/
structure ChunkWait where
  c      : Nat
  via    : Via
  serial : Nat
  left   : Nat
  deriving DecidableEq, Repr

/-- Firmware update: the verified mark; the last report; the slot write under way (target, cycle begun), its last outcome and
the slot of the last one that ended DONE; chunk writes waiting and their numbers; the octal NOR device fitted (size, erase
size, page size) and what its slots hold (slot * 8,192 + chunk); the activation's reset due; the D6 release a trial runs from;
checks that failed when no slot could be loaded; Shuttered; the running image's header; the warm token's verdict of this
start; the counter record's copies (R407); the pointer word is uncorrectable (R417); the head and its ECDSA signature that
the Keeper holds (R424); the slots (bit 0 A, bit 1 B) whose contents `nor` gives; the cycle at which the image step of this
start ends (R413). -/
structure Update where
  verified : Bool
  report  : Bytes
  writing : Option (Nat × Nat)
  outcome : Nat
  done    : Option Nat
  chunks  : List ChunkWait
  serial  : Nat
  norSize : Nat
  norErase : Nat
  norPage : Nat
  nor     : Tab Bytes
  actAt   : Option Nat
  trial   : Option Nat
  noSlot  : Option (Nat × Nat)
  shut    : Bool
  run     : Bytes
  verdict : Option Bool
  copies  : List (List Word)
  ptrBad  : Bool
  head    : Option (Bytes × Bytes)
  norKnown : Nat
  imageAt : Nat
  deriving DecidableEq, Repr

/-! ### The strongroom (chapter 6) -/

/-- One Strongroom Link (R161, R163): cycle from which it is up, training and the start of the present attempt; at
each end (strongroom, gate) the last good frame's cycle, the last counter accepted, the last number sent, the cycle of
the last frame sent; the nonces of its training and the link key derived from them. -/
structure SrLink where
  upAt     : Option Nat
  training : Bool
  start    : Nat
  goodS    : Nat
  goodG    : Nat
  rxS      : Nat
  rxG      : Nat
  txS      : Nat
  txG      : Nat
  sentS    : Nat
  sentG    : Nat
  nonceS   : Bytes
  nonceG   : Bytes
  key      : Bytes
  deriving DecidableEq, Repr

/-- A doorbell the guard has taken, or that is on its way to it (R164): slot, request kind, cycle of its arrival. -/
structure Door where
  slot : Nat
  kind : Nat
  at_  : Nat
  deriving DecidableEq, Repr

/-- A request of a wing's hardware that waits for slot 4w + 2 (R164): the cycle it was ready, its requester (0 Porter,
1 Concierge, 2 MAC, 3 command gate), kind and argument. -/
structure HwReq where
  at_  : Nat
  who  : Nat
  kind : Nat
  arg  : Nat
  deriving DecidableEq, Repr

/-- A request slot (R164): its words, the last sequence served, the stored reply, taken and not yet answered. -/
structure ReqSlot where
  words  : Bytes
  served : Nat
  reply  : Bytes
  busy   : Bool
  deriving DecidableEq, Repr

/-- A Register Book record (Table 6-11). -/
structure BookRec where
  seq   : Nat
  ltime : Nat
  code  : Nat
  src   : Nat
  flags : Nat
  p0    : Nat
  p1    : Nat
  p2    : Nat
  check : Bytes
  deriving DecidableEq, Repr

/-- A record to be appended: code, source, three parameters. -/
structure BookNew where
  code : Nat
  src  : Nat
  p0   : Nat
  p1   : Nat
  p2   : Nat
  deriving DecidableEq, Repr

/-- What the part keeps in MRAM outside the Register Book and the Logbook (Table 6-4, R348), as tables: numbers and octet
strings of the dictionary; reserved counter values by key; prepayment accounts, vouchers and authorisations; lease floors;
published minutes; profile records, published intervals and snapshots (0, 1, 2, newest first); Option Word and counter record
copies (0, 1); authorisation counter, acknowledged sequence, T_last, start of the period, activation, the crystal's learned sum (128 bits)
and its number of seconds (0 to 6); the warm token. -/
structure Mram where
  objs     : Tab Nat
  octs     : Tab Bytes
  resv     : Tab Nat
  accounts : Tab Bytes
  store    : Tab (Nat × Nat)
  orders   : Tab SupplyOrder
  floors   : Tab Floor
  mins     : Tab Bytes
  lists    : Tab (List Bytes)
  words    : Tab (List (List Word))
  nums     : Tab Nat
  token    : Tab WarmToken
  deriving DecidableEq, Repr

/-- The payload of a commit (R167): each entry it changes in MRAM, with its new value or its absence. -/
structure Payload where
  objs     : Tab (Option Nat)
  octs     : Tab (Option Bytes)
  resv     : Tab (Option Nat)
  accounts : Tab (Option Bytes)
  store    : Tab (Option (Nat × Nat))
  orders   : Tab (Option SupplyOrder)
  floors   : Tab (Option Floor)
  mins     : Tab (Option Bytes)
  lists    : Tab (Option (List Bytes))
  words    : Tab (Option (List (List Word)))
  nums     : Tab (Option Nat)
  token    : Tab (Option WarmToken)
  deriving DecidableEq, Repr

/-- A commit the Keeper has accepted and not completed (R167, R185): LTIME and cycle of its tick, its class and place in
the order of one tick, payload words, extents, Register Book records, and its payload. -/
structure Commit where
  tick    : Nat
  at_     : Nat
  cls     : Nat
  sub     : Nat
  words   : Nat
  extents : Nat
  records : List BookNew
  payload : Payload
  deriving DecidableEq, Repr

/-- A feeder's running metrology cycle (R173): running, on fixed windows, place in the 60 Hz round, the samples of its eight
channels (newest first), LTIME and cycle of its start; the calibration in force (gains, offsets, polarities, phase
corrections, voltage and current ratio). -/
structure Feed where
  running : Bool
  noref   : Bool
  round   : Nat
  samples : List (List Int)
  start   : Nat
  begun   : Nat
  cal     : List Nat
  deriving DecidableEq, Repr

/-- A tamper kind's run (R182): consecutive cycles, whether they qualify, LTIME of the run's first cycle. -/
structure Run where
  n     : Nat
  yes   : Bool
  since : Nat
  deriving DecidableEq, Repr

/-- The strongroom: metrology on, the carrying link and the cycle of a change of it, links, supplies (mV), the cycle
of the switch to VBAK and that of the last measurement of VSR below 3.0 V; c0 of R171, the number of the next sample instant,
samples still discarded; request slots, doorbells in the order of service, requests of each wing's hardware waiting for their
slot; accepted commits, the cycle at which the last one ends, what MRAM holds; the
Register Book (newest first), its last acknowledged sequence and an overwritten sequence to explain, the authorisation counter;
feeders, tamper runs, tamper inputs (level, cycle since which it is held), energy below the registers (2^-32 uWh, by
phase * 6 + quantity) and the last tick taken (ms of LTIME). -/
structure Strong where
  metro    : Bool
  carrying : Option Nat
  carryAt  : Option Nat
  links    : Tab SrLink
  onVbak   : Bool
  vsr      : Nat
  vbak     : Nat
  vbakAt   : Nat
  lowAt    : Nat
  c0       : Nat
  sample   : Nat
  discard  : Nat
  slots    : Tab ReqSlot
  doors    : List Door
  hwq      : Tab (List HwReq)
  journal  : List Commit
  lastEnd  : Nat
  home     : Mram
  book     : List BookRec
  acked    : Nat
  gap      : Option Nat
  authCtr  : Nat
  feeds    : Tab Feed
  runs     : Tab Run
  pins     : Tab (Bool × Nat)
  fine     : Tab Nat
  tick     : Nat
  deriving DecidableEq, Repr

/-! ### The whole part -/

/-- The state of the part. `free` counts the free values a run has used (Config). (DESIGN CHOICE, log 222) -/
structure State where
  part    : PartInfo
  clk     : Clk
  regs    : Tab Word
  cnt     : Tab Nat
  dram    : List Host.Cell
  objs    : Tab Nat
  octs    : Tab Bytes
  fab     : Fab
  clash   : Clash
  mode    : Mode
  log     : Log
  bell    : Bell
  tally   : Tally
  mat     : Mat
  tt      : Tab Entry
  cap     : Option Capture
  armed   : Tab Slot
  emp     : Emp
  sr      : Strong
  air     : Air
  mac     : Mac
  ptp     : Ptp
  lease   : Leases
  ing     : Tab Ing
  bill    : Bill
  prepay  : Prepay
  audit   : Audit
  nand    : Tab NandTarget
  store   : Tab Store
  power   : Power
  ddr     : Tab Ddr
  lans    : Tab LanPort
  pairs   : Tab LanPair
  upd     : Update
  free    : Nat
  pending : List Instr
  deriving DecidableEq, Repr

/-- MAT replicas at power-on: eight wings, all reading 0 (R39). -/
def replicaReset : Replica :=
  { live := false, fresh := true, epoch := 0, acc := 0, inc := 0, stale := false, skew := false, given := 0, upd := 0
    corr := 0, lim := 0 }

/-- The counter record's copies at manufacture (R407). -/
def copiesReset : List (List Word) := [[0, 0xFFFFFFFFFFFFFFFF, 0, 0xEDEBC359], [0, 0xFFFFFFFFFFFFFFFF, 0, 0xEDEBC359]]

/-- MRAM at power-on: every value at its default. -/
def mramReset : Mram :=
  { objs := [], octs := [], resv := [], accounts := [], store := [], orders := [], floors := [], mins := [], lists := []
    words := [(1, copiesReset)], nums := [], token := [] }

/-- The NAND fitted at reset: the targets of chapter 10's sizing example, two on each channel.
(DESIGN CHOICE, log 154) -/
def nandTarget : NandTarget :=
  { onfi := true, page := 16384, spare := 2048, planes := 4, pages := 1536, blocks := 1344, luns := 1, tlc := true
    bad := [] }

/-- The machine right after power-on, before any reset domain is released (R379, R383).
(DESIGN CHOICE, log 9; DEDUCED, log 12) -/
def State.reset : State :=
  { part := { wings := 8, dram := List.replicate 8 68719476736 }
    clk := { now := 0, ptime := 0, rate := 0, q := 0, qLimit := 0, pend := [], ltime := 0, slew := 0, xtal := 0, learn := 0, learnN := 0,
             tick0 := [] }
    regs := []
    cnt := []
    dram := []
    objs := []
    octs := []
    fab := { links := [], queues := [], taken := [], flights := [], done := [], past := [] }
    clash := { at_ := 0, bits := [] }
    mode := { cur := 0, old := 0, divider := 3, divAt := none, lanes := 256, lanesAt := none, parked := 0,
              toPark := 0, resumeAt := none, changes := 0 }
    log := { wing := [], mram := [], queue := [], active := none, once := [], recent := [], ring := [] }
    bell := { going := [], undeliv := [], srGoing := [], srHeld := [] }
    tally := { armed := [], frz := [], seq := [], last := 0 }
    mat := { state := 0, epoch := 0, origin := false, once := false, good := 0, run := 0, why := 1, source := 0,
             pendSrc := none, refAcc := 0, refInc := 0, refPend := [], lossAt := none, pend := [], chans := [],
             reps := List.replicate 8 replicaReset }
    tt := []
    cap := none
    armed := []
    emp := { sessions := [], queue := [], reply := none, refused := [] }
    sr := { metro := true, carrying := none, carryAt := none, links := [], onVbak := false, vsr := 0, vbak := 0,
            vbakAt := 0, lowAt := 0, c0 := 0, sample := 0, discard := 640, slots := [], doors := [], hwq := [], journal := []
            lastEnd := 0, home := mramReset, book := [], acked := 0, gap := none, authCtr := 0, feeds := []
            runs := [], pins := [], fine := [], tick := 0 }
    air := { ports := [], lanes := [], arb := [], places := [] }
    mac := { nbrs := [], seqs := [], resv := [], block := [], held := [], jobs := [], parent := 255,
             lostP := 255, misses := 0, beacon := 0, bport := 0, drift := none, window := none, scan := none,
             heard := 0, scans := 0, ebNext := none, ebReq := [], floods := [], relays := [], accept := [], seen := [], waits := [],
             replies := [], heardAt := [] }
    ptp := { dom := [], disc := 0, sum := 0, ue := 0, te := 0, switch := none, hand := false, pdelay := [] }
    lease := { groups := [], floors := [], wait := [], inst := none, seen := [] }
    ing := []
    bill := { iStart := 0, iFlags := 0, iG := 0, iE := [], iPh := [], iGrid := false, sStart := 0, sE := [],
              sBad := false, sGrid := false, sFlags := 0, sG := 0, subs := [], fresh := 0, gridAt := 0, sat := [], recs := [], pubs := [], mins := [], snaps := [],
              pStart := 0, tLast := 0, pInst := 0, pFlags := 0, endNow := none, first := none, confirms := 0,
              step := none, setStep := none, slewLeft := none, withheld := false, second := 0, heldAt := none, calAt := 0, failDue := false, capture := [], upDue := none, mSum := [],
              mN := [], mFlags := 0, minute := 0, civil := 0 }
    prepay := { accounts := [], store := [], orders := [], charges := [], scan := [], resume := 0 }
    audit := { lastB := [], taken := [], ints := [], begun := [], ident := [], early := [], off := [(0, none)], next := 0,
               window := 0, jobs := [], close := none, segs := [], fresh := [], fits := [], days := [], pend := [],
               kept := [], locs := 0, cold := 0 }
    nand := (List.range 32).map (fun i => (i / 2 * 8 + i % 2, nandTarget))
    store := []
    power := { pfLow := false, pfAt := 0, fail := none, graced := false, quiet := 0, noFlush := false, flush := none,
               lostMask := 0, lost := 0, heldAt := [], quiesce := none, held := none, thermal := false, relAt := [],
               resetAt := 0, rstn := 0, lossAt := [], alone := 0, driven := true, optCopies := [], optAt := none,
               optDone := false, token := none, hash := none, image := none, started := false, untrained := 0,
               trained := 0, trainAt := [], railsOut := true }
    ddr := []
    lans := []
    pairs := []
    upd := { verified := false, report := [], writing := none, outcome := 0, done := none, chunks := [], serial := 0
             norSize := 134217728, norErase := 4096, norPage := 256, nor := [], actAt := none, trial := none
             noSlot := none, shut := false, run := [], verdict := none
             copies := copiesReset
             ptrBad := false, head := none, norKnown := 0, imageAt := 0 }
    free := 0
    pending := [] }

end Sys2Proof.Machine
end

