-- ==== Sys2Proof/Machine/Tab.lean ====
section
/-! DEFINITION. Sparse tables in one canonical form, and bytes with their byte orders (R2). -/

namespace Sys2Proof.Machine

/-- The value at a key; an absent key reads as `d`. -/
def tabGet {α : Type} (d : α) : Tab α → Nat → α
  | [], _ => d
  | (k', v) :: m, k => if k' = k then v else tabGet d m k

/-- The table without a key. -/
def tabErase {α : Type} (k : Nat) : Tab α → Tab α
  | [] => []
  | (k', v) :: m => if k' = k then tabErase k m else (k', v) :: tabErase k m

/-- The table with a value at a key, keys kept rising. -/
def tabIns {α : Type} (k : Nat) (v : α) : Tab α → Tab α
  | [] => [(k, v)]
  | (k', v') :: m =>
    if k < k' then (k, v) :: (k', v') :: m
    else if k = k' then (k, v) :: m
    else (k', v') :: tabIns k v m

/-- Write a key; writing what an absent key reads as removes the entry. -/
def tabPut {α : Type} [DecidableEq α] (d : α) (k : Nat) (v : α) (m : Tab α) : Tab α :=
  if v = d then tabErase k m else tabIns k v m

/-- Change the value at a key by a function. -/
def tabMod {α : Type} [DecidableEq α] (d : α) (k : Nat) (f : α → α) (m : Tab α) : Tab α :=
  tabPut d k (f (tabGet d m k)) m

/-- Keys strictly rising from `lo`, and no entry equal to its key's default. -/
def tabWfFrom {α : Type} [DecidableEq α] (d : Nat → α) (lo : Nat) : Tab α → Bool
  | [] => true
  | (k, v) :: m => decide (lo ≤ k) && decide (v ≠ d k) && tabWfFrom d (k + 1) m

/-- The canonical form of a table whose absent key `k` reads as `d k`. -/
def tabWf {α : Type} [DecidableEq α] (d : Nat → α) (m : Tab α) : Bool := tabWfFrom d 0 m

/-- Drop every key of a set (a reset clears a range of keys). -/
def tabDrop {α : Type} (p : Nat → Bool) : Tab α → Tab α
  | [] => []
  | (k, v) :: m => if p k then tabDrop p m else (k, v) :: tabDrop p m

/-- The least key at or above `lo` that a table does not hold. -/
def tabGap {α : Type} (lo : Nat) : Tab α → Nat
  | [] => lo
  | (k, _) :: m => if k < lo then tabGap lo m else if k = lo then tabGap (lo + 1) m else lo

/-- The number a little-endian byte string spells (R2). -/
def leNat : Bytes → Nat
  | [] => 0
  | b :: bs => b.toNat + 256 * leNat bs

/-- The `n` low bytes of a number, least significant first. -/
def toLe : Nat → Nat → Bytes
  | 0, _ => []
  | n + 1, v => BitVec.ofNat 8 (v % 256) :: toLe n (v / 256)

/-- The number a big-endian byte string spells (R2). -/
def beNat (b : Bytes) : Nat := leNat b.reverse

/-- The `n` low bytes of a number, most significant first. -/
def toBe (n v : Nat) : Bytes := (toLe n v).reverse

/-- `n` bytes from an offset; bytes past the end are absent. -/
def slice (b : Bytes) (off n : Nat) : Bytes := (b.drop off).take n

/-- The little-endian field of `n` bytes at an offset. -/
def leAt (b : Bytes) (off n : Nat) : Nat := leNat (slice b off n)

/-- The big-endian field of `n` bytes at an offset. -/
def beAt (b : Bytes) (off n : Nat) : Nat := beNat (slice b off n)

/-- A byte string cut or zero-filled to `n` bytes. -/
def padTo (n : Nat) (b : Bytes) : Bytes := b.take n ++ List.replicate (n - b.length) 0

/-- Bit `i` of a number. -/
def bit (n i : Nat) : Bool := n.testBit i

/-- Bits `hi` to `lo` of a number. -/
def bits (n hi lo : Nat) : Nat := n / 2 ^ lo % 2 ^ (hi + 1 - lo)

/-- A number with bits `hi` to `lo` replaced. -/
def setBits (n hi lo v : Nat) : Nat :=
  n / 2 ^ (hi + 1) * 2 ^ (hi + 1) + v % 2 ^ (hi + 1 - lo) * 2 ^ lo + n % 2 ^ lo

/-- A truth value as 0 or 1. -/
def b2n (b : Bool) : Nat := if b then 1 else 0

/-- R6: `a` is later than `b` on a counter of `w` bits, by signed difference. -/
def laterW (w a b : Nat) : Bool :=
  let d := (a + 2 ^ w - b % 2 ^ w) % 2 ^ w
  decide (0 < d ∧ d < 2 ^ (w - 1))

/-- R6: `a` is not earlier than `b`. -/
def notBeforeW (w a b : Nat) : Bool :=
  let d := (a + 2 ^ w - b % 2 ^ w) % 2 ^ w
  decide (d < 2 ^ (w - 1))

/-- R6 on 64 bits: `a` is later than `b`. -/
abbrev later64 (a b : Nat) : Bool := laterW 64 a b

/-- R6 on 64 bits: `a` is not earlier than `b`. -/
abbrev notBefore64 (a b : Nat) : Bool := notBeforeW 64 a b

/-- A two's-complement reading of the low `w` bits of a number. -/
def sgn (w n : Nat) : Int :=
  if n % 2 ^ w < 2 ^ (w - 1) then (n % 2 ^ w : Int) else (n % 2 ^ w : Int) - 2 ^ w

/-- The `w`-bit two's-complement form of an integer. -/
def unsgn (w : Nat) (i : Int) : Nat := (i % (2 ^ w : Int)).toNat

/-- Division rounded up. -/
def ceilDiv (a b : Nat) : Nat := (a + b - 1) / b

/-- The next multiple of `m` at or after `t`. -/
def nextMultiple (t m : Nat) : Nat := ceilDiv t m * m

/-- Bits set in the low `n` bits of a number. -/
def popCount (n v : Nat) : Nat := ((List.range n).filter (fun i => v.testBit i)).length

/-- The CRC-32C (Castagnoli, reflected polynomial 0x82F63B78) of a byte string, over a running value. -/
def crc32cByte (crc : Nat) (b : Nat) : Nat :=
  (List.range 8).foldl (fun c _ => if c % 2 = 1 then (c / 2) ^^^ 0x82F63B78 else c / 2) (crc ^^^ b)

/-- CRC-32C of a byte string. -/
def crc32c (b : Bytes) : Nat :=
  (b.foldl (fun c x => crc32cByte c x.toNat) 0xFFFFFFFF) ^^^ 0xFFFFFFFF

/-- A byte string with `n` bytes from an offset replaced by the little-endian form of a number. -/
def putLe (b : Bytes) (off n v : Nat) : Bytes := b.take off ++ toLe n v ++ b.drop (off + n)

/-- A byte string with the bytes at an offset replaced. -/
def putBytes (b : Bytes) (off : Nat) (x : Bytes) : Bytes := b.take off ++ x ++ b.drop (off + x.length)

/-- An element put before the first whose key is not less. -/
def insertKey {α : Type} (k : α → Nat) (x : α) : List α → List α
  | [] => [x]
  | y :: ys => if k y < k x then y :: insertKey k x ys else x :: y :: ys

/-- A list in ascending order of a key, equal keys in their order. -/
def sortKey {α : Type} (k : α → Nat) : List α → List α
  | [] => []
  | x :: xs => insertKey k x ((sortKey k xs))

/-- Day count from 2000-01-01 of a date. -/
def dayCount (y : Int) (m d : Nat) : Int :=
  let y' := if m ≤ 2 then y - 1 else y
  let era := y' / 400
  let yoe := (y' - era * 400).toNat
  let doy := (153 * (if 2 < m then m - 3 else m + 9) + 2) / 5 + d - 1
  let doe := yoe * 365 + yoe / 4 - yoe / 100 + doy
  era * 146097 + doe - 730425

/-- Days in a month; 29 for February in limits (Table 7-1). -/
def monthMax (m : Nat) : Nat := if m = 2 then 29 else if m = 4 ∨ m = 6 ∨ m = 9 ∨ m = 11 then 30 else 31

end Sys2Proof.Machine
end

