-- ==== Sys2Proof/Machine/Dlms.lean ====
section
/-! DEFINITION. The DLMS/COSEM subset that Check-in reads (R143, R148, R149): A-XDR lengths, general ciphering and signing,
data-notification and the push bodies. -/

namespace Sys2Proof.Machine

/-! ### A-XDR (R148) -/

/-- The octet at an offset. -/
def octetAt (b : Bytes) (i : Nat) : Option Nat := (b[i]?).map (·.toNat)

/-- R148: an A-XDR length and the offset after it: the one-octet form, 0x81 nn or 0x82 nnnn. -/
def axLen (b : Bytes) (i : Nat) : Option (Nat × Nat) :=
  match octetAt b i with
  | none => none
  | some n =>
    if n < 128 then some (n, i + 1)
    else if n = 0x81 then (octetAt b (i + 1)).map (fun v => (v, i + 2))
    else if n = 0x82 then (octetAt b (i + 2)).map (fun _ => (beAt b (i + 1) 2, i + 3))
    else none

/-- An octet string that ends inside: its octets and the offset after it. -/
def axOctets (b : Bytes) (i : Nat) : Option (Bytes × Nat) :=
  match axLen b i with
  | some (n, j) => if j + n ≤ b.length then some (slice b j n, j + n) else none
  | none => none

/-- `n` octet strings one after the other, and the offset after them. -/
def axStrings (b : Bytes) : Nat → Nat → Option (List Bytes × Nat)
  | 0, i => some ([], i)
  | n + 1, i => match axOctets b i with
    | none => none
    | some (x, j) => (axStrings b n j).map (fun r => (x :: r.1, r.2))

/-! ### Date-times (R149) -/

/-- A date-time of 12 octets: year, month, day, weekday, hour, minute, second, hundredths, deviation, clock status. A value no
calendar has is not specified. (PRESUMED, log 243) -/
def dateTimeOf (d : Bytes) : DateTime :=
  let dev := sgn 16 (beAt d 9 2)
  let secs := dayCount (beAt d 0 2) (beAt d 2 1) (beAt d 3 1) * 86400 + (beAt d 5 1 * 3600 + beAt d 6 1 * 60 + beAt d 7 1 : Nat)
  { specified := decide (beAt d 0 2 ≠ 0xFFFF ∧ 1 ≤ beAt d 2 1 ∧ beAt d 2 1 ≤ 12 ∧ 1 ≤ beAt d 3 1 ∧ beAt d 3 1 ≤ monthMax (beAt d 2 1) ∧
      beAt d 4 1 ≠ 0xFF ∧ beAt d 5 1 < 24 ∧ beAt d 6 1 < 60 ∧ beAt d 7 1 < 60 ∧ beAt d 8 1 < 100 ∧ beAt d 9 2 ≠ 0x8000 ∧ beAt d 11 1 ≠ 0xFF)
    utcSeconds := secs + dev * 60
    subZero := beAt d 7 1 == 0 && beAt d 8 1 == 0
    doubtful := bit (beAt d 11 1) 0 || bit (beAt d 11 1) 1 }

/-! ### The push bodies (Table 5-11) -/

/-- How far a plaintext has been read: at an offset; a shape not met; a length past the end. -/
inductive Walk (α : Type) where
  | at_ (v : α) (i : Nat)
  | shape
  | past

/-- A walk goes on where it stands. -/
def walkThen {α β : Type} (w : Walk α) (f : α → Nat → Walk β) : Walk β :=
  match w with
  | .at_ v i => f v i
  | .shape => .shape
  | .past => .past

/-- An element of a type: its tag, then `n` octets as a number. -/
def walkNum (b : Bytes) (tag n i : Nat) : Walk Nat :=
  match octetAt b i with
  | none => .past
  | some x => if x ≠ tag then .shape else if b.length < i + 1 + n then .past else .at_ (beAt b (i + 1) n) (i + 1 + n)

/-- The head of a structure (0x02) or an array (0x01): its count. -/
def walkCount (b : Bytes) (tag i : Nat) : Walk Nat :=
  match octetAt b i with
  | none => .past
  | some x =>
    if x ≠ tag then .shape
    else match axLen b (i + 1) with
      | some (n, j) => .at_ n j
      | none => .past

/-- An octet-string (0x09) that holds a date-time: past the end, or of another length than 12, it is none. -/
def walkDate (b : Bytes) (i : Nat) : Walk DateTime :=
  match octetAt b i with
  | none => .past
  | some x =>
    if x ≠ 0x09 then .shape
    else match axOctets b (i + 1) with
      | none => .past
      | some (d, j) => if d.length = 12 then .at_ (dateTimeOf d) j else .shape

/-- `k` elements of a type. -/
def walkNums (b : Bytes) (tag n : Nat) : Nat → Nat → Walk (List Nat)
  | 0, i => .at_ [] i
  | k + 1, i => walkThen (walkNum b tag n i) (fun v j => walkThen (walkNums b tag n k j) (fun vs l => .at_ (v :: vs) l))

/-- A count of the structure's elements. -/
def walkStruct (b : Bytes) (k i : Nat) : Walk Unit := walkThen (walkCount b 0x02 i) (fun n j => if n = k then .at_ () j else .shape)

/-- The body of an interval push. -/
def walkInterval (b : Bytes) (i : Nat) : Walk PushBody :=
  walkThen (walkStruct b 4 i) (fun _ i => walkThen (walkDate b i) (fun d i => walkThen (walkNum b 0x12 2 i) (fun m i =>
    walkThen (walkNum b 0x11 1 i) (fun st i => walkThen (walkCount b 0x01 i) (fun n i => walkThen (walkNums b 0x15 8 n i)
      (fun vs i => .at_ (.interval d m st vs) i))))))

/-- The body of a voltage push. -/
def walkVoltage (b : Bytes) (i : Nat) : Walk PushBody :=
  walkThen (walkStruct b 2 i) (fun _ i => walkThen (walkDate b i) (fun d i => walkThen (walkCount b 0x01 i) (fun n i =>
    walkThen (walkNums b 0x12 2 n i) (fun vs i => .at_ (.voltage d vs) i))))

/-- A body that ends where the plaintext does, else no push body; and whether every length ended inside.
(DEDUCED, log 244) -/
def bodyEnd (b : Bytes) (w : Walk PushBody) : Bool × PushBody :=
  match w with
  | .at_ v i => (true, if i = b.length then v else .other)
  | .shape => (true, .other)
  | .past => (false, .other)

/-- A plaintext as the push wPort it came to reads it: `kind` 1 interval push, 2 voltage push. -/
def plainOf (kind : Nat) (b : Bytes) : Plain :=
  let inv := if octetAt b 0 = some 0x0F then beAt b 1 4 else beAt b 2 1
  let date := if octetAt b 0 = some 0x0F then axOctets b 5 else none
  match date with
  | some (d, i) =>
    if d.length = 0 ∨ d.length = 12 then
      let r := if kind = 1 then bodyEnd b (walkInterval b i) else if kind = 2 then bodyEnd b (walkVoltage b i) else (true, .other)
      { isDataNotification := true, invokeId := inv, lengthsOk := r.1, body := r.2, raw := b }
    else { isDataNotification := false, invokeId := inv, lengthsOk := true, body := .other, raw := b }
  | none => { isDataNotification := false, invokeId := inv, lengthsOk := true, body := .other, raw := b }

/-! ### Ciphering and signing (R143, R148) -/

/-- The seven octet strings of general-signing with the limits of Table 5-10, and its content where they all end inside. -/
def signingOf (apdu : Bytes) : Signing × Option Bytes :=
  match axStrings apdu 7 1 with
  | some ([tr, orig, rcpt, date, other, content, sig], i) =>
    ({ lengthsOk := decide (1 ≤ tr.length ∧ tr.length ≤ 8 ∧ orig.length = 8 ∧ (rcpt.length = 0 ∨ rcpt.length = 8) ∧
         (date.length = 0 ∨ date.length = 12) ∧ other.length ≤ 64 ∧ i = apdu.length)
       originTitle := orig, recipientTitle := rcpt, sigLen := sig.length }, some content)
  | _ => ({ lengthsOk := false, originTitle := [], recipientTitle := [], sigLen := 0 }, none)

/-- The tag is one of general-glo-ciphering and general-ded-ciphering. -/
def cipherTag (t : Nat) : Bool := t == 0xDB || t == 0xDC

/-- R143: an APDU of the subset: ciphered under suite 1 or 2, or general-signing with such content, and one of the four services
inside. What a length in error or a tag that does not verify hides is not outside it. (DEDUCED, log 245) -/
def subsetOf (outer : Nat) (inner : Option Bytes) (control : Option Nat) (o : Opened) : Bool :=
  (cipherTag outer || (outer == 0xDF && (inner.map (fun b => cipherTag ((octetAt b 0).getD 0))).getD true)) &&
  (control.map (fun c => c % 16 == 1 || c % 16 == 2)).getD true &&
  (!o.tagOk || [some 0x0F, some 0xC4, some 0xC5, some 0xC7].contains (octetAt o.plain 0))

/-- R143, R148: a MAC payload as Check-in reads it, under the push wPorts in force. -/
def apduOf (wpInt wpVolt : Nat) (b : Bytes) (o : Opened) : Apdu :=
  let raw := b.drop 8
  let port := beAt b 4 2
  let outer := (octetAt raw 0).getD 0
  let sg := signingOf raw
  let inner := if outer = 0xDF then sg.2.getD [] else raw
  let tag := (octetAt inner 0).getD 0
  let title := if cipherTag tag then (axOctets inner 1).bind (fun r => if r.1.length = 8 then some r else none) else none
  let body := title.bind (fun r => axLen inner r.2)
  let at_ := (body.map (·.2)).getD 0
  let ok := body.any (fun r => decide (18 ≤ r.1) && r.2 + r.1 == inner.length)
  { wrapped := decide (8 ≤ b.length) && beAt b 0 2 == 1, dstPort := port, length := beAt b 6 2, after := b.length - 8
    outer := outer, tag := tag
    inSubset := subsetOf outer sg.2 (if ok then some (beAt inner at_ 1) else none) o
    signing := if outer = 0xDF then some sg.1 else none
    title := title.map (·.1), cipherOk := ok, control := beAt inner at_ 1, ic := beAt inner (at_ + 1) 4
    tagOk := o.tagOk, sigOk := o.sigOk, plain := plainOf (if port = wpInt then 1 else if port = wpVolt then 2 else 0) o.plain, raw := raw }

end Sys2Proof.Machine
end

