-- ==== Sys2Proof/Config.lean ====
section
/-! DEFINITION. What an implementation fixes and the spec leaves open: constants without a body, so that a proof holds
whatever they are. The functions of cited standards whose arithmetic the manual does not restate are here too. -/

namespace Sys2Proof.Config

/-- The free value of a given draw (the state's `free` counter names the draw). -/
opaque freeValue : Nat → BitVec 64

/-- SHA-256 (FIPS 180-4), cited by R183, R331 and R392. (DESIGN CHOICE, log 35) -/
opaque sha256 : Bytes → Bytes

/-- SHA-384 (FIPS 180-4), cited by R404 and R410. -/
opaque sha384 : Bytes → Bytes

/-- ECDSA P-384 verification with SHA-384 (FIPS 186-5, cited by R402): public key, message, signature. -/
opaque ecdsaVerify : Bytes → Bytes → Bytes → Bool

/-- LMS verification (RFC 8554 section 5.4, cited by R402): public key, message, signature. -/
opaque lmsVerify : Bytes → Bytes → Bytes → Bool

/-- What an image slot holds after an erase or program of it was cut off (R414 states none). -/
opaque norTorn : BitVec 64 → Bytes

/-- AES-256-GCM sealing: key, nonce, additional authenticated data, plain text (R338). -/
opaque gcmSeal : Bytes → Bytes → Bytes → Bytes → Bytes

/-- The part's own delay in ns between an uplink port's MII boundary and its balls (R320): sending or receiving, UPL_CFG.SPEED,
FEC in effect. -/
opaque uplinkDelay : Bool → Nat → Nat → Nat

/-- The error of a time-stamp by port and cycle, of which R320 bounds the size (within 2 ns). -/
opaque stampError : Nat → Nat → Nat

/-- The link key of a Strongroom Link from the nonces of the strongroom and of the gate, under the package's pairing secret
(R161: HKDF-SHA-256, RFC 5869). -/
opaque linkKey : Bytes → Bytes → Bytes

/-- A P-256 signature by the part's command-signing key over a byte string (R236). -/
opaque signCommand : Bytes → Bytes

/-- The PHY frame of a PSDU: mode code and PSDU to the octets on air (R75, R77; IEEE 802.15.4 SUN FSK). -/
opaque phyFrame : Nat → Bytes → Bytes

/-- The modulator's baseband sample of a transmission (rank, whose, descriptor) by its place after the first symbol: the SUN FSK
waveform of IEEE 802.15.4-2020 clause 19 (R65, R71). -/
opaque modulate : Nat → Nat → Nat → Nat → BitVec 16 × BitVec 16

/-- The PRP supervision frame of a pair with a MAC address (IEC 62439-3 clause 4.3, cited by R314).
(DESIGN CHOICE, log 169) -/
opaque supervision : Bytes → Bytes

/-- AES-CCM* protection of a MAC frame: key index, counter, level, header, payload (IEEE 802.15.4-2020).
(DEDUCED, log 79) -/
opaque secure : Nat → Nat → Nat → Bytes → Bytes → Bytes

/-- IEEE 754 binary64 on operands one of which is a NaN or an infinity, or whose result is one: operation 0 sum,
1 product, 2 quotient, 3 square root. (DESIGN CHOICE, log 137) -/
opaque f64Special : Nat → BitVec 64 → BitVec 64 → BitVec 64

/-- The correlation of two series of which one does not vary (R261 states none). -/
opaque noVariation : List (BitVec 64) → List (BitVec 64) → BitVec 64

/-- Cosine and sine of an angle in degrees, all 32.32 fixed point: the phase correction of R172. -/
opaque cosSin : Int → Int × Int

/-- A NAND busy time in FCLK that the device will signal: 0 a program, 1 a page read, 2 a block erase (R276). -/
opaque nandBusy : Nat → Nat

/-- The bank an address of a wing's DRAM lies in; its index within the bank group is the remainder by 4 (R449, R450). -/
opaque ddrBank : Nat → Nat

end Sys2Proof.Config
end

