-- ==== Sys2Proof/Machine/ObjMap.lean ====
section
/-! DEFINITION. The object dictionary's tables (R344 to R348 and the object tables of every chapter): each object's
number pattern, type, access, level, persistence, default and stated range. -/

namespace Sys2Proof.Machine

/-- The variable digits of an object number: a plain range of a field (shift, width, first, past-the-last), a wing
or Air/uplink port that the variant must have (R344), a counter of the Tally (R447), a capability entry (R351). -/
inductive ObjVar where
  | ltRange (shift width lo hi : Nat)
  | wing (shift : Nat)
  | port (shift : Nat)
  | tally
  | capEntry
  deriving DecidableEq, Repr

/-- Object types of Table 12-1. -/
inductive ObjType where
  | u8 | u16 | u32 | u64 | i64 | fx64 | f64 | time64 | octets | bits64
  deriving DecidableEq, Repr

/-- Accesses of R346. -/
inductive ObjAccess where
  | ro | rw | wo | exec
  deriving DecidableEq, Repr

/-- Levels of R347. -/
inductive ObjLevel where
  | operator | engineer | legal | factory
  deriving DecidableEq, Repr

/-- Persistence classes of R348. -/
inductive ObjPers where
  | none | kept | fused
  deriving DecidableEq, Repr

/-- One row of an object table: the digits fixed by `mask` equal `val`; `rng` holds the stated ranges (of the number,
signed for I64 and FX64, of the raw word for F64; of the length for OCTETS), empty where none is stated. -/
structure ObjDef where
  mask : Nat
  val  : Nat
  ty   : ObjType
  acc  : ObjAccess
  lev  : ObjLevel
  pers : ObjPers
  dflt : Nat
  rng  : List (Int × Int)
  vars : List ObjVar
  deriving DecidableEq, Repr

/-- Objects, part 0. -/
def objMap0 : List ObjDef := [
  ⟨0xFFFFFFFF, 0x01000100, .u8, .rw, .operator, .kept, 0, [(0, 2)], []⟩, -- 01.0001.00
  ⟨0xFFFFFFFF, 0x01000200, .u8, .ro, .operator, .none, 0, [], []⟩, -- 01.0002.00
  ⟨0xFFFFFFFF, 0x01000300, .u64, .ro, .operator, .none, 0, [], []⟩, -- 01.0003.00
  ⟨0xFFFFFFFF, 0x02000100, .u8, .rw, .engineer, .kept, 0, [(0, 2), (8, 10)], []⟩, -- 02.0001.00
  ⟨0xFFFFFFFF, 0x02000200, .u8, .rw, .engineer, .kept, 0x32, [(50, 50), (60, 60)], []⟩, -- 02.0002.00
  ⟨0xFFFFFFFF, 0x02000300, .fx64, .rw, .engineer, .kept, 0x66666666, [], []⟩, -- 02.0003.00
  ⟨0xFFFFFFFF, 0x02000400, .u64, .ro, .operator, .none, 0, [], []⟩, -- 02.0004.00
  ⟨0xFFFFFFFF, 0x02000500, .u8, .ro, .operator, .none, 0, [], []⟩, -- 02.0005.00
  ⟨0xFFFFFFFF, 0x02000600, .u64, .ro, .operator, .kept, 0, [], []⟩, -- 02.0006.00
  ⟨0xFFFFFF00, 0x02000700, .u64, .ro, .operator, .none, 0, [], [.ltRange 0 8 0 16]⟩, -- 02.0007.ch
  ⟨0xFFFFFFFF, 0x02001000, .octets, .rw, .engineer, .kept, 0, [(6, 6)], []⟩, -- 02.0010.00
  ⟨0xFFFFFFFF, 0x02020000, .octets, .exec, .operator, .none, 0, [], []⟩, -- 02.0200.00
  ⟨0xFFFFFFFF, 0x02020100, .u8, .exec, .operator, .none, 0, [], []⟩, -- 02.0201.00
  ⟨0xFFFF00FF, 0x02030000, .u8, .ro, .operator, .none, 0, [], [.ltRange 8 8 0 64]⟩, -- 02.03ss.00
  ⟨0xFFFF00FF, 0x02030001, .u8, .ro, .operator, .none, 0, [], [.ltRange 8 8 0 64]⟩, -- 02.03ss.01
  ⟨0xFFFF00FF, 0x02030002, .time64, .ro, .operator, .none, 0, [], [.ltRange 8 8 0 64]⟩, -- 02.03ss.02
  ⟨0xFFFF00FF, 0x02030003, .u64, .ro, .operator, .none, 0, [], [.ltRange 8 8 0 64]⟩, -- 02.03ss.03
  ⟨0xFFFF00FF, 0x02030004, .u64, .ro, .operator, .none, 0, [], [.ltRange 8 8 0 64]⟩, -- 02.03ss.04
  ⟨0xFFFF00FF, 0x02030005, .u8, .ro, .operator, .none, 0, [], [.ltRange 8 8 0 64]⟩, -- 02.03ss.05
  ⟨0xFFF00000, 0x02100000, .u64, .rw, .engineer, .none, 0, [], [.wing 16, .ltRange 8 8 0 256, .ltRange 0 8 0 4]⟩, -- 02.1wee.ss
  ⟨0xFFF00FFF, 0x03100000, .u8, .rw, .engineer, .kept, 0, [(0, 1)], [.wing 16, .ltRange 12 4 0 2]⟩, -- 03.1wp0.00
  ⟨0xFFF00F00, 0x03100100, .u8, .rw, .engineer, .kept, 0, [(0, 2), (4, 6), (8, 10), (12, 14)], [.wing 16, .ltRange 12 4 0 2, .ltRange 0 8 0 64]⟩, -- 03.1wp1.bb
  ⟨0xFFF00FFF, 0x03100200, .u8, .rw, .engineer, .kept, 0, [(0, 1)], [.wing 16, .ltRange 12 4 0 2]⟩, -- 03.1wp2.00
  ⟨0xFFF00FFF, 0x03100300, .u8, .rw, .engineer, .kept, 2, [(0, 15)], [.wing 16, .ltRange 12 4 0 2]⟩ -- 03.1wp3.00
]

/-- Objects, part 1. -/
def objMap1 : List ObjDef := [
  ⟨0xFFF00FFF, 0x03100400, .u16, .rw, .engineer, .kept, 0x14, [], [.wing 16, .ltRange 12 4 0 2]⟩, -- 03.1wp4.00
  ⟨0xFFF00FFF, 0x03100500, .u16, .rw, .engineer, .kept, 0x7FF, [(0, 2047)], [.wing 16, .ltRange 12 4 0 2]⟩, -- 03.1wp5.00
  ⟨0xFFF00FFF, 0x03100600, .u16, .rw, .engineer, .kept, 0x200, [], [.wing 16, .ltRange 12 4 0 2]⟩, -- 03.1wp6.00
  ⟨0xFFF00FFF, 0x03100700, .i64, .rw, .engineer, .kept, 0xFFFFFFFFFFFFFF9C, [(-128, 127)], [.wing 16, .ltRange 12 4 0 2]⟩, -- 03.1wp7.00
  ⟨0xFFF00FFF, 0x03100800, .u8, .rw, .engineer, .kept, 0, [(0, 3)], [.wing 16, .ltRange 12 4 0 2]⟩, -- 03.1wp8.00
  ⟨0xFFF00FFF, 0x03100900, .u16, .rw, .engineer, .kept, 0x8000, [], [.wing 16, .ltRange 12 4 0 2]⟩, -- 03.1wp9.00
  ⟨0xFFF00FFF, 0x03100A00, .u8, .rw, .engineer, .kept, 2, [], [.wing 16, .ltRange 12 4 0 2]⟩, -- 03.1wpA.00
  ⟨0xFFF00FFF, 0x03100B00, .bits64, .ro, .operator, .none, 0, [], [.wing 16, .ltRange 12 4 0 2]⟩, -- 03.1wpB.00
  ⟨0xFFF00F00, 0x03100C00, .u64, .ro, .operator, .none, 0, [], [.wing 16, .ltRange 12 4 0 2, .ltRange 0 8 0 18]⟩, -- 03.1wpC.kk
  ⟨0xFFFFFFFF, 0x04000100, .u16, .rw, .engineer, .kept, 0xFFFF, [], []⟩, -- 04.0001.00
  ⟨0xFFFFFFFF, 0x04000200, .u16, .rw, .engineer, .kept, 0xFFFE, [], []⟩, -- 04.0002.00
  ⟨0xFFFFFFFF, 0x04000300, .u64, .ro, .operator, .fused, 0, [], []⟩, -- 04.0003.00
  ⟨0xFFFFFFFF, 0x04001100, .u8, .rw, .engineer, .kept, 5, [(5, 7)], []⟩, -- 04.0011.00
  ⟨0xFFFFFFFF, 0x04001200, .u8, .rw, .engineer, .kept, 0, [(0, 1)], []⟩, -- 04.0012.00
  ⟨0xFFFFFF00, 0x04002000, .octets, .wo, .engineer, .kept, 0, [(16, 16)], [.ltRange 0 8 1 0xC0]⟩, -- 04.0020.kk
  ⟨0xFFFFFF00, 0x04002100, .u8, .rw, .engineer, .kept, 0, [(0, 3)], [.ltRange 0 8 1 0xC0]⟩, -- 04.0021.kk
  ⟨0xFFFFFFFF, 0x04002200, .octets, .wo, .engineer, .kept, 0, [(16, 16)], []⟩, -- 04.0022.00
  ⟨0xFFFFFF00, 0x04002300, .u16, .ro, .operator, .kept, 0, [], [.ltRange 0 8 1 0xC0]⟩, -- 04.0023.kk
  ⟨0xFFFFFF00, 0x04002400, .u32, .ro, .operator, .kept, 0, [], [.ltRange 0 8 0 64]⟩, -- 04.0024.ss
  ⟨0xFFFFFF00, 0x04002500, .u32, .ro, .operator, .kept, 0, [], [.ltRange 0 8 1 0xC0]⟩, -- 04.0025.kk
  ⟨0xFFFFFFF0, 0x04004000, .u8, .rw, .engineer, .kept, 3, [], [.ltRange 0 8 0 3]⟩, -- 04.0040.0x
  ⟨0xFFFFFFFF, 0x04004100, .i64, .rw, .engineer, .kept, 0xFFFFFFFFFFFFFFAB, [(-128, 0)], []⟩, -- 04.0041.00
  ⟨0xFFFFFFFF, 0x04004200, .u32, .rw, .engineer, .kept, 0xBB8, [(500, 20000)], []⟩, -- 04.0042.00
  ⟨0xFFFFFFFF, 0x04005000, .u32, .rw, .engineer, .kept, 0xC8, [(50, 100000)], []⟩ -- 04.0050.00
]

/-- Objects, part 2. -/
def objMap2 : List ObjDef := [
  ⟨0xFFFFFFFF, 0x04005100, .fx64, .rw, .engineer, .kept, 0x200000000, [(0, 429496729600)], []⟩, -- 04.0051.00
  ⟨0xFFFFFF00, 0x04006000, .u64, .rw, .engineer, .kept, 0, [], [.ltRange 0 8 0 4]⟩, -- 04.0060.pp
  ⟨0xFFFFFF00, 0x04006100, .u16, .rw, .engineer, .kept, 0xFFFE, [], [.ltRange 0 8 0 4]⟩, -- 04.0061.pp
  ⟨0xFFFFFFFF, 0x04006200, .u32, .rw, .engineer, .kept, 0x2710, [(100, 3600000)], []⟩, -- 04.0062.00
  ⟨0xFFFFFFFF, 0x04006300, .u32, .rw, .engineer, .kept, 0x3E8, [(100, 1000000)], []⟩, -- 04.0063.00
  ⟨0xFFFFFFFF, 0x04006400, .u32, .rw, .engineer, .kept, 0x7530, [], []⟩, -- 04.0064.00
  ⟨0xFFFFFFFF, 0x04006500, .u8, .ro, .operator, .none, 0xFF, [], []⟩, -- 04.0065.00
  ⟨0xFFFFFFFF, 0x04006600, .u8, .exec, .engineer, .none, 0, [], []⟩, -- 04.0066.00
  ⟨0xFFFFFFFF, 0x04007000, .u32, .rw, .engineer, .kept, 0, [(0, 0), (100, 60000)], []⟩, -- 04.0070.00
  ⟨0xFFFFFF00, 0x04007100, .bits64, .rw, .engineer, .kept, 0, [], [.port 0]⟩, -- 04.0071.pn
  ⟨0xFFFFFFFF, 0x04007200, .octets, .rw, .engineer, .kept, 0, [(0, 256)], []⟩, -- 04.0072.00
  ⟨0xFFFFFFFF, 0x04007300, .u8, .rw, .engineer, .kept, 1, [(0, 1)], []⟩, -- 04.0073.00
  ⟨0xFFFFFF00, 0x04008000, .bits64, .rw, .engineer, .kept, 0xFFFFFFFFFFFFFFFF, [], [.port 0]⟩, -- 04.0080.pn
  ⟨0xFFFFFFFF, 0x04009000, .u32, .rw, .engineer, .kept, 0x258, [(10, 86400)], []⟩, -- 04.0090.00
  ⟨0xFFFFFFFF, 0x04009100, .u8, .rw, .engineer, .kept, 0, [(0, 1)], []⟩, -- 04.0091.00
  ⟨0xFFFFFFFF, 0x04009200, .u32, .rw, .engineer, .kept, 0x7D0, [(0, 1000000)], []⟩, -- 04.0092.00
  ⟨0xFFFFFFFF, 0x04009300, .u16, .rw, .engineer, .kept, 1, [], []⟩, -- 04.0093.00
  ⟨0xFFFFFFFF, 0x04009400, .u8, .rw, .engineer, .kept, 1, [], []⟩, -- 04.0094.00
  ⟨0xFFFFFFFF, 0x04009500, .u8, .rw, .engineer, .kept, 0, [], []⟩, -- 04.0095.00
  ⟨0xFFFFFFFF, 0x04010000, .octets, .exec, .operator, .none, 0, [], []⟩, -- 04.0100.00
  ⟨0xFFFFFFFF, 0x04010100, .u32, .rw, .engineer, .kept, 0x3C, [(1, 86400)], []⟩, -- 04.0101.00
  ⟨0xFFFFFFFF, 0x04011000, .u64, .exec, .operator, .none, 0, [], []⟩, -- 04.0110.00
  ⟨0xFFFFFFFF, 0x04011100, .u64, .exec, .engineer, .none, 0, [], []⟩, -- 04.0111.00
  ⟨0xFFFFFFFF, 0x04011200, .u64, .exec, .engineer, .none, 0, [], []⟩ -- 04.0112.00
]

/-- Objects, part 3. -/
def objMap3 : List ObjDef := [
  ⟨0xFFFFFF00, 0x04012000, .u64, .ro, .operator, .none, 0, [], [.ltRange 0 8 0 23]⟩, -- 04.0120.kk
  ⟨0xFFFFFF00, 0x04012100, .u64, .ro, .operator, .none, 0, [], [.ltRange 0 8 0 11]⟩, -- 04.0121.kk
  ⟨0xFFFFFFFF, 0x05000100, .u8, .rw, .engineer, .kept, 1, [(0, 1)], []⟩, -- 05.0001.00
  ⟨0xFFFFFFFF, 0x05000200, .octets, .rw, .engineer, .kept, 0, [(8, 8)], []⟩, -- 05.0002.00
  ⟨0xFFFFFFFF, 0x05001000, .u32, .ro, .operator, .none, 0, [], []⟩, -- 05.0010.00
  ⟨0xFFFFFFF0, 0x05001100, .u32, .ro, .operator, .none, 0, [], [.wing 0]⟩, -- 05.0011.0w
  ⟨0xFFFFFFFF, 0x05001200, .u32, .ro, .operator, .none, 0, [], []⟩, -- 05.0012.00
  ⟨0xFFFFFFFF, 0x05002000, .u16, .rw, .engineer, .kept, 0x11, [], []⟩, -- 05.0020.00
  ⟨0xFFFFFFFF, 0x05002100, .u16, .rw, .engineer, .kept, 0x12, [], []⟩, -- 05.0021.00
  ⟨0xFFFFFFFF, 0x05002200, .u16, .rw, .engineer, .kept, 0xF, [(1, 1), (2, 2), (3, 3), (4, 4), (5, 5), (6, 6), (10, 10), (12, 12), (15, 15), (20, 20), (30, 30), (60, 60)], []⟩, -- 05.0022.00
  ⟨0xFFFFFFFF, 0x05002300, .u32, .rw, .engineer, .kept, 0x12C, [(0, 3600)], []⟩, -- 05.0023.00
  ⟨0xFFFFFFFF, 0x05002400, .u32, .rw, .engineer, .kept, 0x190, [(1, 500)], []⟩, -- 05.0024.00
  ⟨0xFFFFFFFF, 0x05002500, .u16, .rw, .engineer, .kept, 0xC350, [(1, 65535)], []⟩, -- 05.0025.00
  ⟨0xFFFFFFFF, 0x05002600, .u8, .rw, .engineer, .kept, 0x25, [], []⟩, -- 05.0026.00
  ⟨0xFFFFFFFF, 0x05002700, .u8, .rw, .engineer, .kept, 4, [(1, 16)], []⟩, -- 05.0027.00
  ⟨0xFFFFFFFF, 0x05004000, .u8, .rw, .engineer, .kept, 0xF, [(1, 60)], []⟩, -- 05.0040.00
  ⟨0xFFFFFFFF, 0x05006000, .u16, .rw, .engineer, .kept, 0x64, [(1, 10000)], []⟩, -- 05.0060.00
  ⟨0xFFFFFFFF, 0x05010000, .octets, .exec, .engineer, .none, 0, [], []⟩, -- 05.0100.00
  ⟨0xFFFFFFFF, 0x05010100, .octets, .exec, .engineer, .none, 0, [], []⟩, -- 05.0101.00
  ⟨0xFFFFFFFF, 0x05010200, .u32, .exec, .operator, .none, 0, [], []⟩, -- 05.0102.00
  ⟨0xFFFFFF00, 0x05020000, .u64, .ro, .operator, .none, 0, [], [.ltRange 0 8 0 35]⟩, -- 05.0200.kk
  ⟨0xFFFFFFF0, 0x05030000, .bits64, .ro, .operator, .none, 0, [], [.wing 0]⟩, -- 05.0300.0w
  ⟨0xFFFFFFFF, 0x06000100, .bits64, .ro, .operator, .none, 0, [], []⟩, -- 06.0001.00
  ⟨0xFFFFFFFF, 0x06000400, .u64, .ro, .operator, .kept, 0, [], []⟩ -- 06.0004.00
]

/-- Objects, part 4. -/
def objMap4 : List ObjDef := [
  ⟨0xFFFFFFFF, 0x06000500, .u64, .ro, .operator, .kept, 0, [], []⟩, -- 06.0005.00
  ⟨0xFFFFFF00, 0x06001000, .fx64, .rw, .legal, .kept, 0x100000000, [(3865470566, 4724464026)], [.ltRange 0 8 0 16]⟩, -- 06.0010.ch
  ⟨0xFFFFFF00, 0x06001100, .i64, .rw, .legal, .kept, 0, [], [.ltRange 0 8 0 16]⟩, -- 06.0011.ch
  ⟨0xFFFFFF00, 0x06001200, .fx64, .rw, .legal, .kept, 0, [(-21474836480, 21474836480)], [.ltRange 0 8 0 16]⟩, -- 06.0012.ch
  ⟨0xFFFFFF00, 0x06001300, .u8, .rw, .legal, .kept, 0, [(0, 1)], [.ltRange 0 8 0 16]⟩, -- 06.0013.ch
  ⟨0xFFFFFF00, 0x06001400, .u64, .rw, .engineer, .kept, 0xDB58580, [], [.ltRange 0 8 0 16]⟩, -- 06.0014.ch
  ⟨0xFFFFFFF0, 0x06001500, .fx64, .rw, .legal, .kept, 0x100000000, [(4294967296, 429496729600000)], [.ltRange 0 8 0 2]⟩, -- 06.0015.0f
  ⟨0xFFFFFFF0, 0x06001600, .fx64, .rw, .legal, .kept, 0x100000000, [(4294967296, 429496729600000)], [.ltRange 0 8 0 2]⟩, -- 06.0016.0f
  ⟨0xFFFFFFFF, 0x06001700, .u64, .ro, .operator, .kept, 0, [], []⟩, -- 06.0017.00
  ⟨0xFFFFFF00, 0x06002000, .u64, .ro, .operator, .none, 0, [], [.ltRange 0 8 0 16]⟩, -- 06.0020.ch
  ⟨0xFFFFFF00, 0x06002100, .i64, .ro, .operator, .none, 0, [], [.ltRange 0 8 0 6]⟩, -- 06.0021.pp
  ⟨0xFFFFFF00, 0x06002200, .i64, .ro, .operator, .none, 0, [], [.ltRange 0 8 0 6]⟩, -- 06.0022.pp
  ⟨0xFFFFFF00, 0x06002300, .u64, .ro, .operator, .none, 0, [], [.ltRange 0 8 0 6]⟩, -- 06.0023.pp
  ⟨0xFFFFFF00, 0x06002400, .fx64, .ro, .operator, .none, 0, [], [.ltRange 0 8 0 6]⟩, -- 06.0024.pp
  ⟨0xFFFFFFF0, 0x06002600, .u64, .ro, .operator, .none, 0, [], [.ltRange 0 8 0 2]⟩, -- 06.0026.0f
  ⟨0xFFFFFFF0, 0x06002700, .fx64, .ro, .operator, .none, 0, [], [.ltRange 0 8 0 2]⟩, -- 06.0027.0f
  ⟨0xFFFFFFF0, 0x06002800, .bits64, .ro, .operator, .none, 0, [], [.ltRange 0 8 0 2]⟩, -- 06.0028.0f
  ⟨0xFFFFFF00, 0x06003000, .u8, .rw, .legal, .kept, 0, [(0, 1)], [.ltRange 0 8 0 6]⟩, -- 06.0030.pp
  ⟨0xFFFFFFFF, 0x06003100, .fx64, .rw, .legal, .kept, 0x418937, [], []⟩, -- 06.0031.00
  ⟨0xFFFFFFFF, 0x06003200, .u16, .rw, .legal, .kept, 0x32, [(1, 3000)], []⟩, -- 06.0032.00
  ⟨0xFFFFFFFF, 0x06003300, .u64, .rw, .legal, .kept, 0x7A120, [], []⟩, -- 06.0033.00
  ⟨0xFFFFFFFF, 0x06003400, .fx64, .rw, .legal, .kept, 0xCCCCCCD, [], []⟩, -- 06.0034.00
  ⟨0xFFFFFFFF, 0x06003500, .fx64, .rw, .legal, .kept, 0x1999999A, [], []⟩, -- 06.0035.00
  ⟨0xFFFFFFFF, 0x06003600, .fx64, .rw, .legal, .kept, 0x1999999A, [], []⟩ -- 06.0036.00
]

/-- Objects, part 5. -/
def objMap5 : List ObjDef := [
  ⟨0xFFFFFF00, 0x06003700, .u16, .rw, .legal, .kept, 0x1400, [], [.ltRange 0 8 0 4]⟩, -- 06.0037.tt
  ⟨0xFFFFFF00, 0x06004000, .u8, .ro, .operator, .kept, 0, [], [.ltRange 0 8 0 14]⟩, -- 06.0040.kk
  ⟨0xFFFFFF00, 0x06004100, .u64, .ro, .operator, .kept, 0, [], [.ltRange 0 8 0 14]⟩, -- 06.0041.kk
  ⟨0xFFFFFF00, 0x06004200, .u64, .ro, .operator, .kept, 0, [], [.ltRange 0 8 0 14]⟩, -- 06.0042.kk
  ⟨0xFFFFFFFF, 0x06005000, .u64, .exec, .operator, .none, 0, [], []⟩, -- 06.0050.00
  ⟨0xFFFFFFFF, 0x06005100, .u64, .ro, .operator, .kept, 0, [], []⟩, -- 06.0051.00
  ⟨0xFFFFFFFF, 0x06005200, .u64, .exec, .operator, .kept, 0, [], []⟩, -- 06.0052.00
  ⟨0xFFFFFFFF, 0x06005300, .u64, .ro, .operator, .kept, 0, [], []⟩, -- 06.0053.00
  ⟨0xFFFFFFFF, 0x06006000, .u64, .ro, .operator, .kept, 0, [], []⟩, -- 06.0060.00
  ⟨0xFFFFFFFF, 0x06007000, .u64, .ro, .operator, .none, 0, [], []⟩, -- 06.0070.00
  ⟨0xFFFFFFFF, 0x06007001, .u64, .ro, .operator, .none, 0, [], []⟩, -- 06.0070.01
  ⟨0xFFFFFFFF, 0x07000100, .u16, .rw, .legal, .kept, 0x25, [(0, 3599)], []⟩, -- 07.0001.00
  ⟨0xFFFFFFFF, 0x07000200, .u8, .rw, .legal, .kept, 0xF, [(1, 1), (5, 5), (10, 10), (15, 15), (30, 30), (60, 60)], []⟩, -- 07.0002.00
  ⟨0xFFFFFFFF, 0x07000300, .u8, .rw, .legal, .kept, 1, [(1, 6), (10, 10), (12, 12), (15, 15)], []⟩, -- 07.0003.00
  ⟨0xFFFFFFFF, 0x07000400, .u16, .ro, .operator, .kept, 0x10F, [], []⟩, -- 07.0004.00
  ⟨0xFFFFFFFF, 0x07003100, .u8, .rw, .legal, .kept, 0x25, [], []⟩, -- 07.0031.00
  ⟨0xFFFFFFFF, 0x07003200, .u8, .rw, .legal, .kept, 0x25, [], []⟩, -- 07.0032.00
  ⟨0xFFFFFFFF, 0x07003300, .time64, .rw, .legal, .kept, 0, [], []⟩, -- 07.0033.00
  ⟨0xFFFFFFFF, 0x07004000, .octets, .wo, .legal, .kept, 0, [], []⟩, -- 07.0040.00
  ⟨0xFFFFFFFF, 0x07004100, .octets, .ro, .operator, .kept, 0, [], []⟩, -- 07.0041.00
  ⟨0xFFFFFFFF, 0x07004200, .octets, .ro, .operator, .kept, 0, [], []⟩, -- 07.0042.00
  ⟨0xFFFFFFFF, 0x07004300, .octets, .ro, .operator, .kept, 0, [], []⟩, -- 07.0043.00
  ⟨0xFFFFFFFF, 0x07004400, .u8, .exec, .legal, .none, 0, [], []⟩, -- 07.0044.00
  ⟨0xFFFFFFFF, 0x07005000, .u8, .ro, .operator, .kept, 1, [], []⟩ -- 07.0050.00
]

/-- Objects, part 6. -/
def objMap6 : List ObjDef := [
  ⟨0xFFFFFFFF, 0x07005100, .i64, .ro, .operator, .none, 0, [], []⟩, -- 07.0051.00
  ⟨0xFFFFFFFF, 0x07005200, .u8, .ro, .operator, .none, 0, [], []⟩, -- 07.0052.00
  ⟨0xFFFFFFFF, 0x07005300, .time64, .exec, .operator, .none, 0, [], []⟩, -- 07.0053.00
  ⟨0xFFFFFFFF, 0x07006000, .u8, .exec, .operator, .none, 0, [], []⟩, -- 07.0060.00
  ⟨0xFFFFFFFF, 0x07006100, .u64, .ro, .operator, .kept, 0, [], []⟩, -- 07.0061.00
  ⟨0xFFFFFFFF, 0x07006200, .u8, .exec, .legal, .none, 0, [], []⟩, -- 07.0062.00
  ⟨0xFFFFFFFF, 0x07006300, .u16, .rw, .legal, .kept, 0x100, [], []⟩, -- 07.0063.00
  ⟨0xFFFFFFFF, 0x07007000, .time64, .ro, .operator, .none, 0, [], []⟩, -- 07.0070.00
  ⟨0xFFFFFFFF, 0x07007100, .u8, .ro, .operator, .none, 0, [], []⟩, -- 07.0071.00
  ⟨0xFFFFFFFF, 0x07007200, .i64, .ro, .operator, .none, 0, [], []⟩, -- 07.0072.00
  ⟨0xFFFFFFFF, 0x07007300, .u16, .rw, .legal, .kept, 0xA, [(1, 300)], []⟩, -- 07.0073.00
  ⟨0xFFFFFFFF, 0x07007400, .u16, .rw, .legal, .kept, 0x3E8, [(10, 2000)], []⟩, -- 07.0074.00
  ⟨0xFFFFFFFF, 0x07007500, .u16, .rw, .legal, .kept, 0x3C, [(10, 3600)], []⟩, -- 07.0075.00
  ⟨0xFFFFFFFF, 0x07007600, .u32, .rw, .legal, .kept, 0x15180, [(60, 31622400)], []⟩, -- 07.0076.00
  ⟨0xFFFFFFFF, 0x07007700, .time64, .exec, .legal, .none, 0, [], []⟩, -- 07.0077.00
  ⟨0xFFFFFFFF, 0x07007800, .u64, .ro, .operator, .kept, 0, [], []⟩, -- 07.0078.00
  ⟨0xFFFFFFFF, 0x07007900, .time64, .ro, .operator, .kept, 0, [], []⟩, -- 07.0079.00
  ⟨0xFFFFFFFF, 0x07007A00, .u8, .ro, .operator, .kept, 0, [], []⟩, -- 07.007A.00
  ⟨0xFFFFFFFF, 0x07008000, .u64, .exec, .operator, .none, 0, [], []⟩, -- 07.0080.00
  ⟨0xFFFFFFFF, 0x07008100, .u64, .ro, .operator, .kept, 0, [], []⟩, -- 07.0081.00
  ⟨0xFFFFFFFF, 0x07008200, .u64, .ro, .operator, .kept, 0, [], []⟩, -- 07.0082.00
  ⟨0xFFFFFFF0, 0x07009000, .octets, .exec, .operator, .none, 0, [], [.ltRange 0 8 0 2]⟩, -- 07.0090.0f
  ⟨0xFFF000FF, 0x07100000, .u64, .ro, .operator, .kept, 0, [], [.ltRange 16 4 0 2, .ltRange 12 4 0 6, .ltRange 8 4 0 9]⟩, -- 07.1fqr.00
  ⟨0xFFF000FF, 0x07200000, .i64, .ro, .operator, .kept, 0, [], [.ltRange 16 4 0 2, .ltRange 12 4 0 2, .ltRange 8 4 0 9]⟩ -- 07.2fdr.00
]

/-- Objects, part 7. -/
def objMap7 : List ObjDef := [
  ⟨0xFFF000FF, 0x07200001, .time64, .ro, .operator, .kept, 0, [], [.ltRange 16 4 0 2, .ltRange 12 4 0 2, .ltRange 8 4 0 9]⟩, -- 07.2fdr.01
  ⟨0xFFF00FFF, 0x07300000, .i64, .ro, .operator, .kept, 0, [], [.ltRange 16 4 0 2, .ltRange 12 4 0 2]⟩, -- 07.3fd0.00
  ⟨0xFFF00FFF, 0x07300001, .time64, .ro, .operator, .kept, 0, [], [.ltRange 16 4 0 2, .ltRange 12 4 0 2]⟩, -- 07.3fd0.01
  ⟨0xFFF00FFF, 0x07300002, .bits64, .ro, .operator, .kept, 0, [], [.ltRange 16 4 0 2, .ltRange 12 4 0 2]⟩, -- 07.3fd0.02
  ⟨0xFFFFFFFF, 0x08000100, .u32, .ro, .operator, .kept, 0, [], []⟩, -- 08.0001.00
  ⟨0xFFFFFFFF, 0x08000400, .u32, .rw, .legal, .kept, 0xE10, [(60, 86400)], []⟩, -- 08.0004.00
  ⟨0xFFFFFFFF, 0x08000500, .u32, .rw, .engineer, .kept, 0x3C, [(10, 3600)], []⟩, -- 08.0005.00
  ⟨0xFFFFFF00, 0x08001000, .i64, .rw, .legal, .kept, 0, [(0, 1000000000000)], [.ltRange 0 8 0 16]⟩, -- 08.0010.pp
  ⟨0xFFFFFF00, 0x08001100, .i64, .rw, .legal, .kept, 0, [(0, 1000000000000)], [.ltRange 0 8 0 16]⟩, -- 08.0011.pp
  ⟨0xFFFFFF00, 0x08001200, .i64, .rw, .legal, .kept, 0xF4240, [(1, 1000000000000)], [.ltRange 0 8 0 16]⟩, -- 08.0012.pp
  ⟨0xFFFFFF00, 0x08001300, .u8, .rw, .legal, .kept, 0, [(0, 5)], [.ltRange 0 8 0 16]⟩, -- 08.0013.pp
  ⟨0xFFFFFF00, 0x08001400, .u8, .rw, .legal, .kept, 3, [(0, 3)], [.ltRange 0 8 0 16]⟩, -- 08.0014.pp
  ⟨0xFFFFFFFF, 0x08002000, .octets, .rw, .legal, .kept, 0, [], []⟩, -- 08.0020.00
  ⟨0xFFFFFFFF, 0x08003000, .octets, .rw, .legal, .kept, 0, [(64, 64)], []⟩, -- 08.0030.00
  ⟨0xFFFFFFFF, 0x08003100, .u16, .rw, .legal, .kept, 0x5A, [(1, 400)], []⟩, -- 08.0031.00
  ⟨0xFFFFFFFF, 0x08003300, .octets, .ro, .operator, .kept, 0, [], []⟩, -- 08.0033.00
  ⟨0xFFFFFFFF, 0x08003400, .u64, .ro, .operator, .kept, 1, [], []⟩, -- 08.0034.00
  ⟨0xFFFFFFFF, 0x08010000, .octets, .exec, .legal, .none, 0, [], []⟩, -- 08.0100.00
  ⟨0xFFFFFFFF, 0x08010100, .u32, .exec, .operator, .none, 0, [], []⟩, -- 08.0101.00
  ⟨0xFFFFFFFF, 0x08020000, .octets, .exec, .operator, .none, 0, [], []⟩, -- 08.0200.00
  ⟨0xFFFFFFFF, 0x08020100, .u32, .ro, .operator, .none, 0, [], []⟩, -- 08.0201.00
  ⟨0xFFFFFF00, 0x08030000, .u64, .ro, .operator, .kept, 0, [], [.ltRange 0 8 0 10]⟩, -- 08.0300.kk
  ⟨0xFFFFFFFF, 0x09000100, .u8, .rw, .engineer, .kept, 1, [(0, 1)], []⟩, -- 09.0001.00
  ⟨0xFFFFFFFF, 0x09000200, .u8, .ro, .operator, .none, 0xF, [], []⟩ -- 09.0002.00
]

/-- Objects, part 8. -/
def objMap8 : List ObjDef := [
  ⟨0xFFFFFFF0, 0x09001000, .u16, .ro, .operator, .none, 0, [], [.ltRange 0 8 0 2]⟩, -- 09.0010.0g
  ⟨0xFFFFFFF0, 0x09001100, .u8, .exec, .engineer, .none, 0, [], [.ltRange 0 8 0 2]⟩, -- 09.0011.0g
  ⟨0xFFFFFFF0, 0x09001200, .u64, .ro, .operator, .kept, 0, [], [.ltRange 0 8 0 2]⟩, -- 09.0012.0g
  ⟨0xFFFFFFFF, 0x09002000, .u32, .rw, .engineer, .kept, 0x5460, [(900, 82800)], []⟩, -- 09.0020.00
  ⟨0xFFFFFFFF, 0x09002100, .fx64, .rw, .engineer, .kept, 0x11999999A, [(4294967296, 8589934592)], []⟩, -- 09.0021.00
  ⟨0xFFFFFFFF, 0x09003000, .u32, .rw, .engineer, .kept, 0, [(0, 86340)], []⟩, -- 09.0030.00
  ⟨0xFFFFFFFF, 0x09003100, .u16, .rw, .engineer, .kept, 0x2D0, [(100, 1439)], []⟩, -- 09.0031.00
  ⟨0xFFFFFFFF, 0x09003200, .fx64, .rw, .engineer, .kept, 0x80000000, [(0, 4294967296)], []⟩, -- 09.0032.00
  ⟨0xFFFFFFFF, 0x09003300, .fx64, .rw, .engineer, .kept, 0x1999999A, [(0, 4294967296)], []⟩, -- 09.0033.00
  ⟨0xFFFFFFFF, 0x09003400, .u8, .rw, .engineer, .kept, 0, [(0, 1)], []⟩, -- 09.0034.00
  ⟨0xFFFFFFFF, 0x09004000, .fx64, .rw, .engineer, .kept, 0x51EB852, [(0, 4294967296)], []⟩, -- 09.0040.00
  ⟨0xFFFFFFFF, 0x09004100, .fx64, .rw, .engineer, .kept, 0xCCCCCCCD, [(0, 4294967296)], []⟩, -- 09.0041.00
  ⟨0xFFFFFFFF, 0x09005000, .u8, .rw, .engineer, .kept, 0x10, [(1, 16)], []⟩, -- 09.0050.00
  ⟨0xFFFFFFFF, 0x09005100, .f64, .rw, .engineer, .kept, 0x3FEFAE147AE147AE, [(4606281698874543309, 4607182418800017408)], []⟩, -- 09.0051.00
  ⟨0xFFFFFFFF, 0x09005200, .f64, .rw, .engineer, .kept, 0x3D719799812DEA11, [(4337655138388951980, 4517329193108106637)], []⟩, -- 09.0052.00
  ⟨0xFFFFFFFF, 0x09005300, .fx64, .rw, .engineer, .kept, 0x9999999A, [(0, 4294967296)], []⟩, -- 09.0053.00
  ⟨0xFFFFFFFF, 0x09005400, .f64, .rw, .engineer, .kept, 0x3FE0000000000000, [(0, 4621819117588971520), (9223372036854775808, 9223372036854775808)], []⟩, -- 09.0054.00
  ⟨0xFFFFFFFF, 0x09005401, .f64, .rw, .engineer, .kept, 0x4000000000000000, [(0, 4621819117588971520), (9223372036854775808, 9223372036854775808)], []⟩, -- 09.0054.01
  ⟨0xFFFFFFFF, 0x09005500, .u8, .rw, .engineer, .kept, 0x20, [(1, 96)], []⟩, -- 09.0055.00
  ⟨0xFFFFFFFF, 0x09010000, .octets, .exec, .engineer, .none, 0, [], []⟩, -- 09.0100.00
  ⟨0xFFFFFFFF, 0x09010100, .u32, .exec, .operator, .none, 0, [], []⟩, -- 09.0101.00
  ⟨0xFFFFFFFF, 0x09020000, .u64, .exec, .operator, .none, 0, [], []⟩, -- 09.0200.00
  ⟨0xFFFFFFFF, 0x09020100, .u64, .ro, .operator, .none, 0, [], []⟩, -- 09.0201.00
  ⟨0xFFFFFFFF, 0x09021000, .u16, .exec, .operator, .none, 0, [], []⟩ -- 09.0210.00
]

/-- Objects, part 9. -/
def objMap9 : List ObjDef := [
  ⟨0xFFF000FF, 0x09200000, .u16, .rw, .engineer, .kept, 0, [], []⟩, -- 09.2sss.00
  ⟨0xFFF000FF, 0x09300000, .u16, .rw, .engineer, .kept, 0, [], []⟩, -- 09.3sss.00
  ⟨0xFFF000FF, 0x09200001, .f64, .rw, .engineer, .kept, 0, [(0, 9218868437227405311), (9223372036854775808, 18442240474082181119)], []⟩, -- 09.2sss.01
  ⟨0xFFF000FF, 0x09200002, .f64, .rw, .engineer, .kept, 0, [(0, 9218868437227405311), (9223372036854775808, 18442240474082181119)], []⟩, -- 09.2sss.02
  ⟨0xFFF000FF, 0x09200003, .f64, .rw, .engineer, .kept, 0, [(0, 9218868437227405311), (9223372036854775808, 18442240474082181119)], []⟩, -- 09.2sss.03
  ⟨0xFFF000FF, 0x09300001, .f64, .rw, .engineer, .kept, 0, [(0, 9218868437227405311), (9223372036854775808, 18442240474082181119)], []⟩, -- 09.3sss.01
  ⟨0xFFF000FF, 0x09300002, .f64, .rw, .engineer, .kept, 0, [(0, 9218868437227405311), (9223372036854775808, 18442240474082181119)], []⟩, -- 09.3sss.02
  ⟨0xFFF000FF, 0x09300003, .f64, .rw, .engineer, .kept, 0, [(0, 9218868437227405311), (9223372036854775808, 18442240474082181119)], []⟩, -- 09.3sss.03
  ⟨0xFFF000FF, 0x09200004, .u8, .rw, .engineer, .kept, 0, [(0, 1)], []⟩, -- 09.2sss.04
  ⟨0xFFF000FF, 0x09300004, .u8, .rw, .engineer, .kept, 0, [(0, 1)], []⟩, -- 09.3sss.04
  ⟨0xFFFFFF00, 0x09030000, .u64, .ro, .operator, .none, 0, [], [.ltRange 0 8 0 16]⟩, -- 09.0300.kk
  ⟨0xFFFFFFF0, 0x09030100, .bits64, .ro, .operator, .none, 0, [], [.wing 0]⟩, -- 09.0301.0w
  ⟨0xFFFFFFFF, 0x0A000100, .u8, .rw, .engineer, .kept, 1, [(0, 1)], []⟩, -- 0A.0001.00
  ⟨0xFFFFFFF0, 0x0A000200, .u8, .ro, .operator, .none, 0, [], [.wing 0]⟩, -- 0A.0002.0w
  ⟨0xFFFFFFFF, 0x0A000300, .u8, .exec, .engineer, .none, 0, [], []⟩, -- 0A.0003.00
  ⟨0xFFFFFFFF, 0x0A000400, .u8, .exec, .engineer, .none, 0, [], []⟩, -- 0A.0004.00
  ⟨0xFFFFFFFF, 0x0A001000, .u16, .rw, .engineer, .kept, 0x190, [(30, 600)], []⟩, -- 0A.0010.00
  ⟨0xFFFFFFFF, 0x0A001100, .u32, .rw, .engineer, .kept, 0x1C20, [(600, 86400)], []⟩, -- 0A.0011.00
  ⟨0xFFFFFFFF, 0x0A001200, .u8, .rw, .engineer, .kept, 2, [(1, 20)], []⟩, -- 0A.0012.00
  ⟨0xFFFFFFFF, 0x0A002000, .u32, .rw, .engineer, .kept, 0x3D090, [(1000, 1000000)], []⟩, -- 0A.0020.00
  ⟨0xFFFFFFFF, 0x0A002100, .u8, .rw, .engineer, .kept, 1, [(0, 1)], []⟩, -- 0A.0021.00
  ⟨0xFFFFFFFF, 0x0A002200, .u8, .rw, .engineer, .kept, 0xDA, [], []⟩, -- 0A.0022.00
  ⟨0xFFFFFFFF, 0x0A003000, .u8, .rw, .engineer, .kept, 0xF, [(1, 60)], []⟩, -- 0A.0030.00
  ⟨0xFFFFFFFF, 0x0A003100, .u32, .ro, .operator, .none, 0, [], []⟩ -- 0A.0031.00
]

/-- Objects, part 10. -/
def objMap10 : List ObjDef := [
  ⟨0xFFFFFFFF, 0x0A003500, .u16, .rw, .engineer, .kept, 0xC8, [(50, 1000)], []⟩, -- 0A.0035.00
  ⟨0xFFFFFFFF, 0x0A003600, .u16, .rw, .engineer, .kept, 0x3C, [(1, 3600)], []⟩, -- 0A.0036.00
  ⟨0xFFFFFFFF, 0x0A004000, .fx64, .rw, .engineer, .kept, 0x11999999A, [(2147483648, 6442450944)], []⟩, -- 0A.0040.00
  ⟨0xFFFFFFFF, 0x0A004100, .i64, .rw, .engineer, .kept, 0xF, [(0, 40)], []⟩, -- 0A.0041.00
  ⟨0xFFFFFFFF, 0x0A004200, .u32, .rw, .engineer, .kept, 0x96, [(10, 10000)], []⟩, -- 0A.0042.00
  ⟨0xFFFFFFFF, 0x0A004300, .u8, .rw, .engineer, .kept, 0x5A, [(1, 120)], []⟩, -- 0A.0043.00
  ⟨0xFFFFFF00, 0x0A004400, .u64, .rw, .engineer, .kept, 0, [], [.ltRange 0 8 0 8]⟩, -- 0A.0044.jj
  ⟨0xFFFFFF00, 0x0A004500, .u64, .rw, .engineer, .kept, 0, [], [.ltRange 0 8 0 16]⟩, -- 0A.0045.rr
  ⟨0xFFFFFFF0, 0x0A005000, .u32, .ro, .operator, .none, 0, [], [.wing 0]⟩, -- 0A.0050.0w
  ⟨0xFFFFFFF0, 0x0A005100, .u32, .ro, .operator, .none, 0, [], [.wing 0]⟩, -- 0A.0051.0w
  ⟨0xFFFFFFF0, 0x0A005200, .u32, .ro, .operator, .none, 0, [], [.wing 0]⟩, -- 0A.0052.0w
  ⟨0xFFFFFFF0, 0x0A005300, .u64, .ro, .operator, .none, 0, [], [.wing 0]⟩, -- 0A.0053.0w
  ⟨0xFFFFFFFF, 0x0A006000, .u64, .ro, .operator, .none, 0, [], []⟩, -- 0A.0060.00
  ⟨0xFFFFFFFF, 0x0A006100, .u64, .ro, .operator, .none, 0, [], []⟩, -- 0A.0061.00
  ⟨0xFFFFFFFF, 0x0A006200, .u64, .ro, .operator, .none, 0, [], []⟩, -- 0A.0062.00
  ⟨0xFFFFFFFF, 0x0A010000, .octets, .exec, .operator, .none, 0, [], []⟩, -- 0A.0100.00
  ⟨0xFFFFFF00, 0x0A020000, .u64, .ro, .operator, .none, 0, [], [.ltRange 0 8 0 22]⟩, -- 0A.0200.kk
  ⟨0xFFFFFFF0, 0x0A030000, .bits64, .ro, .operator, .none, 0, [], [.wing 0]⟩, -- 0A.0300.0w
  ⟨0xFFFF00FF, 0x0B100000, .u8, .rw, .engineer, .kept, 0, [(0, 1)], [.port 8]⟩, -- 0B.10pn.00
  ⟨0xFFFF00FF, 0x0B100001, .u8, .rw, .engineer, .kept, 0, [(0, 1)], [.port 8]⟩, -- 0B.10pn.01
  ⟨0xFFFF00FF, 0x0B100002, .u8, .rw, .engineer, .kept, 0, [(0, 3)], [.port 8]⟩, -- 0B.10pn.02
  ⟨0xFFFF00FF, 0x0B100003, .i64, .rw, .engineer, .kept, 0, [(0, 100000)], [.port 8]⟩, -- 0B.10pn.03
  ⟨0xFFFF00FF, 0x0B100004, .i64, .rw, .engineer, .kept, 0, [(0, 100000)], [.port 8]⟩, -- 0B.10pn.04
  ⟨0xFFFF00FF, 0x0B100005, .u8, .rw, .engineer, .kept, 1, [(0, 1)], [.port 8]⟩ -- 0B.10pn.05
]

/-- Objects, part 11. -/
def objMap11 : List ObjDef := [
  ⟨0xFFFF00FF, 0x0B100006, .bits64, .ro, .operator, .none, 0, [], [.port 8]⟩, -- 0B.10pn.06
  ⟨0xFFFF0000, 0x0B110000, .u64, .ro, .operator, .none, 0, [], [.port 8, .ltRange 0 8 0 16]⟩, -- 0B.11pn.kk
  ⟨0xFFFF0FFF, 0x0B200000, .u8, .rw, .engineer, .kept, 1, [(0, 1)], [.wing 12]⟩, -- 0B.20w0.00
  ⟨0xFFFF0FFF, 0x0B200001, .octets, .ro, .operator, .fused, 0, [], [.wing 12]⟩, -- 0B.20w0.01
  ⟨0xFFFF0FFF, 0x0B200002, .octets, .rw, .engineer, .kept, 0, [(16, 16)], [.wing 12]⟩, -- 0B.20w0.02
  ⟨0xFFFF0FFF, 0x0B200003, .u8, .rw, .engineer, .kept, 0x40, [(0, 128)], [.wing 12]⟩, -- 0B.20w0.03
  ⟨0xFFFF0FFF, 0x0B200004, .octets, .rw, .engineer, .kept, 0, [(16, 16)], [.wing 12]⟩, -- 0B.20w0.04
  ⟨0xFFFF0FFF, 0x0B200005, .u32, .rw, .engineer, .kept, 0x1388, [(100, 60000)], [.wing 12]⟩, -- 0B.20w0.05
  ⟨0xFFFF0FFF, 0x0B200006, .u32, .rw, .engineer, .kept, 0x7D0, [(100, 10000)], [.wing 12]⟩, -- 0B.20w0.06
  ⟨0xFFFF0FFF, 0x0B200007, .u32, .rw, .engineer, .kept, 0xEA60, [(1000, 600000)], [.wing 12]⟩, -- 0B.20w0.07
  ⟨0xFFFFFFF0, 0x0B011000, .u8, .rw, .engineer, .kept, 0, [], [.ltRange 0 8 0 2]⟩, -- 0B.0110.0d
  ⟨0xFFFFFFF0, 0x0B011100, .u8, .ro, .operator, .none, 0, [], [.ltRange 0 8 0 2]⟩, -- 0B.0111.0d
  ⟨0xFFFFFFF0, 0x0B011200, .u64, .ro, .operator, .none, 0, [], [.ltRange 0 8 0 2]⟩, -- 0B.0112.0d
  ⟨0xFFFFFFF0, 0x0B011300, .i64, .ro, .operator, .none, 0, [], [.ltRange 0 8 0 2]⟩, -- 0B.0113.0d
  ⟨0xFFFFFFFF, 0x0B012000, .u8, .rw, .engineer, .kept, 0, [(0, 1)], []⟩, -- 0B.0120.00
  ⟨0xFFFFFFFF, 0x0B012100, .u8, .ro, .operator, .none, 0, [], []⟩, -- 0B.0121.00
  ⟨0xFFFFFFFF, 0x0B012200, .time64, .ro, .operator, .none, 0, [], []⟩, -- 0B.0122.00
  ⟨0xFFFFFFFF, 0x0B012300, .u64, .ro, .operator, .none, 0xFFFFFFFFFFFFFFFF, [], []⟩, -- 0B.0123.00
  ⟨0xFFFFFFFF, 0x0B012400, .fx64, .rw, .engineer, .kept, 0xB3333333, [(0, 17179869184)], []⟩, -- 0B.0124.00
  ⟨0xFFFFFFFF, 0x0B012401, .fx64, .rw, .engineer, .kept, 0x4CCCCCCD, [(0, 17179869184)], []⟩, -- 0B.0124.01
  ⟨0xFFFFFFFF, 0x0B012500, .u32, .rw, .engineer, .kept, 0xFA, [(10, 1000000)], []⟩, -- 0B.0125.00
  ⟨0xFFFFFFFF, 0x0B012501, .u32, .rw, .engineer, .kept, 0x3E8, [(10, 1000000)], []⟩, -- 0B.0125.01
  ⟨0xFFFFFFFF, 0x0B012600, .u32, .rw, .engineer, .kept, 0x2710, [(1000, 1000000000)], []⟩, -- 0B.0126.00
  ⟨0xFFFFFFFF, 0x0B012700, .u32, .rw, .engineer, .kept, 0x3E8, [(0, 1000000)], []⟩ -- 0B.0127.00
]

/-- Objects, part 12. -/
def objMap12 : List ObjDef := [
  ⟨0xFFFFFFFF, 0x0B012800, .u32, .rw, .engineer, .kept, 0x3E8, [(1, 100000)], []⟩, -- 0B.0128.00
  ⟨0xFFFFFFFF, 0x0B012900, .u32, .rw, .engineer, .kept, 0xE10, [(1, 86400)], []⟩, -- 0B.0129.00
  ⟨0xFFFFFFFF, 0x0B012A00, .u32, .rw, .engineer, .kept, 0x3C, [(1, 3600)], []⟩, -- 0B.012A.00
  ⟨0xFFFFFFFF, 0x0B012B00, .u32, .rw, .engineer, .kept, 0x2710, [(100, 100000)], []⟩, -- 0B.012B.00
  ⟨0xFFFFFFFF, 0x0B030000, .octets, .exec, .operator, .none, 0, [], []⟩, -- 0B.0300.00
  ⟨0xFFFFFFFF, 0x0B030100, .u64, .exec, .operator, .none, 0, [], []⟩, -- 0B.0301.00
  ⟨0xFFFFFFFF, 0x0B030200, .u64, .exec, .operator, .none, 0, [], []⟩, -- 0B.0302.00
  ⟨0xFFFFFFFF, 0x0B030300, .u16, .ro, .operator, .none, 0, [], []⟩, -- 0B.0303.00
  ⟨0xFFFFFFFF, 0x0B030400, .octets, .rw, .legal, .kept, 0, [(64, 64)], []⟩, -- 0B.0304.00
  ⟨0xFFFFFFFF, 0x0B030500, .octets, .rw, .engineer, .kept, 0, [(64, 64)], []⟩, -- 0B.0305.00
  ⟨0xFFFFFFFF, 0x0B030600, .u64, .rw, .engineer, .kept, 0, [], []⟩, -- 0B.0306.00
  ⟨0xFFFFFFFF, 0x0B031000, .u64, .exec, .operator, .none, 0, [], []⟩, -- 0B.0310.00
  ⟨0xFFFFFFFF, 0x0B040000, .u16, .rw, .engineer, .kept, 0, [(0, 511)], []⟩, -- 0B.0400.00
  ⟨0xFFFFFFFF, 0x0B040100, .octets, .wo, .engineer, .kept, 0, [(32, 32)], []⟩, -- 0B.0401.00
  ⟨0xFFFFFFFF, 0x0B040200, .u64, .ro, .operator, .kept, 1, [], []⟩, -- 0B.0402.00
  ⟨0xFFFFFFFF, 0x0B040300, .u16, .exec, .operator, .none, 0, [], []⟩, -- 0B.0403.00
  ⟨0xFFFFFF00, 0x0B050000, .u64, .ro, .operator, .none, 0, [], [.ltRange 0 8 0 8]⟩, -- 0B.0500.kk
  ⟨0xFFFFFFFF, 0x00000100, .u16, .ro, .operator, .fused, 0, [], []⟩, -- 00.0001.00
  ⟨0xFFFFFFFF, 0x00000200, .u16, .ro, .operator, .fused, 0, [], []⟩, -- 00.0002.00
  ⟨0xFFFFFFFF, 0x00000300, .octets, .ro, .operator, .fused, 0, [], []⟩, -- 00.0003.00
  ⟨0xFFFFFFFF, 0x00000400, .u32, .ro, .operator, .fused, 0, [], []⟩, -- 00.0004.00
  ⟨0xFFFFFFFF, 0x00000500, .u32, .ro, .operator, .fused, 0, [], []⟩, -- 00.0005.00
  ⟨0xFFFF0000, 0x00000000, .u64, .ro, .operator, .fused, 0, [], [.capEntry]⟩, -- 00.00ii.ss
  ⟨0xFFFFFF00, 0x0D020000, .octets, .rw, .engineer, .kept, 0, [(0, 2048)], [.ltRange 0 8 0 16]⟩ -- 0D.0200.aa
]

/-- Objects, part 13. -/
def objMap13 : List ObjDef := [
  ⟨0xFFFFFF00, 0x0D020100, .u8, .rw, .engineer, .kept, 0, [(0, 1)], [.ltRange 0 8 0 16]⟩, -- 0D.0201.aa
  ⟨0xFFFFFFFF, 0x0D020200, .u32, .rw, .engineer, .kept, 0x12C, [(30, 86400)], []⟩, -- 0D.0202.00
  ⟨0xFFFFFFFF, 0x0D020300, .u8, .ro, .operator, .none, 0, [], []⟩, -- 0D.0203.00
  ⟨0xFFFFFFFF, 0x0D021000, .octets, .ro, .operator, .fused, 0, [], []⟩, -- 0D.0210.00
  ⟨0xFFFFFFFF, 0x0D022000, .octets, .rw, .engineer, .kept, 0, [(16, 16)], []⟩, -- 0D.0220.00
  ⟨0xFFFFFFFF, 0x0D022100, .u8, .rw, .engineer, .kept, 0x40, [(0, 128)], []⟩, -- 0D.0221.00
  ⟨0xFFFFFFFF, 0x0C000100, .u8, .ro, .operator, .none, 0, [], []⟩, -- 0C.0001.00
  ⟨0xFFFFFFFF, 0x0C000200, .u8, .ro, .operator, .none, 1, [], []⟩, -- 0C.0002.00
  ⟨0xFFFFFFFF, 0x0C000300, .u64, .ro, .operator, .kept, 0, [], []⟩, -- 0C.0003.00
  ⟨0xFFFFFFFF, 0x0C001000, .u8, .rw, .engineer, .kept, 5, [(1, 100)], []⟩, -- 0C.0010.00
  ⟨0xFFFFFFFF, 0x0C001100, .u16, .rw, .engineer, .kept, 0x64, [(10, 10000)], []⟩, -- 0C.0011.00
  ⟨0xFFFFFFFF, 0x0C001200, .u16, .rw, .engineer, .kept, 0xC8, [(0, 1000)], []⟩, -- 0C.0012.00
  ⟨0xFFFFFFFF, 0x0C003000, .u32, .rw, .engineer, .kept, 0, [(0, 10000000)], []⟩, -- 0C.0030.00
  ⟨0xFFFFFFFF, 0x0C003100, .fx64, .rw, .engineer, .kept, 0x100000000, [(4294967296, 429496729600)], []⟩, -- 0C.0031.00
  ⟨0xFFFFFFFF, 0x0C003200, .u32, .rw, .engineer, .kept, 0, [(0, 60000)], []⟩, -- 0C.0032.00
  ⟨0xFFFFFFFF, 0x0C003300, .fx64, .rw, .engineer, .kept, 0xCCCCCCCD, [(429496730, 4294967296)], []⟩, -- 0C.0033.00
  ⟨0xFFFFFFFF, 0x0C003400, .u32, .rw, .engineer, .kept, 0x1ADB0, [], []⟩, -- 0C.0034.00
  ⟨0xFFFFFFFF, 0x0C003500, .u32, .rw, .engineer, .kept, 0x55F0, [], []⟩, -- 0C.0035.00
  ⟨0xFFFFFFFF, 0x0C003600, .u64, .ro, .operator, .none, 0, [], []⟩, -- 0C.0036.00
  ⟨0xFFFFFFFF, 0x0C003700, .u64, .ro, .operator, .none, 0, [], []⟩, -- 0C.0037.00
  ⟨0xFFFFFFFF, 0x0C004000, .u32, .rw, .engineer, .kept, 5, [(1, 10000)], []⟩, -- 0C.0040.00
  ⟨0xFFFFFFFF, 0x0C004100, .u32, .rw, .engineer, .kept, 5, [(1, 10000)], []⟩, -- 0C.0041.00
  ⟨0xFFFFFFFF, 0x0C005000, .u64, .ro, .operator, .kept, 0, [], []⟩, -- 0C.0050.00
  ⟨0xFFFFFFFF, 0x0C010000, .u8, .exec, .engineer, .none, 0, [], []⟩ -- 0C.0100.00
]

/-- Objects, part 14. -/
def objMap14 : List ObjDef := [
  ⟨0xFFFFFFFF, 0x0C010100, .u8, .exec, .engineer, .none, 0, [], []⟩, -- 0C.0101.00
  ⟨0xFFFF00FF, 0x0C020000, .u64, .rw, .engineer, .kept, 0, [], [.ltRange 8 8 0 16]⟩, -- 0C.02ww.00
  ⟨0xFFFFFFFF, 0x0C021000, .u32, .ro, .operator, .none, 0, [], []⟩, -- 0C.0210.00
  ⟨0xFFFFFFFF, 0x0C021100, .u8, .ro, .operator, .none, 2, [], []⟩, -- 0C.0211.00
  ⟨0xFFFFFFFF, 0x0D010000, .octets, .exec, .engineer, .none, 0, [], []⟩, -- 0D.0100.00
  ⟨0xFFFFFFFF, 0x0D010100, .octets, .exec, .engineer, .none, 0, [], []⟩, -- 0D.0101.00
  ⟨0xFFFFFFFF, 0x0D010300, .u8, .exec, .engineer, .none, 0, [], []⟩, -- 0D.0103.00
  ⟨0xFFFFFFFF, 0x0D010400, .u64, .ro, .operator, .kept, 0, [], []⟩, -- 0D.0104.00
  ⟨0xFFFFFFFF, 0x0D010500, .octets, .ro, .operator, .kept, 0, [], []⟩, -- 0D.0105.00
  ⟨0xFFFFFFFF, 0x0D010600, .octets, .ro, .operator, .kept, 0, [], []⟩, -- 0D.0106.00
  ⟨0xFFFFFFFF, 0x0D011000, .u8, .exec, .engineer, .none, 0, [], []⟩, -- 0D.0110.00
  ⟨0xFFFFFFFF, 0x0D011100, .octets, .ro, .operator, .none, 0, [], []⟩, -- 0D.0111.00
  ⟨0xFFFFFFFF, 0x0D012000, .u8, .exec, .engineer, .none, 0, [], []⟩, -- 0D.0120.00
  ⟨0xFFFFFFFF, 0x0D012100, .u8, .exec, .engineer, .none, 0, [], []⟩, -- 0D.0121.00
  ⟨0xFFFFFFF0, 0x0D012200, .octets, .ro, .operator, .none, 0, [], [.ltRange 0 8 0 2]⟩, -- 0D.0122.0s
  ⟨0xFFFFFFFF, 0x0D012300, .u64, .ro, .operator, .kept, 0x100000101, [], []⟩, -- 0D.0123.00
  ⟨0xFFFFFFFF, 0x0D012400, .u64, .ro, .operator, .none, 0, [], []⟩, -- 0D.0124.00
  ⟨0xFFFFFFFF, 0x0D012500, .u32, .ro, .operator, .none, 0, [], []⟩, -- 0D.0125.00
  ⟨0xFFFFFFFF, 0x0D013000, .u8, .exec, .engineer, .none, 0, [], []⟩, -- 0D.0130.00
  ⟨0xFFFFFFFF, 0x0D013100, .u32, .rw, .engineer, .kept, 0x384, [(60, 86400)], []⟩, -- 0D.0131.00
  ⟨0xFFFFFFFF, 0x0D013200, .u32, .ro, .operator, .none, 0, [], []⟩, -- 0D.0132.00
  ⟨0xFFFFFFFF, 0x0D014000, .u8, .exec, .engineer, .none, 0, [], []⟩, -- 0D.0140.00
  ⟨0xFFFFFFFF, 0x0D015000, .u64, .ro, .operator, .kept, 0, [], []⟩, -- 0D.0150.00
  ⟨0xFFFFFFFF, 0x0D015100, .u8, .ro, .operator, .none, 0, [], []⟩ -- 0D.0151.00
]

/-- Objects, part 15. -/
def objMap15 : List ObjDef := [
  ⟨0xFFFFFFFF, 0x0D015200, .u8, .ro, .operator, .kept, 0, [], []⟩, -- 0D.0152.00
  ⟨0xFFFFFF00, 0x0D016000, .octets, .ro, .operator, .fused, 0, [], [.ltRange 0 8 0 8]⟩, -- 0D.0160.kk
  ⟨0xFFFFFFFF, 0x0D017000, .u64, .ro, .operator, .none, 0, [], []⟩, -- 0D.0170.00
  ⟨0xFFFFFFFF, 0x0E000100, .u16, .rw, .engineer, .kept, 0x400, [(64, 4096)], []⟩, -- 0E.0001.00
  ⟨0xFFFFFFFF, 0x0E000200, .u8, .exec, .operator, .none, 0, [], []⟩, -- 0E.0002.00
  ⟨0xFFFFFFFF, 0x0E001000, .u64, .exec, .operator, .none, 0, [], []⟩, -- 0E.0010.00
  ⟨0xFFFFF0FF, 0x0E004000, .u32, .ro, .operator, .kept, 0, [], [.ltRange 8 4 0 9]⟩, -- 0E.004x.00
  ⟨0xFFFFF0FF, 0x0E005000, .u32, .ro, .operator, .kept, 0, [], [.ltRange 8 4 0 9]⟩, -- 0E.005x.00
  ⟨0xFFFFFFFF, 0x0E003000, .u64, .ro, .operator, .none, 0, [], []⟩, -- 0E.0030.00
  ⟨0xFFFFFFFF, 0x0F000100, .time64, .exec, .operator, .none, 0, [], []⟩, -- 0F.0001.00
  ⟨0xFFFFFFF0, 0x0F000200, .u32, .ro, .operator, .none, 0, [], [.wing 0]⟩, -- 0F.0002.0w
  ⟨0xFFFFFFFF, 0x0F000300, .time64, .ro, .operator, .none, 0, [], []⟩, -- 0F.0003.00
  ⟨0xFF0000FF, 0x0F000000, .u64, .ro, .operator, .none, 0, [], [.tally]⟩, -- 0F.iiii.00
  ⟨0xFF0000FF, 0x0F000001, .u64, .ro, .operator, .none, 0, [], [.tally]⟩ -- 0F.iiii.01
]

/-- The object tables of every chapter. -/
def objMap : List ObjDef :=
  objMap0 ++ objMap1 ++ objMap2 ++ objMap3 ++ objMap4 ++ objMap5 ++ objMap6 ++ objMap7 ++
  objMap8 ++ objMap9 ++ objMap10 ++ objMap11 ++ objMap12 ++ objMap13 ++ objMap14 ++ objMap15

/-- The object row a number falls under. -/
def objFind (n : Nat) : Option ObjDef :=
  objMap.find? (fun o => decide (n &&& o.mask = o.val))

/-- What a variable-digit check answers: fine, no such object, or a wing or port the variant lacks (R344). -/
inductive ObjExists where
  | yes | noObject | range
  deriving DecidableEq, Repr

/-- One variable digit group against the variant's wings (R344). -/
def objVarOk (wings n : Nat) : ObjVar → ObjExists
  | .ltRange sh wd lo hi =>
    if lo ≤ n / 2 ^ sh % 2 ^ wd ∧ n / 2 ^ sh % 2 ^ wd < hi then .yes else .noObject
  | .wing sh =>
    if n / 2 ^ sh % 16 < wings then .yes else if n / 2 ^ sh % 16 < 8 then .range else .noObject
  | .port sh =>
    if n / 2 ^ sh % 256 < 2 * wings then .yes else if n / 2 ^ sh % 256 < 16 then .range else .noObject
  | .tally =>
    let i := n / 256 % 65536
    if i < 0x1000 ∨ 0x2000 ≤ i then .noObject
    else if (i - 0x1000) / 0x200 < wings then .yes else .range
  | .capEntry =>
    if 0x10 ≤ n / 256 % 65536 ∧ n / 256 % 65536 < 0x1C then .yes else .noObject

/-- All of a row's variable digits: the first failing check answers. -/
def objVarsOk (wings n : Nat) : List ObjVar → ObjExists
  | [] => .yes
  | v :: vs => match objVarOk wings n v with
    | .yes => objVarsOk wings n vs
    | e => e

/-- R358 step 2: the object's row, or NO_OBJECT, or RANGE under R344. -/
def objLookup (wings n : Nat) : ObjExists × Option ObjDef :=
  match objFind n with
  | none => (.noObject, none)
  | some d => match objVarsOk wings n d.vars with
    | .yes => (.yes, some d)
    | e => (e, none)

/-- Octets of a type's value on the wire (Table 12-1); OCTETS take any length. -/
def objWidth : ObjType → Option Nat
  | .u8 => some 1
  | .u16 => some 2
  | .u32 => some 4
  | .octets => none
  | _ => some 8

/-- The number a value's octets stand for where ranges are stated (R345). -/
def objNum (t : ObjType) (b : Bytes) : Int :=
  match t with
  | .i64 | .fx64 => sgn 64 (beNat b)
  | .octets => b.length
  | _ => beNat b

/-- R345: the value is in the object's stated range; an F64 is no NaN and no infinity. -/
def objInRange (d : ObjDef) (b : Bytes) : Bool :=
  (d.ty != .f64 || decide (beNat b / 2 ^ 52 % 2048 ≠ 2047)) &&
  (d.rng.isEmpty || d.rng.any (fun r => decide (r.1 ≤ objNum d.ty b ∧ objNum d.ty b ≤ r.2)))

end Sys2Proof.Machine
end

