-- ==== Sys2Proof/Machine/RegMap.lean ====
section
/-! DEFINITION. The register map of a wing (R22, R23 and the register tables of every chapter): which offset is
which register, what each access type of R9 does to its bits, and its reset value. -/

namespace Sys2Proof.Machine

/-- One register or register array of Table 1-9's blocks: blocks `blk` to `blkHi`, `count` registers from offset
`off` at spacing `stride`, the masks of its RW, W1C, W1S and WO bits (every other bit is RO or reserved), and its
reset value. -/
structure RegDef where
  blk    : Nat
  blkHi  : Nat
  off    : Nat
  stride : Nat
  count  : Nat
  rw     : Nat
  w1c    : Nat
  w1s    : Nat
  wo     : Nat
  rst    : Nat
  deriving DecidableEq, Repr

/-- The address of offset `off` of block `blk` in wing `w`'s register block (Tables 1-8 and 1-9). -/
def regA (w blk off : Nat) : Nat := 0xFE0000000000 + w * 0x1000000000 + blk * 0x10000 + off

/-- Registers of the register tables, part 0. -/
def regMap0 : List RegDef := [
  (RegDef.mk 0x0 0x0 0x0 0x8 1 0x0 0x0 0x3 0x0 0x0), -- POR_CTL (Table 13-13)
  (RegDef.mk 0x0 0x0 0x8 0x8 1 0x0 0x0 0x0 0x0 0x0), -- POR_STAT (Table 13-14)
  (RegDef.mk 0x0 0x0 0x10 0x8 1 0x0 0x7 0x0 0x0 0x0), -- POR_PINHOLD (Table 13-15)
  (RegDef.mk 0x0 0x0 0x18 0x8 1 0x0 0x0 0x0 0x0 0xFF00000000000000), -- POR_HOLDUP (Table 13-16)
  (RegDef.mk 0x0 0x0 0x100 0x8 16 0x0 0x0 0x0 0x0 0x0), -- POR_OPT_w (Table 13-17)
  (RegDef.mk 0x1 0x1 0x0 0x8 2 0x0 0xFFFFFFFFFFFFFFFF 0x0 0x0 0x0), -- BB_STAT0, BB_STAT1 (Table 15-5)
  (RegDef.mk 0x1 0x1 0x10 0x8 1 0x0 0x0 0x0 0xFFFFFFFFFFFFFFFF 0x0), -- BB_SWSET (Table 15-6)
  (RegDef.mk 0x1 0x1 0x18 0x8 1 0x0 0xFFFFFFFF 0x0 0x0 0x0), -- BB_SRSTAT (R439)
  (RegDef.mk 0x1 0x1 0x100 0x8 128 0x8707 0x0 0x0 0x0 0x0), -- BB_ROUTE_s (Table 15-7)
  (RegDef.mk 0x1 0x1 0x500 0x8 32 0x8707 0x0 0x0 0x0 0x0), -- BB_SRROUTE_s (Table 15-7)
  (RegDef.mk 0x2 0x2 0x0 0x8 1 0xFFFFFFFFFFFFFFFF 0x0 0x0 0x0 0x0), -- TAL_FRZ_AT (Table 15-16)
  (RegDef.mk 0x2 0x2 0x8 0x8 1 0x0 0x2 0x0 0x0 0x0), -- TAL_FRZ_STAT (Table 15-16)
  (RegDef.mk 0x2 0x2 0x10 0x8 1 0x0 0x0 0x0 0x3FFFFFFFFF 0x0), -- TAL_SWINC (Table 15-18)
  (RegDef.mk 0x2 0x2 0x1000 0x8 512 0x0 0x0 0x0 0x0 0x0), -- TAL_FRZ_i (Table 15-17)
  (RegDef.mk 0x2 0x2 0x2000 0x8 512 0x0 0x0 0x0 0x0 0x0), -- TAL_LIVE_i (Table 15-17)
  (RegDef.mk 0x3 0x3 0x0 0x8 1 0x0 0x0 0x0 0x0 0x0) -- COR_ID (Table 1-5)
]

/-- Registers of the register tables, part 1. -/
def regMap1 : List RegDef := [
  (RegDef.mk 0x3 0x3 0x8 0x8 1 0x0 0x70000 0x0 0x0 0x0), -- COR_LINK (Table 1-6)
  (RegDef.mk 0x3 0x3 0x10 0x8 1 0x0 0x0 0x0 0x0 0x0), -- COR_CYC (Table 1-7)
  (RegDef.mk 0x4 0x5 0x0 0x8 1 0xFFFF00F10001 0x0 0x2 0x0 0x1400200000), -- AIR_CFG (Table 3-3)
  (RegDef.mk 0x4 0x5 0x8 0x8 4 0xFFFFFFFFFFFFFFFF 0x0 0x0 0x0 0x0), -- AIR_BINMODEj (Table 3-8)
  (RegDef.mk 0x4 0x5 0x28 0x8 1 0xFFFFFF03000007FF 0x0 0x0 0x0 0x2009C00000007FF), -- AIR_RXCFG (Table 3-9)
  (RegDef.mk 0x4 0x5 0x30 0x8 1 0xFFFFFF 0x0 0x0 0x0 0x28000), -- AIR_TXCFG (Table 3-14)
  (RegDef.mk 0x4 0x5 0x38 0x8 1 0x3FF 0x0 0x0 0x0 0x3), -- AIR_SPICFG (Table 3-16)
  (RegDef.mk 0x4 0x5 0x40 0x8 1 0x3F0000FFFFFFFF 0x0 0x8000000000000000 0x0 0x0), -- AIR_SPI (Table 3-17)
  (RegDef.mk 0x4 0x5 0x48 0x8 1 0x0 0xF0 0x0 0x0 0x0), -- AIR_STAT (Table 3-4)
  (RegDef.mk 0x4 0x5 0x100 0x8 18 0x0 0x0 0x0 0x0 0x0), -- AIR_CNT_k (Table 3-18)
  (RegDef.mk 0x4 0x5 0x400 0x8 1 0x0 0x0 0x0 0x0 0x0), -- AIR_LANES (Table 3-11)
  (RegDef.mk 0x6 0x6 0x0 0x8 1 0xFFFFFFFF00000073 0x0 0x0 0x0 0xFFFFFFFE00000050), -- MAC_CFG (Table 4-13)
  (RegDef.mk 0x6 0x6 0x8 0x8 2 0xFFFFFFFFFFFFFFFF 0x0 0x0 0x0 0xFFFFFFFFFFFFFFFF), -- MAC_ACKMAP0, MAC_ACKMAP1 (Table 4-14)
  (RegDef.mk 0x6 0x6 0x18 0x8 1 0x0 0x7C 0x0 0x0 0x0), -- MAC_STAT (Table 4-15)
  (RegDef.mk 0x6 0x6 0x20 0x8 1 0x700000000001FFF 0x0 0x8000000000000000 0x0 0x0), -- MAC_NBR_CTL (Table 4-16)
  (RegDef.mk 0x6 0x6 0x28 0x8 8 0x0 0x0 0x0 0x0 0x0) -- MAC_NBR_DATAj (Table 4-17)
]

/-- Registers of the register tables, part 2. -/
def regMap2 : List RegDef := [
  (RegDef.mk 0x6 0x6 0x68 0x8 1 0xFFFFFFFFFC000000 0x0 0x0 0x0 0x0), -- MAC_AT_BASE (Table 4-18)
  (RegDef.mk 0x6 0x6 0x70 0x8 1 0xFFFFFFFFFFFFF01F 0x0 0x0 0x0 0x4), -- MAC_SQ_CFG (Table 4-19)
  (RegDef.mk 0x6 0x6 0x78 0x8 1 0xFFFFFFFF 0x0 0x0 0x0 0x0), -- MAC_SQ_PTR (Table 4-20)
  (RegDef.mk 0x6 0x6 0x80 0x8 1 0xFFFFFFFFFFFFF01F 0x0 0x0 0x0 0x4), -- MAC_RQ_CFG (Table 4-19)
  (RegDef.mk 0x6 0x6 0x88 0x8 1 0xFFFFFFFF00000000 0x0 0x0 0x0 0x0), -- MAC_RQ_PTR (Table 4-20)
  (RegDef.mk 0x6 0x6 0x100 0x8 23 0x0 0x0 0x0 0x0 0x0), -- MAC_CNT_k (R123)
  (RegDef.mk 0x7 0x7 0x100 0x8 11 0x0 0x0 0x0 0x0 0x0), -- TC_CNT_k (R123)
  (RegDef.mk 0x8 0x8 0x0 0x8 1 0x1 0x0 0x2 0x0 0x0), -- ING_CTL (Table 5-15)
  (RegDef.mk 0x8 0x8 0x8 0x8 1 0x0 0x3F 0x0 0x0 0x0), -- ING_STAT (Table 5-16)
  (RegDef.mk 0x8 0x8 0x10 0x8 1 0xFFFFFFFFC0000000 0x0 0x0 0x0 0x0), -- ING_DIR_CFG (Table 5-17)
  (RegDef.mk 0x8 0x8 0x18 0x8 1 0xFFFFFFFFF0000000 0x0 0x0 0x0 0x0), -- ING_STG_CFG (Table 5-18)
  (RegDef.mk 0x8 0x8 0x20 0x8 1 0x0 0x0 0x0 0x0 0x0), -- ING_STG_PTR (Table 5-19)
  (RegDef.mk 0x8 0x8 0x28 0x8 1 0x0 0x0 0x0 0xFFFFFFFFFFFFFFFF 0x0), -- ING_STG_REL (Table 5-20)
  (RegDef.mk 0x8 0x8 0x30 0x8 1 0xFFFFFFFFFFFFF01F 0x0 0x0 0x0 0x4), -- ING_XQ_CFG (Table 5-21)
  (RegDef.mk 0x8 0x8 0x38 0x8 1 0xFFFFFFFF 0x0 0x0 0x0 0x0), -- ING_XQ_PTR (Table 5-22)
  (RegDef.mk 0x8 0x8 0x40 0x8 1 0xFFFFFFFFFFFFF000 0x0 0x0 0x0 0x8) -- ING_LOB_CFG (Table 5-21)
]

/-- Registers of the register tables, part 3. -/
def regMap3 : List RegDef := [
  (RegDef.mk 0x8 0x8 0x48 0x8 1 0xFFFFFFFF00000000 0x0 0x0 0x0 0x0), -- ING_LOB_PTR (Table 5-22)
  (RegDef.mk 0x8 0x8 0x50 0x8 1 0x7000000000FFFFF 0x0 0x8000000000000000 0x0 0x0), -- ING_GB_CTL (Table 5-23)
  (RegDef.mk 0x8 0x8 0x58 0x8 1 0xFFFFFFFFFFFFFFFF 0x0 0x0 0x0 0x0), -- ING_GB_DST (Table 5-24)
  (RegDef.mk 0x8 0x8 0x60 0x8 1 0xFFFFFFFF000007FF 0x0 0x0 0x0 0x0), -- ING_GB_ARG (Table 5-24)
  (RegDef.mk 0x8 0x8 0x100 0x8 35 0x0 0x0 0x0 0x0 0x0), -- ING_CNT_k (R155)
  (RegDef.mk 0xA 0xA 0x0 0x8 1 0x1 0x0 0x0 0x0 0x0), -- NA_CTL (Table 9-12)
  (RegDef.mk 0xA 0xA 0x8 0x8 1 0x0 0x8 0x0 0x0 0x0), -- NA_STAT (Table 9-13)
  (RegDef.mk 0xA 0xA 0x10 0x8 1 0xFFFFFFFFC0000000 0x0 0x0 0x0 0x0), -- NA_EP_CFG (Table 9-14)
  (RegDef.mk 0xA 0xA 0x18 0x8 1 0xFFFFFFFFC0000000 0x0 0x0 0x0 0x0), -- NA_WS_CFG (Table 9-14)
  (RegDef.mk 0xA 0xA 0x20 0x8 1 0x0 0x0 0x0 0x0 0x0), -- NA_JOB (Table 9-15)
  (RegDef.mk 0xA 0xA 0x100 0x8 16 0x0 0x0 0x0 0x0 0x0), -- NA_CNT_k (Table 9-16)
  (RegDef.mk 0xB 0xB 0x20 0x8 1 0x0 0x0 0x0 0x0 0xF0000000000), -- DDR_TIMING (Table 16-2)
  (RegDef.mk 0xC 0xC 0x0 0x8 1 0x1 0x0 0x6 0x0 0x0), -- NFC_CTL (Table 10-16)
  (RegDef.mk 0xC 0xC 0x8 0x8 1 0x0 0x7E 0x0 0x0 0x0), -- NFC_STAT (Table 10-17)
  (RegDef.mk 0xC 0xC 0x10 0x8 2 0xFF1F 0x0 0x0 0x0 0xFF10), -- NFC_CH0_CFG, NFC_CH1_CFG (Table 10-18)
  (RegDef.mk 0xC 0xC 0x20 0x8 1 0xFFFFFFFFC0000000 0x0 0x0 0x0 0x0) -- NFC_MAP_CFG (Table 10-19)
]

/-- Registers of the register tables, part 4. -/
def regMap4 : List RegDef := [
  (RegDef.mk 0xC 0xC 0x28 0x8 1 0xFFFFFFFFC0000000 0x0 0x0 0x0 0x0), -- NFC_BUF_CFG (Table 10-19)
  (RegDef.mk 0xC 0xC 0x30 0x8 1 0x0 0x0 0x0 0x0 0x0), -- NFC_GEOM (Table 10-20)
  (RegDef.mk 0xC 0xC 0x100 0x8 22 0x0 0x0 0x0 0x0 0x0), -- NFC_CNT_k (Table 10-21)
  (RegDef.mk 0xD 0xE 0x0 0x8 1 0x3F 0x0 0x0 0x0 0x0), -- UPL_CFG (Table 11-1)
  (RegDef.mk 0xD 0xE 0x8 0x8 1 0x0 0x3F0 0x0 0x0 0x0), -- UPL_STAT (Table 11-2)
  (RegDef.mk 0xD 0xE 0x10 0x8 1 0xFFFFFFFFFFFFF01F 0x0 0x0 0x0 0x4), -- UPL_TQ_CFG (Table 11-3)
  (RegDef.mk 0xD 0xE 0x18 0x8 1 0xFFFFFFFF 0x0 0x0 0x0 0x0), -- UPL_TQ_PTR (R319)
  (RegDef.mk 0xD 0xE 0x20 0x8 1 0xFFFFFFFFFFFFF01F 0x0 0x0 0x0 0x4), -- UPL_RQ_CFG (Table 11-3)
  (RegDef.mk 0xD 0xE 0x28 0x8 1 0xFFFFFFFF00000000 0x0 0x0 0x0 0x0), -- UPL_RQ_PTR (R319)
  (RegDef.mk 0xD 0xE 0x100 0x8 16 0x0 0x0 0x0 0x0 0x0), -- UPL_CNT_k (R341)
  (RegDef.mk 0xD 0xD 0x8000 0x8 1 0x0 0x0 0x0 0x0 0x0), -- UPL_PTIME (Table 11-7)
  (RegDef.mk 0xD 0xD 0x8008 0x8 1 0x0 0x180 0x0 0x0 0x0), -- UPL_CLKSTAT (Table 11-7)
  (RegDef.mk 0xD 0xD 0x8100 0x8 8 0x0 0x0 0x0 0x0 0x0), -- CG_CNT_k (R341)
  (RegDef.mk 0xF 0xF 0x0 0x8 1 0x0 0x0 0x0 0x0 0x0), -- TT_MAT (Table 2-2)
  (RegDef.mk 0xF 0xF 0x8 0x8 1 0x0 0x0 0x0 0x0 0x0), -- TT_MATINC (Table 2-3)
  (RegDef.mk 0xF 0xF 0x10 0x8 1 0x0 0xF0 0x0 0x0 0x0) -- TT_STAT (Table 2-4)
]

/-- Registers of the register tables, part 5. -/
def regMap5 : List RegDef := [
  (RegDef.mk 0xF 0xF 0x1000 0x20 256 0xFFFFFFFFFFFFFFFF 0x0 0x0 0x0 0x0), -- TT_ENT_TGT (Table 2-5)
  (RegDef.mk 0xF 0xF 0x1008 0x20 256 0xFFFF000F400F 0x0 0x3000 0x0 0x0), -- TT_ENT_CTL (Table 2-6)
  (RegDef.mk 0xF 0xF 0x1010 0x20 256 0xFFFFFFFFFFFFFFFF 0x0 0x0 0x0 0x0), -- TT_ENT_REP (Table 2-7)
  (RegDef.mk 0xF 0xF 0x1018 0x20 256 0xFFFFFFFFFFFFFFFF 0x0 0x0 0x0 0x0), -- TT_ENT_ARG (Table 2-8)
  (RegDef.mk 0x10 0x10 0x0 0x8 1 0x0 0x0 0x1 0x0 0x0), -- LOG_CTL (Table 15-11)
  (RegDef.mk 0x10 0x10 0x8 0x8 1 0x1FFF 0x0 0x0 0x0 0x400), -- LOG_CFG (Table 15-11)
  (RegDef.mk 0x10 0x10 0x10 0x8 1 0x0 0x6 0x0 0x0 0x0), -- LOG_STAT (Table 15-12)
  (RegDef.mk 0x10 0x10 0x18 0x8 1 0x0 0x0 0x0 0x0 0x0), -- LOG_SEQ (Table 15-13)
  (RegDef.mk 0x10 0x10 0x20 0x8 1 0xFFFFFFFFFFFFF03F 0x0 0x0 0x0 0xC), -- LOG_RING_CFG (Table 15-14)
  (RegDef.mk 0x10 0x10 0x28 0x8 2 0xFFFFFFFFFFFFFFFF 0x0 0x0 0x0 0x0), -- LOG_SWP0, LOG_SWP1 (Table 15-15)
  (RegDef.mk 0x10 0x10 0x38 0x8 1 0x0 0x0 0x0 0xFFFFFFFF 0x0), -- LOG_SWRAISE (Table 15-15)
  (RegDef.mk 0x12 0x12 0x0 0x8 1 0x0 0xE0 0x0 0x0 0x0), -- SRG_STAT (Table 6-14)
  (RegDef.mk 0x12 0x12 0x100 0x8 8 0x0 0x0 0x0 0x0 0x0), -- SRG_CNT_k (Table 6-15)
  (RegDef.mk 0x13 0x13 0x0 0x8 1 0x0 0x0 0xF 0x0 0x0), -- MBX_CTL (Table 12-8)
  (RegDef.mk 0x13 0x13 0x8 0x8 1 0x0 0xF0F 0x0 0x0 0x0), -- MBX_STAT (Table 12-9)
  (RegDef.mk 0x13 0x13 0x40 0x20 4 0xFFFFFFFFFFFFFFC0 0x0 0x0 0x0 0x0) -- MBX_REQ_s (Table 12-10)
]

/-- Registers of the register tables, part 6. -/
def regMap6 : List RegDef := [
  (RegDef.mk 0x13 0x13 0x48 0x20 4 0xFFFFFFFFFFFFFFC0 0x0 0x0 0x0 0x0), -- MBX_RSP_s (Table 12-10)
  (RegDef.mk 0x13 0x13 0x50 0x20 4 0xFFFFFFFF 0x0 0x0 0x0 0x0) -- MBX_LEN_s (Table 12-10)
]

/-- The whole register map. -/
def regMap : List RegDef :=
  regMap0 ++ regMap1 ++ regMap2 ++ regMap3 ++ regMap4 ++ regMap5 ++ regMap6

/-- The address of POR_CTL (Table 13-13). -/
def porCtl (w : Nat) : Nat := regA w 0x0 0x0
/-- The address of POR_STAT (Table 13-14). -/
def porStat (w : Nat) : Nat := regA w 0x0 0x8
/-- The address of POR_PINHOLD (Table 13-15). -/
def porPinhold (w : Nat) : Nat := regA w 0x0 0x10
/-- The address of POR_HOLDUP (Table 13-16). -/
def porHoldup (w : Nat) : Nat := regA w 0x0 0x18
/-- The address of POR_OPT_w (Table 13-17). -/
def porOpt (w i : Nat) : Nat := regA w 0x0 (0x100 + 0x8 * i)
/-- The address of BB_STAT0, BB_STAT1 (Table 15-5). -/
def bbStat (w i : Nat) : Nat := regA w 0x1 (0x0 + 0x8 * i)
/-- The address of BB_SWSET (Table 15-6). -/
def bbSwset (w : Nat) : Nat := regA w 0x1 0x10
/-- The address of BB_SRSTAT (R439). -/
def bbSrstat (w : Nat) : Nat := regA w 0x1 0x18
/-- The address of BB_ROUTE_s (Table 15-7). -/
def bbRoute (w i : Nat) : Nat := regA w 0x1 (0x100 + 0x8 * i)
/-- The address of BB_SRROUTE_s (Table 15-7). -/
def bbSrroute (w i : Nat) : Nat := regA w 0x1 (0x500 + 0x8 * i)
/-- The address of TAL_FRZ_AT (Table 15-16). -/
def talFrzAt (w : Nat) : Nat := regA w 0x2 0x0
/-- The address of TAL_FRZ_STAT (Table 15-16). -/
def talFrzStat (w : Nat) : Nat := regA w 0x2 0x8
/-- The address of TAL_SWINC (Table 15-18). -/
def talSwinc (w : Nat) : Nat := regA w 0x2 0x10
/-- The address of TAL_FRZ_i (Table 15-17). -/
def talFrz (w i : Nat) : Nat := regA w 0x2 (0x1000 + 0x8 * i)
/-- The address of TAL_LIVE_i (Table 15-17). -/
def talLive (w i : Nat) : Nat := regA w 0x2 (0x2000 + 0x8 * i)
/-- The address of COR_ID (Table 1-5). -/
def corId (w : Nat) : Nat := regA w 0x3 0x0
/-- The address of COR_LINK (Table 1-6). -/
def corLink (w : Nat) : Nat := regA w 0x3 0x8
/-- The address of COR_CYC (Table 1-7). -/
def corCyc (w : Nat) : Nat := regA w 0x3 0x10
/-- The address of AIR_CFG (Table 3-3). -/
def airCfg (w p : Nat) : Nat := regA w (0x4 + p) 0x0
/-- The address of AIR_BINMODEj (Table 3-8). -/
def airBinmode (w p i : Nat) : Nat := regA w (0x4 + p) (0x8 + 0x8 * i)
/-- The address of AIR_RXCFG (Table 3-9). -/
def airRxcfg (w p : Nat) : Nat := regA w (0x4 + p) 0x28
/-- The address of AIR_TXCFG (Table 3-14). -/
def airTxcfg (w p : Nat) : Nat := regA w (0x4 + p) 0x30
/-- The address of AIR_SPICFG (Table 3-16). -/
def airSpicfg (w p : Nat) : Nat := regA w (0x4 + p) 0x38
/-- The address of AIR_SPI (Table 3-17). -/
def airSpi (w p : Nat) : Nat := regA w (0x4 + p) 0x40
/-- The address of AIR_STAT (Table 3-4). -/
def airStat (w p : Nat) : Nat := regA w (0x4 + p) 0x48
/-- The address of AIR_CNT_k (Table 3-18). -/
def airCnt (w p i : Nat) : Nat := regA w (0x4 + p) (0x100 + 0x8 * i)
/-- The address of AIR_LANES (Table 3-11). -/
def airLanes (w p : Nat) : Nat := regA w (0x4 + p) 0x400
/-- The address of MAC_CFG (Table 4-13). -/
def macCfg (w : Nat) : Nat := regA w 0x6 0x0
/-- The address of MAC_ACKMAP0, MAC_ACKMAP1 (Table 4-14). -/
def macAckmap (w i : Nat) : Nat := regA w 0x6 (0x8 + 0x8 * i)
/-- The address of MAC_STAT (Table 4-15). -/
def macStat (w : Nat) : Nat := regA w 0x6 0x18
/-- The address of MAC_NBR_CTL (Table 4-16). -/
def macNbrCtl (w : Nat) : Nat := regA w 0x6 0x20
/-- The address of MAC_NBR_DATAj (Table 4-17). -/
def macNbrData (w i : Nat) : Nat := regA w 0x6 (0x28 + 0x8 * i)
/-- The address of MAC_AT_BASE (Table 4-18). -/
def macAtBase (w : Nat) : Nat := regA w 0x6 0x68
/-- The address of MAC_SQ_CFG (Table 4-19). -/
def macSqCfg (w : Nat) : Nat := regA w 0x6 0x70
/-- The address of MAC_SQ_PTR (Table 4-20). -/
def macSqPtr (w : Nat) : Nat := regA w 0x6 0x78
/-- The address of MAC_RQ_CFG (Table 4-19). -/
def macRqCfg (w : Nat) : Nat := regA w 0x6 0x80
/-- The address of MAC_RQ_PTR (Table 4-20). -/
def macRqPtr (w : Nat) : Nat := regA w 0x6 0x88
/-- The address of MAC_CNT_k (R123). -/
def macCnt (w i : Nat) : Nat := regA w 0x6 (0x100 + 0x8 * i)
/-- The address of TC_CNT_k (R123). -/
def tcCnt (w i : Nat) : Nat := regA w 0x7 (0x100 + 0x8 * i)
/-- The address of ING_CTL (Table 5-15). -/
def ingCtl (w : Nat) : Nat := regA w 0x8 0x0
/-- The address of ING_STAT (Table 5-16). -/
def ingStat (w : Nat) : Nat := regA w 0x8 0x8
/-- The address of ING_DIR_CFG (Table 5-17). -/
def ingDirCfg (w : Nat) : Nat := regA w 0x8 0x10
/-- The address of ING_STG_CFG (Table 5-18). -/
def ingStgCfg (w : Nat) : Nat := regA w 0x8 0x18
/-- The address of ING_STG_PTR (Table 5-19). -/
def ingStgPtr (w : Nat) : Nat := regA w 0x8 0x20
/-- The address of ING_STG_REL (Table 5-20). -/
def ingStgRel (w : Nat) : Nat := regA w 0x8 0x28
/-- The address of ING_XQ_CFG (Table 5-21). -/
def ingXqCfg (w : Nat) : Nat := regA w 0x8 0x30
/-- The address of ING_XQ_PTR (Table 5-22). -/
def ingXqPtr (w : Nat) : Nat := regA w 0x8 0x38
/-- The address of ING_LOB_CFG (Table 5-21). -/
def ingLobCfg (w : Nat) : Nat := regA w 0x8 0x40
/-- The address of ING_LOB_PTR (Table 5-22). -/
def ingLobPtr (w : Nat) : Nat := regA w 0x8 0x48
/-- The address of ING_GB_CTL (Table 5-23). -/
def ingGbCtl (w : Nat) : Nat := regA w 0x8 0x50
/-- The address of ING_GB_DST (Table 5-24). -/
def ingGbDst (w : Nat) : Nat := regA w 0x8 0x58
/-- The address of ING_GB_ARG (Table 5-24). -/
def ingGbArg (w : Nat) : Nat := regA w 0x8 0x60
/-- The address of ING_CNT_k (R155). -/
def ingCnt (w i : Nat) : Nat := regA w 0x8 (0x100 + 0x8 * i)
/-- The address of NA_CTL (Table 9-12). -/
def naCtl (w : Nat) : Nat := regA w 0xA 0x0
/-- The address of NA_STAT (Table 9-13). -/
def naStat (w : Nat) : Nat := regA w 0xA 0x8
/-- The address of NA_EP_CFG (Table 9-14). -/
def naEpCfg (w : Nat) : Nat := regA w 0xA 0x10
/-- The address of NA_WS_CFG (Table 9-14). -/
def naWsCfg (w : Nat) : Nat := regA w 0xA 0x18
/-- The address of NA_JOB (Table 9-15). -/
def naJob (w : Nat) : Nat := regA w 0xA 0x20
/-- The address of NA_CNT_k (Table 9-16). -/
def naCnt (w i : Nat) : Nat := regA w 0xA (0x100 + 0x8 * i)
/-- The address of DDR_TIMING (Table 16-2). -/
def ddrTiming (w : Nat) : Nat := regA w 0xB 0x20
/-- The address of NFC_CTL (Table 10-16). -/
def nfcCtl (w : Nat) : Nat := regA w 0xC 0x0
/-- The address of NFC_STAT (Table 10-17). -/
def nfcStat (w : Nat) : Nat := regA w 0xC 0x8
/-- The address of NFC_CH0_CFG, NFC_CH1_CFG (Table 10-18). -/
def nfcChCfg (w i : Nat) : Nat := regA w 0xC (0x10 + 0x8 * i)
/-- The address of NFC_MAP_CFG (Table 10-19). -/
def nfcMapCfg (w : Nat) : Nat := regA w 0xC 0x20
/-- The address of NFC_BUF_CFG (Table 10-19). -/
def nfcBufCfg (w : Nat) : Nat := regA w 0xC 0x28
/-- The address of NFC_GEOM (Table 10-20). -/
def nfcGeom (w : Nat) : Nat := regA w 0xC 0x30
/-- The address of NFC_CNT_k (Table 10-21). -/
def nfcCnt (w i : Nat) : Nat := regA w 0xC (0x100 + 0x8 * i)
/-- The address of UPL_CFG (Table 11-1). -/
def uplCfg (w p : Nat) : Nat := regA w (0xD + p) 0x0
/-- The address of UPL_STAT (Table 11-2). -/
def uplStat (w p : Nat) : Nat := regA w (0xD + p) 0x8
/-- The address of UPL_TQ_CFG (Table 11-3). -/
def uplTqCfg (w p : Nat) : Nat := regA w (0xD + p) 0x10
/-- The address of UPL_TQ_PTR (R319). -/
def uplTqPtr (w p : Nat) : Nat := regA w (0xD + p) 0x18
/-- The address of UPL_RQ_CFG (Table 11-3). -/
def uplRqCfg (w p : Nat) : Nat := regA w (0xD + p) 0x20
/-- The address of UPL_RQ_PTR (R319). -/
def uplRqPtr (w p : Nat) : Nat := regA w (0xD + p) 0x28
/-- The address of UPL_CNT_k (R341). -/
def uplCnt (w p i : Nat) : Nat := regA w (0xD + p) (0x100 + 0x8 * i)
/-- The address of UPL_PTIME (Table 11-7). -/
def uplPtime (w : Nat) : Nat := regA w 0xD 0x8000
/-- The address of UPL_CLKSTAT (Table 11-7). -/
def uplClkstat (w : Nat) : Nat := regA w 0xD 0x8008
/-- The address of CG_CNT_k (R341). -/
def cgCnt (w i : Nat) : Nat := regA w 0xD (0x8100 + 0x8 * i)
/-- The address of TT_MAT (Table 2-2). -/
def ttMat (w : Nat) : Nat := regA w 0xF 0x0
/-- The address of TT_MATINC (Table 2-3). -/
def ttMatinc (w : Nat) : Nat := regA w 0xF 0x8
/-- The address of TT_STAT (Table 2-4). -/
def ttStat (w : Nat) : Nat := regA w 0xF 0x10
/-- The address of TT_ENT_TGT (Table 2-5). -/
def ttTgt (w i : Nat) : Nat := regA w 0xF (0x1000 + 0x20 * i)
/-- The address of TT_ENT_CTL (Table 2-6). -/
def ttCtl (w i : Nat) : Nat := regA w 0xF (0x1008 + 0x20 * i)
/-- The address of TT_ENT_REP (Table 2-7). -/
def ttRep (w i : Nat) : Nat := regA w 0xF (0x1010 + 0x20 * i)
/-- The address of TT_ENT_ARG (Table 2-8). -/
def ttArg (w i : Nat) : Nat := regA w 0xF (0x1018 + 0x20 * i)
/-- The address of LOG_CTL (Table 15-11). -/
def logCtl (w : Nat) : Nat := regA w 0x10 0x0
/-- The address of LOG_CFG (Table 15-11). -/
def logCfg (w : Nat) : Nat := regA w 0x10 0x8
/-- The address of LOG_STAT (Table 15-12). -/
def logStat (w : Nat) : Nat := regA w 0x10 0x10
/-- The address of LOG_SEQ (Table 15-13). -/
def logSeq (w : Nat) : Nat := regA w 0x10 0x18
/-- The address of LOG_RING_CFG (Table 15-14). -/
def logRingCfg (w : Nat) : Nat := regA w 0x10 0x20
/-- The address of LOG_SWP0, LOG_SWP1 (Table 15-15). -/
def logSwp (w i : Nat) : Nat := regA w 0x10 (0x28 + 0x8 * i)
/-- The address of LOG_SWRAISE (Table 15-15). -/
def logSwraise (w : Nat) : Nat := regA w 0x10 0x38
/-- The address of SRG_STAT (Table 6-14). -/
def srgStat (w : Nat) : Nat := regA w 0x12 0x0
/-- The address of SRG_CNT_k (Table 6-15). -/
def srgCnt (w i : Nat) : Nat := regA w 0x12 (0x100 + 0x8 * i)
/-- The address of MBX_CTL (Table 12-8). -/
def mbxCtl (w : Nat) : Nat := regA w 0x13 0x0
/-- The address of MBX_STAT (Table 12-9). -/
def mbxStat (w : Nat) : Nat := regA w 0x13 0x8
/-- The address of MBX_REQ_s (Table 12-10). -/
def mbxReq (w i : Nat) : Nat := regA w 0x13 (0x40 + 0x20 * i)
/-- The address of MBX_RSP_s (Table 12-10). -/
def mbxRsp (w i : Nat) : Nat := regA w 0x13 (0x48 + 0x20 * i)
/-- The address of MBX_LEN_s (Table 12-10). -/
def mbxLen (w i : Nat) : Nat := regA w 0x13 (0x50 + 0x20 * i)

/-- The register of the map at offset `off` of block `blk`, if any. -/
def regFind (blk off : Nat) : Option RegDef :=
  regMap.find? (fun r => decide (r.blk ≤ blk ∧ blk ≤ r.blkHi ∧ r.off ≤ off ∧
    (off - r.off) % r.stride = 0 ∧ (off - r.off) / r.stride < r.count))

/-- The wing whose register block holds an address, with the block and offset (Tables 1-8 and 1-9). -/
def regSplit (a : Nat) : Option (Nat × Nat × Nat) :=
  if 0xFE0000000000 ≤ a ∧ a < 0xFE8000000000 then
    let o := (a - 0xFE0000000000) % 0x1000000000
    some ((a - 0xFE0000000000) / 0x1000000000, o / 0x10000, o % 0x10000)
  else none

/-- The register definition behind an address. -/
def regAt (a : Nat) : Option RegDef :=
  match regSplit a with
  | some (_, blk, off) => regFind blk off
  | none => none

/-- What a register reads after its reset. (DEDUCED, log 13) -/
def regReset (a : Nat) : Word :=
  match regAt a with
  | some r => BitVec.ofNat 64 r.rst
  | none => 0

/-- The value a register holds after a write, by access type (R9, R11): RW bits take the value written, W1C bits
written 1 clear, W1S bits written 1 set, every other bit keeps its value. -/
def regMerge (r : RegDef) (old v : Word) : Word :=
  let rw := BitVec.ofNat 64 r.rw
  let wc := BitVec.ofNat 64 r.w1c
  let ws := BitVec.ofNat 64 r.w1s
  ((old &&& ~~~rw &&& ~~~(wc &&& v)) ||| (rw &&& v)) ||| (ws &&& v)

end Sys2Proof.Machine
end

