-- ==== Sys2Proof/Machine/Ops.lean ====
section
/-! DEFINITION. The named operations every command is written over: the passing of time, registers, DRAM, counters,
dictionary values, events, Bell Board sources, the Corridor's timing and the Concierge's answers. -/

namespace Sys2Proof.Machine

/-! ### Time -/

/-- One nanosecond in units of 2^-32 * 10^-9 ns (the unit of `Clk.ptime`). (DESIGN CHOICE, log 16) -/
def nsFine : Int := 4294967296000000000

/-- The slew remainder removed over `d` FCLK (R326): at most `lim` units each.
(DESIGN CHOICE, log 17; DESIGN CHOICE, log 22) -/
def qStep (q lim : Int) (d : Nat) : Int :=
  if 0 ≤ q then min q (lim * d) else -(min (-q) (lim * d))

/-- A replica after `d` FCLK (R39, R40): the accumulator is 96 bits; a skewed replica adds its correction. Before the
epoch's origin it reads 0. -/
def repStep (d : Nat) (r : Replica) : Replica :=
  if !r.live then r else
  { r with
    acc := (((r.acc + r.inc * d : Nat) + qStep r.corr r.lim d) % (2 ^ 96 : Int)).toNat
    corr := r.corr - qStep r.corr r.lim d }

/-- Every timebase after `d` FCLK (R4, R39, R190, R324). -/
def passTime (d : Nat) (s : State) : State :=
  { s with
    clk := { s.clk with
      now := s.clk.now + d
      ptime := s.clk.ptime + (nsFine + s.clk.rate) * d - qStep s.clk.q s.clk.qLimit d
      q := s.clk.q - qStep s.clk.q s.clk.qLimit d
      ltime := s.clk.ltime + (nsFine + s.clk.xtal) * (nsFine + s.clk.slew) * d / nsFine }
    mat := { s.mat with
      refAcc := (s.mat.refAcc + s.mat.refInc * d) % 2 ^ 96
      reps := s.mat.reps.map (repStep d) } }

/-- PTIME in ns (R4). -/
def ptimeNs (s : State) : Nat := (s.clk.ptime / nsFine % (2 ^ 64 : Int)).toNat

/-- PTIME in ns at a cycle, at the rate in force (R324). -/
def ptimeAt (s : State) (c : Nat) : Nat :=
  ((s.clk.ptime + (nsFine + s.clk.rate) * ((c : Int) - s.clk.now)) / nsFine % (2 ^ 64 : Int)).toNat

/-- LTIME in ns (R4). -/
def ltimeNs (s : State) : Nat := (s.clk.ltime / nsFine % (2 ^ 64 : Int)).toNat

/-- A wing's MAT replica (R39). -/
def replica (s : State) (w : Nat) : Replica := s.mat.reps.getD w replicaReset

/-- TT_MAT of a wing: the accumulator above its 32 fraction bits (Table 2-2). -/
def matNow (s : State) (w : Nat) : Nat := (replica s w).acc / 2 ^ 32 % 2 ^ 64

/-- Change one wing's replica. -/
def modReplica (w : Nat) (f : Replica → Replica) (s : State) : State :=
  { s with mat := { s.mat with reps := s.mat.reps.mapIdx (fun i r => if i = w then f r else r) } }

/-! ### Registers, counters, DRAM -/

/-- A register's stored value. -/
def regGet (s : State) (a : Nat) : Word := tabGet (regReset a) s.regs a

/-- Store a register's value. -/
def regSet (a : Nat) (v : Word) (s : State) : State := { s with regs := tabPut (regReset a) a v s.regs }

/-- Bits `hi` to `lo` of a register. -/
def regF (s : State) (a hi lo : Nat) : Nat := bits (regGet s a).toNat hi lo

/-- Write bits `hi` to `lo` of a register, as hardware does. -/
def regPutF (a hi lo v : Nat) (s : State) : State :=
  regSet a (BitVec.ofNat 64 (setBits (regGet s a).toNat hi lo v)) s

/-- The bits of a register that hardware has set in this FCLK (R10). -/
def setNow (s : State) (a : Nat) : Word := if s.clash.at_ = s.clk.now + 1 then tabGet 0 s.clash.bits a else 0

/-- Hardware sets a bit of a register in this FCLK (R10). -/
def markSet (a b : Nat) (s : State) : State :=
  let old := if s.clash.at_ = s.clk.now + 1 then s.clash.bits else []
  { s with clash := { at_ := s.clk.now + 1, bits := tabPut 0 a (tabGet 0 old a ||| BitVec.ofNat 64 (2 ^ b)) old } }

/-- Tally numbers (Table 15-8) of the blocks' first counters. -/
def tallyAir (p k : Nat) : Nat := 18 * p + k
/-- Tally number of MAC_CNT_k (Table 15-8). -/
def tallyMac (k : Nat) : Nat := 36 + k
/-- Tally number of TC_CNT_k (Table 15-8). -/
def tallyTc (k : Nat) : Nat := 59 + k
/-- Tally number of ING_CNT_k (Table 15-8). -/
def tallyIng (k : Nat) : Nat := 70 + k
/-- Tally number of NA_CNT_k (Table 15-8). -/
def tallyNa (k : Nat) : Nat := 105 + k
/-- Tally number of NFC_CNT_k (Table 15-8). -/
def tallyNfc (k : Nat) : Nat := 121 + k
/-- Tally number of UPL_CNT_k of LAN l (Table 15-8). -/
def tallyUpl (l k : Nat) : Nat := 143 + 16 * l + k
/-- Tally number of CG_CNT_k (Table 15-8). -/
def tallyCg (k : Nat) : Nat := 175 + k
/-- Tally number of SRG_CNT_k (Table 15-8). -/
def tallySrg (k : Nat) : Nat := 183 + k

/-- A counter of a wing, by its Tally number (R440). -/
def cntGet (s : State) (w n : Nat) : Nat := tabGet 0 s.cnt (w * 512 + n)

/-- A counter set by hardware. -/
def cntSet (w n v : Nat) (s : State) : State := { s with cnt := tabPut 0 (w * 512 + n) (v % two64) s.cnt }

/-- A counter advanced; counts wrap at 64 bits (R6). -/
def countBy (w n k : Nat) (s : State) : State := cntSet w n (cntGet s w n + k) s

/-- A counter advanced by one. -/
def count (w n : Nat) (s : State) : State := countBy w n 1 s

/-- What a byte of DRAM that nothing has written reads as (DESIGN CHOICE: the spec gives none).
(DESIGN CHOICE, log 11) -/
def dramUnlisted : Byte := 0

/-- One byte of DRAM by package address (R22). -/
def dramByte (s : State) (a : Nat) : Byte := tabGet dramUnlisted s.dram a

/-- Bytes of DRAM from an address. -/
def dramRead (s : State) (a : Nat) : Nat → Bytes
  | 0 => []
  | n + 1 => dramByte s a :: dramRead s (a + 1) n

/-- The memory with bytes written from an address. -/
def memWrite (m : List Host.Cell) (a : Nat) : Bytes → List Host.Cell
  | [] => m
  | b :: bs => memWrite (tabPut dramUnlisted a b m) (a + 1) bs

/-- Write bytes of DRAM from an address. -/
def dramWrite (a : Nat) (b : Bytes) (s : State) : State := { s with dram := memWrite s.dram a b }

/-- R431: records whose cycle has come are complete in their wing's DRAM ring. -/
def ringSettle (s : State) : State :=
  let due := s.log.ring.filter (fun r => decide (r.due ≤ s.clk.now))
  let s1 := due.foldl (fun s r => dramWrite r.place r.bytes s) s
  { s1 with log := { s1.log with ring := s1.log.ring.filter (fun r => decide (s.clk.now < r.due)) } }

/-- The state at fabric cycle `t`; a time already passed changes nothing. (DESIGN CHOICE, log 2) -/
def atTime (t : Nat) (s : State) : State := if s.clk.now < t then ringSettle (passTime (t - s.clk.now) s) else s

/-- The canonical form of the memory: addresses rising, no byte equal to what an unlisted one reads as. -/
abbrev Memory.wf (m : List Host.Cell) : Bool := tabWf (fun _ => dramUnlisted) m

/-- The DRAM range of a wing starts here (Table 1-8). -/
def dramBase (w : Nat) : Nat := w * 0x8000000000

/-- The bytes of DRAM populated on a wing: those fitted, none where its training failed (R22, Table 13-9). -/
def dramSize (s : State) (w : Nat) : Nat :=
  if w < s.part.wings ∧ !bit s.power.untrained w then s.part.dram.getD w 0 else 0

/-- `n` bytes at a package address lie wholly in wing `w`'s populated DRAM. -/
def dramIn (s : State) (w a n : Nat) : Bool :=
  decide (dramBase w ≤ a ∧ a + n ≤ dramBase w + dramSize s w)

/-! ### Dictionary values -/

/-- The default of a number object: that of its row, but where the row's default differs by its variable digits.
(DESIGN CHOICE, log 10) -/
def objDefault (s : State) (n : Nat) : Nat :=
  if n = 0x04004001 then 5 else if n = 0x04004002 then 4
  else if n = 0x0B011001 then 1
  else if 0x06001408 ≤ n ∧ n ≤ 0x0600140F then 100000000
  else if n = 0x0C003400 then (if s.part.wings = 2 then 29000 else if s.part.wings = 4 then 56000 else 110000)
  else if n = 0x0C003500 then (if s.part.wings = 2 then 8000 else if s.part.wings = 4 then 13000 else 22000)
  else if n / 65536 = 0x0400 ∧ n / 256 % 256 = 0x24 then n % 256 * 2 ^ 26
  else match objFind n with
    | some d => d.dflt
    | none => 0

/-- A kept number value (R348). -/
def obj (s : State) (n : Nat) : Nat := tabGet (objDefault s n) s.objs n

/-- Keep a number value. (DESIGN CHOICE, log 92) -/
def objPut (n v : Nat) (s : State) : State := { s with objs := tabPut (objDefault s n) n v s.objs }

/-- The fused default calendar (Table 7-13): Z 0, no daylight saving, rate 1, prices 0; one season from 1 January, no
switch point, carry-in rate 1. -/
def fusedCalendar : Bytes :=
  List.replicate 16 0 ++ [1, 1, 1, 0, 7, 1, 1, 0] ++ [1, 1, 0, 1, 1, 1, 0, 0, 1, 1, 0, 0, 1, 1, 0, 0] ++ List.replicate 56 0 ++
  (List.replicate 256 [0xFF, 0, 1, 0]).flatten ++ List.replicate 256 0 ++ [1] ++ List.replicate 7 0 ++ List.replicate 64 0

/-- The default of an OCTETS object. A factory value of a stated length is that many zero octets; the pairs' MAC
addresses are distinct, globally administered and unicast (R312); a value the manual calls empty is empty. -/
def octDefault (n : Nat) : Bytes :=
  if n = 0x07004100 then fusedCalendar else
  if n = 0x02001000 then [3, 0, 0, 0, 2, 0x21] else
  if n = 0x0D010500 then List.replicate 1024 0 else
  if n = 0x00000300 ∨ n = 0x0D022000 then List.replicate 16 0 else
  if n = 0x05000200 then List.replicate 8 0 else
  if n = 0x08003300 then List.replicate 64 0 else
  if n &&& 0xFFFFFFF8 = 0x0D016000 then List.replicate 48 0 else
  if n &&& 0xFFFF8FFF = 0x0B200001 then [0, 0, 0, 0, 0, BitVec.ofNat 8 (n / 4096 % 8 + 1)] else
  if n &&& 0xFFFF8FFF = 0x0B200002 ∨ n &&& 0xFFFF8FFF = 0x0B200004 then List.replicate 16 0 else []

/-- A kept OCTETS value. -/
def oct (s : State) (n : Nat) : Bytes := tabGet (octDefault n) s.octs n

/-- Keep an OCTETS value. -/
def octPut (n : Nat) (b : Bytes) (s : State) : State := { s with octs := tabPut (octDefault n) n b s.octs }

/-! ### Commits by the Keeper (R167, R169, R185) -/

/-- LTIME of the first 1 ms tick at or after now (R185). -/
def nextTick (s : State) : Nat := nextMultiple (ltimeNs s) 1000000

/-- The cycle of that tick. -/
def tickCycle (s : State) : Nat := s.clk.now + (nextTick s - ltimeNs s)

/-- SCLK that a commit takes (R167). -/
def commitSclk (w e : Nat) : Nat := 26 * w + 13 * e + 118

/-- R169: VSR is below its switch-over threshold, and VBAK below 2.0 V. -/
def noPower (s : State) : Bool := s.sr.onVbak && decide (s.sr.vsr < 2900 ∧ s.sr.vbak < 2000)

/-- R348: a dictionary value kept in MRAM; what no row of the object tables names is kept with the registers it belongs to. -/
def objIsKept (n : Nat) : Bool :=
  match objFind n with
  | some d => d.pers == .kept
  | none => true

/-- The entries of a list of values that are not empty, by place. -/
def tabOf {α : Type} [DecidableEq α] (d : α) (l : List α) : Tab α :=
  (l.zipIdx.filter (fun e => e.1 != d)).map (fun e => (e.2, e.1))

/-- What MRAM would hold if every change were home: the values as they stand. (DEDUCED, log 249) -/
def mramOf (s : State) : Mram :=
  { objs := s.objs.filter (fun e => objIsKept e.1), octs := s.octs.filter (fun e => objIsKept e.1)
    resv := s.mac.resv, accounts := s.prepay.accounts, store := s.prepay.store, orders := s.prepay.orders
    floors := s.lease.floors, mins := s.bill.mins, lists := tabOf [] [s.bill.recs, s.bill.pubs, s.bill.snaps]
    words := tabOf [] [s.power.optCopies, s.upd.copies]
    nums := tabOf 0 [s.sr.authCtr, s.sr.acked, s.bill.tLast, s.bill.pStart, s.bill.calAt, unsgn 128 s.clk.learn, s.clk.learnN]
    token := s.power.token.toList.map (fun k => (0, k)) }

/-- The state with the values that MRAM holds. -/
def mramLoad (m : Mram) (s : State) : State :=
  let num := tabGet 0 m.nums
  { s with
    objs := m.objs.foldl (fun t e => tabIns e.1 e.2 t) (s.objs.filter (fun e => !objIsKept e.1))
    octs := m.octs.foldl (fun t e => tabIns e.1 e.2 t) (s.octs.filter (fun e => !objIsKept e.1))
    mac := { s.mac with resv := m.resv }
    prepay := { s.prepay with accounts := m.accounts, store := m.store, orders := m.orders }
    lease := { s.lease with floors := m.floors }
    bill := { s.bill with mins := m.mins, recs := tabGet [] m.lists 0, pubs := tabGet [] m.lists 1
                          snaps := tabGet [] m.lists 2, tLast := num 2, pStart := num 3, calAt := num 4 }
    power := { s.power with optCopies := tabGet [] m.words 0, token := (m.token.head?).map (·.2) }
    upd := { s.upd with copies := tabGet [] m.words 1 }
    clk := { s.clk with learn := sgn 128 (num 5), learnN := num 6 }
    sr := { s.sr with authCtr := num 0, acked := num 1 } }

/-- The entries in which a table differs from an older one. -/
def tabDelta {α : Type} [DecidableEq α] (new old : Tab α) : Tab (Option α) :=
  (new.filter (fun e => !old.contains e)).map (fun e => (e.1, some e.2)) ++
    (old.filter (fun e => !new.any (fun x => x.1 == e.1))).map (fun e => (e.1, none))

/-- A table with the entries of a payload written. -/
def tabPatch {α : Type} (p : Tab (Option α)) (t : Tab α) : Tab α :=
  p.foldl (fun t e => match e.2 with
    | some v => tabIns e.1 v t
    | none => tabErase e.1 t) t

/-- The payload that makes an older content of MRAM the newer one. -/
def payloadOf (new old : Mram) : Payload :=
  { objs := tabDelta new.objs old.objs, octs := tabDelta new.octs old.octs, resv := tabDelta new.resv old.resv
    accounts := tabDelta new.accounts old.accounts, store := tabDelta new.store old.store
    orders := tabDelta new.orders old.orders, floors := tabDelta new.floors old.floors, mins := tabDelta new.mins old.mins
    lists := tabDelta new.lists old.lists, words := tabDelta new.words old.words, nums := tabDelta new.nums old.nums
    token := tabDelta new.token old.token }

/-- A payload written to its home locations. -/
def mramPatch (p : Payload) (m : Mram) : Mram :=
  { objs := tabPatch p.objs m.objs, octs := tabPatch p.octs m.octs, resv := tabPatch p.resv m.resv
    accounts := tabPatch p.accounts m.accounts, store := tabPatch p.store m.store, orders := tabPatch p.orders m.orders
    floors := tabPatch p.floors m.floors, mins := tabPatch p.mins m.mins, lists := tabPatch p.lists m.lists
    words := tabPatch p.words m.words, nums := tabPatch p.nums m.nums, token := tabPatch p.token m.token }

/-- A payload that changes nothing. -/
def payloadNone : Payload :=
  { objs := [], octs := [], resv := [], accounts := [], store := [], orders := [], floors := [], mins := [], lists := []
    words := [], nums := [], token := [] }

/-- What MRAM will hold once every accepted commit is home. -/
def mramTaken (s : State) : Mram := s.sr.journal.foldl (fun m c => mramPatch c.payload m) s.sr.home

/-- R185: of two commits of one tick, `a` comes before `b` by class (0 billing, 1 supply, 2 tamper, 3 requests), then by
its place within the class. -/
def commitBefore (a b : Commit) : Bool :=
  a.tick == b.tick && (decide (a.cls < b.cls) || (a.cls == b.cls && decide (a.sub < b.sub)))

/-- A commit put in its place among those accepted. -/
def commitInsert (c : Commit) : List Commit → List Commit
  | [] => [c]
  | x :: xs => if commitBefore c x then c :: x :: xs else x :: commitInsert c xs

/-- R167, R169: the Keeper accepts a commit: of 1 to 8 extents and at most 512 words, its payload what the values that stand
have changed beside the commits accepted before. Without power none is accepted. (DESIGN CHOICE, log 250) -/
def commitPush (c : Commit) (s : State) : State :=
  if noPower s then s
  else
    { s with sr := { s.sr with journal := commitInsert { c with words := min 512 c.words, extents := max 1 (min 8 c.extents)
                                                                payload := payloadOf (mramOf s) (mramTaken s) } s.sr.journal } }

/-- A commit of one word to one extent with no Register Book record, as a request's. -/
def commitOne (s : State) : State :=
  commitPush { tick := nextTick s, at_ := tickCycle s, cls := 3, sub := 0, words := 1, extents := 1, records := []
               payload := payloadNone } s

/-! ### Wings, paths and the Corridor's timing (R15 to R20) -/

/-- Hops between two wings: set bits of a XOR b (R16). -/
def hops (a b : Nat) : Nat := popCount 3 (a ^^^ b)

/-- Slot offset of a class (Table 1-3). -/
def slotOffset : FabClass → Nat
  | .core => 0 | .ingest => 1 | .store => 5 | .audit => 3 | .reg => 11 | .uplink => 7 | .srlink => 15 | .fabric => 31

/-- Slot spacing of a class (Table 1-3). -/
def slotSpacing : FabClass → Nat
  | .core => 2 | .ingest => 8 | .store => 8 | .audit => 16 | .reg => 16 | .uplink => 16 | .srlink => 32 | .fabric => 32

/-- The wait for an owned phase from cycle `t` (R18). -/
def slotWait (c : FabClass) (t : Nat) : Nat :=
  (slotOffset c + slotSpacing c - t % slotSpacing c) % slotSpacing c

/-- A forwarding wing's wait: (-24) mod s (R18). -/
def forwardWait (c : FabClass) : Nat := (slotSpacing c - 24 % slotSpacing c) % slotSpacing c

/-- R18: FCLK from ready at `t` to full delivery of `b` beats over `h` hops, with nothing queued ahead.
(DESIGN CHOICE, log 224) -/
def messageTime (c : FabClass) (b h t : Nat) : Nat :=
  if h = 0 then 0
  else slotWait c t + (b - 1) * slotSpacing c + 24 + (h - 1) * (24 + forwardWait c)

/-- R20: FCLK of a register read from wing `a` to wing `b` issued at `t0`. -/
def readTime (a b t0 : Nat) : Nat :=
  if hops a b = 0 then 24 else (27 - t0 % 16) % 16 + 72 + 64 * (hops a b - 1)

/-- R20: FCLK after which a register write from wing `a` is applied at wing `b`. -/
def writeTime (a b t0 : Nat) : Nat :=
  if hops a b = 0 then 24 else (27 - t0 % 16) % 16 + 24 + 32 * (hops a b - 1)

/-- The port of the first hop from `a` toward `b` (R16), if they differ. -/
def firstPort (a b : Nat) : Option Nat :=
  if bit (a ^^^ b) 0 then some 0 else if bit (a ^^^ b) 1 then some 1 else if bit (a ^^^ b) 2 then some 2 else none

/-- The links a route from `a` to `b` uses, as (lower wing, port), in order (R16). -/
def route : Nat → Nat → Nat → List (Nat × Nat)
  | 0, _, _ => []
  | f + 1, a, b => match firstPort a b with
    | none => []
    | some p => (min a (a ^^^ 2 ^ p), p) :: route f (a ^^^ 2 ^ p) b

/-- A link of the Corridor. -/
def linkDefault : Link := { down := false, attempts := 0, training := false, due := 0, rejoin := 0, given := false, lostAt := 0 }

/-- A link's state, by its lower wing and port. -/
def linkGet (s : State) (w p : Nat) : Link := tabGet linkDefault s.fab.links (w * 3 + p)

/-- No link of the route from `a` to `b` is down (R21). -/
def pathUp (s : State) (a b : Nat) : Bool := (route 3 a b).all (fun l => !(linkGet s l.1 l.2).down)

/-- POR_STAT.REL of a wing: one bit per reset domain released (Table 13-14). -/
def released (s : State) (w d : Nat) : Bool := bit (regF s (porStat w) 6 0) d

/-- An operation done once for each wing, in ascending order. -/
def eachWing (f : Nat → State → State) (s : State) : State := (List.range s.part.wings).foldl (fun s w => f w s) s

/-! ### Events (R427 to R431) -/

/-- An empty Logbook buffer. -/
def logDefault : LogWing := { recs := [], last := 0, flushed := 0, unflushed := 0 }

/-- A wing's Logbook buffer. -/
def logGet (s : State) (w : Nat) : LogWing := tabGet logDefault s.log.wing w

/-- Replace a wing's Logbook buffer. -/
def logSet (w : Nat) (l : LogWing) (s : State) : State :=
  { s with log := { s.log with wing := tabPut logDefault w l s.log.wing } }

/-- The sequence after one: after 0xFFFF_FFFF comes 1 (R429). -/
def seqNext (n : Nat) : Nat := if n % 4294967296 = 4294967295 then 1 else n % 4294967296 + 1

/-- The sequence `k` after one (R429). -/
def seqAdd (n k : Nat) : Nat := (n - 1 + k) % 4294967295 + 1

/-- R444: among records of one FCLK, ascending code, source, parameter 0, parameter 1. -/
def recBefore (a b : LogRec) : Bool :=
  decide (a.code < b.code) || (a.code == b.code && (decide (a.src < b.src) || (a.src == b.src &&
    (decide (a.p0 < b.p0) || (a.p0 == b.p0 && decide (a.p1 < b.p1))))))

/-- Place a new record, newest first, among the records of its own FCLK; those after it in R444's order move up one
sequence. The new record takes the place's sequence. -/
def recInsert (r : LogRec) : List LogRec → List LogRec
  | [] => [r]
  | x :: xs =>
    if x.at_ = r.at_ ∧ recBefore r x then
      { x with seq := r.seq } :: recInsert { r with seq := x.seq } xs
    else r :: x :: xs

/-- An event record as 32 bytes (Table 15-1). -/
def recBytes (r : LogRec) : Bytes :=
  toLe 2 r.code ++ toLe 2 r.src ++ toLe 4 r.seq ++ toLe 8 r.time ++ toLe 8 r.p0 ++ toLe 8 r.p1

/-- The ring's size exponent: values outside 12 to 16 act as 12 (Table 15-14). -/
def ringLog2 (v lo hi d : Nat) : Nat := if lo ≤ v ∧ v ≤ hi then v else d

/-- R431: the records of this FCLK go to the wing's DRAM ring when LOG_RING_CFG.EN is 1: bytes 0 to 7 with the sequence at 0
and bytes 8 to 31 now, bytes 0 to 7 with the sequence 200 FCLK later. (DESIGN CHOICE, log 277) -/
def ringWrite (w : Nat) (recs : List LogRec) (s : State) : State :=
  if regF s (logRingCfg w) 5 5 = 1 then
    let base := regF s (logRingCfg w) 63 12 * 4096
    let n := 2 ^ ringLog2 (regF s (logRingCfg w) 4 0) 12 16 12
    let place := fun (r : LogRec) => base + r.seq % n * 32
    let s1 := recs.foldl (fun s r => dramWrite (place r) (recBytes { r with seq := 0 }) s) s
    let due := recs.reverse.map (fun r => ({ wing := w, due := s.clk.now + 200, seq := r.seq, place := place r, bytes := recBytes r } : RingDue))
    { s1 with log := { s1.log with
      ring := s1.log.ring.filter (fun x => x.wing != w || x.due != s.clk.now + 200) ++ due } }
  else s

/-- The records a demanded flush still has to write. -/
def autoLimit (s : State) (w : Nat) : Nat :=
  let a := regF s (logCfg w) 12 0
  if 64 ≤ a ∧ a ≤ 4096 then a else 1024

/-- A demand put in the queue of flushes: by time of demand, then by wing (R432). -/
def flushInsert (f : Flush) : List Flush → List Flush
  | [] => [f]
  | x :: xs => if f.at_ < x.at_ ∨ (f.at_ = x.at_ ∧ f.wing < x.wing) then f :: x :: xs else x :: flushInsert f xs

/-- A flush demanded for a wing from a cycle; one already demanded or running takes it in (R432). -/
def demandFlushAt (at_ w : Nat) (s : State) : State :=
  if s.log.queue.any (fun f => f.wing == w && decide (f.at_ ≤ at_)) || (s.log.active.map (fun f => f.wing == w)).getD false then s
  else { s with log := { s.log with
      queue := flushInsert { wing := w, at_ := at_, sent := 0 } (s.log.queue.filter (fun f => f.wing != w)) } }

/-- A flush demanded for a wing now. (DEDUCED, log 164) -/
def demandFlush (w : Nat) (s : State) : State := demandFlushAt s.clk.now w s

/-- A flush on fault, 1,000 FCLK after the event (Table 15-3). -/
def faultFlush (w : Nat) (s : State) : State := demandFlushAt (s.clk.now + 1000) w s

/-- Route of a Bell Board source: enabled, target wing, target core (Table 15-7). -/
def routeOf (s : State) (w src : Nat) : Nat × Nat × Nat :=
  let r := if src < 128 then regGet s (bbRoute w src) else regGet s (bbSrroute w (src - 128))
  (bits r.toNat 15 15, bits r.toNat 10 8, bits r.toNat 2 0)

/-- FCLK from a raise at `t` on wing `a` to a core of wing `b` (R438). -/
def bellTime (a b t : Nat) : Nat :=
  if hops a b = 0 then 18 else 18 + (25 - t % 16) % 16 + 24 + 32 * (hops a b - 1)

/-- Deliveries of one FCLK, of one wing toward one of its links. -/
def sameBeat (a b : Delivery) : Bool :=
  a.wing == b.wing && a.at_ == b.at_ && (firstPort a.wing a.target).isSome && firstPort a.wing a.target == firstPort b.wing b.target

/-- A delivery among those of its FCLK and link, by ascending source. -/
def bellInsert (d : Delivery) : List Delivery → List Delivery
  | [] => [d]
  | x :: xs => if d.source < x.source then d :: x :: xs else x :: bellInsert d xs

/-- R438: a delivery sets out; those of one FCLK on one link leave in ascending source, a REG slot apart.
(DEDUCED, log 278) -/
def bellGo (d : Delivery) (l : List Delivery) : List Delivery :=
  l.filter (fun x => !sameBeat d x) ++ (bellInsert d (l.filter (sameBeat d))).zipIdx.map (fun e =>
    { e.1 with arrive := e.1.at_ + bellTime e.1.wing e.1.target e.1.at_ + 16 * e.2 })

/-- R438, R439: send the delivery of a routed source, or count it undelivered and remember it. Strongroom sources
are numbered from 128. (DEDUCED, log 163) -/
def deliver (w src : Nat) (s : State) : State :=
  match routeOf s w src with
  | (0, _, _) => s
  | (_, tw, core) =>
    let tw' := if bit s.mode.parked tw then 0 else tw
    if s.power.graced then s
    else if tw' < s.part.wings ∧ pathUp s w tw' ∧ released s tw' 5 then
      let d : Delivery := { wing := w, source := src, core := core, target := tw', at_ := s.clk.now, arrive := 0 }
      count w 192 { s with bell := { s.bell with going := bellGo d (s.bell.going.filter (fun d => decide (s.clk.now < d.arrive))) } }
    else
      count w 193 { s with bell := { s.bell with undeliv :=
          (if s.bell.undeliv.contains (w, src) then s.bell.undeliv else s.bell.undeliv ++ [(w, src)]) } }

/-- The flag register and bit of a source. -/
def flagOf (w src : Nat) : Nat × Nat :=
  if src < 64 then (bbStat w 0, src) else if src < 128 then (bbStat w 1, src - 64) else (bbSrstat w, src - 128)

/-- A Bell Board source occurs (R436, R438): its flag sets; a flag that goes from 0 to 1 is delivered. -/
def bell (w src : Nat) (s : State) : State :=
  let f := flagOf w src
  let s1 := markSet f.1 f.2 s
  if regF s1 f.1 f.2 f.2 = 1 then s1 else deliver w src (regPutF f.1 f.2 f.2 1 s1)

/-- A W1C status flag set by hardware, with the Bell Board source it raises (Table 15-4). -/
def stat (w a b src : Nat) (s : State) : State := bell w src (regPutF a b b 1 (markSet a b s))

/-- The Logbook partition's records of a writer, newest first (R433). -/
def mramLog (s : State) (x : Nat) : List LogRec := tabGet [] s.log.mram x

/-- Place a record in a writer's MRAM region: 12,288 records for a wing, 32,768 for the Keeper (R433). -/
def mramAppend (x : Nat) (r : LogRec) (s : State) : State :=
  { s with log := { s.log with
      mram := tabPut [] x ((r :: mramLog s x).take (if x = 8 then 32768 else 12288)) s.log.mram } }

/-- The newest record of a region is not at or after `r` under R6 (R433). -/
def mramLater (s : State) (x seq : Nat) : Bool :=
  match mramLog s x with
  | [] => true
  | r :: _ => laterW 32 seq r.seq

/-- The Keeper raises an event as writer 8, in LTIME (R427, R433). (DEDUCED, log 96) -/
def keeperRaise (code src p0 p1 : Nat) (s : State) : State :=
  let last := match mramLog s 8 with
    | [] => 0
    | r :: _ => r.seq
  mramAppend 8 { seq := seqNext last, code := code % 65536, src := src % 65536, time := ltimeNs s, p0 := p0 % two64
                 p1 := p1 % two64, at_ := s.clk.now } s

/-- R433: one record placed in its wing's region, or refused by the guard. -/
def flushRecord (w : Nat) (r : LogRec) (s : State) : State :=
  if mramLater s w r.seq then mramAppend w r s
  else
    let s1 := objPut 0x06007001 (obj s 0x06007001 + 1) (keeperRaise 0x0604 w w (0x1900000 + 0x60000 * w + 32 * (r.seq % 12288)) s)
    match s.sr.carrying with
    | some k => count k (tallySrg 4) (stat k (srgStat k) 6 23 s1)
    | none => s1

/-- R432: the oldest `n` unflushed records of a wing are written to MRAM. -/
def flushWrite (w n : Nat) (s : State) : State :=
  let l := logGet s w
  let rs := ((l.recs.take l.unflushed).reverse).take n
  let s1 := rs.foldl (fun s r => flushRecord w r s) s
  countBy w 195 rs.length (logSet w { l with unflushed := l.unflushed - rs.length
                                             flushed := (rs.getLast?.map (·.seq)).getD l.flushed } s1)

/-- The record list and counters of a wing after a raise (R429, R430). -/
def logPush (r : LogRec) (l : LogWing) : LogWing :=
  { l with
    recs := (recInsert r l.recs).take 4096
    last := seqNext l.last
    unflushed := min 4096 (l.unflushed + 1) }

/-- The numbers of records raised in this FCLK. -/
def recsNow (s : State) (w : Nat) : List LogRec := (logGet s w).recs.filter (fun r => r.at_ == s.clk.now)

/-- Raise an event on a wing with no further consequence than its record. -/
def raiseRec (w code src p0 p1 : Nat) (s : State) : State :=
  let r : LogRec := { seq := seqNext (logGet s w).last, code := code % 65536, src := src % 65536, time := ptimeNs s
                      p0 := p0 % two64, p1 := p1 % two64, at_ := s.clk.now }
  let s1 := count w 194 (logSet w (logPush r (logGet s w)) s)
  ringWrite w (recsNow s1 w) s1

/-- Happenings noted, those older than `gap` forgotten; those of one cycle are one entry. -/
def noteRecent (gap now n : Nat) (l : List (Nat × Nat)) : List (Nat × Nat) :=
  match l.filter (fun e => decide (now < e.1 + gap)) with
  | (c, k) :: r => if c = now then (c, k + n) :: r else (now, n) :: (c, k) :: r
  | [] => [(now, n)]

/-- The count of noted happenings. -/
def recentCount (l : List (Nat × Nat)) : Nat := (l.map (·.2)).sum

/-- What happened under a key in the last `gap`, `n` more now among it. -/
def recentNote (key gap n : Nat) (s : State) : State :=
  { s with log := { s.log with recent := tabPut [] key (noteRecent gap s.clk.now n (tabGet [] s.log.recent key)) s.log.recent } }

/-- An event under a key may be raised: none was in the last `gap` (R428). -/
def onceDue (s : State) (key gap : Nat) : Bool :=
  decide (tabGet 0 s.log.once key = 0 ∨ tabGet 0 s.log.once key - 1 + gap ≤ s.clk.now)

/-- An event under a key is raised now. -/
def onceNote (key : Nat) (s : State) : State :=
  { s with log := { s.log with once := tabPut 0 key (s.clk.now + 1) s.log.once } }

/-- R444: a flush of the wing that runs sends the oldest record before a raise overwrites it. -/
def sendFirst (w : Nat) (s : State) : State :=
  match s.log.active with
  | some f =>
    if f.wing = w ∧ 4096 ≤ (logGet s w).unflushed then
      flushWrite w 1 { s with log := { s.log with active := some { f with sent := f.sent + 1 } } }
    else s
  | none => s

/-- R430: a raise that finds the buffer full of unflushed records overwrites one: counted, LOG_STAT.OVERWROTE set. -/
def overwrite (w : Nat) (lost : Bool) (s : State) : State :=
  if lost then recentNote (7100 + w) 1000000000 1 (stat w (logStat w) 1 26 (count w 196 s)) else s

/-- R430: one record raised, and what it overwrites. -/
def raiseOne (w code src p0 p1 : Nat) (s : State) : State :=
  let s1 := sendFirst w s
  overwrite w (decide (4096 ≤ (logGet s1 w).unflushed)) (raiseRec w code src p0 p1 s1)

/-- R430, R432: an event is raised: numbered, placed in the buffer and the ring; one that overwrites raises event 0x0E03, once
per second; reaching LOG_CFG.AUTO raises source 26, and demands a flush. A raise never waits. -/
def raise (w code src p0 p1 : Nat) (s : State) : State :=
  let lost := decide (4096 ≤ (logGet (sendFirst w s) w).unflushed)
  let s1 := raiseOne w code src p0 p1 s
  let s2 := if lost ∧ onceDue s1 (7100 + w) 1000000000 then
      raiseOne w 0x0E03 w (recentCount (tabGet [] s1.log.recent (7100 + w))) (logGet s1 w).flushed (onceNote (7100 + w) s1)
    else s1
  let s3 := if (logGet s w).unflushed < autoLimit s2 w ∧ autoLimit s2 w ≤ (logGet s2 w).unflushed then bell w 26 s2 else s2
  if autoLimit s3 w ≤ (logGet s3 w).unflushed then demandFlush w s3 else s3

/-- An event limited to once per `gap` FCLK under a key (R428): raised, or neither counted nor lost. -/
def raiseOnce (key gap w code src p0 p1 : Nat) (s : State) : State :=
  if onceDue s key gap then raise w code src p0 p1 (onceNote key s) else s

/-- `n` happenings under a key, whose event, at most once per `gap` FCLK, has in parameter 1 how many there were in the last
`gap`. -/
def raiseRate (key gap w code src p0 n : Nat) (s : State) : State :=
  let s1 := recentNote key gap n s
  raiseOnce key gap w code src p0 (recentCount (tabGet [] s1.log.recent key)) s1

/-- The strongroom raises its source (R437): it reaches the carrying gate 480 FCLK later, or is held. -/
def srRaise (k : Nat) (s : State) : State :=
  match s.sr.carrying with
  | some _ => { s with bell := { s.bell with srGoing := s.bell.srGoing ++ [(k, s.clk.now + 480)] } }
  | none => { s with bell := { s.bell with srHeld := s.bell.srHeld ++ [k] } }

/-- Use up a free value and answer it. (DESIGN CHOICE, log 36) -/
def freeWord (s : State) : Word × State := (Config.freeValue s.free, { s with free := s.free + 1 })

/-! ### The Concierge's answers (R361) -/

/-- Status codes of Table 12-7. -/
abbrev stDONE : Nat := 0
/-- NO_OBJECT. -/
abbrev stNO_OBJECT : Nat := 1
/-- ACCESS. -/
abbrev stACCESS : Nat := 2
/-- LEVEL. -/
abbrev stLEVEL : Nat := 3
/-- TYPE. -/
abbrev stTYPE : Nat := 4
/-- BUSY. -/
abbrev stBUSY : Nat := 5
/-- MALFORMED. -/
abbrev stMALFORMED : Nat := 6
/-- INCOMPLETE. -/
abbrev stINCOMPLETE : Nat := 7
/-- NOPOWER. -/
abbrev stNOPOWER : Nat := 8
/-- SUB_LIMIT. -/
abbrev stSUB_LIMIT : Nat := 9
/-- UNREACHABLE. -/
abbrev stUNREACHABLE : Nat := 0xA
/-- RANGE. -/
abbrev stRANGE : Nat := 0x10
/-- LENGTH. -/
abbrev stLENGTH : Nat := 0x11
/-- AUTH. -/
abbrev stAUTH : Nat := 0x12
/-- SIGNATURE. -/
abbrev stSIGNATURE : Nat := 0x13
/-- WRONG_UNIT. -/
abbrev stWRONG_UNIT : Nat := 0x14
/-- STALE. -/
abbrev stSTALE : Nat := 0x15
/-- EXPIRED. -/
abbrev stEXPIRED : Nat := 0x16
/-- LEASE. -/
abbrev stLEASE : Nat := 0x17
/-- SLOT_BUSY. -/
abbrev stSLOT_BUSY : Nat := 0x18
/-- PORT_FULL. -/
abbrev stPORT_FULL : Nat := 0x19
/-- DUPLICATE_ID. -/
abbrev stDUPLICATE_ID : Nat := 0x1A
/-- NONEIGHBOUR. -/
abbrev stNONEIGHBOUR : Nat := 0x1B
/-- DIRECTORY_FULL. -/
abbrev stDIRECTORY_FULL : Nat := 0x1C
/-- INDEX_USED. -/
abbrev stINDEX_USED : Nat := 0x1D
/-- ADDRESS_USED. -/
abbrev stADDRESS_USED : Nat := 0x1E
/-- ADDR_FULL. -/
abbrev stADDR_FULL : Nat := 0x1F
/-- NOT_PROVISIONED. -/
abbrev stNOT_PROVISIONED : Nat := 0x20
/-- PINLIMIT. -/
abbrev stPINLIMIT : Nat := 0x21
/-- NOT_AUDIT. -/
abbrev stNOT_AUDIT : Nat := 0x22
/-- TABLE_FULL. -/
abbrev stTABLE_FULL : Nat := 0x23
/-- IN_USE. -/
abbrev stIN_USE : Nat := 0x24
/-- STATE. -/
abbrev stSTATE : Nat := 0x25
/-- NOT_OPEN. -/
abbrev stNOT_OPEN : Nat := 0x26
/-- VALIDITY. -/
abbrev stVALIDITY : Nat := 0x27
/-- USED. -/
abbrev stUSED : Nat := 0x28
/-- STORE_FULL. -/
abbrev stSTORE_FULL : Nat := 0x29
/-- OVERFLOW. -/
abbrev stOVERFLOW : Nat := 0x2A
/-- OPEN. -/
abbrev stOPEN : Nat := 0x2B
/-- NONE. -/
abbrev stNONE : Nat := 0x2C
/-- LOST. -/
abbrev stLOST : Nat := 0x2D

/-! ### Strongroom Links (R161, R163) -/

/-- A link at power-on: both ends train it. (DEDUCED, log 99) -/
def srLinkDefault : SrLink :=
  { upAt := none, training := true, start := 0, goodS := 0, goodG := 0, rxS := 0, rxG := 0, txS := 1, txG := 1
    sentS := 0, sentG := 0, nonceS := [], nonceG := [], key := [] }

/-- A Strongroom Link. -/
def srLink (s : State) (k : Nat) : SrLink := tabGet srLinkDefault s.sr.links k

/-- Replace a Strongroom Link. -/
def srLinkSet (k : Nat) (l : SrLink) (s : State) : State :=
  { s with sr := { s.sr with links := tabPut srLinkDefault k l s.sr.links } }

/-- The link is up. -/
def srUp (s : State) (k : Nat) : Bool :=
  match (srLink s k).upAt with
  | some u => decide (u ≤ s.clk.now)
  | none => false

/-- R163: the carrying gate, while its link is not declared down. -/
def srReach (s : State) : Option Nat := s.sr.carrying.filter (srUp s)

/-- R161: the carrying gate sends a frame under its next counter, which the strongroom accepts. -/
def frameIn (s : State) : State :=
  match s.sr.carrying with
  | some k =>
    let l := srLink s k
    srLinkSet k { l with txG := l.txG + 1, sentG := s.clk.now, rxS := max l.rxS (l.txG + 1), goodS := s.clk.now } s
  | none => s

/-- R161: the strongroom sends a frame on the carrying link under its next counter, which the gate accepts. -/
def frameOut (s : State) : State :=
  match s.sr.carrying with
  | some k =>
    let l := srLink s k
    srLinkSet k { l with txS := l.txS + 1, sentS := s.clk.now, rxG := max l.rxG (l.txS + 1), goodG := s.clk.now } s
  | none => s

/-! ### Request slots (R164) -/

/-- FCLK in one SCLK: 200 MHz, or 3.125 MHz on VBAK with no link up (Table 6-9). -/
def sclkPeriod (s : State) : Nat := if s.sr.onVbak && !(srUp s 0 || srUp s 1) then 320 else 5

/-- An empty request slot. -/
def reqSlotDefault : ReqSlot := { words := [], served := 0, reply := [], busy := false }

/-- A request slot. (DEDUCED, log 101) -/
def reqSlot (s : State) (k : Nat) : ReqSlot := tabGet reqSlotDefault s.sr.slots k

/-- The Concierge, on wing 0, reaches the strongroom: a link carries and is up, and the corridor to its gate and back is up
(R163, R363). -/
def srOpen (s : State) : Bool :=
  match srReach s with
  | some k => pathUp s 0 (k % 2) && pathUp s (k % 2) 0
  | none => false

/-- Replace a request slot. -/
def reqSlotSet (k : Nat) (x : ReqSlot) (s : State) : State :=
  { s with sr := { s.sr with slots := tabPut reqSlotDefault k x s.sr.slots } }

/-- A reply (Table 6-6). -/
def replyBytes (seq status : Nat) (body : Bytes) : Bytes :=
  toLe 8 seq ++ toLe 2 status ++ toLe 2 (16 + body.length) ++ toLe 4 0 ++ body

/-- R164: a reply is written to its reply address, where that lies in the wing's DRAM, and the slot is free again. The hardware
of slots 4w + 2 and 4w + 3 takes its replies itself. (DESIGN CHOICE, log 251) -/
def slotReply (k : Nat) (reply : Bytes) (s : State) : State :=
  let x := reqSlot s k
  let a := leAt x.words 16 8
  let s1 := frameOut (reqSlotSet k { x with busy := false } s)
  if k % 4 < 2 ∧ dramIn s1 (k / 4) a reply.length ∧ a % 64 = 0 then dramWrite a reply s1 else s1

/-- Doorbells in the order of their service: of their arrival, those of one SCLK by ascending slot. -/
def doorInsert (p : Nat) (x : Door) : List Door → List Door
  | [] => [x]
  | y :: ys =>
    if x.at_ / p < y.at_ / p ∨ (x.at_ / p = y.at_ / p ∧ x.slot < y.slot) then x :: y :: ys else y :: doorInsert p x ys

/-- A doorbell arrives at the guard at a cycle; the slot is taken. -/
def doorPut (k kind at_ : Nat) (s : State) : State :=
  let s1 := reqSlotSet k { reqSlot s k with busy := true } s
  { s1 with sr := { s1.sr with doors := doorInsert (sclkPeriod s1) { slot := k, kind := kind, at_ := at_ } s1.sr.doors } }

/-- A request written by hardware to its slot, under the next sequence, with its doorbell: at the guard 480 FCLK later
(R162, R164). -/
def hwSubmit (k kind : Nat) (body : Bytes) (s : State) : State :=
  let x := reqSlot s k
  let b := toLe 8 (x.served + 1) ++ toLe 2 kind ++ toLe 2 (32 + body.length) ++ toLe 4 0 ++ toLe 8 (dramBase (k / 4)) ++ toLe 8 0 ++ body
  frameIn (doorPut k kind (s.clk.now + 480) (reqSlotSet k { x with words := b } s))

/-- The first request that waits for a wing's slot 4w + 2 is submitted, once the slot is free and a link carries. -/
def hwNext (w : Nat) (s : State) : State :=
  match tabGet [] s.sr.hwq w with
  | [] => s
  | r :: rs =>
    if (reqSlot s (4 * w + 2)).busy ∨ (srReach s).isNone then s
    else hwSubmit (4 * w + 2) r.kind (toLe 8 r.arg) { s with sr := { s.sr with hwq := tabPut [] w rs s.sr.hwq } }

/-- A wing's hardware has a request for slot 4w + 2: they use it in the order of readiness, and in one FCLK in the order
Porter, Concierge, MAC, command gate (R164). -/
def hwPost (w who kind arg : Nat) (s : State) : State :=
  let q := insertKey (fun r => r.at_ * 4 + r.who + 1) { at_ := s.clk.now, who := who, kind := kind, arg := arg } (tabGet [] s.sr.hwq w)
  hwNext w { s with sr := { s.sr with hwq := tabPut [] w q s.sr.hwq } }

/-- A request of a kind from a wing may be served: it is the front one, arrived, or none waits before it (R164). -/
def keeperFree (w kind : Nat) (s : State) : Bool :=
  match s.sr.doors with
  | [] => true
  | d :: _ => d.slot / 4 == w && d.kind == kind && decide (d.at_ ≤ s.clk.now)

/-- The Keeper has served the request of a slot: its reply is stored under its sequence and sent; the slot's next waiting
request follows. -/
def slotServed (k seq status : Nat) (body : Bytes) (s : State) : State :=
  let r := replyBytes seq status body
  let s1 := { s with sr := { s.sr with doors := s.sr.doors.filter (fun d => d.slot != k) } }
  let s2 := slotReply k r (reqSlotSet k { reqSlot s k with served := seq, reply := r } s1)
  if k % 4 = 2 then hwNext (k / 4) s2 else s2

/-- R164: the Keeper has served a request of a kind from a wing: the front one, or one that the wing's hardware carried through
slot 4w + 2 in this moment. -/
def reqServed (w kind status : Nat) (body : Bytes) (s : State) : State :=
  match s.sr.doors with
  | d :: _ =>
    if d.slot / 4 = w ∧ d.kind = kind then slotServed d.slot (leAt (reqSlot s d.slot).words 0 8) status body s else s
  | [] => slotServed (4 * w + 2) ((reqSlot s (4 * w + 2)).served + 1) status body s

/-- The reply status of a request of a kind for a status of Table 12-7: those of Table 6-6, in area 08 the numbers of R242, in
another area the code of Table 12-7 itself. (DESIGN CHOICE, log 259) -/
def reqStatus (kind st : Nat) : Nat :=
  if st = stDONE then 0 else if st = stMALFORMED then 1 else if st = stAUTH then 4 else if st = stNOPOWER then 5
  else if kind / 256 ≠ 8 then st
  else match [stNOT_OPEN, stSIGNATURE, stWRONG_UNIT, stVALIDITY, stUSED, stSTORE_FULL].idxOf? st,
      [stLEASE, stSTATE, stIN_USE, stOVERFLOW, stLENGTH, stRANGE].idxOf? st with
    | some i, _ => 6 + i
    | _, some i => 14 + i
    | _, _ => 3

/-! ### Messages and their answers (R357, R358, R361) -/

/-- A session that is not open. -/
def sessionDefault : Session :=
  { isOpen := false, level := 0, iface := 0, last := 0, parts := [], stored := [], subs := [], nextSub := 1, seq := 0
    lost := 0, queue := [], unacked := [] }

/-- A session by number (R355). -/
def sessGet (s : State) (n : Nat) : Session := tabGet sessionDefault s.emp.sessions n

/-- Replace a session. -/
def sessSet (n : Nat) (x : Session) (s : State) : State :=
  { s with emp := { s.emp with sessions := tabPut sessionDefault n x s.emp.sessions } }

/-- The first queued message that came by a path, and the queue without it. -/
def takeMsg (via : Via) : List Msg → Option Msg × List Msg
  | [] => (none, [])
  | m :: ms => if m.via = via then (some m, ms) else ((takeMsg via ms).1, m :: (takeMsg via ms).2)

/-- Keep a response of a session: the last 32 (R357). (DESIGN CHOICE, log 51) -/
def storeResponse (n reqId obj status : Nat) (body : Bytes) (s : State) : State :=
  let x := sessGet s n
  if x.isOpen then
    sessSet n { x with stored := ({ reqId := reqId, obj := obj, status := status, body := body } :: x.stored).take 32 } s
  else s

/-- R362: the response of a mailbox slot: written to the response buffer in this wing's DRAM, RSPLEN and DONE set,
GO cleared; a buffer outside populated DRAM sets ERR and writes nothing. -/
def mailboxRespond (w slot id obj status : Nat) (body : Bytes) (s : State) : State :=
  let a := regF s (mbxRsp w slot) 63 6 * 64
  let s1 := regPutF (mbxCtl w) slot slot 0 s
  if dramIn s1 w a 65616 then
    let hdr := [1, 0x81, 0, 1] ++ toBe 4 id ++ toBe 4 obj ++ toBe 2 status ++ toBe 2 body.length
    stat w (mbxStat w) slot 22
      (regPutF (mbxLen w slot) 63 32 (16 + body.length) (dramWrite a (hdr ++ body) s1))
  else regPutF (mbxStat w) (8 + slot) (8 + slot) 1 s1

/-- The Concierge answers a message: it leaves the queue, and its response goes back the way it came (R357, R361,
R362). -/
def answer (via : Via) (obj status : Nat) (body : Bytes) (s : State) : State :=
  let m := takeMsg via s.emp.queue
  let id := (m.1.map (·.reqId)).getD 0
  let s1 := { s with emp := { s.emp with queue := m.2, reply := some { via := some via, reqId := id, obj := obj
                                                                       status := status, body := body } } }
  match via with
  | .session n => storeResponse n id obj status body s1
  | .mailbox w slot => mailboxRespond w slot id obj status body s1
  | .slot k => slotServed k (leAt (reqSlot s1 k).words 0 8) (reqStatus (leAt (reqSlot s1 k).words 8 2) status) body s1

/-- The level of a path: a session's own, ENGINEER for a mailbox (R347, R362). -/
def viaLevel (s : State) : Via → Nat
  | .session n => (sessGet s n).level
  | .mailbox _ _ => 1
  | .slot _ => 1

/-- A path whose message may be served: of an open session or a mailbox, no other waiting before it (R363); of a request slot, the
front one, arrived (R164). (DEDUCED, log 50) -/
def viaOpen (s : State) : Via → Bool
  | .session n => (sessGet s n).isOpen && s.emp.queue.head?.all (fun m => m.via == .session n)
  | .mailbox w k => s.emp.queue.head?.all (fun m => m.via == .mailbox w k)
  | .slot k => (s.sr.doors.head?).any (fun d => d.slot == k && decide (d.at_ ≤ s.clk.now))

/-- A request slot's kind is of the object's area (Table 6-5); a message served is of the object it names. -/
def viaFits (s : State) (n : Nat) : Via → Bool
  | .slot _ => (s.sr.doors.head?).any (fun d => d.kind / 256 == n / 16777216)
  | _ => s.emp.queue.head?.all (fun m => m.obj == n)

/-- R422: the objects that the recovery loader does not serve; those of 0D.0200 to 0D.0221 for a GET alone. -/
def loaderHides (s : State) (n : Nat) (get : Bool) : Bool :=
  s.upd.shut && !(n / 16777216 == 0 || decide (0x0D010000 ≤ n ∧ n ≤ 0x0D012500) || n == 0x0D015000 || n == 0x0D015100 ||
    (get && decide (0x0D020000 ≤ n ∧ n ≤ 0x0D022100)) || n == 0x0C010000)

/-- Serve an EXEC of an object by a path: the existence, access and level checks of R358, then `f`, whose status and
body are the answer. LEGAL checks belong to the object's own meaning (R347). (DESIGN CHOICE, log 33) -/
def serve (via : Via) (n : Nat) (f : State → Nat × Bytes × State) (s : State) : State :=
  if !viaOpen s via || !viaFits s n via then s
  else if loaderHides s n false then answer via n stNO_OBJECT [] s
  else match objLookup s.part.wings n with
  | (.noObject, _) => answer via n stNO_OBJECT [] s
  | (.range, _) => answer via n stRANGE [] s
  | (.yes, none) => answer via n stNO_OBJECT [] s
  | (.yes, some d) =>
    if d.lev = .factory ∨ (d.lev = .engineer ∧ viaLevel s via = 0) then answer via n stLEVEL [] s
    else
      let r := f s
      answer via n r.1 r.2.1 r.2.2

/-- R350: a message that the Keeper serves, by request kind aa01 or aa02, from the Concierge through slot 2 of wing 0 or by a
request slot of its own: in its turn, or it waits. -/
def keeperServe (via : Via) (n kind : Nat) (f : State → Nat × Bytes × State) (s : State) : State :=
  match via with
  | .slot k => if keeperFree (k / 4) kind s then serve via n f s else s
  | _ =>
    if s.sr.doors.isEmpty then
      serve via n (fun s =>
        let r := f s
        if r.1 = stDONE ∨ r.1 = stAUTH ∨ r.1 = stNOPOWER ∨ kind / 256 = 8 then
          if !srOpen s then (stUNREACHABLE, [], s) else (r.1, r.2.1, slotServed 2 ((reqSlot r.2.2 2).served + 1) (reqStatus kind r.1) r.2.1 r.2.2)
        else r) s
    else s

/-- An EXEC of an object refused with a status is counted (R28, R54, R130). (DESIGN CHOICE, log 229) -/
def countRefusal (n st : Nat) (s : State) : State :=
  { s with emp := { s.emp with refused := tabMod 0 (n * 64 + st) (· + 1) s.emp.refused } }

/-- A check list: the first failing check answers its status (R358). -/
def firstFail : List (Bool × Nat) → Option Nat
  | [] => none
  | (ok, st) :: cs => if ok then firstFail cs else some st

/-- The state a command's outcome leaves; `s` where it answers none. -/
def nextOf (o : Host.Outcome State Fault Refusal) (s : State) : State :=
  match o with
  | .next t => t
  | _ => s

/-- Run `f` when every check passes, else answer the first failing check's status and change nothing. -/
def checked (cs : List (Bool × Nat)) (f : State → Nat × Bytes × State) (s : State) : Nat × Bytes × State :=
  match firstFail cs with
  | some st => (st, [], s)
  | none => f s

/-- `checked`, a refusal counted under the object's number. -/
def checkedCount (n : Nat) (cs : List (Bool × Nat)) (f : State → Nat × Bytes × State) (s : State) : Nat × Bytes × State :=
  match firstFail cs with
  | some st => (st, [], countRefusal n st s)
  | none => f s

/-- The records of an EXEC that returns records: a U32 count, then the records (R479). -/
def recordsBody (rs : List Bytes) : Bytes := toBe 4 rs.length ++ rs.flatten

end Sys2Proof.Machine
end

