-- ==== Sys2Proof/Machine/Intake.lean ====
section
/-! DEFINITION. Check-in's input queue (R26, R132 to R137) and the owner wing's neighbour and address tables (R96,
R103 to R105), which the Air Ports, the MAC, Check-in and the mode of service share. -/

namespace Sys2Proof.Machine

/-! ### Check-in's queue -/

/-- A wing's Check-in at rest; the Lobby's bucket is empty at power-on. -/
def ingDefault : Ing :=
  { queue := [], pipe := [], open_ := none, lastA := none, lastB := none, lastF := none, units := [0, 0, 0, 0]
    seq := 0, cons := 0, unrel := [], gb := [], tokens := 0, tokAt := 0, ops := [], commits := [], xqAt := 0, swept := []
    sweepAt := 0, restore := false }

/-- A wing's Check-in. -/
def ingGet (s : State) (w : Nat) : Ing := tabGet ingDefault s.ing w

/-- Replace a wing's Check-in. -/
def ingSet (w : Nat) (x : Ing) (s : State) : State := { s with ing := tabPut ingDefault w x s.ing }

/-- R136: the order of frames by ready instant, then air frames by hearing wing, port and lane, then carried ones. -/
def inBefore (a b : InFrame) : Bool :=
  decide (a.t0 < b.t0) || (a.t0 == b.t0 && ((a.air && !b.air) || (a.air && b.air &&
    (decide (a.port < b.port) || (a.port == b.port && decide (a.lane < b.lane))))))

/-- Insert a frame in the order of R136, behind those it equals. -/
def inInsert (f : InFrame) : List InFrame → List InFrame
  | [] => [f]
  | x :: xs => if inBefore f x then f :: x :: xs else x :: inInsert f xs

/-- R137: the open batch closes at a cycle; its frames are admitted at max(close, A of the batch before + 2,000). -/
def closeBatch (at_ : Nat) (x : Ing) : Ing :=
  match x.open_ with
  | none => x
  | some _ =>
    let a := match x.lastB with
      | some b => max at_ (b + 2000)
      | none => at_
    { x with open_ := none, lastB := some a
             queue := x.queue.map (fun f => if f.mode = some 1 ∧ f.batch = none then { f with batch := some a } else f) }

/-- The queue with a mode of service noted in the frame that comes first among those without one. -/
def noteMode (m : Nat) : List InFrame → List InFrame
  | [] => []
  | f :: fs => if f.mode = none then { f with mode := some m } :: fs else f :: noteMode m fs

/-- R33, R137: a frame with ready instant `e` ends in a mode of service: in STEADY it joins the open batch, or opens one
when that has closed; the sixteenth closes it. -/
def frameReady (m e : Nat) (x : Ing) : Ing :=
  let x1 := match x.open_ with
    | some (e0, _) => if e0 + 40000 < e then closeBatch (e0 + 40000) x else x
    | none => x
  let x2 := { x1 with queue := noteMode m x1.queue }
  if m = 1 then
    match x2.open_ with
    | none => { x2 with open_ := some (e, 1) }
    | some (e0, n) => if n = 15 then closeBatch e { x2 with open_ := some (e0, 16) } else { x2 with open_ := some (e0, n + 1) }
  else x2

/-- The frames whose ready instants have come by a cycle ended in mode `m`. -/
def ingReady (m c : Nat) (x : Ing) : Ing :=
  (x.queue.filter (fun f => f.mode.isNone && decide (f.t0 ≤ c))).foldl (fun x f => frameReady m f.t0 x) x

/-- A wing's Check-in with the frames whose ready instants have come (R33: in the mode in force). -/
def ingNow (s : State) (w : Nat) : Ing := ingReady s.mode.cur s.clk.now (ingGet s w)

/-- A frame reaches Check-in's queue (R132); from its ready instant it has a mode and a batch (R33, R137). -/
def inputPush (w : Nat) (f : InFrame) (s : State) : State :=
  let x := ingGet s w
  let s1 := ingSet w { x with queue := inInsert { f with mode := none } x.queue } s
  ingSet w (ingNow s1 w) s1

/-- Places of a wing's Check-in input queue by mode (Table 1-12). -/
def queuePlaces (m : Nat) : Nat := if m = 0 then 1024 else if m = 1 then 2048 else 4096

/-- Places taken in a wing's queue: reserved or holding a frame (R26). -/
def placesUsed (s : State) (w : Nat) : Nat := tabGet 0 s.air.places w

/-- Set a wing's places taken. -/
def placesSet (w n : Nat) (s : State) : State := { s with air := { s.air with places := tabPut 0 w n s.air.places } }

/-- A wing offers a place: Check-in is enabled there and the queue has room (R26, R134). -/
def placeFree (s : State) (w : Nat) : Bool :=
  regF s (ingCtl w) 0 0 == 1 && decide (placesUsed s w < queuePlaces s.mode.cur)

/-- An ING_STAT W1C flag set (Table 5-16). -/
def ingFlag (w b : Nat) (s : State) : State := stat w (ingStat w) b 9 s

/-- R133: a carried frame's descriptor that finds no free place: written back QFULL, counted, QFULL set, event 0x0502; its bell
rings if asked. -/
def carriedFull (w a : Nat) (bellOn : Bool) (s : State) : State :=
  let s1 := (if bellOn then bell w 8 else id) (dramWrite (a + 11) (toLe 1 1) s)
  raiseRate (5100 + w) 1000000000 w 0x0502 w w 1 (ingFlag w 2 (count w (tallyIng 26) s1))

/-- R153: where a descriptor was taken in this FCLK with the wing's last place, that place is a lane's and the descriptor is
QFULL. -/
def carriedYields (w : Nat) (s : State) : State :=
  let x := ingGet s w
  match x.queue.find? (fun f => !f.air && f.t0 == s.clk.now) with
  | some f =>
    if x.xqAt = s.clk.now + 1 ∧ regF s (ingCtl w) 0 0 = 1 ∧ placesUsed s w = queuePlaces s.mode.cur then
      carriedFull w f.desc f.bellOn (placesSet w (placesUsed s w - 1) (ingSet w { x with queue := x.queue.erase f } s))
    else s
  | none => s

/-- R26, R97: a place reserved in every wing that has one free; the mask of those. -/
def reservePlaces (s : State) : Nat × State :=
  (List.range s.part.wings).foldl (fun x w =>
    let s := carriedYields w x.2
    if placeFree s w then (x.1 ||| 2 ^ w, placesSet w (placesUsed s w + 1) s) else (x.1, s)) (0, s)

/-- Return the places of a mask. -/
def returnPlaces (mask : Nat) (s : State) : State :=
  (List.range 8).foldl (fun s w => if bit mask w then placesSet w (placesUsed s w - 1) s else s) s

/-! ### Neighbour entries and the address table -/

/-- A free neighbour entry. -/
def nbrDefault : Nbr :=
  { addr := 0, short := 0, flags := 0, dir := 0, ctrA := 0, ctrB := 0, keyA := 0, keyB := 0, genA := 0, genB := 0
    seq := 0, slot := 0, ends := 0, heard := 0, anchor := 0, period := 0, port := 0, bin := 0, drift := 0, rssi := 0
    pend := 0, exch := 0 }

/-- A neighbour entry by `wing * 8192 + index`. -/
def nbrGet (s : State) (k : Nat) : Nbr := tabGet nbrDefault s.mac.nbrs k

/-- Replace a neighbour entry. -/
def nbrSet (k : Nat) (x : Nbr) (s : State) : State := { s with mac := { s.mac with nbrs := tabPut nbrDefault k x s.mac.nbrs } }

/-- A neighbour entry with one flag of Table 4-5. -/
def nbrFlag (i : Nat) (v : Bool) (x : Nbr) : Nbr := { x with flags := setBits x.flags i i (b2n v) }

/-- CRC-32C over an extended address's octets in transmission order (R96, R104). -/
def addrCrc (a : Nat) : Nat := crc32c (toLe 8 a)

/-- The owner wing of an extended address (R96). -/
def ownerOf (s : State) (a : Nat) : Nat := addrCrc a % s.part.wings

/-- The entry that holds an address on a wing. -/
def nbrFind (s : State) (w a : Nat) : Option Nat :=
  (s.mac.nbrs.find? (fun e => e.1 / 8192 == w && e.2.addr == a && bit e.2.flags 0)).map (·.1)

/-- A commit for an address is pending: a frame of it has been looked up and not yet judged (R105). -/
def commitPending (s : State) (a : Nat) : Bool :=
  s.air.lanes.any (fun e => e.2.looked && e.2.outcome.isNone && e.2.src == .ext a)

/-- R105: an entry is pinned by PINSW, PINDL, CANDIDATE or a pending commit. -/
def nbrPinned (s : State) (x : Nbr) : Bool :=
  bit x.flags 1 || bit x.flags 2 || bit x.flags 3 || commitPending s x.addr

/-- The probes of an address's slot, in order (R104). -/
def atProbes (s : State) (w a : Nat) : List Nat :=
  (List.range 32).map (fun j => (regGet s (macAtBase w)).toNat + 32 * ((addrCrc a + j) % 2097152))

/-- The slot that holds an address (R104). -/
def atFind (s : State) (w a : Nat) : Option Nat :=
  if a = 0 then none else (atProbes s w a).find? (fun p => leNat (dramRead s p 8) == a)

/-- The slot of an address, or a free one it can be given (R104). -/
def atGive (s : State) (w a : Nat) : Option Nat :=
  match atFind s w a with
  | some p => some p
  | none => (atProbes s w a).find? (fun p => leNat (dramRead s p 8) == 0)

/-- An entry's replay and drift state as a slot (Table 4-6). -/
def slotBytes (x : Nbr) : Bytes :=
  toLe 8 x.addr ++ toLe 4 x.dir ++ toLe 4 x.ctrA ++ toLe 4 x.ctrB ++ toLe 1 x.keyA ++ toLe 1 x.keyB ++ toLe 2 x.genA ++
  toLe 2 x.genB ++ toLe 1 x.seq ++ toLe 1 (x.slot + 2 * b2n (bit x.flags 7)) ++ toLe 4 (unsgn 32 x.drift)

/-- The parent candidate of a short address (04.0061.pp). -/
def candidateShort (s : State) (n : Nat) : Option Nat :=
  (List.range 4).find? (fun p => obj s (0x04006000 + p) != 0 && obj s (0x04006100 + p) == n)

/-- The parent candidate of an extended address (04.0060.pp). -/
def candidateExt (s : State) (a : Nat) : Option Nat :=
  if a = 0 then none else (List.range 4).find? (fun p => obj s (0x04006000 + p) == a)

/-- A fresh entry of an address with no slot. -/
def nbrFresh (a : Nat) : Nbr := { nbrDefault with addr := a, short := 0xFFFE, flags := 1, dir := 0xFFFFFFFF }

/-- R103, R113: an entry of a parent candidate is marked CANDIDATE and holds its short address; any other is not and holds none. -/
def nbrMark (s : State) (x : Nbr) : Nbr :=
  match candidateExt s x.addr with
  | some p => nbrFlag 3 true { x with short := obj s (0x04006100 + p) }
  | none => nbrFlag 3 false { x with short := 0xFFFE }

/-- A new entry filled from the address's slot, or fresh (R105). -/
def nbrFill (s : State) (w a : Nat) : Nbr := nbrMark s <|
  match atFind s w a with
  | none => nbrFresh a
  | some p =>
    let b := dramRead s p 32
    { nbrFresh a with
      dir := leAt b 8 4, ctrA := leAt b 12 4, ctrB := leAt b 16 4, keyA := leAt b 20 1, keyB := leAt b 21 1
      genA := leAt b 22 2, genB := leAt b 24 2, seq := leAt b 26 1, slot := leAt b 27 1 % 2
      flags := 1 + (if bit (leAt b 27 1) 1 then 128 else 0), drift := sgn 32 (leAt b 28 4) }

/-- The entry of an address as it stands or would be filled: its directory index (R97). -/
def dirOf (s : State) (a : Nat) : Nat :=
  let w := ownerOf s a
  match nbrFind s w a with
  | some k => (nbrGet s k).dir
  | none => (nbrFill s w a).dir

/-- An entry for a new address (R105): a free one, or the unpinned one heard least recently, ties to the lower index;
with the victim. -/
def nbrRoom (s : State) (w : Nat) : Option (Nat × Option Nbr) :=
  let k := tabGap (w * 8192) s.mac.nbrs
  if k < w * 8192 + 8192 then some (k, none)
  else s.mac.nbrs.foldl (fun m e =>
    if e.1 / 8192 = w ∧ !nbrPinned s e.2 then
      match m with
      | some (_, some v) => if e.2.heard < v.heard then some (e.1, some e.2) else m
      | _ => some (e.1, some e.2)
    else m) none

/-- A MAC_STAT W1C flag set (Table 4-15, Table 15-4). -/
def macFlag (w b : Nat) (s : State) : State := stat w (macStat w) b 6 s

/-- R104: no slot could be found or given: ADDR_FULL counted, ADDRFULL set, event 0x0402. -/
def addrFull (w a : Nat) (s : State) : State := raise w 0x0402 w w a (macFlag w 4 (count w (tallyMac 20) s))

/-- R104, R105: evict an entry: its replay and drift state goes back to its slot. -/
def nbrEvict (w k : Nat) (v : Nbr) (p : Nat) (s : State) : State :=
  count w (tallyMac 19) (nbrSet k nbrDefault (dramWrite p (slotBytes v) s))

/-- R105: a new address's entry made on its owner wing, evicting if it must; none when every entry is pinned or the
victim's write-back fails. (DESIGN CHOICE, log 66) -/
def nbrMake (w a : Nat) (s : State) : Option Nat × State :=
  match nbrRoom s w with
  | none => (none, s)
  | some (k, none) => (some k, nbrSet k (nbrFill s w a) s)
  | some (k, some v) =>
    match atGive s w v.addr with
    | none => (none, addrFull w v.addr s)
    | some p => let s1 := nbrEvict w k v p s; (some k, nbrSet k (nbrFill s1 w a) s1)

/-- R103, R113: a candidate's entry is held on its owner wing, marked. -/
def candidateHold (a : Nat) (s : State) : State :=
  if a = 0 then s
  else match nbrFind s (ownerOf s a) a with
    | some k => nbrSet k (nbrMark s (nbrGet s k)) s
    | none => (nbrMake (ownerOf s a) a s).2

/-- R113: the candidates that a wing owns are held on it. -/
def candidatesHold (w : Nat) (s : State) : State :=
  (List.range 4).foldl (fun s p =>
    let a := obj s (0x04006000 + p)
    if ownerOf s a = w then candidateHold a s else s) s

/-! ### The directory and the Guest Book (R126 to R129) -/

/-- The Guest Book entry number that holds an index on a wing. -/
def gbFind (s : State) (w i : Nat) : Option Nat :=
  ((ingGet s w).gb.find? (fun e => leAt e.2 0 4 == i)).map (·.1)

/-- The directory slot of an index, by package address (R128). -/
def dirSlot (s : State) (i : Nat) : Nat :=
  regF s (ingDirCfg (i % s.part.wings)) 63 30 * 1073741824 + i / s.part.wings * 2048

/-- The current entry of an index: the Guest Book's copy first (R129). -/
def entryOf (s : State) (i : Nat) : Bytes :=
  match gbFind s (i % s.part.wings) i with
  | some k => tabGet [] (ingGet s (i % s.part.wings)).gb k
  | none => dramRead s (dirSlot s i) 256

/-- An entry's flags (Table 5-4). -/
def entFlags (e : Bytes) : Nat := leAt e 4 2

/-- The air tick of a wing at a cycle (Table 0-3): microseconds since the wing's release from reset.
(DEDUCED, log 18) -/
def airTick (s : State) (w c : Nat) : Nat := (c - tabGet 0 s.clk.tick0 w) / 1000 % 4294967296

end Sys2Proof.Machine
end

