-- ==== Sys2Proof/Machine/Job.lean ====
section
/-! DEFINITION. PHY modes and air times (R71, R72), the Air Ports' state, and the MAC's work on each port: channel
access, attempts and completion of what it sends (R106 to R112). -/

namespace Sys2Proof.Machine

/-! ### PHY modes (R71, R72) -/

/-- A PHY mode code that is not reserved (Table 3-7). -/
def modeOk (m : Nat) : Bool := decide (m < 64 ∧ m % 4 ≠ 3)

/-- Bit rate of a mode code, b/s (Table 3-7). -/
def modeRate (m : Nat) : Nat := if m % 4 = 0 then 50000 else if m % 4 = 1 then 100000 else 150000

/-- The mode is 4-FSK. -/
def modeFsk4 (m : Nat) : Bool := bit m 2

/-- The mode is coded. -/
def modeCoded (m : Nat) : Bool := decide (m / 8 % 4 ≠ 0)

/-- R72: bits on air of a frame with `pre` octets of preamble and a PSDU of `len` octets. -/
def airBits (m pre len : Nat) : Nat :=
  if modeCoded m then 8 * (pre + 2 + 2 * (len + 3)) else 8 * (pre + 4 + len)

/-- R72: air time in FCLK, a fraction rounded up. -/
def airTime (m pre len : Nat) : Nat := ceilDiv (airBits m pre len * 1000000000) (modeRate m)

/-- `n` symbol periods of a mode in FCLK (Table 3-6), rounded up. -/
def symbols (m n : Nat) : Nat := ceilDiv (n * 1000000000 * (if modeFsk4 m then 2 else 1)) (modeRate m)

/-- The least preamble of a mode in octets (R75). -/
def leastPreamble (m : Nat) : Nat := if modeFsk4 m then 16 else 8

/-! ### Ports -/

/-- A port at rest. -/
def portDefault : AirPort :=
  { txen := false, cur := none, ended := false, onAir := false, resv := [], blank := [], tries := 0, origin := 0, smpclk := false
    smpOff := 0, spi := none, bufs := [], clips := [], window := none }

/-- An Air Port by port number 2w + p. -/
def portGet (s : State) (pn : Nat) : AirPort := tabGet portDefault s.air.ports pn

/-- Replace an Air Port. -/
def portSet (pn : Nat) (x : AirPort) (s : State) : State :=
  { s with air := { s.air with ports := tabPut portDefault pn x s.air.ports } }

/-- A port counter (Table 3-19) advanced. -/
def airCount (pn k : Nat) (s : State) : State := count (pn / 2) (tallyAir (pn % 2) k) s

/-- AIR_CFG.EN. -/
def airEn (s : State) (pn : Nat) : Bool := regF s (airCfg (pn / 2) (pn % 2)) 0 0 == 1

/-- AIR_STAT.LOCK. -/
def airLock (s : State) (pn : Nat) : Bool := regF s (airStat (pn / 2) (pn % 2)) 0 0 == 1

/-- TXTAIL in FCLK; 0 acts as 1 us (Table 3-14). -/
def txTail (s : State) (pn : Nat) : Nat := max 1 (regF s (airTxcfg (pn / 2) (pn % 2)) 23 16) * 1000

/-- The port exists in the variant. -/
def portIn (s : State) (pn : Nat) : Bool := decide (pn < 2 * s.part.wings)

/-- A transmission at cycle `on_` for a frame of a given air time: 35,200 FCLK of lead, the frame, the tail (R68). -/
def spanAt (s : State) (pn rank ident desc on_ air bin : Nat) (bellOn : Bool) (kind : Nat) : Span :=
  { rank := rank, ident := ident, desc := desc, on_ := on_, first := on_ + 35200, last := on_ + 35200 + air
    rel := on_ + 35200 + air + txTail s pn, bin := bin, bellOn := bellOn, kind := kind }

/-- TXON of AIR_STAT and the port's TXEN together. -/
def setTxen (pn v : Nat) (s : State) : State := regPutF (airStat (pn / 2) (pn % 2)) 1 1 v s

/-- The armed slots that have fired for a port, their fire cycle to come (R57). -/
def firesOn (s : State) (pn : Nat) : List Nat :=
  s.armed.filterMap (fun e => if e.2.state = 2 ∧ bit e.2.ports pn then e.2.fireAt else none)

/-- The cycle at which TT_MAT, at the increment in force, comes within the lead of a target (R50). -/
def leadCycle (s : State) (w tgt : Nat) : Option Nat :=
  let r := replica s w
  if r.inc = 0 ∨ !r.live then none
  else
    let d : Int := (tgt * 2 ^ 32 : Nat) - (35200 * r.inc : Nat) - (r.acc : Nat)
    some (s.clk.now + (if d ≤ 0 then 0 else ceilDiv d.toNat r.inc))

/-- The leads to come of the ARMED AIR_LAUNCH entries of a port (R50, R80). -/
def leadsOn (s : State) (pn : Nat) : List Nat :=
  s.tt.filterMap (fun e =>
    if e.1 / 256 = pn / 2 ∧ bits e.2.ctl 10 8 = 1 ∧ bits e.2.ctl 3 0 = 3 ∧ bits e.2.ctl 19 16 = pn % 2 ∧ e.2.leadAt.isNone then
      leadCycle s (e.1 / 256) e.2.tgt else none)

/-- The planned CSL exchange of a port as a span of rank 4 (R81, R111). -/
def cslSpan (s : State) (pn : Nat) : List Span :=
  match tabGet none s.mac.jobs pn with
  | some j => if j.phase = 5 ∧ j.csl then [spanAt s pn 4 0 0 j.start j.air j.bin false 1] else []
  | none => []

/-- The reserved TXEN assertions of a port (R80): acknowledgements and spaced armed frames, fired slots, armed launches, and,
but for the exchange itself, a planned CSL exchange. -/
def reservedOn (s : State) (pn : Nat) (own : Bool) : List Nat :=
  (portGet s pn).resv.map (·.on_) ++ firesOn s pn ++ leadsOn s pn ++ (if own then [] else (cslSpan s pn).map (·.on_))

/-- The first of some cycles at or after a cycle. -/
def firstFrom (t : Nat) (l : List Nat) : Option Nat :=
  l.foldl (fun m a => if t ≤ a then some (min a (m.getD a)) else m) none

/-- R80: an ordinary span fits before the next reserved assertion; `own` is the MAC's own exchange. -/
def fits (s : State) (pn : Nat) (x : Span) (own : Bool) : Bool :=
  match firstFrom x.on_ (reservedOn s pn own) with
  | none => true
  | some r => decide (x.last + txTail s pn + 1000 ≤ r)


/-! ### The MAC's work on a port -/

/-- The job of the MAC on a port. -/
def jobGet (s : State) (pn : Nat) : Option Job := tabGet none s.mac.jobs pn

/-- Replace the job of a port. -/
def jobSet (pn : Nat) (j : Option Job) (s : State) : State :=
  { s with mac := { s.mac with jobs := tabPut none pn j s.mac.jobs } }

/-- Ten symbol periods of a mode in thirds of a nanosecond (Table 3-6). -/
def tenSymbols3 (m : Nat) : Nat := 30000000000 / modeRate m * (if modeFsk4 m then 2 else 1)

/-- The cycle at which PTIME reads a value, at the rate in force (R324). -/
def cycleAt (s : State) (p : Nat) : Nat :=
  (s.clk.now + ((p : Int) * nsFine - s.clk.ptime + (nsFine + s.clk.rate) - 1) / (nsFine + s.clk.rate)).toNat

/-- R111: sample `j` of a partner predicted, PTIME ns. -/
def cslSample (x : Nbr) (m j : Nat) : Nat :=
  x.anchor + (((j * x.period * tenSymbols3 m : Nat) : Int) * (1024000000 + x.drift) / 3072000000).toNat

/-- R111: the uncertainty of a sample in us: U0 + M (s_j - t_a), rounded up. -/
def cslDoubt (s : State) (x : Nbr) (sj : Nat) : Nat :=
  obj s 0x04005000 + ceilDiv (obj s 0x04005100 * (sj - x.anchor)) (1000000000 * 4294967296)

/-- R111: the wake-up frames for an uncertainty in us. -/
def cslFrames (x : Nbr) (m u w : Nat) : Nat :=
  ceilDiv ((if bit x.flags 5 then x.period * tenSymbols3 m / 3 else 0) + 2 * u * 1000 + w) w

/-- R113: a frame's span and RXGUARD would overlap the parent's window on its port. -/
def windowBlocks (s : State) (pn : Nat) (x : Span) : Bool :=
  match s.mac.window with
  | some (a, b) => s.mac.bport == pn &&
      decide (ptimeAt s x.on_ ≤ b ∧ a ≤ ptimeAt s (x.rel + regF s (airCfg (pn / 2) (pn % 2)) 47 32 * 1000))
  | none => false

/-- R111: the exchange at sample `j`: the TXEN assertion and the whole length on air; none where it lies too near, does not
fit or would overlap the parent's window (R113). -/
def cslTry (s : State) (pn : Nat) (job : Job) (x : Nbr) (j : Nat) : Option (Nat × Nat) :=
  let sj := cslSample x job.mode j
  let u := cslDoubt s x sj
  let w := airTime job.mode (leastPreamble job.mode) 16
  let air := cslFrames x job.mode u w * w + symbols job.mode 10 + airTime job.mode job.preamble job.psdu
  let first := cycleAt s (sj - u * 1000)
  let sp := spanAt s pn 4 0 0 (first - 35200) air job.bin false 1
  if s.clk.now + 36200 ≤ first ∧ fits s pn sp true ∧ !windowBlocks s pn sp then some (first - 35200, air) else none

/-- The first of `n` samples from `j` that serves (R111). -/
def cslSearch (s : State) (pn : Nat) (job : Job) (x : Nbr) : Nat → Nat → Option (Nat × Nat)
  | 0, _ => none
  | n + 1, j => match cslTry s pn job x j with
    | some r => some r
    | none => cslSearch s pn job x n (j + 1)

/-- R111: samples after which nothing reserved on the port lies ahead. -/
def cslReach (s : State) (pn : Nat) (job : Job) (x : Nbr) : Nat :=
  let far := (reservedOn s pn true).foldl max ((s.mac.window.map (fun w => cycleAt s w.2)).getD 0)
  66 + (far - s.clk.now) / max 1 (x.period * tenSymbols3 job.mode / 6)

/-- R111: plan an exchange with a CSL partner at the first sample that serves. -/
def cslPlan (pn : Nat) (job : Job) (s : State) : Job :=
  let x := nbrGet s job.nbr
  let p := ((x.period * tenSymbols3 job.mode : Nat) : Int) * (1024000000 + x.drift)
  let j0 := if p = 0 then 1 else (((ptimeNs s - x.anchor : Nat) : Int) * 3072000000 / p).toNat
  match cslSearch s pn job x (cslReach s pn job x) j0 with
  | some (on_, air) => { job with phase := 5, start := on_, air := air, ctr := none }
  | none => { job with phase := 4, ctr := none }

/-- R107, R108, R111: a frame begins its channel access, or its exchange. -/
def jobBegin (pn : Nat) (j : Job) (s : State) : State :=
  if j.csl then jobSet pn (some (cslPlan pn j s)) s
  else jobSet pn (some { j with phase := 0, start := s.clk.now, nb := 0, be := obj s 0x04004000, ctr := none }) s

/-- R106: a port takes one frame of the MAC at a time; others wait their turn. -/
def jobStart (pn : Nat) (j : Job) (s : State) : State :=
  if (jobGet s pn).isNone then jobBegin pn j s
  else { s with mac := { s.mac with waits := s.mac.waits ++ [(pn, j)] } }

/-- The port's frame is done: the next that waits for the port begins. -/
def jobDone (pn : Nat) (s : State) : State :=
  let s1 := jobSet pn none s
  match s1.mac.waits.find? (fun x => x.1 == pn) with
  | none => s1
  | some x => jobBegin pn x.2 { s1 with mac := { s1.mac with waits := s1.mac.waits.erase x } }

/-- R108: a job that waits for its port begins again once the port is free. (DESIGN CHOICE, log 69) -/
def jobKick (pn : Nat) (s : State) : State :=
  match jobGet s pn with
  | some j => if j.phase = 4 ∧ !(portGet s pn).txen ∧ (portGet s pn).cur.isNone then jobBegin pn j s else s
  | none => s

/-- R108, R120: a frame deferred or cut off begins again when the port is free; a flood repetition counts RETRIED. -/
def jobAgain (pn : Nat) (s : State) : State :=
  match jobGet s pn with
  | some j => jobKick pn ((if j.kind = 2 then count 0 (tallyTc 7) else id)
      (jobSet pn (some { j with phase := 4, ctr := none }) s))
  | none => s

/-- A send request outstanding on an entry is counted off: PINDL while any remains (R105). -/
def unpinSend (k : Nat) (s : State) : State :=
  let x := nbrGet s k
  nbrSet k (nbrFlag 2 (decide (1 < x.pend)) { x with pend := x.pend - 1 }) s

/-- Status, attempts and time of a send request written back, and its source raised when it asks (Table 4-7). -/
def requestBack (w a flags status tries time : Nat) (s : State) : State :=
  let s1 := dramWrite (a + 20) (toLe 1 status ++ toLe 1 tries ++ toLe 2 0 ++ toLe 8 time) s
  if bit flags 2 then bell w 4 s1 else s1

/-- R106, R108: a request completes with a status; a held reply has no write-back. -/
def jobComplete (pn status : Nat) (s : State) : State :=
  match jobGet s pn with
  | none => s
  | some j =>
    let s1 := unpinSend j.nbr s
    jobDone pn (if j.kind = 0 then requestBack j.wing j.entry j.flags status j.tries j.firstAt s1 else s1)

/-- R112, R124: an exchange with a partner completes: its PTIME is kept. (DESIGN CHOICE, log 238) -/
def exchangeDone (j : Job) (s : State) : State :=
  if j.csl then nbrSet j.nbr { nbrGet s j.nbr with exch := ptimeNs s } s else s

/-- R120: one transmission of a flood's repetition is sent: SENT; the flood ends with its last. -/
def floodSent (ident : Nat) (s : State) : State :=
  let l := s.mac.floods.map (fun f => if f.ident = ident then { f with sent := f.sent + 1 } else f)
  count 0 (tallyTc 6) { s with mac := { s.mac with floods := l.filter (fun f => decide (f.sent < f.left)) } }

/-- R108, R480: a frame of the MAC has left the port: one attempt made. With AR it awaits its Enh-Ack. -/
def jobSent (pn first last : Nat) (s : State) : State :=
  match jobGet s pn with
  | none => s
  | some j =>
    if j.phase ≠ 2 then s
    else
      let j1 := { j with tries := j.tries + 1, firstAt := ptimeAt s first }
      if j.kind ≤ 1 then
        if bit j.flags 0 then
          jobSet pn (some { j1 with phase := 3, start := last, winEnd := last + 1000000 + obj s 0x04004200 * 1000 }) s
        else jobComplete pn 1 (exchangeDone j (jobSet pn (some j1) s))
      else if j.kind = 2 then jobDone pn (floodSent j.flood s)
      else if j.kind = 3 then jobDone pn (count 0 (tallyTc 3) s)
      else jobDone pn s

end Sys2Proof.Machine
end

