-- ==== Sys2Proof/Machine/Mains.lean ====
section
/-! DEFINITION. The mains angle timebase and half-cycle frequency (R34 to R42), with the counting of armed slots at
each half-cycle (R56). -/

namespace Sys2Proof.Machine

/-- One mains cycle in the accumulator's unit, 2^-56 cycle. -/
def oneCycle : Nat := 2 ^ 56

/-- Nominal frequency in Hz, 02.0002.00. -/
def nominalHz (s : State) : Nat := obj s 0x02000200

/-- Nominal increment per FCLK (Table 2-3). -/
def nominalInc (s : State) : Nat := (oneCycle * nominalHz s + 500000000) / 1000000000

/-- 1.5 nominal half-cycle periods in FCLK (R35), rounded up. -/
def lossTime (s : State) : Nat := ceilDiv 750000000 (nominalHz s)

/-- The six phase-voltage channels (R170). -/
def isPhaseVoltage (ch : Nat) : Bool := decide (ch < 3 ∨ (8 ≤ ch ∧ ch < 11))

/-- A channel with no crossing since a loss. -/
def chanDefault : Chan := { lastUp := none, lastDn := none, half := false, full := false, freq := 0, validAt := 0 }

/-- A channel's crossings. -/
def chanGet (s : State) (ch : Nat) : Chan := tabGet chanDefault s.mat.chans ch

/-- Replace a channel's crossings. -/
def chanSet (ch : Nat) (c : Chan) (s : State) : State :=
  { s with mat := { s.mat with chans := tabPut chanDefault ch c s.mat.chans } }

/-- The fundamental's RMS reaches the loss threshold times the channel's nominal voltage (R35). -/
def rmsOk (s : State) (ch rms : Nat) : Bool := decide (obj s 0x02000300 * obj s (0x06001400 + ch) ≤ rms * 4294967296)

/-- R42: half-cycle frequency in uHz from the crossings' distance in ps, to the nearest. -/
def halfFreq (dps : Nat) : Nat := (1000000000000000000 + dps) / (2 * dps)

/-- The half-cycle from the previous opposite crossing, if no loss lies between (R42). -/
def halfCycle (s : State) (c : Chan) (up : Bool) (tc : Nat) : Option Nat :=
  match (if up then c.lastDn else c.lastUp) with
  | some p => if p < tc ∧ (tc - p) * nominalHz s ≤ 750000000000 then some (tc - p) else none
  | none => none

/-- The half-cycle is valid: within 15% of nominal and enough RMS. -/
def halfValid (s : State) (ch rms : Nat) (f : Option Nat) : Bool :=
  match f with
  | some f => rmsOk s ch rms && decide (85 * nominalHz s * 10000 ≤ f ∧ f ≤ 115 * nominalHz s * 10000)
  | none => false

/-- The mean increment of R36 step 1: over the last full cycle, or the half-cycle frequency. -/
def meanInc (full : Option Nat) (half : Nat) : Nat :=
  match full with
  | some p => (2 * oneCycle * 1000 + p) / (2 * p)
  | none => (oneCycle * 1000 + half) / (2 * half)

/-- R36 steps 3 and 4: the increment from the mean one and the phase error in 2^-56 cycle. -/
def chosenInc (nom incM : Nat) (e : Int) : Nat :=
  let inc : Int :=
    if (oneCycle : Int) < 100 * e then ((incM : Int) * 98 + 50) / 100
    else if 100 * e < -(oneCycle : Int) then ((incM : Int) * 102 + 50) / 100
    else ((incM : Int) * (2 * oneCycle - 4 * e) + oneCycle) / (2 * oneCycle)
  min (115 * nom / 100) (max (ceilDiv (85 * nom) 100) inc.toNat)

/-- The reference MAT at a crossing `tc` ps, the present cycle being `now` (R36 step 2). -/
def refAt (s : State) (tc : Nat) : Int :=
  (s.mat.refAcc : Int) - (s.mat.refInc : Int) * ((s.clk.now : Int) * 1000 - tc) / 1000

/-- R35, R36: phase error at a crossing, in (-0.5, +0.5] cycle. -/
def phaseError (s : State) (up : Bool) (tc : Nat) : Int :=
  let x := (refAt s tc - (if up then 0 else (2 ^ 55 : Int))) % (oneCycle : Int)
  if (2 ^ 55 : Int) < x then x - oneCycle else x

/-- R35: MAT enters a state: events, LOCKLOST on every wing, strongroom source 9. -/
def matEnter (st matAt : Nat) (s : State) : State :=
  if st = s.mat.state then s
  else
    let s1 := if s.mat.state = 2 then eachWing (fun w s => stat w (ttStat w) 4 21 s) s else s
    let s2 := { s1 with mat := { s1.mat with state := st, once := s1.mat.once || st == 2 } }
    let s3 := if st = 2 then keeperRaise 0x0201 s.mat.source s.mat.epoch matAt s2
      else if st = 3 then keeperRaise 0x0202 s.mat.source matAt s.mat.why s2 else s2
    srRaise 9 s3

/-- Wings an update reaches: a link carries, and the wing's Corridor path from the gate is up (R40). -/
def updateMask (s : State) : Nat :=
  match s.sr.carrying with
  | none => 0
  | some g => (List.range s.part.wings).foldl (fun m w => if pathUp s g w then m ||| 2 ^ w else m) 0

/-- R39: an update sent to the wings, to apply at the triggering sample plus 4,096; `load` is the reference MAT of an
epoch's origin. (DEDUCED, log 24) -/
def sendUpdate (inc : Nat) (load : Option Nat) (s : State) : State :=
  let m := updateMask s
  let ap := s.clk.now + 4096
  frameOut { s with mat := { s.mat with
      refPend := s.mat.refPend ++ [(ap, inc)]
      pend := s.mat.pend ++ [{ at_ := ap, inc := inc, ref := load.getD 0, origin := load.isSome, live := s.mat.origin, mask := m }]
      reps := s.mat.reps.mapIdx (fun i r =>
        if bit m i then { r with given := s.mat.state, upd := s.clk.now, stale := false } else r) } }

/-- R36, R39: the increment chosen at a valid crossing: sent to the wings but in UNLOCKED, and in ACQUIRING before the epoch has
its origin; the reference loads it at the same cycle. -/
def giveIncrement (inc : Nat) (s : State) : State :=
  if s.mat.state = 1 ∧ !s.mat.origin then { s with mat := { s.mat with refPend := s.mat.refPend ++ [(s.clk.now + 4096, inc)] } }
  else sendUpdate inc none s

/-- R35, R39: the epoch's origin: the reference is loaded with 0 at the crossing `tc` ps, and the wings with the MAT of the
apply cycle. -/
def setOrigin (inc tc : Nat) (s : State) : State :=
  let acc0 := ((inc : Int) * ((s.clk.now : Int) * 1000 - tc) / 1000).toNat
  let accA := ((inc : Int) * ((s.clk.now : Int) * 1000 + 4096000 - tc) / 1000).toNat
  sendUpdate inc (some accA)
    { s with mat := { s.mat with origin := true, refAcc := acc0, refInc := inc, refPend := [] } }

/-- R35: phase error judged at a crossing of the source channel, valid or not: in LOCKED beyond 2^-8 cycle to ACQUIRING; in
ACQUIRING, at positive-going crossings, the sixteenth in a row within 2^-10 cycle to LOCKED. -/
def judgePhase (up : Bool) (e : Int) (matAt : Nat) (s : State) : State :=
  if s.mat.state = 2 then
    (if (2 ^ 48 : Int) < e ∨ e < -(2 ^ 48 : Int) then matEnter 1 0 { s with mat := { s.mat with good := 0 } } else s)
  else if s.mat.state = 1 ∧ up then
    let g := if -(2 ^ 46 : Int) ≤ e ∧ e ≤ (2 ^ 46 : Int) then s.mat.good + 1 else 0
    let s1 := { s with mat := { s.mat with good := g } }
    if 16 ≤ g then matEnter 2 (if s.mat.origin then matAt else 0) s1 else s1
  else s

/-- R35: a valid half-cycle ends: UNLOCKED to ACQUIRING, the reference starting at the crossing; COASTING to ACQUIRING at the
second in a row. -/
def validEnds (up : Bool) (tc inc : Nat) (s : State) : State :=
  let s := { s with mat := { s.mat with why := 1, lossAt := some (s.clk.now + lossTime s) } }
  if s.mat.state = 0 then
    let s1 := matEnter 1 0 s
    let acc := ((if up then (0 : Int) else 2 ^ 55) + (inc : Int) * ((s.clk.now : Int) * 1000 - tc) / 1000) % (2 ^ 96 : Int)
    { s1 with mat := { s1.mat with good := 0, refInc := inc, refAcc := acc.toNat } }
  else if s.mat.state = 3 then
    if s.mat.run = 0 then { s with mat := { s.mat with run := 1 } }
    else matEnter 1 0 { s with mat := { s.mat with good := 0, run := 0 } }
  else s

/-- R35, R36, R39: a crossing of the source channel, `tc` ps, its half-cycle valid or not. The origin is the first
positive-going crossing, of those that send an update, after the first entry into LOCKED. (DEDUCED, log 230) -/
def matCrossing (up valid : Bool) (tc half : Nat) (full : Option Nat) (rmsLow : Bool) (s : State) : State :=
  let incM := meanInc full half
  let nom := nominalInc s
  let once := s.mat.once
  let was := s.mat.state
  let s1 := if valid then validEnds up tc (chosenInc nom incM 0) s
    else { s with mat := { s.mat with run := 0, why := if rmsLow then 2 else s.mat.why } }
  if was = 0 then s1
  else if valid ∧ up ∧ once ∧ !s1.mat.origin then
    setOrigin (if s1.mat.state = 3 then nom else chosenInc nom incM 0) tc s1
  else
    let e := phaseError s1 up tc
    let s2 := judgePhase up e ((refAt s1 tc) / (2 ^ 32 : Int) % (2 ^ 64 : Int)).toNat s1
    if valid then giveIncrement (if s2.mat.state = 3 then nom else chosenInc nom incM e) s2 else s2

/-! ### Armed slots (R56) -/

/-- An IDLE slot. -/
def slotDefault : Slot :=
  { state := 0, record := [], count := 0, ts := 0, tsPtime := 0, decide := none, fireAt := none, matFire := 0, air := 0
    why := 0, lost := false, ports := 0, upls := 0, frames := 0, ctr := 0, frame := [], gate := 0, reach := 0, usedAir := 0
    usedUpl := 0 }

/-- An armed slot's state. -/
def slotGet (s : State) (i : Nat) : Slot := tabGet slotDefault s.armed i

/-- Replace an armed slot. -/
def slotSet (i : Nat) (x : Slot) (s : State) : State := { s with armed := tabPut slotDefault i x s.armed }

/-- Fields of the arming record (Table 2-10). -/
def armFlags (x : Slot) : Nat := beAt x.record 1 1
/-- Trigger channel. -/
def armChannel (x : Slot) : Nat := beAt x.record 2 1
/-- k, consecutive half-cycles. -/
def armK (x : Slot) : Nat := beAt x.record 3 1
/-- Threshold, uHz. -/
def armThreshold (x : Slot) : Nat := beAt x.record 4 8
/-- Room Key group. -/
def armGroup (x : Slot) : Nat := beAt x.record 12 8
/-- Valid until. -/
def armUntil (x : Slot) : Nat := beAt x.record 20 8

/-- R56: a half-cycle counts strictly beyond the threshold. -/
def armCounts (x : Slot) (f : Option Nat) (valid : Bool) : Bool :=
  match f with
  | some f => valid && (if bit (armFlags x) 0 then decide (armThreshold x < f) else decide (f < armThreshold x))
  | none => false

/-- R56: one half-cycle of the trigger channel at one ARMED slot. At k it is FIRED at the triggering sample, unless
NEEDLOCK is set and MAT is not LOCKED; the count then resets. -/
def armHalf (locked : Bool) (now pt : Nat) (f : Option Nat) (valid : Bool) (x : Slot) : Slot :=
  if armCounts x f valid then
    if x.count + 1 < armK x then { x with count := x.count + 1 }
    else if bit (armFlags x) 1 ∧ !locked then { x with count := 0 }
    else { x with state := 2, count := armK x, ts := now, tsPtime := pt, decide := some (now + 1600), fireAt := some (now + 6000) }
  else { x with count := 0 }

/-- R56 at every slot whose trigger channel this is. -/
def armedCrossing (ch : Nat) (f : Option Nat) (valid : Bool) (s : State) : State :=
  (List.range 64).foldl (fun s i =>
    let x := slotGet s i
    if x.state = 1 ∧ armChannel x = ch then
      slotSet i (armHalf (s.mat.state == 2) s.clk.now (ptimeNs s) f valid x) s
    else s) s

/-! ### Commands -/

/-- R38: MAT follows a new source channel from a valid crossing of it: event 0x0204, ACQUIRING. -/
def sourceChange (ch : Nat) (s : State) : State :=
  let s1 := keeperRaise 0x0204 ch s.mat.source ch { s with mat := { s.mat with source := ch, pendSrc := none } }
  if s1.mat.state = 2 ∨ s1.mat.state = 3 then matEnter 1 0 { s1 with mat := { s1.mat with good := 0 } } else s1

/-- R38: a crossing of a channel asked for as the source makes the change when its half-cycle is valid. -/
def sourceAt (ch : Nat) (valid : Bool) (s : State) : State :=
  match s.mat.pendSrc with
  | some (c, _) => if c = ch ∧ valid then sourceChange ch s else s
  | none => s

/-- A channel whose metrology is off: a loss; its latest frequency stays (R42). -/
def chanLost (c : Chan) : Chan := { chanDefault with freq := c.freq }

/-- R42, R35, R36, R56: a crossing of a phase-voltage channel, `tc` ps, its triggering sample delivered at `t`, the
fundamental's RMS `rms`. Metrology off is a loss of the channel. (DESIGN CHOICE, log 23) -/
def execZeroCrossing (t ch : Nat) (up : Bool) (tc rms : Nat) (s : State) : Host.Outcome State Fault Refusal :=
  let s := atTime t s
  if !isPhaseVoltage ch then .next s
  else if !s.sr.metro then
    .next (armedCrossing ch none false (chanSet ch (chanLost (chanGet s ch)) s))
  else
    let c := chanGet s ch
    let d := halfCycle s c up tc
    let f := d.map halfFreq
    let valid := halfValid s ch rms f
    let full := match f with
      | none => false
      | some _ => c.full || (valid && c.half)
    let period := if full then (if up then c.lastUp else c.lastDn).map (fun p => tc - p) else none
    let c1 : Chan := { lastUp := if up then some tc else c.lastUp, lastDn := if up then c.lastDn else some tc
                       half := valid, full := full, freq := f.getD c.freq
                       validAt := if valid then s.clk.now + 1 else c.validAt }
    let s1 := sourceAt ch valid (chanSet ch c1 s)
    let s2 := if ch = s1.mat.source then matCrossing up valid tc (d.getD 1) period (!rmsOk s ch rms) s1 else s1
    .next (armedCrossing ch f valid s2)

/-- R35, R39: no valid half-cycle ended within 1.5 nominal half-cycle periods: COASTING with one update of the
nominal increment, or UNLOCKED if the epoch has no origin. -/
def execMatLoss (t : Nat) (s : State) : Host.Outcome State Fault Refusal :=
  let s := atTime t s
  match s.mat.lossAt with
  | none => .next s
  | some d =>
    if d ≤ s.clk.now ∧ (s.mat.state = 1 ∨ s.mat.state = 2) then
      let s1 := { s with mat := { s.mat with lossAt := none, run := 0 } }
      if !s1.mat.origin ∧ s1.mat.state = 1 then
        let s2 := matEnter 0 0 s1
        .next { s2 with mat := { s2.mat with good := 0, refAcc := 0, refInc := 0, refPend := [] } }
      else
        let s2 := matEnter 3 (if s1.mat.origin then s1.mat.refAcc / 2 ^ 32 % 2 ^ 64 else 0) s1
        .next (sendUpdate (nominalInc s2) none s2)
    else .next s

/-- R38: the new source channel takes effect at its next valid crossing after it was asked for.
(DESIGN CHOICE, log 26) -/
def execSourceChannelChange (t : Nat) (s : State) : Host.Outcome State Fault Refusal :=
  let s := atTime t s
  match s.mat.pendSrc with
  | none => .next s
  | some (ch, asked) => if asked < (chanGet s ch).validAt then .next (sourceChange ch s) else .next s

/-- Signed distance of two accumulators (R40). -/
def accDiff (a b : Nat) : Int := sgn 96 ((a + 2 ^ 96 - b % 2 ^ 96) % 2 ^ 96)

/-- R39, R40, R393: one replica at an apply cycle: before the epoch's origin it only takes the increment; an origin's update,
or the first after its wing's restart, loads it; otherwise it takes the increment, and a replica that differs from the
reference takes a correction bounded by 2% and by the increment's limits. (DEDUCED, log 25) -/
def applyReplica (nom ref : Nat) (u : MatUpdate) (r : Replica) : Replica :=
  if !u.live then { r with inc := u.inc, stale := false }
  else if u.origin ∨ r.fresh then
    { r with live := true, fresh := false, acc := ref, inc := u.inc, skew := false, corr := 0, lim := 0, stale := false }
  else
    let d := accDiff ref r.acc
    let room := if 0 ≤ d then 115 * nom / 100 - u.inc else u.inc - ceilDiv (85 * nom) 100
    { r with live := true, inc := u.inc, stale := false, skew := d != 0, corr := d, lim := min (u.inc / 50) room }

/-- R39: at an update's apply cycle the reference and every wing it reached load the new increment. -/
def execMatUpdateApply (t : Nat) (s : State) : Host.Outcome State Fault Refusal :=
  let s := atTime t s
  let s1 := match s.mat.refPend with
    | (a, inc) :: l => if a ≤ s.clk.now then { s with mat := { s.mat with refInc := inc, refPend := l } } else s
    | [] => s
  match s1.mat.pend with
  | [] => .next s1
  | u :: us =>
    if u.at_ ≤ s1.clk.now then
      let ref := if u.origin then u.ref else s1.mat.refAcc
      .next { s1 with mat := { s1.mat with
        pend := us
        refAcc := ref
        reps := s1.mat.reps.mapIdx (fun i r => if bit u.mask i then applyReplica (nominalInc s1) ref u r else r) } }
    else .next s1

/-- Four nominal half-cycle periods in FCLK (R40). -/
def staleTime (s : State) : Nat := ceilDiv 2000000000 (nominalHz s)

/-- R40: a wing that expects updates and got none for four nominal half-cycle periods sets STALE; event 0x0205. -/
def execReplicaStale (t w : Nat) (s : State) : Host.Outcome State Fault Refusal :=
  let s := atTime t s
  let r := replica s w
  if w < s.part.wings ∧ s.mat.origin ∧ (r.given = 1 ∨ r.given = 2) ∧ !r.stale ∧ r.upd + staleTime s ≤ s.clk.now then
    .next (raise w 0x0205 w w (matNow s w) (modReplica w (fun r => { r with stale := true }) s))
  else .next s

end Sys2Proof.Machine
end

