-- ==== Sys2Proof/Machine/Air.lean ====
section
/-! DEFINITION. The Air Ports (chapter 3): the interface's alignment, watchers and lanes, the one modulator with its
precedence and blanking, and the front end's SPI. -/

namespace Sys2Proof.Machine

/-! ### Lanes -/

/-- A free lane. -/
def laneDefault : Lane :=
  { st := 0, port := 0, bin := 0, mode := 0, grant := 0, acq := false, sfd := 0, phr := none, places := 0
    noplace := false, ends := 0, freeAt := none, rssi := 0, foff := 0, frame := none, src := .absent, ftype := .other
    owner := 0, home := 0, dir := 4294967295, looked := false, outcome := none }

/-- A lane of a wing. -/
def laneGet (s : State) (w l : Nat) : Lane := tabGet laneDefault s.air.lanes (w * 24 + l)

/-- Replace a lane. -/
def laneSet (w l : Nat) (x : Lane) (s : State) : State :=
  { s with air := { s.air with lanes := tabPut laneDefault (w * 24 + l) x s.air.lanes } }

/-- A lane is free at the present cycle (R78). -/
def laneFree (s : State) (w l : Nat) : Bool :=
  let x := laneGet s w l
  x.st == 0 || (x.frame.isNone && (match x.freeAt with
    | some t => decide (t ≤ s.clk.now)
    | none => false))

/-- Abort one lane with an outcome counter: counted, places returned, free 64 FCLK later (R78, R86). -/
def abortLane (w l k : Nat) (s : State) : State :=
  let x := laneGet s w l
  airCount (2 * w + x.port) k
    (returnPlaces x.places (laneSet w l { laneDefault with st := 3, port := x.port, bin := x.bin,
                                                           freeAt := some (s.clk.now + 64) } s))

/-- Lanes holding a search or a frame on a port and a set of bins. -/
def lanesOn (s : State) (pn : Nat) (p : Nat → Bool) : List Nat :=
  (List.range 24).filter (fun l =>
    let x := laneGet s (pn / 2) l
    (x.st == 1 || x.st == 2) && x.port == pn % 2 && p x.bin)

/-- Abort the lanes of a port on a set of bins; the number aborted. -/
def abortLanes (pn k : Nat) (p : Nat → Bool) (s : State) : State :=
  (lanesOn s pn p).foldl (fun s l => abortLane (pn / 2) l k s) s

/-- R83: a port's armed buffer of a slot's sent frame is free: the older, where the slot has been armed again since. -/
def bufFree (pn slot : Nat) (s : State) : State :=
  portSet pn { portGet s pn with bufs := (portGet s pn).bufs.eraseP (fun b => b.1 == slot) } s

/-- The bins a transmission blanks (R84). -/
def blanks (s : State) (pn bin b : Nat) : Bool :=
  let c := airCfg (pn / 2) (pn % 2)
  regF s c 16 16 == 0 || decide (bin ≤ b + regF s c 23 20 ∧ b ≤ bin + regF s c 23 20)

/-! ### Transmission -/

/-- R68, R84: a transmission takes the port: TXEN is asserted, receivers are blanked, their lanes aborted. -/
def startSpan (pn : Nat) (x : Span) (s : State) : State :=
  let s1 := abortLanes pn 7 (blanks s pn x.bin) s
  setTxen pn 1 (portSet pn { portGet s1 pn with txen := true, cur := some x, ended := false, onAir := false
                                                blank := (portGet s1 pn).blank ++ [(x.bin, none)] } s1)

/-- R84: a later transmission of a burst blanks its own bins from the burst's assertion on. -/
def blankMore (pn bin : Nat) (s : State) : State :=
  let s1 := abortLanes pn 7 (blanks s pn bin) s
  portSet pn { portGet s1 pn with blank := (portGet s1 pn).blank ++ [(bin, none)] } s1

/-- Release TXEN: the receivers resume RXGUARD us later (R84). -/
def releaseTxen (pn : Nat) (s : State) : State :=
  let x := portGet s pn
  let guard := regF s (airCfg (pn / 2) (pn % 2)) 47 32 * 1000
  jobKick pn (setTxen pn 0 (portSet pn { x with txen := false, cur := none, ended := false,
                                                blank := x.blank.map (fun b => (b.1, some (b.2.getD (s.clk.now + guard)))) } s))

/-- Status and time written back to a transmit descriptor (R82). -/
def descDone (a status time : Nat) (s : State) : State :=
  dramWrite (a + 16) (toLe 1 status ++ toLe 7 0 ++ toLe 8 time) s

/-- Completion of a descriptor: written back, its Bell Board source raised when its flag asks (R82, Table 15-4). -/
def descComplete (pn : Nat) (x : Span) (status time : Nat) (s : State) : State :=
  let s1 := if x.kind = 0 then descDone x.desc status time s else s
  if x.bellOn then bell (pn / 2) (pn % 2) s1 else s1

/-- A Timetable entry skipped: WHY, SKIP flag, event 0x0210 (R48). -/
def ttSkipMark (w e why : Nat) (s : State) : State :=
  raise w 0x0210 w (w * 256 + e) why (stat w (ttStat w) 6 21 s)

/-- Cut off the transmission on a port (R50, R57, R69): counted, event 0x0303 for an ordinary frame or a launch, its
descriptor written back CUT, or for a launch with status `st`. One whose last symbol has left is SENT. TXEN stays for what
follows. -/
def cutSpan (st pn : Nat) (s : State) : State :=
  let x := portGet s pn
  match x.cur with
  | none => s
  | some c =>
    let s0 := portSet pn { x with cur := none, ended := false, onAir := false
                                  bufs := if c.rank = 1 ∧ !x.ended then x.bufs.eraseP (fun b => b.1 == c.ident) else x.bufs } s
    let at_ := if c.first ≤ s.clk.now then ptimeAt s c.first else 0
    if x.ended then (if c.rank = 4 ∨ c.rank = 2 then descComplete pn c 0 (ptimeAt s c.first) s0 else s0)
    else
      let s1 := airCount pn 12 s0
      if c.rank = 4 then
        (if c.kind = 0 then id else jobAgain pn) (descComplete pn c 1 at_ (raise (pn / 2) 0x0303 pn pn c.desc s1))
      else if c.rank = 2 then descComplete pn c st at_ (raise (pn / 2) 0x0303 pn pn c.desc s1)
      else s1

/-- R81: two spans overlap or come within 1,000 FCLK of each other. -/
def spansClash (a b : Span) : Bool := decide (a.on_ < b.rel + 1000 ∧ b.on_ < a.rel + 1000)

/-- The fields of a transmit descriptor are outside their ranges (R82, Table 3-13). -/
def descBad (s : State) (w : Nat) (d : Bytes) : Bool :=
  let len := leAt d 0 2
  let m := leAt d 2 1
  let flags := leAt d 6 1
  let fcs := if bit flags 0 then 2 else 4
  decide (len < fcs + 1 ∨ 2047 < len ∨ 63 < leAt d 3 1 ∨ leAt d 4 2 < leastPreamble m ∨ 1000 < leAt d 4 2 ∨
    4 ≤ flags ∨ leAt d 7 1 ≠ 0) || !modeOk m || !dramIn s w (leAt d 8 8) (len - fcs)

/-- Air time of a descriptor's frame. -/
def descAir (d : Bytes) : Nat := airTime (leAt d 2 1) (leAt d 4 2) (leAt d 0 2)

/-- R80, R82: an ordinary frame posted to a port: NOLINK, BADDESC, DEFER, or started at once. `kind` tells the MAC's
own frames (0 a descriptor of software, else the MAC's job). -/
def postOrdinary (pn a : Nat) (kind : Nat) (s : State) : State :=
  let d := dramRead s a 32
  let x := spanAt s pn 4 0 a s.clk.now (descAir d) (leAt d 3 1) (bit (leAt d 6 1) 1) kind
  if !airEn s pn then descComplete pn x 5 0 s
  else if descBad s (pn / 2) d then descComplete pn x 4 0 (airCount pn 15 s)
  else if (portGet s pn).txen ∨ (portGet s pn).cur.isSome ∨ !fits s pn x false then
    descComplete pn x 2 0 (airCount pn 13 s)
  else startSpan pn x s

/-! ### Commands: interface -/

/-- R67: setting AIR_CFG.EN drives SMPCLK and begins alignment. -/
def execPortEnable (t w p : Nat) (s : State) : Host.Outcome State Fault Refusal :=
  let s := atTime t s
  if p < 2 ∧ w < s.part.wings then
    .next (portSet (2 * w + p) { portGet s (2 * w + p) with smpclk := true, tries := (portGet s (2 * w + p)).tries + 1 }
      (regPutF (airCfg w p) 0 0 1 s))
  else .next s

/-- A wing's arbiter; its scan begins at port 0 bin 0. (DESIGN CHOICE, log 233) -/
def arbDefault : Arbiter := { waiting := [], last := 127, lastAt := 0 }

/-- A wing's arbiter. -/
def arbGet (s : State) (w : Nat) : Arbiter := tabGet arbDefault s.air.arb w

/-- Replace a wing's arbiter. -/
def arbSet (w : Nat) (x : Arbiter) (s : State) : State :=
  { s with air := { s.air with arb := tabPut arbDefault w x s.air.arb } }

/-- R67: a port's watchers are idle: their waiting requests are gone. -/
def idleWatchers (pn : Nat) (s : State) : State :=
  arbSet (pn / 2) { arbGet s (pn / 2) with waiting := (arbGet s (pn / 2)).waiting.filter (fun k => k / 64 != pn % 2) } s

/-- R67: a port realigns: its lanes end CUTLINK, its watchers are idle, LOCK is 0, an attempt begins. -/
def realign (pn : Nat) (s : State) : State :=
  let s1 := idleWatchers pn (abortLanes pn 8 (fun _ => true) (regPutF (airStat (pn / 2) (pn % 2)) 0 0 0 s))
  portSet pn { portGet s1 pn with tries := (portGet s1 pn).tries + 1 } s1

/-- R67, R69: a TRAIN request aborts the port's lanes with CUTLINK and realigns. LOCK is 0 until it has; the request is no loss
of alignment: no event, no LOCKLOST. (DESIGN CHOICE, log 234) -/
def execTrain (t w p : Nat) (s : State) : Host.Outcome State Fault Refusal :=
  let s := atTime t s
  if p < 2 ∧ w < s.part.wings then
    .next (realign (2 * w + p) (markSet (airCfg w p) 1 (regPutF (airCfg w p) 1 1 1 s)))
  else .next s

/-- R66, R67: the framing pattern holds for 1,024 samples: LOCK sets, TRAIN clears, event 0x0302; c0 is fixed. A TRAIN
request made in this FCLK stands as a new one (R10). -/
def execAlignmentGained (t w p : Nat) (s : State) : Host.Outcome State Fault Refusal :=
  let s := atTime t s
  let pn := 2 * w + p
  if p < 2 ∧ w < s.part.wings ∧ airEn s pn ∧ !airLock s pn ∧ !bit (setNow s (airCfg w p)).toNat 1 then
    let x := portGet s pn
    .next (raise w 0x0302 pn pn x.tries
      (portSet pn { x with tries := 0, origin := s.clk.now }
        (regPutF (airCfg w p) 1 1 0 (regPutF (airStat w p) 0 0 1 s))))
  else .next s

/-- R67: the pattern is wrong in 4 consecutive samples: LOCK clears, LOCKLOST sets, event 0x0301, the port's lanes
end CUTLINK. -/
def execAlignmentLost (t w p : Nat) (s : State) : Host.Outcome State Fault Refusal :=
  let s := atTime t s
  let pn := 2 * w + p
  if p < 2 ∧ w < s.part.wings ∧ airLock s pn then
    let n := (lanesOn s pn (fun _ => true)).length
    let s1 := realign pn s
    .next (raise w 0x0301 pn pn n (stat w (airStat w p) 4 (2 + p) (airCount pn 17 s1)))
  else .next s

/-! ### Sample placement and framing (R65, R66) -/

/-- R66: the cycle at which sample `n` after alignment lies. -/
def sampleCycle (s : State) (pn n : Nat) : Nat := (portGet s pn).origin + n * 625 / 8

/-- R66: the last sample placed at or before a cycle, and so the receive time the part reports for it.
(DEDUCED, log 283) -/
def placedAt (s : State) (pn c : Nat) : Nat :=
  sampleCycle s pn ((8 * (c - (portGet s pn).origin + 1) - 1) / 625)

/-- R65: the sample a port sends: that of its modulator while symbols are on air, else zero. -/
def txSample (s : State) (pn : Nat) : BitVec 16 × BitVec 16 :=
  match (portGet s pn).cur with
  | some c => if c.first ≤ s.clk.now ∧ s.clk.now < c.last then Config.modulate c.rank c.ident c.desc ((s.clk.now - c.first) * 8 / 625)
              else (0, 0)
  | none => (0, 0)

/-- Table 3-2: framing line, lane 0 and lane 1 in half-cycle `h` (0 to 15) of a sample: the line is high in the first four
clock cycles; I and Q go most significant bit first, on both edges. -/
def frameLines (x : BitVec 16 × BitVec 16) (h : Nat) : Bool × Bool × Bool :=
  (decide (h < 8), x.1.getLsbD (15 - h), x.2.getLsbD (15 - h))

/-- The lines TXFRM, TXD0 and TXD1 of a port in half-cycle `h` of the present sample; low while SMPCLK stands. -/
def txLines (s : State) (pn h : Nat) : Bool × Bool × Bool :=
  if (portGet s pn).smpclk ∨ s.clk.now < (portGet s pn).smpOff then frameLines (txSample s pn) h else (false, false, false)

/-! ### Commands: reception -/

/-- A bin's receive mode: EN, FSK4 and RATE (Table 3-8). -/
def binMode (s : State) (pn b : Nat) : Nat :=
  regF s (airBinmode (pn / 2) (pn % 2) (b / 16)) (4 * (b % 16) + 3) (4 * (b % 16))

/-- A bin's watcher listens: enabled, aligned, not blanked (R67, R73, R84). -/
def listening (s : State) (pn b : Nat) : Bool :=
  airEn s pn && airLock s pn && bit (binMode s pn b) 3 && decide (binMode s pn b % 4 ≠ 3) &&
  (portGet s pn).blank.all (fun e => !blanks s pn e.1 b)

/-- A bin's watcher already has a lane (R74). -/
def binHasLane (s : State) (pn b : Nat) : Bool :=
  (List.range 24).any (fun l =>
    let x := laneGet s (pn / 2) l
    (x.st == 1 || x.st == 2) && x.port == pn % 2 && x.bin == b)

/-- MINPWR, signed dBFS (Table 3-9). -/
def minPower (s : State) (w p : Nat) : Int := sgn 8 (regF s (airRxcfg w p) 47 40)

/-- R74: a watcher has seen a preamble for 24 symbol periods, the least bin power among them `pwr` dBFS, and requests a
lane. -/
def execPreambleDetect (t w p bin : Nat) (pwr : Int) (s : State) : Host.Outcome State Fault Refusal :=
  let s := atTime t s
  let a := arbGet s w
  let k := p * 64 + bin
  if p < 2 ∧ bin < 64 ∧ minPower s w p ≤ pwr ∧ listening s (2 * w + p) bin ∧ !binHasLane s (2 * w + p) bin ∧ !a.waiting.contains k then
    .next (arbSet w { a with waiting := a.waiting ++ [k] } s)
  else .next s

/-- The waiting watcher next in circular order after the one granted last, of those that listen (R67, R73, R74, R84). -/
def nextWatcher (s : State) (w : Nat) (a : Arbiter) : Option Nat :=
  ((List.range 128).map (fun i => (a.last + 1 + i) % 128)).find?
    (fun k => a.waiting.contains k && listening s (2 * w + k / 64) (k % 64))

/-- The lowest-numbered free lane of a wing. -/
def lowestLane (s : State) (w : Nat) : Option Nat := (List.range 24).find? (fun l => laneFree s w l)

/-- R74: the arbiter grants one waiting request the lowest-numbered free lane, at most one in an FCLK. -/
def execLaneGrant (t w : Nat) (s : State) : Host.Outcome State Fault Refusal :=
  let s := atTime t s
  let a := arbGet s w
  if a.lastAt = s.clk.now + 1 then .next s
  else match nextWatcher s w a, lowestLane s w with
  | some k, some l =>
    .next (arbSet w { waiting := a.waiting.filter (· != k), last := k, lastAt := s.clk.now + 1 }
      (laneSet w l { laneDefault with st := 1, port := k / 64, bin := k % 64
                                      mode := binMode s (2 * w + k / 64) (k % 64) % 8, grant := s.clk.now } s))
  | _, _ => .next s

/-- R74: correlation lost for eight symbol periods: in each the decisions did not match the pattern, or the bin power, `pwr`
dBFS the greatest of those in which they did, was below MINPWR. -/
def corrLost (s : State) (w p : Nat) (matched : Bool) (pwr : Int) : Bool := !matched || decide (pwr < minPower s w p)

/-- R74, R76: a waiting watcher lost correlation for eight symbol periods: it withdraws and counts NOLANE. -/
def execWatcherWithdraw (t w p bin : Nat) (matched : Bool) (pwr : Int) (s : State) : Host.Outcome State Fault Refusal :=
  let s := atTime t s
  let a := arbGet s w
  let k := p * 64 + bin
  if p < 2 ∧ a.waiting.contains k ∧ corrLost s w p matched pwr then
    .next (stat w (airStat w p) 5 (2 + p) (airCount (2 * w + p) 1
      (arbSet w { a with waiting := a.waiting.filter (· != k) } s)))
  else .next s

/-- R75: 8 symbol periods after its grant a lane has acquired timing and begins the SFD search. -/
def execLaneAcquired (t w lane : Nat) (s : State) : Host.Outcome State Fault Refusal :=
  let s := atTime t s
  let x := laneGet s w lane
  if x.st = 1 ∧ !x.acq ∧ x.grant + symbols x.mode 8 ≤ s.clk.now then .next (laneSet w lane { x with acq := true } s)
  else .next s

/-- SFDWAIT symbol periods, at least 32 (Table 3-9). -/
def sfdWait (s : State) (w p : Nat) : Nat := max 32 (regF s (airRxcfg w p) 63 48)

/-- R75: a searching lane is released with NOSFD, its watcher's correlation lost or SFDWAIT passed. -/
def execSfdTimeout (t w lane : Nat) (matched : Bool) (pwr : Int) (s : State) : Host.Outcome State Fault Refusal :=
  let s := atTime t s
  let x := laneGet s w lane
  if x.st = 1 ∧ (corrLost s w x.port matched pwr ∨ x.grant + symbols x.mode (sfdWait s w x.port) ≤ s.clk.now) then
    .next (abortLane w lane 2 s)
  else .next s

/-- The largest PSDU accepted; values below 5 act as 5 (Table 3-9). -/
def maxPsdu (s : State) (w p : Nat) : Nat := max 5 (regF s (airRxcfg w p) 10 0)

/-- FCLK of the SFD, two octets at the bit rate (R72). -/
def sfdTime (m : Nat) : Nat := ceilDiv 16000000000 (modeRate m)

/-- R75, R77: a lane finds an SFD that began once it had acquired: places are reserved, and the PHR's checks are made in order. -/
def execSfdFound (t w lane : Nat) (phr : Phr) (s : State) : Host.Outcome State Fault Refusal :=
  let s := atTime t s
  let x := laneGet s w lane
  if x.st = 1 ∧ x.acq ∧ x.grant + symbols x.mode 8 + sfdTime x.mode ≤ s.clk.now then
    let r := reservePlaces s
    let s1 := laneSet w lane { x with st := 2, sfd := placedAt s (2 * w + x.port) s.clk.now, phr := some phr, places := r.1 } r.2
    if phr.modeSwitch then .next (abortLane w lane 3 s1)
    else if maxPsdu s1 w x.port < phr.length then .next (abortLane w lane 4 s1)
    else if phr.length ≤ (if phr.fcsShort then 2 else 4) then .next (abortLane w lane 5 s1)
    else .next s1
  else .next s

/-! ### Commands: transmission -/

/-- R80, R81, R93: at its reserved instant the acknowledgement takes the port, or is lost and counted ACK_BUSY; one with
no counter is not started. -/
def execAckTxen (t w p : Nat) (s : State) : Host.Outcome State Fault Refusal :=
  let s := atTime t s
  let pn := 2 * w + p
  let x := portGet s pn
  match x.resv.find? (fun r => r.rank == 3 && decide (r.on_ ≤ s.clk.now)) with
  | none => .next s
  | some r =>
    let s1 := portSet pn { x with resv := x.resv.filter (fun y => y != r) } s
    if r.desc = 0 then .next s1
    else if x.txen ∨ !airEn s pn ∨ r.on_ < s.clk.now then .next (airCount pn 14 s1)
    else .next (startSpan pn r s1)

/-- The address by which the MAC posts its own frame, whose descriptor is the port's job. (DESIGN CHOICE, log 70) -/
def macDesc : Nat := two64 - 1

/-- R80, R107, R108: the MAC's frame is posted at its TXEN assertion: NOLINK completes its request, a frame that does
not fit is deferred. -/
def postJob (pn : Nat) (s : State) : State :=
  match jobGet s pn with
  | none => s
  | some j =>
    if j.phase ≠ 5 ∨ (j.ctr.isNone ∧ j.level ≠ 0) ∨ s.clk.now < j.start then s
    else
      let x := spanAt s pn 4 0 0 s.clk.now j.air j.bin false 1
      if !airEn s pn then (if j.kind ≤ 1 then jobComplete pn 8 s else jobDone pn s)
      else if (portGet s pn).txen ∨ (portGet s pn).cur.isSome ∨ !fits s pn x true ∨ j.start < s.clk.now then
        jobAgain pn (airCount pn 13 s)
      else startSpan pn x (jobSet pn (some { j with phase := 2 }) s)

/-- R80, R82: an ordinary transmit descriptor is posted: software's, by its address, or the MAC's own. An address that is no
8-byte aligned one of the wing's populated DRAM names no descriptor: nothing is read or written back.
(DESIGN CHOICE, log 235) -/
def execTxDescriptorPost (t w p addr : Nat) (s : State) : Host.Outcome State Fault Refusal :=
  let s := atTime t s
  if addr = macDesc then (if p < 2 then .next (postJob (2 * w + p) s) else .next s)
  else if p < 2 ∧ dramIn s w addr 32 ∧ addr % 8 = 0 then .next (postOrdinary (2 * w + p) addr 0 s) else .next s

/-- R68: the last symbol leaves: counted TX_SENT, and the tail begins. A launch completes with event 0x0212. -/
def execTransmissionEnd (t w p : Nat) (s : State) : Host.Outcome State Fault Refusal :=
  let s := atTime t s
  let pn := 2 * w + p
  let x := portGet s pn
  match x.cur with
  | none => .next s
  | some c =>
    if x.ended ∨ s.clk.now < c.last then .next s
    else
      let s1 := airCount pn 11 (portSet pn { x with ended := true, onAir := false } s)
      if c.rank = 4 ∧ c.kind ≠ 0 then .next (jobSent pn c.first c.last s1)
      else if c.rank = 1 then
        .next (bufFree pn c.ident s1)
      else .next s1

/-- R68, R82: TXTAIL after the last symbol TXEN is released and the descriptor's status and time written back; a
spaced armed frame keeps it (R58). -/
def execTxenRelease (t w p : Nat) (s : State) : Host.Outcome State Fault Refusal :=
  let s := atTime t s
  let pn := 2 * w + p
  let x := portGet s pn
  match x.cur with
  | none => .next s
  | some c =>
    if !x.ended ∨ s.clk.now < c.rel then .next s
    else
      let s1 := if c.rank = 4 ∨ c.rank = 2 then descComplete pn c 0 (ptimeAt s c.first) s else s
      match x.resv.find? (fun r => r.rank == 1) with
      | some _ => .next s1
      | none => .next (releaseTxen pn s1)

/-- R84: RXGUARD after the release the blanked watchers resume. -/
def execBlankingEnd (t w p : Nat) (s : State) : Host.Outcome State Fault Refusal :=
  let s := atTime t s
  let pn := 2 * w + p
  .next (portSet pn { portGet s pn with blank := (portGet s pn).blank.filter (fun e => match e.2 with
    | some u => decide (s.clk.now < u)
    | none => true) } s)

/-! ### Commands: SPI and clipping -/

/-- SCK period in FCLK (Table 3-16): 100 MHz / (2 (DIV + 1)), 0 acting as 1. -/
def sckPeriod (s : State) (w p : Nat) : Nat := 20 * (max 1 (regF s (airSpicfg w p) 7 0) + 1)

/-- R85: an AIR_SPI write refused: ignored, SPIERR, event 0x0304. -/
def spiRefused (w p : Nat) (v : Word) (s : State) : State :=
  raise w 0x0304 (2 * w + p) (2 * w + p) v.toNat (stat w (airStat w p) 7 (2 + p) s)

/-- R85: a write of AIR_SPI: refused while BUSY, or with GO and LEN outside 8 to 32; with GO a transaction of LEN + 2 SCK
periods starts, and GO is cleared as it does. -/
def spiWrite (w p : Nat) (v : Word) (s : State) : State :=
  let pn := 2 * w + p
  let a := airSpi w p
  let len := bits v.toNat 53 48
  if regF s a 62 62 = 1 ∨ (bit v.toNat 63 ∧ (len < 8 ∨ 32 < len)) then spiRefused w p v s
  else
    let s1 := regPutF a 53 48 len (regPutF a 31 0 (bits v.toNat 31 0) s)
    if bit v.toNat 63 then
      portSet pn { portGet s1 pn with spi := some (s1.clk.now + (len + 2) * sckPeriod s1 w p, len) } (regPutF a 62 62 1 s1)
    else s1

/-- R85: a write of AIR_SPI with GO. -/
def execSpiGo (t w p : Nat) (v : Word) (s : State) : Host.Outcome State Fault Refusal :=
  let s := atTime t s
  if p < 2 ∧ w < s.part.wings then .next (spiWrite w p (v ||| 0x8000000000000000) s) else .next s

/-- R85: the transaction ends: DATA holds the bits received, BUSY clears. -/
def execSpiComplete (t w p miso : Nat) (s : State) : Host.Outcome State Fault Refusal :=
  let s := atTime t s
  let pn := 2 * w + p
  let a := airSpi w p
  match (portGet s pn).spi with
  | some (e, len) =>
    if e ≤ s.clk.now then
      .next (portSet pn { portGet s pn with spi := none } (regPutF a 62 62 0 (regPutF a 31 0 (miso % 2 ^ len) s)))
    else .next s
  | none => .next s

/-- R87: received samples at full scale: counter CLIP, the CLIP flag, event 0x0305 at most once per second. -/
def execClipReport (t w p n : Nat) (s : State) : Host.Outcome State Fault Refusal :=
  let s := atTime t s
  let pn := 2 * w + p
  if p < 2 ∧ w < s.part.wings ∧ 0 < n then
    let s1 := stat w (airStat w p) 6 (2 + p) (countBy w (tallyAir p 16) n s)
    let l := noteRecent 1000000000 s1.clk.now n (portGet s1 pn).clips
    .next (raiseOnce (1000 + pn) 1000000000 w 0x0305 pn pn (recentCount l) (portSet pn { portGet s1 pn with clips := l } s1))
  else .next s

end Sys2Proof.Machine
end

