-- ==== Sys2Proof/Machine/Lan.lean ====
section
/-! DEFINITION. The uplink ports' state (chapter 11): whether a port runs, what a received frame is, the pair's redundancy,
frames sent, time-stamps (R320) and descriptors written back. -/

namespace Sys2Proof.Machine

/-- A port that has neither heard nor sent anything. -/
def lanDefault : LanPort := { good := 0, goodPt := 0, wire := 0, launch := none, leads := [], sent := [], pdelay := (0, 0) }

/-- An uplink port, 2w + l. -/
def lanGet (s : State) (pn : Nat) : LanPort := tabGet lanDefault s.lans pn

/-- Replace an uplink port. -/
def lanSet (pn : Nat) (x : LanPort) (s : State) : State := { s with lans := tabPut lanDefault pn x s.lans }

/-- A pair that has neither heard nor sent anything. -/
def pairDefault : LanPair := { seq := 0, table := [], supAt := 0, armed := [] }

/-- A wing's pair. -/
def pairGet (s : State) (w : Nat) : LanPair := tabGet pairDefault s.pairs w

/-- Replace a wing's pair. -/
def pairSet (w : Nat) (x : LanPair) (s : State) : State := { s with pairs := tabPut pairDefault w x s.pairs }

/-- The port exists, is enabled and is not parked (R313). -/
def lanEn (s : State) (pn : Nat) : Bool :=
  decide (pn < 2 * s.part.wings) && regF s (uplCfg (pn / 2) (pn % 2)) 0 0 == 1 && regF s (uplStat (pn / 2) (pn % 2)) 10 10 == 0 &&
  !s.power.graced

/-- The port runs: enabled, and its link is up. -/
def lanRuns (s : State) (pn : Nat) : Bool := lanEn s pn && regF s (uplStat (pn / 2) (pn % 2)) 0 0 == 1

/-- R312: the pair is a PRP pair: UPL_CFG.PRP is 1 on both ports. -/
def prpOn (s : State) (w : Nat) : Bool := regF s (uplCfg w 0) 4 4 == 1 && regF s (uplCfg w 1) 4 4 == 1

/-- FCLK of `n` octets on a port's wire, rounded up. -/
def octetsTime (s : State) (pn n : Nat) : Nat :=
  if regF s (uplCfg (pn / 2) (pn % 2)) 1 1 = 1 then ceilDiv (n * 8) 25 else ceilDiv (n * 4) 5

/-- A UPL_STAT flag with its Bell Board source. -/
def lanFlag (pn b : Nat) (s : State) : State := stat (pn / 2) (uplStat (pn / 2) (pn % 2)) b 18 s

/-- A UPL_CNT of a port. -/
def lanCount (pn k : Nat) (s : State) : State := count (pn / 2) (tallyUpl (pn % 2) k) s

/-- A port's ring of transmit descriptors: entries. -/
def tqSize (s : State) (pn : Nat) : Nat := 2 ^ ringLog2 (regF s (uplTqCfg (pn / 2) (pn % 2)) 4 0) 4 16 4

/-- The address of the descriptor of a ring count. -/
def tqAddr (s : State) (pn n : Nat) : Nat := regF s (uplTqCfg (pn / 2) (pn % 2)) 63 12 * 4096 + n % tqSize s pn * 32

/-- CONS of a port's transmit ring. -/
def tqCons (s : State) (pn : Nat) : Nat := regF s (uplTqPtr (pn / 2) (pn % 2)) 63 32

/-- Descriptors queued on a port's ring. (DEDUCED, log 171) -/
def tqQueued (s : State) (pn : Nat) : Nat :=
  min (tqSize s pn) ((regF s (uplTqPtr (pn / 2) (pn % 2)) 31 0 + 4294967296 - tqCons s pn) % 4294967296)

/-- A descriptor written back: status, sequence, PTIME of the delimiter (Table 11-4). -/
def lanWriteBack (desc status seq at_ : Nat) (s : State) : State :=
  dramWrite (desc + 24) (toLe 8 at_) (dramWrite (desc + 11) (toLe 1 status ++ toLe 2 seq) s)

/-- A ring's front descriptor is done: written back, CONS advanced, its Bell Board source raised if it asks. -/
def tqDone (pn status seq at_ : Nat) (s : State) : State :=
  let a := tqAddr s pn (tqCons s pn)
  let rings := bit (leAt (dramRead s (a + 10) 1) 0 1) 1
  let s1 := regPutF (uplTqPtr (pn / 2) (pn % 2)) 63 32 ((tqCons s pn + 1) % 4294967296) (lanWriteBack a status seq at_ s)
  if rings then bell (pn / 2) (14 + 2 * (pn % 2)) s1 else s1

/-- R319: the front descriptor of a port without a link still waits: it asks for both LANs and the other one runs. -/
def tqStays (s : State) (pn : Nat) : Bool :=
  bit (leAt (dramRead s (tqAddr s pn (tqCons s pn) + 10) 1) 0 1) 0 && prpOn s (pn / 2) && lanRuns s (pn / 2 * 2 + (1 - pn % 2))

/-- R313, R319: the queued descriptors of a port without a link return NOLINK, up to one that waits; how many. -/
def returnFrom (pn : Nat) : Nat → State → Nat × State
  | 0, s => (0, s)
  | n + 1, s =>
    if tqQueued s pn = 0 ∨ tqStays s pn then (0, s)
    else
      let r := returnFrom pn n (tqDone pn 4 0 0 (lanSet pn { lanGet s pn with launch := none } s))
      (r.1 + 1, r.2)

/-! ### Received frames (R315, R317, R318) -/

/-- The EtherType of a frame. -/
def etherType (b : Bytes) : Nat := beAt b 12 2

/-- R311: a pause frame (IEEE 802.3 clause 31: MAC control). (PRESUMED, log 267) -/
def isPause (b : Bytes) : Bool := etherType b == 0x8808

/-- R318: a PTP frame. -/
def isPtp (b : Bytes) : Bool := etherType b == 0x88F7

/-- R318: a UDP datagram to port 44201 at an address of 16 octets, IPv6 or IPv4-mapped (RFC 791, RFC 8200, RFC 768). -/
def isEmp (addr b : Bytes) : Bool :=
  let ihl := beAt b 14 1 % 16 * 4
  (etherType b == 0x86DD && beAt b 20 1 == 17 && slice b 38 16 == padTo 16 addr && beAt b 56 2 == 44201) ||
  (etherType b == 0x0800 && beAt b 14 1 / 16 == 4 && beAt b 23 1 == 17 && beAt b (16 + ihl) 2 == 44201 &&
    List.replicate 10 0 ++ [0xFF, 0xFF] ++ slice b 30 4 == padTo 16 addr)

/-- A frame's redundancy control trailer (R314): sequence, LAN identifier, LSDU size, suffix. -/
structure Trailer where
  seq    : Nat
  lan    : Nat
  size   : Nat
  suffix : Nat
  deriving DecidableEq, Repr

/-- The last six octets of a frame as a trailer. -/
def trailerOf (b : Bytes) : Trailer :=
  let o := b.length - 6
  { seq := beAt b o 2, lan := beAt b (o + 2) 2 / 4096, size := beAt b (o + 2) 2 % 4096, suffix := beAt b (o + 4) 2 }

/-- R315: a frame has a well-formed trailer; the LSDU size counts the octets after the EtherType, the trailer's among them
(IEC 62439-3 clause 4.2.7). -/
def hasTrailer (b : Bytes) : Bool :=
  decide (20 ≤ b.length) && (trailerOf b).suffix == 0x88FB && (trailerOf b).size == (b.length - 14) % 4096

/-- R315: a trailer names the LAN a port is on: 0xA or 0xB. -/
def onLan (pn : Nat) (b : Bytes) : Bool := (trailerOf b).lan == 10 + pn % 2

/-- The LSDU of a frame with a trailer (R316). -/
def lsdu (b : Bytes) : Bytes := (b.drop 14).take (b.length - 20)

/-- R317: a good frame is received; a silent port is silent no longer, event 0x0B04. -/
def goodFrame (pn : Nat) (s : State) : State :=
  let x := lanGet s pn
  let s1 := lanSet pn { x with good := s.clk.now + 1, goodPt := ptimeNs s } s
  if regF s (uplStat (pn / 2) (pn % 2)) 1 1 = 1 then
    raise (pn / 2) 0x0B04 pn pn ((s.clk.now + 1 - x.good) / 1000000) (regPutF (uplStat (pn / 2) (pn % 2)) 1 1 0 s1)
  else s1

/-- R317, R318: `k` PTP frames are received on a running port. -/
def ptpFrames (pn k : Nat) (s : State) : State :=
  countBy (pn / 2) (tallyUpl (pn % 2) 11) k (goodFrame pn (countBy (pn / 2) (tallyUpl (pn % 2) 0) k s))

/-! ### Frames sent (R314) -/

/-- R314: a pair takes its next sequence number. -/
def prpSeq (w : Nat) (s : State) : Nat × State :=
  let x := pairGet s w
  (x.seq % 65536, pairSet w { x with seq := (x.seq + 1) % 65536 } s)

/-- R314: the sequence number of the next frame of a pair, if it is a PRP pair: every frame it sends takes one. -/
def prpTake (w : Nat) (s : State) : Option Nat × State :=
  if prpOn s w then let q := prpSeq w s; (some q.1, q.2) else (none, s)

/-- Octets a frame of `n` octets holds the wire: preamble and delimiter, the frame, a trailer on a PRP pair, FCS and gap. -/
def lanOctets (s : State) (pn n : Nat) : Nat := 8 + n + (if prpOn s (pn / 2) then 6 else 0) + 4 + 12

/-- The preamble of a frame of `n` octets leaves a port at a cycle; the wire is held for preamble, trailer, FCS and gap. -/
def lanSendAt (pn at_ : Nat) (seq : Option Nat) (n : Nat) (frame : Bytes) (s : State) : State :=
  let x := lanGet s pn
  lanCount pn 1 (lanSet pn { x with
    wire := at_ + octetsTime s pn (8 + n + (if seq.isSome then 6 else 0) + 4 + 12)
    sent := ({ at_ := ptimeAt s (at_ + octetsTime s pn 7), seq := seq, frame := frame } :: x.sent).take 16 } s)

/-- A frame leaves a port at the cycle it is free. -/
def lanSend (pn : Nat) (seq : Option Nat) (frame : Bytes) (s : State) : State :=
  lanSendAt pn (max s.clk.now (lanGet s pn).wire) seq frame.length frame s

/-- PTIME of the delimiter of the frame a port sent last. (DESIGN CHOICE, log 172) -/
def lastSent (s : State) (pn : Nat) : Nat := ((lanGet s pn).sent.head?.map (·.at_)).getD 0

/-! ### Time-stamps (R320) -/

/-- The FEC in effect on a port (Table 11-1): 3, and 2 at 10 Gb/s, act as 0. -/
def fecNow (s : State) (pn : Nat) : Nat :=
  let c := uplCfg (pn / 2) (pn % 2)
  if regF s c 3 2 = 3 ∨ (regF s c 3 2 = 2 ∧ regF s c 1 1 = 0) then 0 else regF s c 3 2

/-- A time-stamp in ns, moved by a signed number of ns. -/
def stampMove (p : Nat) (d : Int) : Nat := (((p : Int) + d) % (2 ^ 64 : Int)).toNat

/-- The error of a time-stamp taken at a cycle: within 2 ns (R320); a free value within that bound. -/
def stampErr (pn c : Nat) : Int := (Config.stampError pn c % 5 : Int) - 2

/-- R320: the time-stamp at the medium of a PTP frame whose delimiter passes the MII boundary now, on its way in.
(DEDUCED, log 268) -/
def stampIn (s : State) (pn : Nat) : Nat :=
  stampMove (ptimeNs s) (stampErr pn s.clk.now - Config.uplinkDelay false (regF s (uplCfg (pn / 2) (pn % 2)) 1 1) (fecNow s pn) -
    obj s (0x0B100003 + pn * 256))

/-- R320: the time-stamp at the medium of a PTP frame whose delimiter passed the MII boundary at PTIME `p`, on its way out. -/
def stampOut (s : State) (pn p : Nat) : Nat :=
  stampMove p (stampErr pn s.clk.now + Config.uplinkDelay true (regF s (uplCfg (pn / 2) (pn % 2)) 1 1) (fecNow s pn) +
    obj s (0x0B100004 + pn * 256))

end Sys2Proof.Machine
end

