-- ==== Sys2Proof/Machine/Clock.lean ====
section
/-! DEFINITION. PTIME and its grandmasters (R320 to R327): two domains, the servo, steps, switches, uncertainty; and what a lost
link or a park does to a port (R313, R319, R322). -/

namespace Sys2Proof.Machine

/-- A domain at reset: FREE (Table 11-6). -/
def domDefault : Domain :=
  { state := 0, sel := none, gm := 0, offset := 0, est := 0, near := 0, far := 0, big := 0, sync := none, since := 0
    hist := [], ann := [] }

/-- A domain. -/
def domGet (s : State) (d : Nat) : Domain := tabGet domDefault s.ptp.dom d

/-- Replace a domain. -/
def domSet (d : Nat) (x : Domain) (s : State) : State := { s with ptp := { s.ptp with dom := tabPut domDefault d x s.ptp.dom } }

/-- PTIME is locked to a grandmaster: the disciplining domain is LOCKED (R323), or has just left LOCKED and hands over to the
other, LOCKED (R326). (DEDUCED, log 269) -/
def ptimeLocked (s : State) : Bool :=
  (domGet s s.ptp.disc).state == 2 ||
    match s.ptp.switch with
    | some d => s.ptp.hand && (domGet s d).state == 2
    | none => false

/-- Discipline states of 07.0071.00: a change raises event 0x0709. (DEDUCED, log 112) -/
def disciplineState (st : Nat) (s : State) : State :=
  let old := obj s 0x07007100
  if old = st then s else keeperRaise 0x0709 0 old st (objPut 0x07007100 st s)

/-- R470: the crystal's offset learned: the mean slew of the disciplined seconds. (DEDUCED, log 255) -/
def learned (s : State) : Int := if s.clk.learnN = 0 then 0 else Int.tdiv s.clk.learn s.clk.learnN

/-- R190, R470: LTIME is undisciplined: it runs free from its crystal, with the learned offset applied, but for what a set
still slews (R193). -/
def ltimeFree (s : State) : State :=
  if s.bill.slewLeft.isSome then s
  else disciplineState (if s.bill.withheld then 4 else 0) { s with clk := { s.clk with slew := learned s } }

/-- The slew remainder's size in ns, rounded up. -/
def qNs (s : State) : Nat := ceilDiv s.clk.q.natAbs nsFine.toNat

/-- Mean of a domain's last |o| values, rounded up (R327). -/
def meanHist (h : List Nat) : Nat := if h.isEmpty then 0 else ceilDiv h.sum h.length

/-- R327 in LOCKED: base uncertainty, mean offset, slew remainder. -/
def lockedU (s : State) : Nat := obj s 0x0B012700 + meanHist (domGet s s.ptp.disc).hist + qNs s

/-- R327: the clock uncertainty u in ns, rounded up; none while it is unbounded. -/
def uncertainty (s : State) : Option Nat :=
  if ptimeLocked s then some (lockedU s)
  else if (domGet s s.ptp.disc).state = 3 then
    some (s.ptp.ue + ceilDiv (obj s 0x0B012800 * ((ptimeNs s + 2 ^ 64 - s.ptp.te) % 2 ^ 64)) 1000000000)
  else none

/-- A flag of UPL_CLKSTAT set on every wing, with its source 18. -/
def clkFlag (b : Nat) (s : State) : State :=
  (List.range s.part.wings).foldl (fun s w => stat w (uplClkstat w) b 18 s) s

/-- R323, R326: a domain enters a state: event 0x0B10; the disciplining domain entering HOLDOVER notes u and PTIME;
leaving LOCKED while the other is LOCKED, it hands over at the other's next Sync. The count of R325 runs on but across
FREE. -/
def domMove (d st : Nat) (s : State) : State :=
  let x := domGet s d
  if x.state = st then s
  else
    let u := lockedU s
    let big := if x.state = 0 ∨ st = 0 then 0 else x.big
    let s1 := domSet d { x with state := st, since := s.clk.now, near := 0, far := 0, big := big } s
    let s2 := if d = s.ptp.disc ∧ st = 3 then
        { s1 with ptp := { s1.ptp with ue := u, te := ptimeNs s } } else s1
    let s3 := if d = s.ptp.disc ∧ x.state = 2 ∧ (domGet s (1 - d)).state = 2 then
        { s2 with ptp := { s2.ptp with switch := some (1 - d), hand := true } } else s2
    let s4 := if ptimeLocked s && !ptimeLocked s3 then ltimeFree s3 else s3
    raise 0 0x0B10 0 d (x.state * 16 + st) s4

/-- A port takes part in PTP: it runs, with UPL_CFG.PTP set (R321). -/
def ptpPort (s : State) (pn : Nat) : Bool := lanRuns s pn && regF s (uplCfg (pn / 2) (pn % 2)) 5 5 == 1

/-- A port's peer delay: the mean of its last 8 measurements, if any (R321). -/
def peerDelay (s : State) (pn : Nat) : Option Int :=
  match tabGet [] s.ptp.pdelay pn with
  | [] => none
  | l => some (l.sum / l.length)

/-- Three message intervals of the profile, 1 s each (R321). -/
def threeIntervals : Nat := 3000000000

/-- No Announce heard. -/
def annNone : AnnounceMsg × Nat :=
  ({ prio1 := 0, cls := 0, accuracy := 0, variance := 0, prio2 := 0, identity := 0, steps := 0 }, 0)

/-- A domain's last Announce on a port. -/
def annAt (s : State) (d pn : Nat) : AnnounceMsg × Nat := tabGet annNone (domGet s d).ann pn

/-- IEEE 1588-2019 clause 9.3.4: one Announce is better than another: by the grandmaster's attributes in their order, or, of one
grandmaster, by the steps removed. (PRESUMED, log 270) -/
def annBetter (a b : AnnounceMsg) : Bool :=
  if a.identity = b.identity then decide (a.steps < b.steps)
  else decide ([a.prio1, a.cls, a.accuracy, a.variance, a.prio2, a.identity] <
    [b.prio1, b.cls, b.accuracy, b.variance, b.prio2, b.identity])

/-- R321, R322: a port may be selected: a running PTP port with a peer delay that heard an Announce within its timeout. -/
def annLive (s : State) (d pn : Nat) : Bool :=
  let c := (annAt s d pn).2
  ptpPort s pn && (peerDelay s pn).isSome && decide (c ≠ 0 ∧ s.clk.now < c - 1 + threeIntervals)

/-- The port of the best Announce among those of a kind, ties to the lower port (R322). -/
def bestPort (s : State) (d : Nat) (p : AnnounceMsg → Bool) : Option Nat :=
  (List.range (2 * s.part.wings)).foldl (fun best pn =>
    if annLive s d pn && p (annAt s d pn).1 then
      match best with
      | none => some pn
      | some q => if annBetter (annAt s d pn).1 (annAt s d q).1 then some pn else some q
    else best) none

/-- Choose a domain's port and grandmaster afresh; event 0x0B13 on a change of grandmaster. -/
def reselect (d : Nat) (s : State) : State :=
  let x := domGet s d
  match bestPort s d (fun _ => true) with
  | none => domSet d { x with sel := none } s
  | some pn =>
    let id := (annAt s d pn).1.identity
    let s1 := domSet d { x with sel := some pn, gm := id } s
    if id = x.gm then s1 else raise 0 0x0B13 0 d id s1

/-- R322: a domain whose selected port's link went down takes the best other port that hears the same grandmaster, and else
chooses afresh. -/
def reselectLost (d pn : Nat) (s : State) : State :=
  let x := domGet s d
  if x.sel ≠ some pn then s
  else match bestPort s d (fun a => a.identity == x.gm) with
    | some q => domSet d { x with sel := some q } s
    | none => reselect d s

/-- R311, R319, R322: a link that was up goes down: queued descriptors return NOLINK, a domain on the port selects again,
event 0x0B02. -/
def linkDown (pn : Nat) (s : State) : State :=
  let r := returnFrom pn (tqQueued s pn) (lanCount pn 15 (lanFlag pn 4 (regPutF (uplStat (pn / 2) (pn % 2)) 0 0 0 s)))
  reselectLost 1 pn (reselectLost 0 pn (raise (pn / 2) 0x0B02 pn pn r.1 r.2))

/-- R313: the Timetable's launches led on a parked port: their descriptors return NOLINK. -/
def leadsBack (pn : Nat) (s : State) : State :=
  let x := lanGet s pn
  let s1 := x.leads.foldl (fun s l => if l.back then s else lanWriteBack l.desc 4 0 0 s) s
  lanSet pn { lanGet s1 pn with leads := x.leads.map (fun l => { l with back := true }) } s1

/-- R313: a wing's ports park: links dropped, queued and pending descriptors returned NOLINK, the source table cleared, and a
peer delay to be measured again. -/
def parkWing (w : Nat) (s : State) : State :=
  let s1 := (List.range 2).foldl (fun s l => regPutF (uplStat w l) 10 10 1 s) s
  let s2 := (List.range 2).foldl (fun s l =>
    let pn := 2 * w + l
    let s1 := if regF s (uplStat w l) 0 0 = 1 then linkDown pn s else (returnFrom pn (tqQueued s pn) s).2
    leadsBack pn { s1 with ptp := { s1.ptp with pdelay := tabPut [] pn [] s1.ptp.pdelay } }) s1
  pairSet w { pairGet s2 w with table := [] } s2

/-- R313: the ports of every wing but wing 0 park. -/
def parkUplinks (s : State) : State :=
  (List.range s.part.wings).foldl (fun s w => if w = 0 then s else parkWing w s) s

/-- R313: QUIET HOURS has ended: parked ports train their links again. -/
def unparkUplinks (s : State) : State :=
  (List.range s.part.wings).foldl (fun s w => regPutF (uplStat w 1) 10 10 0 (regPutF (uplStat w 0) 10 10 0 s)) s

/-- The rate bound of R324, 500,000 ppb, in units of 2^-32 ppb. -/
def rateBound : Int := 500000 * 4294967296

/-- A value bounded on both sides. -/
def clampI (lo hi x : Int) : Int := max lo (min hi x)

/-- The rate correction last set, in force or on its way (R324). -/
def lastRate (s : State) : Int := (s.clk.pend.getLast?.map (·.rate)).getD s.clk.rate

/-- R324: a change of PTIME sent to the replicas, which apply it 1,024 FCLK after the Sync's time-stamp. -/
def sendClk (rate step : Int) (slew : Option Int) (s : State) : State :=
  { s with clk := { s.clk with pend := s.clk.pend ++ [{ at_ := s.clk.now + 1024, rate := rate, step := step, slew := slew }] } }

/-- R324: the servo at a Sync of the disciplining domain. (DESIGN CHOICE, log 20) -/
def servo (o : Int) (s : State) : State :=
  let atBound := decide (lastRate s = rateBound ∨ lastRate s = -rateBound)
  let sum := if atBound then s.ptp.sum else s.ptp.sum + o
  let y := clampI (-rateBound) rateBound (-((obj s 0x0B012400 : Int) * o + (obj s 0x0B012401 : Int) * sum))
  sendClk y 0 none { s with ptp := { s.ptp with sum := sum } }

/-- R325: PTIME is stepped by -o: S to 0, the domain to ACQUIRING, event 0x0B12. -/
def stepPtime (o : Int) (why : Nat) (s : State) : State :=
  let x := domGet s s.ptp.disc
  let s1 := sendClk (lastRate s) (-o * nsFine) none (domSet s.ptp.disc
    { x with big := 0, near := 0, hist := (o.natAbs :: x.hist).take 16 } { s with ptp := { s.ptp with sum := 0 } })
  raise 0 0x0B12 0 (unsgn 64 (-o)) why (clkFlag 7 (domMove s.ptp.disc 1 s1))

/-- R326: the change of disciplining domain takes effect: its estimate becomes the slew remainder q, removed from the apply
cycle on; the old domain is tracked from its last offset; event 0x0B11. (DESIGN CHOICE, log 271) -/
def takeDomain (d : Nat) (s : State) : State :=
  let x := domGet s d
  let old := domGet s s.ptp.disc
  let s0 := domSet s.ptp.disc { old with est := old.offset * nsFine } s
  let s1 := sendClk (lastRate s) 0 (some ((obj s 0x0B012B00 : Int) * 4294967296))
    { s0 with
      ptp := { s0.ptp with disc := d, switch := none, hand := false }
      clk := { s0.clk with q := x.est, qLimit := 0 } }
  let s2 := if ptimeLocked s && !ptimeLocked s1 then ltimeFree s1 else s1
  raise 0 0x0B11 0 d (unsgn 64 (x.est / nsFine)) (clkFlag 8 s2)

/-- Table 11-6: a domain's state after a Sync judged on `o`. -/
def domJudge (d : Nat) (o : Int) (s : State) : State :=
  let x := domGet s d
  let near := if o.natAbs ≤ obj s 0x0B012500 then x.near + 1 else 0
  let far := if obj s 0x0B012501 < o.natAbs then x.far + 1 else 0
  let s1 := domSet d { x with near := near, far := far, hist := (o.natAbs :: x.hist).take 16 } s
  if x.state = 0 ∨ x.state = 3 then domMove d 1 s1
  else if x.state = 1 ∧ 16 ≤ near then domMove d 2 s1
  else if x.state = 2 ∧ 3 ≤ far then domMove d 1 s1
  else s1

/-! ### Commands -/

/-- The domain that a PTP domain number names (0B.0110.00, .01). -/
def domOf (s : State) (dn : Nat) : Option Nat :=
  if obj s 0x0B011000 = dn then some 0 else if obj s 0x0B011001 = dn then some 1 else none

/-- R322 to R326: an offset of a Sync drives the servo, a step, or the estimate of a tracked domain. -/
def syncJudge (d : Nat) (o : Int) (s : State) : State :=
  let x := domGet s d
  if d = s.ptp.disc then
    let oq := o - s.clk.q / nsFine
    let big := if obj s 0x0B012600 < oq.natAbs then x.big + 1 else 0
    let s1 := domSet d { x with offset := o, sync := some s.clk.now, big := big } s
    if (x.state = 0 ∧ 0 < big) ∨ (x.state ≠ 0 ∧ 3 ≤ big) then stepPtime oq (if x.state = 0 then 1 else 2) s1
    else servo oq (domJudge d oq s1)
  else
    let est := x.est + (o * nsFine - x.est) / 8
    domJudge d ((o * nsFine - est) / nsFine) (domSet d { x with offset := o, est := est, sync := some s.clk.now } s)

/-- R320, R322 to R326: a Sync whose delimiter passes the MII boundary now; on its domain's selected port it gives an offset,
from its time-stamp, its origin time and correction, and the peer delay. -/
def execSyncReceive (t dn pn t1 : Nat) (corr : Int) (s : State) : Host.Outcome State Fault Refusal :=
  let s := atTime t s
  if !lanRuns s pn then .next s
  else
    let s1 := ptpFrames pn 1 s
    match domOf s dn with
    | some d =>
      if ptpPort s pn ∧ (domGet s1 d).sel = some pn then
        let o : Int := sgn 64 (stampIn s pn + 2 ^ 64 - t1 % 2 ^ 64) - corr - (peerDelay s pn).getD 0
        .next (syncJudge d o (if s1.ptp.switch = some d then takeDomain d s1 else s1))
      else .next s1
    | none => .next s1

/-- R322: an Announce on a running PTP port; the best one selects the domain's port. -/
def execAnnounceReceive (t dn pn : Nat) (a : AnnounceMsg) (s : State) : Host.Outcome State Fault Refusal :=
  let s := atTime t s
  if !lanRuns s pn then .next s
  else
    let s1 := ptpFrames pn 1 s
    match domOf s dn with
    | some d =>
      if ptpPort s pn then
        let x := domGet s1 d
        .next (reselect d (domSet d { x with ann := tabPut annNone pn (a, s.clk.now + 1) x.ann } s1))
      else .next s1
    | none => .next s1

/-- Octets of a Pdelay_Resp or Pdelay_Resp_Follow_Up from the destination address (IEEE 1588-2019 clause 13.10, 13.11). -/
def pdelayOctets : Nat := 68

/-- A PTP frame leaves a port, its preamble at or after a cycle, without trailer or sequence (R314): PTP_TX and TX_FRAMES. -/
def ptpSend (pn at_ : Nat) (s : State) : State :=
  lanCount pn 12 (lanSendAt pn (max at_ (lanGet s pn).wire) none pdelayOctets [] s)

/-- R320, R321: a Pdelay_Req is answered, at the cycle `resp` or when the wire is free, with Pdelay_Resp, which carries its
time-stamp, and Pdelay_Resp_Follow_Up, which carries the response's. -/
def execPdelayReq (t pn resp : Nat) (s : State) : Host.Outcome State Fault Refusal :=
  let s := atTime t s
  if !lanRuns s pn then .next s
  else
    let s1 := ptpFrames pn 1 s
    if ptpPort s pn then
      let s2 := ptpSend pn (max resp s.clk.now) s1
      let s3 := lanSet pn { lanGet s2 pn with pdelay := (stampIn s pn, stampOut s pn (lastSent s2 pn)) } s2
      .next (ptpSend pn (max resp s.clk.now) s3)
    else .next s1

/-- R320, R321: a peer-delay measurement completes as its Pdelay_Resp arrives: from the instants of the request, which passed
the MII boundary at PTIME `treq`, and of the response, less the responder's turnaround; the mean is over the last 8. -/
def execPeerDelayMeasurement (t pn treq : Nat) (turn : Int) (s : State) : Host.Outcome State Fault Refusal :=
  let s := atTime t s
  if ptpPort s pn then
    let d := (sgn 64 (stampIn s pn + 2 ^ 64 - stampOut s pn treq) - turn) / 2
    let s1 := lanCount pn 1 (lanCount pn 12 (ptpFrames pn 2 s))
    .next { s1 with ptp := { s1.ptp with pdelay := tabPut [] pn ((d :: tabGet [] s1.ptp.pdelay pn).take 8) s1.ptp.pdelay } }
  else .next s

/-- R323: no Sync for 3 intervals: ACQUIRING to FREE, LOCKED to HOLDOVER. -/
def execSyncTimeout (t d : Nat) (s : State) : Host.Outcome State Fault Refusal :=
  let s := atTime t s
  let x := domGet s d
  if d < 2 ∧ x.sync.getD 0 + threeIntervals ≤ s.clk.now then
    if x.state = 1 then .next (domMove d 0 s)
    else if x.state = 2 then .next (domMove d 3 s)
    else .next s
  else .next s

/-- R322, R323: a port's Announce times out: it can no longer be selected; a LOCKED domain whose grandmaster no other
port hears goes to HOLDOVER. -/
def execAnnounceReceiptTimeout (t d pn : Nat) (s : State) : Host.Outcome State Fault Refusal :=
  let s := atTime t s
  let x := domGet s d
  let c := (annAt s d pn).2
  if d < 2 ∧ c ≠ 0 ∧ c - 1 + threeIntervals ≤ s.clk.now then
    let s1 := domSet d { x with ann := tabPut annNone pn annNone x.ann } s
    if x.sel = some pn then
      let s2 := reselect d s1
      if (domGet s2 d).state = 2 ∧ ((domGet s2 d).sel.isNone ∨ (domGet s2 d).gm ≠ x.gm) then .next (domMove d 3 s2)
      else .next s2
    else .next s1
  else .next s

/-- R323: 0B.0129.00 s in HOLDOVER: to FREE. -/
def execHoldoverLimit (t d : Nat) (s : State) : Host.Outcome State Fault Refusal :=
  let s := atTime t s
  let x := domGet s d
  if d < 2 ∧ x.state = 3 ∧ x.since + obj s 0x0B012900 * 1000000000 ≤ s.clk.now then .next (domMove d 0 s)
  else .next s

/-- R326: the preferred domain, LOCKED for the revert hold while the other is disciplining, is to take over at its
next Sync. -/
def execDomainRevert (t : Nat) (s : State) : Host.Outcome State Fault Refusal :=
  let s := atTime t s
  let p := obj s 0x0B012000
  let x := domGet s p
  if s.ptp.disc ≠ p ∧ x.state = 2 ∧ x.since + obj s 0x0B012A00 * 1000000000 ≤ s.clk.now then
    .next { s with ptp := { s.ptp with switch := some p } }
  else .next s

/-- R324, R326: a change taken by every replica, as from its apply cycle. -/
def clkApply (c : ClkChange) (s : State) : State :=
  let late := s.clk.now - c.at_
  let q := match c.slew with
    | some lim => qStep s.clk.q lim late
    | none => 0
  { s with clk := { s.clk with
      rate := c.rate
      ptime := s.clk.ptime + (c.rate - s.clk.rate) * late + c.step - q
      q := s.clk.q - q
      qLimit := c.slew.getD s.clk.qLimit } }

/-- R324: at an apply cycle every replica takes the new rate, and any step. (DEDUCED, log 21) -/
def execPtimeApply (t : Nat) (s : State) : Host.Outcome State Fault Refusal :=
  let s := atTime t s
  let due := s.clk.pend.filter (fun c => decide (c.at_ ≤ s.clk.now))
  .next (due.foldl (fun s c => clkApply c s)
    { s with clk := { s.clk with pend := s.clk.pend.filter (fun c => !decide (c.at_ ≤ s.clk.now)) } })

end Sys2Proof.Machine
end

