-- ==== Sys2Proof/Machine/Supply.lean ====
section
/-! DEFINITION. Hold-up energy and the checks of a store operation (R373 to R375), and when no operation may start. -/

namespace Sys2Proof.Machine

/-- R373: the usable energy wing `w` holds, in uJ; a value older than 1 ms counts as 0. -/
def usableEnergy (s : State) (w : Nat) : Nat :=
  let a := tabGet 0 s.power.heldAt w
  if a ≠ 0 ∧ s.clk.now + 1 ≤ a + 1000000 then regF s (porHoldup w) 55 0 else 0

/-- R374: the flush of a full Logbook buffer, FCLK. -/
def fullFlush : Nat := 1084960

/-- R374: the power-fail reserve in pJ. -/
def reservePj (s : State) : Nat :=
  obj s 0x0C003400 * (obj s 0x0C001200 * 1000) + obj s 0x0C003500 * s.part.wings * fullFlush

/-- R374: 0C.0037.00, in uJ, rounded up. -/
def reserveUj (s : State) : Nat := ceilDiv (reservePj s) 1000000

/-- R375: the checks are not made: HOLDENF 0 or no bank capacitance. -/
def energyWaived (s : State) (w : Nat) : Bool := regF s (porOpt w 0) 25 25 == 0 || obj s 0x0C003000 == 0

/-- R374, R375: the check of a store operation `op` of cost `pj` on wing `w`: may it start, and the events. -/
def energyCheck (w op pj : Nat) (s : State) : Bool × State :=
  let u := usableEnergy s w
  let enough : Bool := decide (pj + reservePj s ≤ u * 1000000)
  if enough then (true, s)
  else if energyWaived s w then (true, raise w 0x0C04 w op u s)
  else (false, raiseOnce (6000 + op) 60000000000 w 0x0C02 w op u s)

/-- R376, R381: a declared power-fail or a quiesce lets no store or NAND operation start. -/
def noNewOps (s : State) : Bool := s.power.fail.isSome || s.power.quiesce.isSome

/-- R381: an operation begun has completed: a quiesce ends no sooner than 1,000 REFCLK after it. -/
def quiesceStamp (s : State) : State :=
  { s with power := { s.power with quiesce := s.power.quiesce.map (fun q => (q.1, s.clk.now)) } }

/-- R382: Check-in, the MAC, the uplinks and the other engines of a wing run (D4 released, no power-fail). -/
def enginesRun (s : State) (w : Nat) : Bool := decide (w < s.part.wings) && released s w 4 && s.power.fail.isNone

end Sys2Proof.Machine
end

