-- ==== Sys2Proof/Machine/Flush.lean ====
section
/-! DEFINITION. Logbook flushes (R432): their start, their end and what carrying does to them. -/

namespace Sys2Proof.Machine

/-- R432: FCLK of a flush of `n` records. -/
def flushTime (n : Nat) : Nat := 20000 + 260 * n

/-- A wing's way to the carrying gate and back is up (R21). -/
def gateOpen (s : State) (w : Nat) : Bool :=
  match s.sr.carrying with
  | some k => pathUp s w (k % 2) && pathUp s (k % 2) w
  | none => false

/-- The flush that comes next: the first demanded whose wing reaches the carrying gate. (DEDUCED, log 279) -/
def flushNext (s : State) : Option Flush :=
  s.log.queue.find? (fun f => decide (f.at_ ≤ s.clk.now) && gateOpen s f.wing)

/-- R432: the next flush starts, if a link carries, none runs, and its energy check passes. -/
def flushStart (s : State) : State :=
  match s.log.active, flushNext s with
  | none, some f =>
    if s.power.fail.isNone then
      let c := energyCheck f.wing 3 (obj s 0x0C003500 * flushTime (logGet s f.wing).unflushed) s
      if c.1 then
        regPutF (logStat f.wing) 0 0 1 { c.2 with log := { c.2.log with
          queue := c.2.log.queue.filter (fun x => x.wing != f.wing), active := some { f with at_ := s.clk.now } } }
      else c.2
    else s
  | _, _ => s

/-- LOG_CTL.FLUSH: the request bit is set and a flush demanded. -/
def flushAsk (w : Nat) (s : State) : State := flushStart (demandFlush w (regPutF (logCtl w) 0 0 1 s))

/-- A flush of the wing is demanded or runs. -/
def flushDemanded (s : State) (w : Nat) : Bool :=
  s.log.queue.any (fun f => f.wing == w && decide (f.at_ ≤ s.clk.now)) || s.log.active.any (fun f => f.wing == w)

/-- A flush ends: FLUSHING and the request bit clear (Tables 15-11, 15-12), event 0x0E01. -/
def flushEnd (f : Flush) (s : State) : State :=
  let n := (logGet s f.wing).unflushed
  let s1 := flushWrite f.wing n { s with log := { s.log with active := none } }
  let s2 := regPutF (logCtl f.wing) 0 0 0 (regPutF (logStat f.wing) 0 0 0 s1)
  raise f.wing 0x0E01 f.wing (f.sent + n) (logGet s1 f.wing).flushed s2

/-- R396: carrying stops during a power-fail flush: the records the guard has taken are flushed. -/
def failFlushHalt (s : State) : State :=
  match s.power.flush with
  | some (w, e) =>
    let n := (logGet s w).unflushed
    flushWrite w (min n ((s.clk.now + flushTime n - e - 20000) / 260)) s
  | none => s

/-- R432: carrying stops: a flush in progress ends after the last record the guard has taken and waits to start again. -/
def flushHalt (s : State) : State :=
  match s.log.active with
  | none => failFlushHalt s
  | some f =>
    let n := min (logGet s f.wing).unflushed ((s.clk.now - f.at_ - 20000) / 260 - f.sent)
    let s1 := flushWrite f.wing n { s with log := { s.log with active := none } }
    demandFlush f.wing (regPutF (logStat f.wing) 0 0 0 s1)

/-- R21, R386: a flush whose wing no longer reaches the carrying gate, or restarts, ends like one that carrying leaves. -/
def flushCut (s : State) : State :=
  if s.log.active.any (fun f => !gateOpen s f.wing) then flushStart (flushHalt s) else s

/-- R432: carrying resumes: waiting flushes may start from the next multiple of 64 FCLK. -/
def flushResume (s : State) : State :=
  { s with log := { s.log with queue := s.log.queue.map (fun f => { f with at_ := max f.at_ ((s.clk.now / 64 + 1) * 64) }) } }

end Sys2Proof.Machine
end

