-- ==== Sys2Proof/Machine/Fabric.lean ====
section
/-! DEFINITION. The Corridor and the modes of service (chapter 1, R387): messages, bus errors, link loss and
retraining, and the sequence of a mode change. -/

namespace Sys2Proof.Machine

/-! ### The address map (R22, R23) -/

/-- A block lies in a wing's register block: the service port on wing 0, the gate on wings 0 and 1 (Table 1-2).
(DEDUCED, log 15) -/
def blockPresent (w blk : Nat) : Bool :=
  decide (blk < 0x14) && (blk != 0x11 || w == 0) && (blk != 0x12 || decide (w < 2))

/-- R22: the wing whose DRAM or register block an address lies in, and whether something backs it: populated DRAM, or a
register of a block the wing has. (DEDUCED, log 14) -/
def backing (s : State) (a : Nat) : Option (Nat × Bool) :=
  if a < 0x40000000000 then
    let w := a / 0x8000000000
    if w < s.part.wings then some (w, decide (a % 0x8000000000 < dramSize s w)) else none
  else match regSplit a with
    | some (w, blk, off) => if w < s.part.wings then some (w, blockPresent w blk && (regFind blk off).isSome) else none
    | none => none

/-- An address of the strongroom window (Table 1-8). -/
def inWindow (a : Nat) : Bool := decide (0xFF0000000000 ≤ a ∧ a ≤ 0xFF0003FFFFFF)

/-- R160: an offset a wing may READ: a readable partition of Table 6-4 or a status register. -/
def mayRead (off : Nat) : Bool :=
  off % 8 == 0 && (decide (0x50000 ≤ off ∧ off < 0x60000) || decide (0x70000 ≤ off ∧ off < 0x1F00000) ||
    decide (0x2020000 ≤ off ∧ off < 0x2030000))

/-- R160, R162: the link guard refuses an access of wing `rq` at a window offset, or no link carries it: a READ outside what
may be read, a WRITE outside the wing's own request slots. -/
def windowRefuses (s : State) (rq off : Nat) (write : Bool) : Bool :=
  s.sr.carrying.isNone ||
    if write then !decide (0x2000000 ≤ off ∧ off < 0x2010000 ∧ off % 8 = 0 ∧ (off - 0x2000000) / 8192 = rq) else !mayRead off

/-- Hops from a wing to the carrying gate (R24). -/
def gateHops (s : State) (rq : Nat) : Nat := hops rq (s.sr.carrying.getD 0)

/-- The links between a wing and the carrying gate, both ways, are up (R21, R24). -/
def gatePath (s : State) (rq : Nat) : Bool :=
  pathUp s rq (s.sr.carrying.getD 0) && pathUp s (s.sr.carrying.getD 0) rq

/-- R454: FCLK from the issue at `t` of a READ of the strongroom window to its reply. -/
def windowTime (s : State) (rq t : Nat) : Nat :=
  messageTime .srlink 1 (gateHops s rq) t + 960 +
    messageTime .srlink 1 (gateHops s rq) (t + messageTime .srlink 1 (gateHops s rq) t + 960)

/-- The cycle at which what the guard sends now arrives at wing `rq` (R162, R454). (DEDUCED, log 220) -/
def guardReply (s : State) (rq : Nat) : Nat :=
  s.clk.now + 480 + messageTime .srlink 1 (gateHops s rq) (s.clk.now + 480)

/-- R22: FCLK from issue at `t` to the bus error of an access by wing `rq`: 24 on the requesting wing; otherwise the
time of a register read, of a CORE access answered by one beat 24 FCLK after its arrival, or of a window READ. -/
def busErrorTime (s : State) (rq a t : Nat) : Nat :=
  match backing s a with
  | none => if inWindow a then windowTime s rq t else 24
  | some (w, _) =>
    if w = rq then 24
    else if a < 0x40000000000 then
      let w1 := t % 2
      let h := hops rq w
      w1 + 24 * h + 24 + (t + w1 + 24 * h + 24) % 2 + 24 * h
    else readTime rq w t

/-- Record the completion of an access. (DESIGN CHOICE, log 31) -/
def completeAccess (rq a : Nat) (write : Bool) (at_ : Nat) (v : Option Word) (s : State) : State :=
  { s with fab := { s.fab with done := ({ rq := rq, addr := a, write := write, done := at_, value := v, bad := false }
                                        :: s.fab.done).take 64 } }

/-- An access of wing `rq` completes with a bus error at a cycle, and is counted (R22). -/
def busError (rq a : Nat) (write : Bool) (at_ : Nat) (s : State) : State :=
  count rq 191 (completeAccess rq a write at_ none s)

/-- The access ends in a bus error: nothing backs it, or a link of its path is down, for a read that of its response
too (R16, R21, R22). The strongroom window is the link guard's to judge (`windowRefuses`). -/
def errs (s : State) (rq a : Nat) (write : Bool) : Bool :=
  match backing s a with
  | none => !inWindow a
  | some (w, b) => !b || !pathUp s rq w || (!write && !pathUp s w rq)

/-- R363: an access of the Concierge to one register of each wing, in ascending wing; the first that ends in a bus error ends the
message with UNREACHABLE, and what was done on other wings stands. -/
def wingsReached (a : Nat → Nat) (f : Nat → State → State) (s : State) : Nat × State :=
  (List.range s.part.wings).foldl (fun r w =>
    if r.1 ≠ stDONE then r
    else if errs r.2 0 (a w) true then (stUNREACHABLE, busError 0 (a w) true (r.2.clk.now + busErrorTime r.2 0 (a w) r.2.clk.now) r.2)
    else (stDONE, f w r.2)) (stDONE, s)

/-- R21, R22: an access that nothing backs, one whose path is down, or one the link guard refuses, completes with a bus
error, returns and stores nothing, and is counted. (DEDUCED, log 225) -/
def execBusError (t rq addr : Nat) (write : Bool) (s : State) : Host.Outcome State Fault Refusal :=
  let s := atTime t s
  if errs s rq addr write ||
      (inWindow addr && (windowRefuses s rq (addr - 0xFF0000000000) write || !gatePath s rq)) then
    .next (busError rq addr write (s.clk.now + busErrorTime s rq addr s.clk.now) s)
  else .next s

/-! ### Messages (R18, R19) -/

/-- R19: of two messages of one class that need one link direction, `a` leaves before `b`: by readiness, then forwarded
ones, then by ascending requester. -/
def leavesBefore (a b : Waiting) : Bool :=
  decide (a.at_ < b.at_) || (a.at_ == b.at_ && ((a.fwd && !b.fwd) ||
    (!a.fwd && !b.fwd && decide (a.msg.rq < b.msg.rq))))

/-- A message put in its place among those that wait for its link direction. -/
def waitInsert (x : Waiting) : List Waiting → List Waiting
  | [] => [x]
  | y :: ys => if leavesBefore x y then x :: y :: ys else y :: waitInsert x ys

/-- The place of a class among those of Table 1-3. -/
def classNo : FabClass → Nat
  | .core => 0 | .ingest => 1 | .store => 2 | .audit => 3 | .reg => 4 | .uplink => 5 | .srlink => 6 | .fabric => 7

/-- The key of a class's queue on the link direction out of a wing by a port. -/
def queueKey (w p : Nat) (c : FabClass) : Nat := (w * 3 + p) * 8 + classNo c

/-- The messages of a class that wait for a link direction. -/
def queueGet (s : State) (k : Nat) : List Waiting := tabGet [] s.fab.queues k

/-- The cycle at which a message leaves by a link direction whose phases are free from a cycle (R18, R19). -/
def leaveAt (free : Nat) (x : Waiting) : Nat := max x.at_ free + slotWait x.msg.cls (max x.at_ free)

/-- The cycle from which a class's phases are free after a message that leaves at a cycle. -/
def freeAfter (x : Waiting) (l : Nat) : Nat := l + (x.msg.beats - 1) * slotSpacing x.msg.cls + 1

/-- A message arrived: it lies on its target wing since a cycle. -/
def arriveMsg (m : FabMsg) (w a : Nat) (s : State) : State :=
  { s with fab := { s.fab with flights := ({ cls := m.cls, beats := m.beats, src := m.src, dst := m.dst
                                             here := w, arrive := a } :: s.fab.flights).take 64 } }

/-- A message waits on a wing for the first link direction of the rest of its route; on its target wing it waits for none. -/
def enqueue (x : Waiting) (s : State) : State :=
  match firstPort x.here x.msg.dst with
  | none => s
  | some p =>
    let k := queueKey x.here p x.msg.cls
    { s with fab := { s.fab with queues := tabPut [] k (waitInsert x (queueGet s k)) s.fab.queues } }

/-- The first message of one queue leaves, if its cycle has come: on its target wing it has arrived with its last beat; a
wing that forwards it has its first beat 24 FCLK after it left (R18). -/
def leaveOne (k : Nat) (s : State) : State :=
  match queueGet s k with
  | [] => s
  | x :: xs =>
    let l := leaveAt (tabGet 0 s.fab.taken k) x
    if l ≤ s.clk.now then
      let n := x.here ^^^ 2 ^ (k / 8 % 3)
      let s1 := { s with fab := { s.fab with queues := tabPut [] k xs s.fab.queues
                                             taken := tabPut 0 k (freeAfter x l) s.fab.taken } }
      if n = x.msg.dst then arriveMsg x.msg n (l + (x.msg.beats - 1) * slotSpacing x.msg.cls + 24) s1
      else enqueue { x with here := n, at_ := l + 24, fwd := true } s1
    else s

/-- Every queue's messages whose cycles have come leave, in rounds over the queues. -/
def leaveAll : Nat → State → State
  | 0, s => s
  | f + 1, s => leaveAll f (s.fab.queues.foldl (fun s e => leaveOne e.1 s) s)

/-- The messages that wait on any wing. -/
def waitingCount (s : State) : Nat := (s.fab.queues.map (fun e => e.2.length)).sum

/-- R18, R19, R21: a Corridor message is ready on its wing and takes its place among those of its class; every message
whose cycle has come is on its way. An access across a link that is down completes with a bus error after the time the
path would have taken. (DESIGN CHOICE, log 226) -/
def execFabricMessageArrival (t : Nat) (m : FabMsg) (s : State) : Host.Outcome State Fault Refusal :=
  let s := atTime t s
  if pathUp s m.src m.dst then
    let s1 := if m.src = m.dst then arriveMsg m m.src m.ready s
      else enqueue { msg := m, here := m.src, at_ := m.ready, fwd := false } s
    .next (leaveAll (3 * waitingCount s1 + 3) s1)
  else
    .next (busError m.src m.addr false (m.ready + messageTime m.cls m.beats (hops m.src m.dst) m.ready) s)

/-- R19: FCLK that the messages of a class on the way from `a` to `b` add to one beat ready at `t`: the beats ahead of it
on each link direction, as each hop finds them. -/
def beatsAhead (s : State) (c : FabClass) (b : Nat) : Nat → Nat → Nat → Nat
  | 0, _, _ => 0
  | f + 1, a, t =>
    match firstPort a b with
    | none => 0
    | some p =>
      let k := queueKey a p c
      let free := (queueGet s k).foldl (fun fr x => if x.at_ ≤ t then freeAfter x (leaveAt fr x) else fr) (tabGet 0 s.fab.taken k)
      let l0 := t + slotWait c t
      let l := max t free + slotWait c (max t free)
      (l - l0) + beatsAhead s c b f (a ^^^ 2 ^ p) (l + 24)

/-- R19, R20: FCLK after which a register write of wing `a` issued at `t0` is applied at wing `b`, with the REG beats
queued ahead of it. -/
def appliedAfter (s : State) (a b t0 : Nat) : Nat := writeTime a b t0 + beatsAhead s .reg b 3 a t0

/-- R19, R20: FCLK after which a register read issued at `t0` completes, with the REG beats queued ahead of it on the way
there and back. -/
def readAfter (s : State) (a b t0 : Nat) : Nat :=
  readTime a b t0 + beatsAhead s .reg b 3 a t0 + beatsAhead s .reg a 3 b (t0 + appliedAfter s a b t0 + 24)

/-! ### Link loss and retraining (R21, R387) -/

/-- The two wings of port `p` of wing `w`. -/
def linkEnds (w p : Nat) : List Nat := [min w (w ^^^ 2 ^ p), max w (w ^^^ 2 ^ p)]

/-- The port is used in this variant (R15). -/
def portUsed (s : State) (w p : Nat) : Bool := decide (p < 3 ∧ w < s.part.wings ∧ w ^^^ 2 ^ p < s.part.wings)

/-- Replace a link's state. -/
def linkSet (w p : Nat) (l : Link) (s : State) : State :=
  { s with fab := { s.fab with links := tabPut linkDefault (min w (w ^^^ 2 ^ p) * 3 + p) l s.fab.links } }

/-- The link on port `p` of wing `w`. -/
def linkOn (s : State) (w p : Nat) : Link := linkGet s (min w (w ^^^ 2 ^ p)) p

/-- Set or clear COR_LINK.UP of both ends. -/
def linkUpBits (w p v : Nat) (s : State) : State :=
  (linkEnds w p).foldl (fun s a => regPutF (corLink a) p p v s) s

/-- A message that waits must still cross a link that is down. -/
def stranded (s : State) (x : Waiting) : Bool := !pathUp s x.here x.msg.dst

/-- R21: the messages under way across a link that is down: their accesses complete with a bus error after the time their
path would have taken. -/
def dropWaiting (s : State) : State :=
  let lost := s.fab.queues.flatMap (fun e => e.2.filter (fun x => stranded s x))
  let s1 := { s with fab := { s.fab with queues := (s.fab.queues.map (fun e => (e.1, e.2.filter (fun x => !stranded s x)))).filter (fun e => !e.2.isEmpty) } }
  lost.foldl (fun s x => busError x.msg.src x.msg.addr false
    (x.msg.ready + messageTime x.msg.cls x.msg.beats (hops x.msg.src x.msg.dst) x.msg.ready) s) s1

/-- R21: a link loses training: DOWN sets at both ends, source 24 is raised, event 0x0C31 is raised by the lower
wing, and a fault flush is demanded (Table 15-3). Retraining begins 1,024 REFCLK later (R387). (DEDUCED, log 30) -/
def execCorridorLinkLost (t w port : Nat) (s : State) : Host.Outcome State Fault Refusal :=
  let s := atTime t s
  if portUsed s w port then
    let lo := min w (w ^^^ 2 ^ port)
    let s1 := dropWaiting (linkSet w port { linkDefault with down := true, due := s.clk.now + 10240, lostAt := s.clk.now } s)
    let s2 := (linkEnds w port).foldl (fun s a => stat a (corLink a) (16 + port) 24 s) (linkUpBits w port 0 s1)
    .next (flushCut (faultFlush lo (raise lo 0x0C31 lo lo port s2)))
  else .next s

/-- R387: the Porters of the two wings begin a training attempt, once it is due. -/
def execCorridorRetrainStart (t w port : Nat) (s : State) : Host.Outcome State Fault Refusal :=
  let s := atTime t s
  let l := linkOn s w port
  if portUsed s w port ∧ l.down ∧ !l.training ∧ !l.given ∧ l.due ≤ s.clk.now then
    .next (linkSet w port { l with training := true, due := s.clk.now + 30000 } s)
  else .next s

/-- R387: a trained link rejoins traffic at a multiple of 64 FCLK; event 0x0C32. -/
def execCorridorLinkRetrained (t w port : Nat) (s : State) : Host.Outcome State Fault Refusal :=
  let s := atTime t s
  let l := linkOn s w port
  let lo := min w (w ^^^ 2 ^ port)
  if portUsed s w port ∧ l.down ∧ l.training ∧ s.clk.now % 64 = 0 ∧ s.clk.now < l.due + 64 then
    .next (raise lo 0x0C32 lo lo port (linkUpBits w port 1 (linkSet w port linkDefault s)))
  else .next s

/-- R387: an attempt has failed 3,000 REFCLK after it began; the next begins 10 ms later; after 8 failures event
0x0C33 is raised and the link stays down until a reset. -/
def execCorridorRetrainFailed (t w port : Nat) (s : State) : Host.Outcome State Fault Refusal :=
  let s := atTime t s
  let l := linkOn s w port
  let lo := min w (w ^^^ 2 ^ port)
  if portUsed s w port ∧ l.down ∧ l.training ∧ l.due ≤ s.clk.now then
    let n := l.attempts + 1
    if 8 ≤ n then
      .next (raise lo 0x0C33 lo lo port (linkSet w port { l with attempts := n, training := false, given := true } s))
    else
      .next (linkSet w port { l with attempts := n, training := false, due := s.clk.now + 10000000 } s)
  else .next s

/-! ### Modes of service (R29 to R33) -/

/-- CCLK divider of a mode from 4.8 GHz (R33). -/
def modeDivider (m : Nat) : Nat := if m = 0 then 3 else if m = 1 then 4 else 8

/-- Night Audit lanes of a mode (Table 1-12): deferred in QUIET HOURS. -/
def modeLanes (m : Nat) : Nat := if m = 0 then 256 else if m = 1 then 128 else 0

/-- Wings other than wing 0, as a mask. -/
def otherWings (s : State) : Nat := 2 ^ s.part.wings - 2

/-- R262: jobs ready when QUIET HOURS begin wait for its end, and are counted DEFERRED on their wing. -/
def quietJobs (s : State) : State :=
  s.audit.jobs.foldl (fun s j => if j.waited then s else count (if j.kind = 3 then j.who else 0) (tallyNa 12) s)
    { s with audit := { s.audit with jobs := s.audit.jobs.map (fun j => { j with waited := true }) } }

/-- R31, R33: a mode request applied: in force at once, event 0x0101, the sequence of Table 1-14 begun at the first multiple
of 64 FCLK from now. A request for the mode in force does nothing and is logged. (DESIGN CHOICE, log 228) -/
def applyMode (m : Nat) (s : State) : State :=
  let old := s.mode.cur
  let s1 := raise 0 0x0101 0 old m { s with mode := { s.mode with changes := s.mode.changes + 1 } }
  if m = old then s1
  else
    let s1 := eachWing (fun w s => ingSet w (ingReady s.mode.cur (s.clk.now - 1) (ingGet s w)) s) s1
    let div := nextMultiple s1.clk.now 64
    let s2 := { s1 with mode := { s1.mode with
      cur := m
      old := old
      divAt := some div
      lanesAt := some (div + 64)
      toPark := if m = 2 then otherWings s1 else 0
      resumeAt := if m = 2 then none else if old = 2 then some (div + 40960) else s1.mode.resumeAt } }
    let s3 := (List.range s2.part.wings).foldl (fun s w => ingSet w (closeBatch s.clk.now (ingGet s w)) s) s2
    if m = 2 then parkUplinks (quietJobs s3) else s3

/-- R33: the CCLK divider of the new mode takes effect at a multiple of 64 FCLK. -/
def execCclkDividerChange (t : Nat) (s : State) : Host.Outcome State Fault Refusal :=
  let s := atTime t s
  match s.mode.divAt with
  | some d =>
    if d ≤ s.clk.now then
      let s1 := { s with mode := { s.mode with divider := modeDivider s.mode.cur, divAt := none } }
      .next (if s.mode.cur = 2 then s1 else unparkUplinks s1)
    else .next s
  | none => .next s

/-- An interval boundary of Night Audit's schedule (R252) has come since a cycle: a multiple of the audit interval, in the
UTC that 05.0026.00 converts PTIME to. -/
def boundarySince (s : State) (c : Nat) : Bool :=
  let now := ptimeNs s - obj s 0x05002600 * 1000000000
  let len := obj s 0x09000200 * 60000000000
  decide (len ≠ 0 ∧ nextMultiple (now - (s.clk.now - c)) len ≤ now)

/-- R33: the Night Audit lane count of the new mode takes effect at the first interval boundary of its schedule at or after
its cycle. -/
def execNightAuditLaneChange (t : Nat) (s : State) : Host.Outcome State Fault Refusal :=
  let s := atTime t s
  match s.mode.lanesAt with
  | some d =>
    if d ≤ s.clk.now ∧ boundarySince s d then
      .next ((List.range s.part.wings).foldl (fun s w => regPutF (naStat w) 40 32 (modeLanes s.mode.cur) s)
        { s with mode := { s.mode with lanes := modeLanes s.mode.cur, lanesAt := none } })
    else .next s
  | none => .next s

/-- R33: a wing's cores reach the parking point set by the Ledger runtime and park. -/
def execCorePark (t w : Nat) (s : State) : Host.Outcome State Fault Refusal :=
  let s := atTime t s
  if bit s.mode.toPark w then
    .next { s with mode := { s.mode with parked := s.mode.parked ||| 2 ^ w, toPark := s.mode.toPark ^^^ 2 ^ w } }
  else .next s

/-- R33: parked cores resume 4,096 REFCLK after the divider change. -/
def execCoreResume (t : Nat) (s : State) : Host.Outcome State Fault Refusal :=
  let s := atTime t s
  match s.mode.resumeAt with
  | some d => if d ≤ s.clk.now then .next { s with mode := { s.mode with parked := 0, resumeAt := none } } else .next s
  | none => .next s

end Sys2Proof.Machine
end

