-- ==== Sys2Proof/Machine/Timetable.lean ====
section
/-! DEFINITION. The Timetable (R43 to R52): entries with their held writes, GO, STOP, firing, launches and captures,
and a new MAT epoch (R37, R49). -/

namespace Sys2Proof.Machine

/-- An idle entry. -/
def entryDefault : Entry :=
  { tgt := 0, ctl := 0, rep := 0, arg := 0, hTgt := none, hCtl := none, hRep := none, hArg := none, leadAt := none
    stopped := false }

/-- A Timetable entry of a wing. -/
def ttGet (s : State) (w e : Nat) : Entry := tabGet entryDefault s.tt (w * 256 + e)

/-- Replace a Timetable entry. -/
def ttSet (w e : Nat) (x : Entry) (s : State) : State := { s with tt := tabPut entryDefault (w * 256 + e) x s.tt }

/-- STATE of an entry (Table 2-6). -/
def entState (x : Entry) : Nat := bits x.ctl 10 8
/-- ACTION of an entry. -/
def entAction (x : Entry) : Nat := bits x.ctl 3 0
/-- PORT of an entry. -/
def entPort (x : Entry) : Nat := bits x.ctl 19 16
/-- COUNT of an entry. -/
def entCount (x : Entry) : Nat := bits x.ctl 47 32
/-- NEEDLOCK of an entry. -/
def entNeed (x : Entry) : Bool := bit x.ctl 14
/-- WHY of an entry. -/
def entWhy (x : Entry) : Nat := bits x.ctl 23 20
/-- INTERVAL of an entry (Table 2-7). -/
def entInterval (x : Entry) : Nat := bits x.rep 39 0
/-- CAPMASK of an entry. -/
def entCapmask (x : Entry) : Nat := bits x.rep 55 40
/-- CAPCYC of an entry. -/
def entCapcyc (x : Entry) : Nat := bits x.rep 63 56

/-- The RW fields of TT_ENT_CTL taken from a written word, the others kept. -/
def ctlMerge (old v : Nat) : Nat :=
  setBits (setBits (setBits (setBits old 47 32 (bits v 47 32)) 19 16 (bits v 19 16)) 14 14 (bits v 14 14)) 3 0
    (bits v 3 0)

/-- R44: held writes take effect. -/
def unhold (x : Entry) : Entry :=
  { x with
    tgt := x.hTgt.getD x.tgt
    ctl := match x.hCtl with
      | some v => ctlMerge x.ctl v
      | none => x.ctl
    rep := x.hRep.getD x.rep
    arg := x.hArg.getD x.arg
    hTgt := none, hCtl := none, hRep := none, hArg := none }

/-- R44: a write to a word of an entry: held while ARMED, in force at once otherwise. -/
def entWrite (word v : Nat) (x : Entry) : Entry :=
  if entState x = 1 then
    match word with
    | 0 => { x with hTgt := some v }
    | 1 => { x with hCtl := some v }
    | 2 => { x with hRep := some v }
    | _ => { x with hArg := some v }
  else
    match word with
    | 0 => { x with tgt := v }
    | 1 => { x with ctl := ctlMerge x.ctl v }
    | 2 => { x with rep := v }
    | _ => { x with arg := v }

/-- The entry in a new STATE with a WHY; leaving ARMED its held writes take effect. -/
def entMove (st why : Nat) (x : Entry) : Entry :=
  let y := if entState x = 1 ∧ st ≠ 1 then unhold x else x
  { y with ctl := setBits (setBits y.ctl 10 8 st) 23 20 why }

/-- R44 check 1: BAD_ARG. -/
def entBad (s : State) (w : Nat) (x : Entry) : Bool :=
  let a := entAction x
  decide (a = 0 ∨ 5 < a) ||
  decide (entPort x > (if a = 3 then 1 else if a = 4 then 2 else 0)) ||
  (a == 1 && decide (x.arg % 4 = 3 ∨ 4 ≤ x.arg)) ||
  (a == 2 && (decide (entCapcyc x = 0 ∨ entCapmask x = 0 ∨ x.arg % 64 ≠ 0) ||
    !dramIn s w x.arg (16 + entCapcyc x * 753 * popCount 16 (entCapmask x) * 8))) ||
  ((a == 3 || a == 4) && (decide (x.arg % 8 ≠ 0) || !dramIn s w x.arg 32))

/-- R44: the WHY of a GO's validation: 6 BAD_ARG, 1 PAST, 2 TOO_SOON, 0 none. -/
def goWhy (s : State) (w : Nat) (x : Entry) : Nat :=
  let d := sgn 64 (x.tgt + 2 ^ 64 - matNow s w)
  if entBad s w x then 6 else if d ≤ 0 then 1 else if d < 0x40000 then 2 else 0

/-- R44: a GO request taken: held writes apply, the entry is ARMED or SKIPPED; arming leaves WHY, the reason for the last skip
or cancellation, as it is. (DEDUCED, log 28) -/
def ttGo (w e : Nat) (s : State) : State :=
  let x := unhold (ttGet s w e)
  let why := goWhy s w x
  if why = 0 then ttSet w e { entMove 1 (entWhy x) x with leadAt := none, stopped := false } s
  else ttSkipMark w e why (ttSet w e (entMove 3 why { x with leadAt := none }) s)

/-- R48: after a firing or a skip at fire time: TGT and COUNT advance; the entry stays ARMED, becomes DONE, or is
SKIPPED. -/
def ttAdvance (w e why : Nat) (s : State) : State :=
  let x := { ttGet s w e with leadAt := none }
  let s1 := if why = 0 then s else ttSkipMark w e why s
  if entState x ≠ 1 then ttSet w e x s1
  else
    let last := entCount x == 1
    let y := if entInterval x = 0 then x
      else { x with tgt := (x.tgt + entInterval x * 2 ^ 24) % 2 ^ 64
                    ctl := if entCount x = 0 then x.ctl else setBits x.ctl 47 32 (entCount x - 1) }
    let why' := if why = 0 then entWhy y else why
    if entInterval x ≠ 0 ∧ !last then ttSet w e { y with ctl := setBits y.ctl 23 20 why' } s1
    else ttSet w e (entMove (if why = 0 then 2 else 3) why' y) s1

/-- R40, R48: a NEEDLOCK entry may fire: the wing's MSTATE is LOCKED and its replica neither STALE nor SKEW.
(DEDUCED, log 27) -/
def lockOk (s : State) (w : Nat) : Bool :=
  let r := replica s w
  r.given == 2 && !r.stale && !r.skew

/-- MAT has reached a target of a wing (R46). -/
def matReached (s : State) (w tgt : Nat) : Bool := notBeforeW 64 (matNow s w) tgt

/-- TT_MAT has come within `lead` FCLK of a target at the increment in force (R50, R328). -/
def leadReached (s : State) (w tgt lead : Nat) : Bool :=
  notBeforeW 96 ((replica s w).acc + lead * (replica s w).inc) (tgt * 2 ^ 32)

/-- R52: a capture begins. -/
def captureStart (w e : Nat) (x : Entry) (s : State) : State :=
  { s with cap := some { wing := w, entry := e, base := x.arg, mask := entCapmask x, n := 0
                         limit := entCapcyc x * 753, endAt := (x.tgt + entCapcyc x * 2 ^ 24) % 2 ^ 64 } }

/-- R52: a capture ends: its sample count is written to the header, strongroom source 12 is raised.
(DEDUCED, log 29) -/
def captureStop (s : State) : State :=
  match s.cap with
  | none => s
  | some c => srRaise 12 (dramWrite (c.base + 8) (toLe 8 c.n) { s with cap := none })

/-- R37, R49: a new MAT epoch: the number rises, MAT is UNLOCKED, the replicas read 0, every ARMED entry is
CANCELLED, a capture ends, events 0x0203 and 0x0211. -/
def newEpoch (reason : Nat) (s : State) : State :=
  let s0 := captureStop s
  let m := { (matEnter 0 0 s0).mat with
    state := 0, epoch := s0.mat.epoch + 1, origin := false, once := false, good := 0, run := 0, why := 1
    refAcc := 0, refInc := 0, refPend := [], lossAt := none, pend := []
    chans := []
    reps := s0.mat.reps.mapIdx (fun i r => { r with live := false, acc := 0, inc := 0, stale := false, skew := false, given := 0, corr := 0
                                                    epoch := if released s0 i 4 then s0.mat.epoch + 1 else r.epoch }) }
  let s1 := srRaise 10 (keeperRaise 0x0203 m.source m.epoch reason { matEnter 0 0 s0 with mat := m })
  let s2 := eachWing (fun w s => stat w (ttStat w) 5 21 s) s1
  eachWing (fun w s =>
    let armed := (List.range 256).filter (fun e => entState (ttGet s w e) == 1)
    if armed.isEmpty then s
    else raise w 0x0211 w w armed.length (stat w (ttStat w) 7 21
      (armed.foldl (fun s e => ttSet w e (entMove 4 7 (ttGet s w e)) s) s))) s2

/-- R58: an AIR_LAUNCH cut off is skipped with PORT_BUSY: one whose lead runs is advanced as a skip at fire time; one on air,
which has been advanced at its firing, only takes the skip. -/
def launchCut (w e : Nat) (s : State) : State :=
  let x := ttGet s w e
  if x.leadAt.isSome then ttAdvance w e 4 s
  else ttSkipMark w e 4 (ttSet w e { x with ctl := setBits (if entState x = 2 then setBits x.ctl 10 8 3 else x.ctl) 23 20 4 } s)

/-- Cut off whatever a port sends with a status for its descriptor; a launch's entry is skipped with PORT_BUSY (R50, R58). -/
def cutPortAs (st pn : Nat) (s : State) : State :=
  match (portGet s pn).cur with
  | some c => if c.rank = 2 ∧ !(portGet s pn).ended then launchCut (c.ident / 256) (c.ident % 256) (cutSpan st pn s) else cutSpan st pn s
  | none => s

/-- Cut off whatever a port sends, for a transmission of a higher rank: a launch is written back SKIPPED (R50, R58, R82). -/
def cutPort (pn : Nat) (s : State) : State := cutPortAs 3 pn s

/-! ### Firing (R46 to R50) -/

/-- An entry whose action is not a launch is due: ARMED, and MAT has reached its target (R46). -/
def fireDue (s : State) (w : Nat) (x : Entry) : Bool :=
  entState x == 1 && x.leadAt.isNone && entAction x != 3 && entAction x != 4 && matReached s w x.tgt

/-- R46 to R48, R52: a due entry fires: its action is taken or skipped, and it is advanced. -/
def fireEntry (w e : Nat) (s : State) : State :=
  let x := ttGet s w e
  if entNeed x ∧ !lockOk s w then ttAdvance w e 3 s
  else if entAction x = 1 then ttAdvance w e 0 (applyMode (x.arg % 4) s)
  else if entAction x = 5 then ttAdvance w e 0 (bell w 20 (regPutF (ttStat w) 15 8 e s))
  else if s.cap.isSome then ttAdvance w e 5 s
  else ttAdvance w e 0 (captureStart w e x s)

/-- R47: the entries due in this FCLK up to a place in the order of wing, then entry, fire in that order. -/
def fireUpTo (k : Nat) (s : State) : State :=
  s.tt.foldl (fun s en =>
    if en.1 ≤ k ∧ fireDue s (en.1 / 256) (ttGet s (en.1 / 256) (en.1 % 256)) then fireEntry (en.1 / 256) (en.1 % 256) s else s) s

/-- R48, R50, R58: at c_lead an AIR_LAUNCH cuts off an ordinary frame or acknowledgement, takes its port and asserts
TXEN; it is skipped for NOLOCK, or for PORT_BUSY while an armed frame or an earlier launch holds the port. A launch whose
descriptor is bad, or whose port is disabled, has fired and sends nothing. (DESIGN CHOICE, log 232) -/
def leadEntry (w e : Nat) (s : State) : State :=
  let x := ttGet s w e
  let pn := 2 * w + entPort x
  if entNeed x ∧ !lockOk s w then ttAdvance w e 3 (descDone x.arg 3 0 s)
  else if ((portGet s pn).cur.map (fun c => decide (c.rank ≤ 2))).getD false then
    ttAdvance w e 4 (descDone x.arg 3 0 s)
  else
    let d := dramRead s x.arg 32
    let sp := spanAt s pn 2 (w * 256 + e) x.arg s.clk.now (descAir d) (leAt d 3 1) (bit (leAt d 6 1) 1) 0
    if !airEn s pn then ttAdvance w e 0 (descComplete pn sp 5 0 s)
    else if descBad s w d then ttAdvance w e 0 (descComplete pn sp 4 0 (airCount pn 15 s))
    else ttSet w e { ttGet s w e with leadAt := some s.clk.now } (startSpan pn sp (cutPort pn s))

/-- The lead of an AIR_LAUNCH is due (R50). -/
def leadDue (s : State) (w : Nat) (x : Entry) : Bool :=
  s.power.fail.isNone && entState x == 1 && entAction x == 3 && x.leadAt.isNone && leadReached s w x.tgt 35200

/-- R47, R50: the launches whose leads are due in this FCLK, up to a place in the order of wing, then entry, in that order. -/
def leadUpTo (k : Nat) (s : State) : State :=
  s.tt.foldl (fun s en =>
    if en.1 ≤ k ∧ leadDue s (en.1 / 256) (ttGet s (en.1 / 256) (en.1 % 256)) then leadEntry (en.1 / 256) (en.1 % 256) s else s) s

/-- R45: a STOP request taken, after a firing or a lead of the entry due in this FCLK: an ARMED entry is CANCELLED with
STOPPED; any other is left. -/
def ttStop (w e : Nat) (s : State) : State :=
  let s1 := if fireDue s w (ttGet s w e) then fireEntry w e s
    else if leadDue s w (ttGet s w e) then leadEntry w e s else s
  let x := ttGet s1 w e
  if entState x = 1 then
    raise w 0x0213 w (w * 256 + e) (matNow s1 w)
      (stat w (ttStat w) 7 21 (ttSet w e { entMove 4 8 x with stopped := x.leadAt.isSome } s1))
  else s1

/-! ### Commands -/

/-- A port transmits nothing from now on: what is on air is cut, spaced armed frames and reserved acknowledgements are gone with
their buffers, TXEN is released (R68, R69). -/
def portSilent (st pn : Nat) (s : State) : State :=
  let s1 := cutPortAs st pn s
  let x := portGet s1 pn
  let gone := (x.resv.filter (·.rank == 1)).map (·.ident)
  releaseTxen pn (gone.foldl (fun s i => bufFree pn i s) (portSet pn { x with resv := [] } s1))

/-- R69: clearing AIR_CFG.EN cuts the transmission with status CUT, releases TXEN at once, aborts the port's lanes; SMPCLK
stops 1 us later. -/
def execPortDisable (t w p : Nat) (s : State) : Host.Outcome State Fault Refusal :=
  let s := atTime t s
  let pn := 2 * w + p
  if p < 2 ∧ w < s.part.wings then
    let s1 := idleWatchers pn (abortLanes pn 8 (fun _ => true) (portSilent 1 pn s))
    .next (regPutF (airStat w p) 0 0 0 (regPutF (airCfg w p) 0 0 0
      (portSet pn { portGet s1 pn with smpclk := false, smpOff := s1.clk.now + 1000 } s1)))
  else .next s

/-- R44. -/
def execTimetableGo (t w e : Nat) (s : State) : Host.Outcome State Fault Refusal :=
  let s := atTime t s
  if w < s.part.wings ∧ e < 256 then .next (ttGo w e s) else .next s

/-- R45. -/
def execTimetableStop (t w e : Nat) (s : State) : Host.Outcome State Fault Refusal :=
  let s := atTime t s
  if w < s.part.wings ∧ e < 256 then .next (ttStop w e s) else .next s

/-- R31, R32, R348: a write to 01.0001.00: kept, and requested at once, after the
Timetable entries due in its FCLK (R47); a value other than 0, 1 or 2 is refused, and one that
cannot be kept. -/
def execModeRequest (t : Nat) (via : Via) (mode : Nat) (s : State) : Host.Outcome State Fault Refusal :=
  let s := atTime t s
  .next (serve via 0x01000100 (fun s =>
    checked [(decide (mode < 3), stRANGE), (srOpen s, stUNREACHABLE), (!noPower s, stNOPOWER)]
      (fun s => (stDONE, [], applyMode mode (fireUpTo 2048 (commitOne (objPut 0x01000100 mode s))))) s) s)

/-- R46 to R48, R52: an ARMED entry whose target MAT has reached fires, behind those due before it in this FCLK. A launch
whose lead was taken completes with event 0x0212; a launch to an uplink port completes at its own send. -/
def execTimetableFire (t w e : Nat) (s : State) : Host.Outcome State Fault Refusal :=
  let s := atTime t s
  let x := ttGet s w e
  if !(w < s.part.wings ∧ e < 256) then .next s
  else match x.leadAt with
  | some l =>
    if entAction x = 3 ∧ l + 35200 ≤ s.clk.now then
      .next (ttAdvance w e 0 (raise w 0x0212 w (w * 256 + e) (matNow s w) s))
    else .next s
  | none => .next (fireUpTo (w * 256 + e) s)

/-- R47, R50: the lead of an AIR_LAUNCH, behind those due before it in this FCLK. -/
def execAirLaunchLead (t w e : Nat) (s : State) : Host.Outcome State Fault Refusal :=
  let s := atTime t s
  if w < s.part.wings ∧ e < 256 then .next (leadUpTo (w * 256 + e) s) else .next s

/-- R52: a capture ends at its target, when its buffer is full, or when metrology stops. -/
def execCaptureEnd (t : Nat) (s : State) : Host.Outcome State Fault Refusal :=
  let s := atTime t s
  match s.cap with
  | none => .next s
  | some c =>
    if c.limit ≤ c.n ∨ !s.sr.metro ∨ matReached s c.wing c.endAt then .next (captureStop s) else .next s

end Sys2Proof.Machine
end

