-- ==== Sys2Proof/Machine/Lease.lean ====
section
/-! DEFINITION. The Room Key (R330 to R336): leases, floors, the command gate, the drill; and the disarming of slots. -/

namespace Sys2Proof.Machine

/-- A group with no lease. -/
def groupDefault : LeaseGroup := { cur := none, next := none, drill := none, was := false, wasD := false }

/-- The group with a lease in a place: 0 current, 1 next, 2 drill. -/
def leasePut (x : LeaseGroup) (k : Nat) (l : Lease) : LeaseGroup :=
  if k = 0 then { x with cur := some l, was := false }
  else if k = 1 then { x with next := some l } else { x with drill := some l, wasD := false }

/-- A group's leases as a check of this FCLK sees them: a lease on its way to the wings is there after the cycle in which it is
written (R330, Table 11-13). -/
def groupGet (s : State) (g : Nat) : LeaseGroup :=
  let x := tabGet groupDefault s.lease.groups g
  match s.lease.inst with
  | some i => if i.group = g ∧ i.at_ < s.clk.now then leasePut x i.place i.lease else x
  | none => x

/-- Replace a group's leases; a group with none frees its place. -/
def groupSet (g : Nat) (x : LeaseGroup) (s : State) : State :=
  let y := if x.cur.isNone ∧ x.next.isNone ∧ x.drill.isNone then groupDefault else x
  let inst := s.lease.inst.filter (fun i => i.group != g || !decide (i.at_ < s.clk.now))
  { s with lease := { s.lease with groups := tabPut groupDefault g y s.lease.groups, inst := inst } }

/-- A lease on its way is written to every wing. -/
def leaseSettle (s : State) : State :=
  match s.lease.inst with
  | none => s
  | some i =>
    groupSet i.group (leasePut (tabGet groupDefault s.lease.groups i.group) i.place i.lease)
      { s with lease := { s.lease with inst := none } }

/-- Groups that hold a place of the lease table (R332). -/
def groupsHeld (s : State) : Nat :=
  match s.lease.inst with
  | some i => s.lease.groups.length + b2n (decide (i.at_ < s.clk.now ∧ tabGet groupDefault s.lease.groups i.group = groupDefault))
  | none => s.lease.groups.length

/-- R333: a span judged at PTIME: 0 usable, 1 BEFORE_START, 2 PAST_GUARD, 3 CLOCK. -/
def spanJudge (s : State) (start stop : Nat) : Nat :=
  match uncertainty s with
  | none => 3
  | some u =>
    if !notBeforeW 64 ((ptimeNs s + 2 ^ 64 - u % 2 ^ 64) % 2 ^ 64) start then 1
    else if !laterW 64 stop ((ptimeNs s + u) % 2 ^ 64) then 2
    else 0

/-- The end of the current lease's span: the next lease's expiry where it extends it (R333). -/
def spanEnd (c : Lease) (n : Option Lease) : Nat :=
  match n with
  | some x => if notBeforeW 64 c.expiry x.start then x.expiry else c.expiry
  | none => c.expiry

/-- R333, R335: a group's ordinary authority: 0 usable, 1 BEFORE_START, 2 PAST_GUARD, 3 CLOCK, 4 NO_LEASE. -/
def leaseJudge (s : State) (g : Nat) : Nat :=
  let x := groupGet s g
  match x.cur with
  | none => 4
  | some c => spanJudge s c.span (spanEnd c x.next)

/-- The CG_CNT of a gate judgement: 0 PASSED, 2 BEFORE_START, 3 PAST_GUARD, 4 CLOCK, 1 NO_LEASE (Table 11-14). -/
def gateCounter (j : Nat) : Nat := if j = 0 then 0 else if j = 4 then 1 else j + 1

/-- R335: the gate of wing `w` decides for a group: counted; a refusal raises source 19 and event 0x0B24 at most once
per second. -/
def gate (w g : Nat) (s : State) : Bool × State :=
  let j := leaseJudge s g
  let s1 := count w (tallyCg (gateCounter j)) s
  if j = 0 then (true, groupSet g { groupGet s1 g with was := false } s1)
  else (false, raiseRate (2000 + w) 1000000000 w 0x0B24 w w 1 (bell w 19 s1))

/-! ### Disarming (R55) -/

/-- R55, R83: a port's armed buffer of a slot disarmed is free: the newer. -/
def bufDrop (pn slot : Nat) (s : State) : State :=
  portSet pn { portGet s pn with bufs := ((portGet s pn).bufs.reverse.eraseP (fun b => b.1 == slot)).reverse } s

/-- R55, R83: an ARMED slot is disarmed with a reason: its buffers are freed, event 0x0222. -/
def disarm (i why p1 : Nat) (s : State) : State :=
  let x := slotGet s i
  let s1 := (List.range 16).foldl (fun s pn => if bit x.ports pn then bufDrop pn i s else s) s
  raise 0 0x0222 0 i p1 (slotSet i { x with state := 3, why := why, count := 0, decide := none, fireAt := none } s1)

/-- R55 reason 2: every ARMED slot of a group is disarmed. -/
def disarmGroup (g : Nat) (s : State) : State :=
  (List.range 64).foldl (fun s i =>
    let x := slotGet s i
    if x.state = 1 ∧ armGroup x = g then disarm i 2 2 s else s) s

/-- R333: the group's lease has stopped being usable: event 0x0B21, its armed responses disarmed. (DEDUCED, log 55) -/
def leaseGone (g : Nat) (s : State) : State :=
  let x := groupGet s g
  disarmGroup g (raise 0 0x0B21 0 g ((x.cur.map (·.number)).getD 0) (groupSet g { x with was := true } s))

/-! ### Commands -/

/-- Fields of a lease record (Table 11-8). -/
def leaseOf (b : Bytes) : Lease :=
  { record := b, number := beAt b 8 8, start := beAt b 40 8, expiry := beAt b 48 8, span := beAt b 40 8 }

/-- R330 check 2: every field within its limits. -/
def leaseRange (b : Bytes) : Bool :=
  decide (beAt b 8 8 ≠ 0 ∧ beAt b 16 2 < 512 ∧ beAt b 18 1 < 2 ∧ beAt b 19 5 = 0 ∧ beAt b 56 8 = 0 ∧
    beAt b 40 8 ≠ beAt b 48 8 ∧ (beAt b 48 8 + 2 ^ 64 - beAt b 40 8) % 2 ^ 64 ≤ 2592000000000000)

/-- R330: a refused lease: event 0x0B22 and LEASES_REFUSED. -/
def leaseRefused (g st : Nat) (s : State) : State := raise 0 0x0B22 0 g st (count 0 (tallyCg 5) s)

/-- The checks of R330 that the Concierge makes, in order. -/
def leaseChecks (b : Bytes) (sigOk : Bool) (s : State) : List (Bool × Nat) :=
  [(b.length == 128, stLENGTH), (leaseRange b, stRANGE),
   (slice b 24 16 == oct s 0x00000300 && beAt b 16 2 == obj s 0x0B040000, stWRONG_UNIT),
   (sigOk, stSIGNATURE),
   (laterW 64 (beAt b 48 8) (ptimeNs s + (uncertainty s).getD 0), stEXPIRED),
   (decide (groupGet s (beAt b 0 8) ≠ groupDefault ∨ groupsHeld s < 4096), stTABLE_FULL)]

/-- R330: executing 0B.0300.00: the Concierge's checks; a lease that passes waits for the Keeper's floor. -/
def execInstallALease (t : Nat) (via : Via) (rec : Bytes) (sigOk : Bool) (s : State) :
    Host.Outcome State Fault Refusal :=
  let s := atTime t s
  match firstFail (leaseChecks rec sigOk s) with
  | some st => .next (serve via 0x0B030000 (fun s => (st, [], leaseRefused (beAt rec 0 8) st s)) s)
  | none =>
    if loaderHides s 0x0B030000 false then .next (serve via 0x0B030000 (fun s => (stDONE, [], s)) s)
    else if viaOpen s via && viaFits s 0x0B030000 via then .next { s with lease := { s.lease with wait := s.lease.wait ++ [(via, rec)] } }
    else .next s

/-- A floor that is not held. -/
def floorDefault : Floor := { number := 0, digest := [], latest := 0 }

/-- A group's floor (R331). -/
def floorGet (s : State) (g : Nat) : Floor := tabGet floorDefault s.lease.floors g

/-- R332: the place of a new lease: 0 current, 1 next, 2 drill. -/
def leasePlace (x : LeaseGroup) (b : Bytes) : Nat :=
  if bit (beAt b 18 1) 0 then 2
  else match x.cur with
    | some c => if laterW 64 (beAt b 40 8) c.start then 1 else 0
    | none => 0

/-- R330, R331: request kind 0x0B01, whose reply reaches wing 0 now: the Keeper checks the floor and raises it in one commit; the
lease is written to every wing at the first multiple of 64 FCLK after. -/
def execLeaseFloor (t : Nat) (s : State) : Host.Outcome State Fault Refusal :=
  let s := atTime t s
  match s.lease.wait with
  | [] => .next s
  | (via, b) :: rest =>
    if !keeperFree 0 0x0B01 s then .next s else
    let g := beAt b 0 8
    let f := floorGet s g
    let dig := (Config.sha256 b).take 16
    let n := beAt b 8 8
    let s0 := leaseSettle { s with lease := { s.lease with wait := rest } }
    let stale := f ≠ floorDefault ∧ (n < f.number ∨ (n = f.number ∧ dig ≠ f.digest))
    let full := f = floorDefault ∧ 16384 ≤ s.lease.floors.length
    if !srOpen s then .next (answer via 0x0B030000 stUNREACHABLE [] s0)
    else if noPower s then .next (answer via 0x0B030000 stNOPOWER [] (reqServed 0 0x0B01 5 [] s0))
    else if stale then .next (answer via 0x0B030000 stSTALE [] (leaseRefused g stSTALE (reqServed 0 0x0B01 3 [] s0)))
    else if full then .next (answer via 0x0B030000 stTABLE_FULL [] (leaseRefused g stTABLE_FULL (reqServed 0 0x0B01 3 [] s0)))
    else
      let fl : Floor := { number := n, digest := dig, latest := if f = floorDefault ∨ laterW 64 (beAt b 48 8) f.latest then beAt b 48 8 else f.latest }
      let s1 := reqServed 0 0x0B01 0 [] <| commitOne { s0 with lease := { s0.lease with floors := tabPut floorDefault g fl s0.lease.floors } }
      let k := leasePlace (groupGet s1 g) b
      let s2 := { s1 with lease := { s1.lease with inst := some { at_ := (s1.clk.now / 64 + 1) * 64, group := g, place := k
                                                                  lease := leaseOf b } } }
      .next (answer via 0x0B030000 stDONE [] (raise 0 0x0B20 0 g (n * 4 + k) s2))

/-- R331: a floor is freed once PTIME is locked and PTIME - u is later than its latest expiry. -/
def execLeaseFloorFree (t group : Nat) (s : State) : Host.Outcome State Fault Refusal :=
  let s := atTime t s
  let f := floorGet s group
  match uncertainty s with
  | some u =>
    if f ≠ floorDefault ∧ ptimeLocked s ∧ laterW 64 ((ptimeNs s + 2 ^ 64 - u % 2 ^ 64) % 2 ^ 64) f.latest then
      .next (commitOne { s with lease := { s.lease with floors := tabPut floorDefault group floorDefault s.lease.floors } })
    else .next s
  | none => .next s

/-- R334: executing 0B.0301.00: the current and next leases of a group are removed at once; event 0x0B23. -/
def execReleaseTheLeases (t : Nat) (via : Via) (group : Nat) (s : State) : Host.Outcome State Fault Refusal :=
  let s := atTime t s
  .next (serve via 0x0B030100 (fun s =>
    let x := groupGet s group
    let n := (x.cur.map (·.number)).getD 0
    let s1 := if leaseJudge s group = 0 then leaseGone group s else s
    (stDONE, [], raise 0 0x0B23 0 group n (groupSet group { x with cur := none, next := none } s1))) s)

/-- One place of the reply of R481: the record as installed, or 128 zero octets. -/
def leasePlaceBytes (l : Option Lease) : Bytes :=
  match l with
  | some l => padTo 128 l.record
  | none => List.replicate 128 0

/-- The 400 octets of R481. -/
def leasesReply (g : Nat) (x : LeaseGroup) : Bytes :=
  toBe 8 g ++ toBe 1 (b2n x.cur.isSome + 2 * b2n x.next.isSome + 4 * b2n x.drill.isSome) ++ List.replicate 7 0 ++
    leasePlaceBytes x.cur ++ leasePlaceBytes x.next ++ leasePlaceBytes x.drill

/-- R481: executing 0B.0302.00 returns a group's leases. -/
def execReadTheLeases (t : Nat) (via : Via) (group : Nat) (s : State) : Host.Outcome State Fault Refusal :=
  let s := atTime t s
  .next (serve via 0x0B030200 (fun s => (stDONE, leasesReply group (groupGet s group), s)) s)

/-- R332, R333: a next lease becomes current once the current lease's expiry has passed; an extension keeps the
span's start. -/
def execLeaseRollover (t group : Nat) (s : State) : Host.Outcome State Fault Refusal :=
  let s := atTime t s
  let x := groupGet s group
  match x.cur, x.next with
  | some c, some n =>
    if notBeforeW 64 (ptimeNs s) c.expiry then
      .next (groupSet group { x with
        cur := some { n with span := if notBeforeW 64 c.expiry n.start then c.span else n.start }
        next := none
        was := if notBeforeW 64 c.expiry n.start then x.was else false } s)
    else .next s
  | _, _ => .next s

/-- R333: a group's drill lease, a span of its own, judged: once unusable it raises event 0x0B21; it armed nothing. -/
def drillGone (g : Nat) (s : State) : State :=
  let x := groupGet s g
  match x.drill with
  | none => s
  | some c =>
    if spanJudge s c.span c.expiry = 0 then groupSet g { x with wasD := false } s
    else if x.wasD then s
    else raise 0 0x0B21 0 g c.number (groupSet g { x with wasD := true } s)

/-- R333: a lease stops being usable, at its span's end less u, with the clock's bound, or by a step of PTIME: event 0x0B21, once,
and the group's armed responses are disarmed. (DEDUCED, log 56) -/
def execLeaseUnusable (t group : Nat) (s : State) : Host.Outcome State Fault Refusal :=
  let s := drillGone group (atTime t s)
  let j := leaseJudge s group
  if j = 0 then .next (groupSet group { groupGet s group with was := false } s)
  else if j ≠ 4 ∧ !(groupGet s group).was then .next (leaseGone group s) else .next s

/-- R343: executing 0B.0403.00 returns the last export number imported from a source index. -/
def execLastExportNumberImported (t : Nat) (via : Via) (src : Nat) (s : State) : Host.Outcome State Fault Refusal :=
  let s := atTime t s
  .next (serve via 0x0B040300 (fun s =>
    if src < 512 then (stDONE, toBe 8 (tabGet 0 s.lease.seen src), s) else (stRANGE, [], s)) s)

end Sys2Proof.Machine
end

