-- ==== Sys2Proof/Machine/Armed.lean ====
section
/-! DEFINITION. Armed responses (R53 to R60): arming, disarming, the trigger decision and the launch. -/

namespace Sys2Proof.Machine

/-- L of an arming record. -/
def armLen (b : Bytes) : Nat := beAt b 36 2

/-- A wing's transmit level, MAC_CFG.SECLEVEL (04.0011.00); values other than 5, 6 and 7 act as 5 (Table 4-13). -/
def txLevel (s : State) (w : Nat) : Nat := let l := regF s (macCfg w) 6 4; if 5 ≤ l ∧ l ≤ 7 then l else 5

/-- MIC octets of a security level. -/
def micLen (l : Nat) : Nat := if l % 4 = 0 then 0 else if l % 4 = 1 then 4 else if l % 4 = 2 then 8 else 16

/-- The mask of the Air or uplink ports the variant has. -/
def portMask (s : State) : Nat := 2 ^ (2 * s.part.wings) - 1

/-- The last counter value of an armed slot's range (R92). -/
def armedCtrEnd (slot : Nat) : Nat := if slot = 63 then 0xFFFFFFFE else slot * 2 ^ 26 + 2 ^ 26 - 1

/-- R54 check 2: every field of Table 2-10 within its limits, and a counter left in the slot's range (R92). -/
def armRange (s : State) (b : Bytes) : Bool :=
  let nom := nominalHz s * 1000000
  let air := beAt b 28 2
  let upl := beAt b 30 2
  decide (beAt b 0 1 < 64 ∧ beAt b 1 1 < 4 ∧ 1 ≤ beAt b 3 1 ∧ 85 * nom ≤ 100 * beAt b 4 8 ∧
    100 * beAt b 4 8 ≤ 115 * nom ∧ (air ≠ 0 ∨ upl ≠ 0) ∧ air ≤ portMask s ∧ upl ≤ portMask s ∧
    beAt b 33 1 < 64 ∧ beAt b 35 1 = 0) && (groupGet s (beAt b 12 8)).cur.isSome &&
  isPhaseVoltage (beAt b 2 1) && laterW 64 (beAt b 20 8) (ptimeNs s) && modeOk (beAt b 32 1) &&
  decide (obj s (0x04002400 + beAt b 0 1) ≤ armedCtrEnd (beAt b 0 1))

/-- R54: the PSDU of an armed frame: a 21-octet MAC header, the flood header when the TTL is not 0, the payload, the
MIC and a 4-octet FCS. -/
def armPsdu (s : State) (b : Bytes) : Nat :=
  21 + (if beAt b 34 1 = 0 then 0 else 9) + armLen b + micLen (txLevel s 0) + 4

/-- Every selected Air Port has a free armed buffer (R54 check 6, R83). -/
def bufsFree (s : State) (air : Nat) : Bool :=
  (List.range 16).all (fun pn => !bit air pn || decide ((portGet s pn).bufs.length < 8))

/-- The checks of R54 but the gate's and the buffers'. (DEDUCED, log 57) -/
def armChecks (b : Bytes) (sigOk : Bool) (s : State) : List (Bool × Nat) :=
  [(s.power.fail.isNone, stNOPOWER), (decide (1 ≤ armLen b ∧ armLen b ≤ 512 ∧ b.length = 102 + armLen b), stLENGTH), (armRange s b, stRANGE),
   ((slotGet s (beAt b 0 1)).state != 1, stSLOT_BUSY), (sigOk, stSIGNATURE)]

/-- The message ID of an armed broadcast (R116). -/
def armedId (slot n : Nat) : Nat := 0xFC000000 + slot * 2 ^ 20 + n % 2 ^ 20

/-- R54, R92: the MAC header of an armed frame with its auxiliary security header: a version 2 data frame to the broadcast
address of the part's PAN from its extended address, under key index 0xC0 + slot. (DEDUCED, log 54) -/
def armHeader (s : State) (slot ctr seq : Nat) : Bytes :=
  [0x49, 0xE8] ++ toLe 1 seq ++ toLe 2 (obj s 0x04000100) ++ [0xFF, 0xFF] ++ toLe 8 (obj s 0x04000300) ++
  toLe 1 (8 + txLevel s 0) ++ toLe 4 ctr ++ toLe 1 (0xC0 + slot)

/-- R54, R115, R116: the MAC payload of an armed frame: the flood dispatch and header when the TTL is not 0, and the payload. -/
def armPayload (s : State) (b : Bytes) (n : Nat) : Bytes :=
  (if beAt b 34 1 = 0 then [] else [0xF1] ++ toBe 2 (obj s 0x04000200) ++ toBe 4 (armedId (beAt b 0 1) n) ++ slice b 34 1 ++ [0x60]) ++
  slice b 38 (armLen b)

/-- R54: the complete PHY frame of an arming, the same on every port. The MAC sequence number is a free value.
(DESIGN CHOICE, log 236) -/
def armFrame (s : State) (b : Bytes) (n ctr seq : Nat) : Bytes :=
  let i := beAt b 0 1
  Config.phyFrame (beAt b 32 1) (Config.secure (0xC0 + i) ctr (txLevel s 0) (armHeader s i ctr seq) (armPayload s b n))

/-- R54: on success the frames are built and loaded, and the slot is ARMED. What the slot's last firing and last disarming left
stays. (DEDUCED, log 237) -/
def armAccept (b : Bytes) (s : State) : State :=
  let i := beAt b 0 1
  let air := airTime (beAt b 32 1) (leastPreamble (beAt b 32 1)) (armPsdu s b)
  let c := obj s (0x04002400 + i)
  let q := freeWord s
  let n := (slotGet s i).frames + 1
  let fr := armFrame s b n c (q.1.toNat % 256)
  let x : Slot := { slotGet s i with state := 1, record := b, count := 0, decide := none, fireAt := none, lost := false, air := air
                                     ports := beAt b 28 2, upls := beAt b 30 2, frames := n, ctr := c, frame := fr
                                     gate := 0, reach := 0, usedAir := 0, usedUpl := 0 }
  let s1 := (List.range 16).foldl (fun s pn =>
    if bit (beAt b 28 2) pn then portSet pn { portGet s pn with bufs := (portGet s pn).bufs ++ [(i, fr)] } s else s) q.2
  raise 0 0x0220 0 i air (slotSet i x (objPut (0x04002400 + i) (c + 1) s1))

/-- R53, R54: executing 02.0200.00: the first check that fails answers, changes nothing and is counted. -/
def execArmResponse (t : Nat) (via : Via) (rec : Bytes) (sigOk : Bool) (s : State) : Host.Outcome State Fault Refusal :=
  let s := atTime t s
  .next (serve via 0x02020000 (checkedCount 0x02020000 (armChecks rec sigOk s) (fun s =>
    let g := gate 0 (beAt rec 12 8) s
    if !g.1 then (stLEASE, [], countRefusal 0x02020000 stLEASE g.2)
    else if !bufsFree s (beAt rec 28 2) then (stPORT_FULL, [], countRefusal 0x02020000 stPORT_FULL s)
    else (stDONE, [], armAccept rec g.2))) s)

/-- R55 reason 1: executing 02.0201.00; a slot that is not ARMED answers STATE. (DEDUCED, log 52) -/
def execDisarmSlot (t : Nat) (via : Via) (slot : Nat) (s : State) : Host.Outcome State Fault Refusal :=
  let s := atTime t s
  .next (serve via 0x02020100 (fun s =>
    if 64 ≤ slot then (stRANGE, [], s)
    else if (slotGet s slot).state = 1 then (stDONE, [], disarm slot 1 1 s) else (stSTATE, [], s)) s)

/-- R55 reason 3: PTIME passes the valid-until time. -/
def execArmedResponseExpiry (t slot : Nat) (s : State) : Host.Outcome State Fault Refusal :=
  let s := atTime t s
  let x := slotGet s slot
  if x.state = 1 ∧ laterW 64 (ptimeNs s) (armUntil x) then .next (disarm slot 3 3 s) else .next s

/-- The wings a fire message reaches from a gate (R57). -/
def fireReach (s : State) (g : Nat) : Nat :=
  (List.range s.part.wings).foldl (fun m w => if pathUp s g w then m ||| 2 ^ w else m) 0

/-- R57, R60: 1,600 FCLK after the triggering sample: event 0x0221 and strongroom source 11, the fire message leaving on the
carrying link, or on the one that is up and will carry; with neither link up the firing is recorded and nothing is launched. -/
def execArmedTriggerDecision (t slot : Nat) (s : State) : Host.Outcome State Fault Refusal :=
  let s := atTime t s
  let x := slotGet s slot
  match x.decide with
  | none => .next s
  | some d =>
    if s.clk.now < d then .next s
    else if srUp s 0 ∨ srUp s 1 then
      let c := s.sr.carrying.getD 0
      let g := if srUp s c then c else 1 - c
      .next (frameOut <| srRaise 11 (keeperRaise 0x0221 slot slot x.tsPtime
        (slotSet slot { x with decide := none, gate := g, reach := fireReach s g } s)))
    else .next (slotSet slot { x with decide := none, fireAt := none, lost := true } s)

/-- The end of the last armed frame on a port or queued on it (R58). -/
def armedEnd (s : State) (pn : Nat) : Option Nat :=
  let x := portGet s pn
  let l := (match x.cur with
    | some c => if c.rank = 1 then [c.last] else []
    | none => []) ++ ((x.resv.filter (·.rank == 1)).map (·.last))
  l.foldl (fun m e => some (max e (m.getD 0))) none

/-- R57: a wing holds the fire message of a slot: its route was up at the decision, and neither its Strongroom Link nor a
Corridor link of the route was lost before the message arrived. -/
def fireHeld (s : State) (x : Slot) (w : Nat) : Bool :=
  bit x.reach w && !decide (x.ts + 1600 ≤ (srLink s x.gate).start ∧ (srLink s x.gate).start < x.ts + 2080) &&
  (route 3 x.gate w).all (fun l => !((linkGet s l.1 l.2).down && decide (x.ts + 2080 ≤ (linkGet s l.1 l.2).lostAt ∧ (linkGet s l.1 l.2).lostAt < x.ts + 2199)))

/-- R57, R58: one selected Air Port at the fire cycle: disabled, it sends nothing and its buffer is freed; otherwise
any frame on air is cut off and the armed frame takes the port, or is spaced behind an earlier armed frame. The port is
recorded as used (R59). -/
def firePort (slot : Nat) (x : Slot) (pn : Nat) (s : State) : State :=
  let bin := beAt x.record 33 1
  if !airEn s pn then bufFree pn slot s
  else
    let s := slotSet slot { slotGet s slot with usedAir := (slotGet s slot).usedAir ||| 2 ^ pn } s
    let p := portGet s pn
    let first := x.ts + 41200
    match armedEnd s pn with
    | some e =>
      let f := max first (e + 1000)
      let sp : Span := { rank := 1, ident := slot, desc := 0, on_ := f, first := f, last := f + x.air
                         rel := f + x.air + txTail s pn, bin := bin, bellOn := false, kind := 0 }
      blankMore pn bin (portSet pn { p with resv := p.resv ++ [sp] } s)
    | none =>
      let sp : Span := { rank := 1, ident := slot, desc := 0, on_ := s.clk.now, first := first, last := first + x.air
                         rel := first + x.air + txTail s pn, bin := bin, bellOn := false, kind := 0 }
      startSpan pn sp (cutPort pn s)

/-- An entry of a wing's seen-cache inserted: the oldest is replaced when it is full, an eviction where it has not
expired (R117). -/
def seenInsert (w : Nat) (e : Seen) (s : State) : State :=
  let l := tabGet [] s.mac.seen w
  let put := fun (l : List Seen) (s : State) => { s with mac := { s.mac with seen := tabPut [] w l s.mac.seen } }
  if 65536 ≤ l.length then
    let old := l.getLastD e
    let s1 := put ((e :: l).take 65536) s
    if notBeforeW 64 (ptimeNs s) ((old.at_ + obj s 0x04009000 * 1000000000) % 2 ^ 64) then s1
    else raiseOnce (4000 + w) 1000000000 w 0x0411 w w (old.origin * 4294967296 + old.ident) (count w (tallyTc 9) s1)
  else put (e :: l) s

/-- R57, R59, R117: one slot's fire cycle. A wing that does not hold the fire message sends nothing and frees its buffer.
(DESIGN CHOICE, log 227) -/
def fireSlot (slot : Nat) (s : State) : State :=
  let x := slotGet s slot
  let s1 := slotSet slot { x with fireAt := none, matFire := matNow s 0 } s
  let s2 := if beAt x.record 34 1 = 0 then s1
    else eachWing (fun w s => seenInsert w { origin := obj s 0x04000200, ident := armedId slot x.frames, at_ := ptimeNs s } s) s1
  (List.range 16).foldl (fun s pn =>
    if bit x.ports pn then (if fireHeld s x (pn / 2) then firePort slot x pn s else bufFree pn slot s) else s) s2

/-- A slot's fire cycle is due. -/
def firesNow (s : State) (x : Slot) : Bool := x.decide.isNone && x.fireAt.any (fun f => decide (f ≤ s.clk.now))

/-- R57, R58: the fire cycle, 6,000 FCLK after the triggering sample; the lower slots of the same cycle take the ports before
it. (DEDUCED, log 53; DEDUCED, log 284) -/
def execFireCycle (t slot : Nat) (s : State) : Host.Outcome State Fault Refusal :=
  let s := atTime t s
  .next ((List.range 64).foldl (fun s i => if i ≤ slot ∧ firesNow s (slotGet s i) then fireSlot i s else s) s)

/-- R57, R58: the armed frame's first preamble symbol leaves the port. -/
def execArmedFrameStart (t slot pn : Nat) (s : State) : Host.Outcome State Fault Refusal :=
  let s := atTime t s
  let p := portGet s pn
  match p.cur with
  | some c =>
    if c.rank = 1 ∧ c.ident = slot ∧ !p.ended ∧ c.first ≤ s.clk.now then .next (portSet pn { p with onAir := true } s)
    else if c.rank = 1 ∧ p.ended then
      match p.resv.find? (fun r => r.rank == 1 && r.ident == slot && decide (r.first ≤ s.clk.now)) with
      | some r => .next (portSet pn { p with cur := some r, ended := false, onAir := true
                                             resv := p.resv.filter (fun y => y != r) } s)
      | none => .next s
    else .next s
  | none => .next s

/-- R60: a link has returned: every firing recorded without a launch is disarmed with reason 5 and its t_s. -/
def disarmLost (s : State) : State :=
  (List.range 64).foldl (fun s i =>
    let x := slotGet s i
    if x.lost then disarm i 5 (x.tsPtime * 256 % two64 + 5) (slotSet i { x with lost := false } s) else s) s

end Sys2Proof.Machine
end

