-- ==== Sys2Proof/Machine/F64.lean ====
section
/-! DEFINITION. IEEE 754 binary64 (00_scope.md, F64) over exact rationals: every operation on finite operands is exact
and then rounded to nearest, ties to even. An operation on a NaN or an infinity, or a division by zero, is
`Config.f64Special`. -/

namespace Sys2Proof.Machine

/-- A binary64 word. -/
abbrev F64 := BitVec 64

/-- A NaN or an infinity. (DESIGN CHOICE, log 137) -/
def f64Special (x : F64) : Bool := x.toNat / 2 ^ 52 % 2048 == 2047

/-- A finite word as mantissa and exponent: its value is mantissa * 2^exponent. -/
def f64Parts (x : F64) : Int × Int :=
  let e : Nat := x.toNat / 2 ^ 52 % 2048
  let f : Nat := x.toNat % 2 ^ 52
  let g : Nat := if e = 0 then f else 2 ^ 52 + f
  let m : Int := g
  (if 2 ^ 63 ≤ x.toNat then -m else m, if e = 0 then -1074 else (e : Int) - 1075)

/-- Round a mantissa `q` with quantum `2^e`, its sticky bit set when a part below was cut, to 53 bits. -/
def f64Pack (neg : Bool) (q : Nat) (e : Int) (sticky : Bool) : F64 :=
  let qe := max (e + (Nat.log2 q : Int) - 52) (-1074)
  let r := (qe - e).toNat
  let m := q / 2 ^ r
  let rest := q % 2 ^ r
  let up := decide (2 ^ r < 2 * rest) || (decide (r ≠ 0 ∧ 2 * rest = 2 ^ r) && (sticky || m % 2 == 1))
  let m1 := if up then m + 1 else m
  let m2 := if m1 = 2 ^ 53 then 2 ^ 52 else m1
  let e2 := if m1 = 2 ^ 53 then qe + 1 else qe
  let body := if m2 < 2 ^ 52 then m2
    else if 972 ≤ e2 then 2047 * 2 ^ 52
    else (e2 + 1075).toNat * 2 ^ 52 + m2 % 2 ^ 52
  BitVec.ofNat 64 ((if neg then 2 ^ 63 else 0) + body)

/-- The word nearest to n / d * 2^e, for d above 0. -/
def f64Round (n : Int) (d : Nat) (e : Int) : F64 :=
  let a := n.natAbs
  if a = 0 then 0
  else
    let s : Int := 56 - ((Nat.log2 a : Int) - Nat.log2 d)
    let num := if 0 ≤ s then a * 2 ^ s.toNat else a
    let den := if 0 ≤ s then d else d * 2 ^ (-s).toNat
    f64Pack (decide (n < 0)) (num / den) (e - s) (num % den != 0)

/-- The word nearest to an integer. -/
def f64Int (n : Int) : F64 := f64Round n 1 0

/-- The word nearest to a 32.32 fixed-point number. -/
def f64Fx (n : Int) : F64 := f64Round n 1 (-32)

/-- Sum. -/
def f64Add (x y : F64) : F64 :=
  if f64Special x || f64Special y then Config.f64Special 0 x y
  else
    let a := f64Parts x
    let b := f64Parts y
    let e := min a.2 b.2
    f64Round (a.1 * 2 ^ (a.2 - e).toNat + b.1 * 2 ^ (b.2 - e).toNat) 1 e

/-- The word with its sign turned. -/
def f64Neg (x : F64) : F64 := x ^^^ BitVec.ofNat 64 (2 ^ 63)

/-- Difference. -/
def f64Sub (x y : F64) : F64 := f64Add x (f64Neg y)

/-- Product. -/
def f64Mul (x y : F64) : F64 :=
  if f64Special x || f64Special y then Config.f64Special 1 x y
  else f64Round ((f64Parts x).1 * (f64Parts y).1) 1 ((f64Parts x).2 + (f64Parts y).2)

/-- Quotient. -/
def f64Div (x y : F64) : F64 :=
  if f64Special x || f64Special y || (f64Parts y).1 == 0 then Config.f64Special 2 x y
  else
    let a := f64Parts x
    let b := f64Parts y
    f64Round (if b.1 < 0 then -a.1 else a.1) b.1.natAbs (a.2 - b.2)

/-- The integer square root by bits from 2^159. -/
def isqrt (n : Nat) : Nat :=
  (List.range 160).foldl (fun r i => let c := r + 2 ^ (159 - i); if c * c ≤ n then c else r) 0

/-- Square root of a word that is not negative. -/
def f64Sqrt (x : F64) : F64 :=
  if f64Special x || decide ((f64Parts x).1 < 0) then Config.f64Special 3 x x
  else
    let a := f64Parts x
    let odd := a.2 % 2
    let m := a.1.natAbs * 2 ^ odd.toNat * 2 ^ 128
    let r := isqrt m
    if r = 0 then 0 else f64Pack false r ((a.2 - odd) / 2 - 64) (r * r != m)

/-- Less than, on finite words. -/
def f64Lt (x y : F64) : Bool :=
  let a := f64Parts x
  let b := f64Parts y
  let e := min a.2 b.2
  decide (a.1 * 2 ^ (a.2 - e).toNat < b.1 * 2 ^ (b.2 - e).toNat)

/-- Less than or equal. -/
def f64Le (x y : F64) : Bool := !f64Lt y x

/-- The nearest integer, ties to even. -/
def f64ToInt (x : F64) : Int :=
  let a := f64Parts x
  if 0 ≤ a.2 then a.1 * 2 ^ a.2.toNat
  else
    let d : Int := 2 ^ (-a.2).toNat
    let q := a.1 / d
    let r := a.1 % d
    if d < 2 * r then q + 1 else if 2 * r = d ∧ q % 2 = 1 then q + 1 else q

/-- Sum of a list, left to right. (DESIGN CHOICE, log 134) -/
def f64Sum (l : List F64) : F64 := l.foldl f64Add 0

/-- Inner product, summed left to right. -/
def f64Dot (a b : List F64) : F64 := f64Sum (List.zipWith f64Mul a b)

end Sys2Proof.Machine
end

