-- ==== Sys2Proof/Machine/Strongroom.lean ====
section
/-! DEFINITION. The strongroom (chapter 6): links and their guard, requests, commits and the Register Book, LEGAL
authorisations, supplies, metrology and tamper. -/

namespace Sys2Proof.Machine

/-! ### Links and carrying (R161, R163) -/

/-- The first multiple of 64 FCLK after a cycle (R163). (DEDUCED, log 98) -/
def after64 (t : Nat) : Nat := (t / 64 + 1) * 64

/-- The wing whose gate link `k` joins. -/
def gateOf (k : Nat) : Nat := k % 2

/-- Accesses on their way through a gate: those to the window not yet completed. -/
def inFlightSr (s : State) : Nat :=
  (s.fab.done.filter (fun a => inWindow a.addr && a.value.isSome && decide (s.clk.now < a.done))).length

/-- R163: accesses in flight complete with a bus error at their time. -/
def loseFlights (s : State) : State :=
  { s with fab := { s.fab with done := s.fab.done.map (fun a =>
      if inWindow a.addr ∧ s.clk.now < a.done then { a with value := none } else a) } }

/-- R163: a request whose doorbell the guard has not taken when its link goes down is not applied. -/
def doorsLost (carried : Bool) (s : State) : State :=
  if carried then
    let gone := s.sr.doors.filter (fun d => decide (s.clk.now < d.at_))
    gone.foldl (fun s d => reqSlotSet d.slot { reqSlot s d.slot with busy := false } s)
      { s with sr := { s.sr with doors := s.sr.doors.filter (fun d => decide (d.at_ ≤ s.clk.now)) } }
  else s

/-- R163: an end declares its link down: DOWNEV, source 23, event 0x0601 with the frames lost in flight; retraining
begins; carrying is settled at the next multiple of 64. -/
def srLinkDown (k : Nat) (s : State) : State :=
  let carried := s.sr.carrying == some k
  let n := if carried then inFlightSr s else 0
  let s1 := srLinkSet k { srLink s k with upAt := none, training := true, start := s.clk.now }
    (if carried then loseFlights s else s)
  let s2 := doorsLost carried { s1 with sr := { s1.sr with carryAt := some (after64 s1.clk.now) } }
  raise (gateOf k) 0x0601 k k n (count (gateOf k) (tallySrg 6) (stat (gateOf k) (srgStat (gateOf k)) 5 23 s2))

/-- The link that should carry: wing 0's if it is up, else wing 1's (R163). -/
def wantCarry (s : State) : Option Nat := if srUp s 0 then some 0 else if srUp s 1 then some 1 else none

/-- R161: a frame is received: good when its tag holds and its counter is greater than the last accepted; a bad one is
dropped, counted, reported, and the link declared down at once. -/
def execLinkFrameReceive (t link : Nat) (toStrongroom : Bool) (ctr : Nat) (tagOk : Bool) (s : State) :
    Host.Outcome State Fault Refusal :=
  let s := atTime t s
  let l := srLink s link
  if !(decide (link < 2) && srUp s link) then .next s
  else if tagOk ∧ (if toStrongroom then l.rxS else l.rxG) < ctr then
    .next (srLinkSet link (if toStrongroom then { l with rxS := ctr, goodS := s.clk.now }
      else { l with rxG := ctr, goodG := s.clk.now }) s)
  else
    let s1 := objPut 0x06007000 (obj s 0x06007000 + 1) s
    let s2 := if toStrongroom then keeperRaise 0x0603 link link ctr s1
      else raise link 0x0603 link link ctr (count link (tallySrg 5) (stat link (srgStat link) 7 23 s1))
    .next (srLinkDown link s2)

/-- R163: an end with nothing else to send for 64 FCLK sends an IDLE frame under its next counter. -/
def execLinkIdle (t link : Nat) (fromStrongroom : Bool) (s : State) : Host.Outcome State Fault Refusal :=
  let s := atTime t s
  let l := srLink s link
  if !(decide (link < 2) && srUp s link) ∨ s.clk.now < (if fromStrongroom then l.sentS else l.sentG) + 64 then .next s
  else
    .next (srLinkSet link (if fromStrongroom then { l with txS := l.txS + 1, sentS := s.clk.now }
      else { l with txG := l.txG + 1, sentG := s.clk.now }) s)

/-- R163: no frame with a good tag has reached an end for 512 FCLK. (DEDUCED, log 97) -/
def execStrongroomLinkDown (t link : Nat) (s : State) : Host.Outcome State Fault Refusal :=
  let s := atTime t s
  let l := srLink s link
  if link < 2 ∧ srUp s link ∧ min l.goodS l.goodG + 512 ≤ s.clk.now then .next (srLinkDown link s) else .next s

/-- R161, R163: a training completes: a fresh link key from the nonces of both ends, fresh counters, and the link is up from the
next multiple of 64. -/
def execStrongroomLinkTrained (t link : Nat) (nonceS nonceG : Bytes) (s : State) : Host.Outcome State Fault Refusal :=
  let s := atTime t s
  let l := srLink s link
  if link < 2 ∧ l.training then
    let u := after64 s.clk.now
    let l1 := { srLinkDefault with
      upAt := some u, training := false, start := l.start, goodS := u, goodG := u, sentS := u, sentG := u
      nonceS := nonceS, nonceG := nonceG, key := Config.linkKey nonceS nonceG }
    let s1 := srLinkSet link l1 s
    .next { s1 with sr := { s1.sr with carryAt := some (u + 64) } }
  else .next s

/-- R163: an attempt not complete within 3,000 REFCLK is begun again at once. -/
def execStrongroomTrainingRetry (t link : Nat) (s : State) : Host.Outcome State Fault Refusal :=
  let s := atTime t s
  let l := srLink s link
  if link < 2 ∧ l.training ∧ l.start + 30000 ≤ s.clk.now then
    .next (srLinkSet link { l with start := s.clk.now } s)
  else .next s

/-- R437: strongroom sources held for want of a link reach the gate 480 FCLK after carrying resumes. -/
def releaseHeld (s : State) : State :=
  { s with bell := { s.bell with
      srGoing := s.bell.srGoing ++ s.bell.srHeld.map (fun k => (k, s.clk.now + 480)), srHeld := [] } }

/-- R163: at its multiple of 64, carrying passes, stops or resumes; event 0x0602; a resumption releases what waited for
a link (R60, R437). -/
def execCarryingChange (t : Nat) (s : State) : Host.Outcome State Fault Refusal :=
  let s := atTime t s
  match s.sr.carryAt with
  | none => .next s
  | some c =>
    let want := wantCarry s
    let old := s.sr.carrying
    if s.clk.now < c then .next s
    else
      let s1 := { s with sr := { s.sr with carryAt := none, carrying := want } }
      if want = old then .next s1
      else match want, old with
        | none, o => .next (raise (gateOf (o.getD 0)) 0x0602 (o.getD 0) 0xFF (o.getD 0xFF) (flushHalt s1))
        | some k, o =>
          let s2 := raise (gateOf k) 0x0602 k k (o.getD 0xFF) (count (gateOf k) (tallySrg 7) s1)
          .next (eachWing hwNext (if o.isNone then flushResume (disarmLost (releaseHeld s2)) else s2))

/-! ### The guard (R160, R162, R164) -/

/-- R160: a refusal: counted, reported, and a bus error for its requester 960 FCLK after the access left the gate. -/
def guardRefuse (rq off : Nat) (write : Bool) (s : State) : State :=
  let s1 := completeAccess rq (0xFF0000000000 + off) write (guardReply s rq) none
    (count rq 191 (objPut 0x06007001 (obj s 0x06007001 + 1) (keeperRaise 0x0604 rq rq off s)))
  match s.sr.carrying with
  | some k => count (gateOf k) (tallySrg 4) (stat (gateOf k) (srgStat (gateOf k)) 6 23 s1)
  | none => s1

/-- An access finds no carrying link: it ends in a bus error after the time it would have taken (R163). -/
def guardNoLink (rq off : Nat) (write : Bool) (s : State) : State :=
  completeAccess rq (0xFF0000000000 + off) write (guardReply s rq) none (count rq 191 s)

/-- The request kinds the chapters define (R164). (DEDUCED, log 110) -/
def reqKinds : List Nat :=
  [0x0401, 0x0881, 0x0882, 0x0883, 0x0884, 0x0885, 0x0886, 0x0B01, 0x0B10, 0x0C01, 0x0C02, 0x0D01, 0x0D02, 0x0D03,
   0x0D04, 0x0D05, 0x0D06, 0x0D07, 0x0601, 0x0701, 0x0702, 0x0801, 0x0802]

/-- The header of Table 6-5 keeps its limits. -/
def headerOk (s : State) (w : Nat) (b : Bytes) : Bool :=
  reqKinds.contains (leAt b 8 2) && decide (32 ≤ leAt b 10 2 ∧ leAt b 10 2 ≤ 2040) && decide (leAt b 12 4 = 0) &&
    decide (leAt b 16 8 % 64 = 0) && decide (leAt b 24 8 = 0) && dramIn s w (leAt b 16 8) 16

/-- R164: a doorbell: BADREQ, the stored reply again, STALE (R6), or the request is taken to be served in its order.
(DEDUCED, log 95; DEDUCED, log 100; DESIGN CHOICE, log 102) -/
def doorbell (k : Nat) (s : State) : State :=
  let x := reqSlot s k
  let b := padTo 2048 x.words
  let seq := leAt b 0 8
  let s1 := match s.sr.carrying with
    | some g => count (gateOf g) (tallySrg 2) s
    | none => s
  if !headerOk s (k / 4) b then slotReply k (replyBytes seq 1 []) s1
  else if seq = x.served ∧ x.reply ≠ [] then slotReply k x.reply s1
  else if !laterW 64 seq x.served then slotReply k (replyBytes seq 2 []) s1
  else doorPut k (leAt b 8 2) s1.clk.now s1

/-- R160, R162, R164: a posted WRITE reaches the guard: a word of a request slot of the requester's own, or its
doorbell; every other write is refused, as is a write to a slot whose request is not yet answered. -/
def execGuardWrite (t rq off : Nat) (v : Word) (s : State) : Host.Outcome State Fault Refusal :=
  let s := atTime t s
  match srReach s with
  | none => .next (guardNoLink rq off true s)
  | some g =>
    let s1 := count (gateOf g) (tallySrg 1) (frameIn s)
    let k := (off - 0x2000000) / 2048
    let x := reqSlot s1 k
    if !(decide (0x2000000 ≤ off ∧ off < 0x2010000 ∧ off % 8 = 0 ∧ k / 4 = rq) && !x.busy) then
      .next (guardRefuse rq off true s1)
    else
      let s2 := completeAccess rq (0xFF0000000000 + off) true (s1.clk.now - 480) (some v) s1
      if off % 2048 = 0x7F8 then .next (if v = 1 then doorbell k s2 else s2)
      else .next (reqSlotSet k { x with words := putLe (padTo 2048 x.words) (off % 2048) 8 v.toNat } s2)

/-- An event record read from its 32 bytes (Table 15-1). -/
def recOf (b : Bytes) (now : Nat) : LogRec :=
  { code := leAt b 0 2, src := leAt b 2 2, seq := leAt b 4 4, time := leAt b 8 8, p0 := leAt b 16 8, p1 := leAt b 24 8
    at_ := now }

/-- R433: the guard places an appended record in the wing's region, or refuses one not later than the newest held. -/
def logTake (w : Nat) (r : LogRec) (s : State) : State :=
  match srReach s with
  | none => s
  | some g =>
    let s1 := count (gateOf g) (tallySrg 3) (frameOut (frameIn s))
    if mramLater s1 w r.seq then mramAppend w r s1 else guardRefuse w 0x2010000 true s1

/-- R160, R433: a LOG_APPEND of one 32-byte record; it never lands elsewhere. One of another length breaks its kind's limits and
is refused. -/
def execLogAppend (t w seq : Nat) (rec : Bytes) (s : State) : Host.Outcome State Fault Refusal :=
  let s := atTime t s
  if !(w < s.part.wings) ∨ (srReach s).isNone then .next s
  else if rec.length = 32 then .next (logTake w { recOf rec s.clk.now with seq := seq % 4294967296 } s)
  else .next (guardRefuse w 0x2010000 true (frameIn s))

/-! ### Commits and the Register Book (R167, R183 to R185) -/

/-- The undisciplined state of LTIME (R190). -/
def ltimeDisciplined (s : State) : Bool := ptimeLocked s && !s.sr.onVbak

/-- Place a record in the book (Table 6-11), with the Logbook event of its code and strongroom source 3. -/
def bookPush (ltime : Nat) (n : BookNew) (s : State) : State :=
  let seq := obj s 0x06005100 + 1
  let flags := b2n s.sr.onVbak + 2 * b2n (!s.sr.metro) + 4 * b2n (!ltimeDisciplined s)
  let body := toLe 8 seq ++ toLe 8 ltime ++ toLe 2 n.code ++ toLe 2 n.src ++ toLe 4 flags ++ toLe 8 n.p0 ++ toLe 8 n.p1 ++
    toLe 8 n.p2
  let prev := match s.sr.book with
    | [] => List.replicate 16 0
    | r :: _ => r.check
  let r : BookRec := { seq := seq, ltime := ltime, code := n.code, src := n.src, flags := flags, p0 := n.p0 % two64
                       p1 := n.p1 % two64, p2 := n.p2 % two64, check := (Config.sha256 (prev ++ body)).take 16 }
  let s1 := objPut 0x06005100 seq { s with sr := { s.sr with book := (r :: s.sr.book).take 32768 } }
  let s2 := match s.sr.book[32767]? with
    | some o => if s.sr.acked < o.seq then
        srRaise 4 (objPut 0x06005300 (obj s1 0x06005300 + 1) { s1 with sr := { s1.sr with gap := some o.seq } }) else s1
    | none => s1
  srRaise 3 (keeperRaise n.code n.src n.p0 n.p1 s2)

/-- R184: a record is appended; an unacknowledged one overwritten before it is explained first, by event 0x0650. -/
def bookAppend (ltime : Nat) (n : BookNew) (s : State) : State :=
  match s.sr.gap with
  | some g =>
    bookPush ltime n (bookPush ltime { code := 0x0650, src := 0, p0 := g, p1 := obj s 0x06005300, p2 := 0 }
      { s with sr := { s.sr with gap := none } })
  | none => bookPush ltime n s

/-- A commit that appends Register Book records, accepted at the first tick at or after now, in its class (R185). -/
def bookCommit (cls sub words : Nat) (rs : List BookNew) (s : State) : State :=
  commitPush { tick := nextTick s, at_ := tickCycle s, cls := cls, sub := sub, words := words + 8 * rs.length, extents := 1 + rs.length
               records := rs, payload := payloadNone } s

/-- A record. -/
def bookNew (code src p0 p1 p2 : Nat) : BookNew := { code := code, src := src, p0 := p0, p1 := p1, p2 := p2 }

/-- First offset of the partition of Table 6-4 that a window offset lies in. -/
def partBase (off : Nat) : Nat :=
  ([0, 0x40000, 0x50000, 0x60000, 0x70000, 0x80000, 0x180000, 0x200000, 0x400000, 0xB00000, 0x1700000, 0x1900000, 0x1D00000,
    0x1F00000].filter (fun b => decide (b ≤ off))).foldl max 0

/-- R166: a read has found an uncorrectable word of MRAM: event 0x0621, in the Register Book. -/
def badFound (off : Nat) (s : State) : State :=
  srRaise 13 (bookCommit 3 0 0 [bookNew 0x0621 0 off (partBase off) 0] s)

/-- The Keeper's own read of the words from `a` to `b` finds those of `bad` among them uncorrectable. -/
def badAmong (a b : Nat) (bad : List Nat) (s : State) : State :=
  (bad.filter (fun o => decide (a ≤ o ∧ o < b))).foldl (fun s o => badFound o s) s

/-- Some of the words from `a` to `b` are uncorrectable. -/
def badIn (a b : Nat) (bad : List Nat) : Bool := bad.any (fun o => decide (a ≤ o ∧ o < b))

/-- The cycle at which a commit ends: one at a time, each for its time from its tick (R167, R169); SCLK is 5 ns. -/
def commitEnd (s : State) (c : Commit) : Nat := max c.at_ s.sr.lastEnd + 5 * commitSclk c.words c.extents

/-- The counts that a commit's own writes change stand in MRAM with it: commits made, the newest and the overwritten records. -/
def homeCounts (s : State) : State :=
  { s with sr := { s.sr with home := { s.sr.home with objs :=
      ([0x06005100, 0x06005300, 0x06006000].foldl (fun t n => tabPut (objDefault s n) n (obj s n) t) s.sr.home.objs) } } }

/-- A commit is home and retired: its payload written, counted in 06.0060.00, its records appended (R167, R183). -/
def commitDone (c : Commit) (s : State) : State :=
  homeCounts (c.records.foldl (fun s r => bookAppend c.tick r s) (objPut 0x06006000 (obj s 0x06006000 + 1)
    { s with sr := { s.sr with home := mramPatch c.payload s.sr.home } }))

/-- R167: the oldest accepted commit completes at its time. -/
def execCommit (t : Nat) (s : State) : Host.Outcome State Fault Refusal :=
  let s := atTime t s
  match s.sr.journal with
  | [] => .next s
  | c :: cs =>
    if s.clk.now < commitEnd s c then .next s
    else .next (commitDone c { s with sr := { s.sr with journal := cs, lastEnd := commitEnd s c } })

/-- A commit's marker is written: its home and retire writes, 13 SCLK a word, remain (R167). (DEDUCED, log 94) -/
def commitMarked (s : State) (c : Commit) : Bool :=
  decide (commitEnd s c ≤ s.clk.now + 5 * (13 * c.words + 13))

/-- R168: journal recovery: an entry that is marked and whose CRC is good is written home again and retired; every other is
discarded; the values are those that MRAM holds; event 0x0620 reports the counts. (DEDUCED, log 93) -/
def journalRecover (crcOk : Bool) (s : State) : State :=
  let cs := s.sr.journal
  let n := match cs with
    | c :: _ => b2n (crcOk && commitMarked s c)
    | [] => 0
  let s1 := (cs.take n).foldl (fun s c => commitDone c s) { s with sr := { s.sr with journal := [], lastEnd := 0 } }
  bookCommit 1 0 0 [bookNew 0x0620 0 n (cs.length - n) 0] (mramLoad s1.sr.home s1)

/-! ### Supplies and metrology (R170 to R177) -/

/-- Metrology stops: cycles end without a result, tamper runs are reset, a capture ends, each channel has a loss, its latest
frequency staying (R176, R182, R52, R42). (DESIGN CHOICE, log 231) -/
def metroStop (s : State) : State :=
  let s1 := captureStop s
  objPut 0x06002800 2 (objPut 0x06002801 2
    { s1 with sr := { s1.sr with metro := false, feeds := [], runs := [] }
              mat := { s1.mat with chans := (s1.mat.chans.map (fun e => (e.1, chanLost e.2))).filter (fun e => e.2 != chanDefault) } })

/-- Metrology starts: c0 is fixed, and the converters' first 640 samples are discarded (R171, R177).
(DEDUCED, log 252) -/
def metroStart (s : State) : State :=
  { s with sr := { s.sr with metro := true, discard := 640, c0 := s.clk.now, sample := 0, feeds := [], runs := [] } }

/-- R37, Table 6-9: MAT and the half-cycle frequencies are not kept on VBAK. -/
def matDrop (s : State) : State :=
  let s1 := matEnter 0 0 s
  { s1 with mat := { s1.mat with origin := false, once := false, good := 0, run := 0, lossAt := none, refAcc := 0, refInc := 0
                                 refPend := [], chans := [] } }

/-- R168, R37, R163: the strongroom starts from its own power-on or watchdog: journal recovery, a new MAT epoch, links
trained afresh, metrology restarted. What it does not keep in MRAM starts again. -/
def execStrongroomReset (t : Nat) (watchdog crcOk : Bool) (s : State) : Host.Outcome State Fault Refusal :=
  let s := atTime t s
  let s1 := journalRecover crcOk { s with
    sr := { s.sr with slots := [], doors := [], hwq := [] }
    objs := s.objs.filter (fun e => !(e.1 / 16777216 == 6 || e.1 / 16777216 == 7) || objIsKept e.1) }
  let s2 := newEpoch (if watchdog then 2 else 1) s1
  .next (metroStart { s2 with sr := { s2.sr with links := [], carrying := none, carryAt := none } })

/-- The supplies as measured: VSR, VBAK, and the cycle of the last VSR below 3.0 V. -/
def supplyMeasure (vsr vbak : Nat) (s : State) : State :=
  { s with sr := { s.sr with vsr := vsr, vbak := vbak, lowAt := if vsr < 3000 then s.clk.now else s.sr.lowAt } }

/-- R175: VSR below 2.9 V: the strongroom switches to VBAK with no reset; metrology stops, MAT is not kept, armed counts
reset, the switch is counted and recorded. A measurement while on VBAK updates the supplies. -/
def execSwitchToVbak (t vsr vbak : Nat) (s : State) : Host.Outcome State Fault Refusal :=
  let s := atTime t s
  let s1 := supplyMeasure vsr vbak s
  if s.sr.onVbak ∨ 2900 ≤ vsr then .next s1
  else
    let s2 := matDrop (metroStop { s1 with sr := { s1.sr with onVbak := true, vbakAt := s1.clk.now }
                                           bill := { s1.bill with failDue := true }
                                           armed := s1.armed.map (fun e => (e.1, if e.2.state = 1 then { e.2 with count := 0 } else e.2)) })
    let s3 := bookCommit 1 0 1 [bookNew 0x0610 0 vsr vbak 0] (objPut 0x06000400 (obj s2 0x06000400 + 1) s2)
    .next (srRaise 0 (ltimeFree s3))

/-- R175, R177: VSR has stayed at or above 3.0 V for 10 ms: return to VSR, recorded with the seconds on VBAK; the converters
restart, and a new MAT epoch begins. (DEDUCED, log 108) -/
def execReturnToVsr (t vsr vbak : Nat) (s : State) : Host.Outcome State Fault Refusal :=
  let s := atTime t s
  let s0 := supplyMeasure vsr vbak s
  if !s.sr.onVbak ∨ vsr < 3000 ∨ s.clk.now < s.sr.lowAt + 10000000 then .next s0
  else
    let secs := (s.clk.now - s.sr.vbakAt) / 1000000000
    let s1 := { s0 with sr := { s0.sr with onVbak := false }, bill := { s0.bill with upDue := some secs } }
    let s2 := bookCommit 1 1 1 [bookNew 0x0611 0 secs vbak 0] (objPut 0x06000500 (obj s1 0x06000500 + secs) s1)
    .next (newEpoch 3 (metroStart (srRaise 1 s2)))

/-- The feeder of a channel's index, and no cycle running. -/
def feedDefault : Feed :=
  { running := false, noref := false, round := 0, samples := [], start := 0, begun := 0, cal := [] }

/-- A feeder. -/
def feedGet (s : State) (f : Nat) : Feed := tabGet feedDefault s.sr.feeds f

/-- Replace a feeder. -/
def feedSet (f : Nat) (x : Feed) (s : State) : State := { s with sr := { s.sr with feeds := tabPut feedDefault f x s.sr.feeds } }

/-- The calibration of a feeder as its objects stand: gains, offsets, polarities, phase corrections, ratios (R172). -/
def calNow (s : State) (f : Nat) : List Nat :=
  (List.range 8).map (fun j => obj s (0x06001000 + 8 * f + j)) ++ (List.range 8).map (fun j => obj s (0x06001100 + 8 * f + j)) ++
  (List.range 8).map (fun j => obj s (0x06001300 + 8 * f + j)) ++ (List.range 8).map (fun j => obj s (0x06001200 + 8 * f + j)) ++
  [obj s (0x06001500 + f), obj s (0x06001600 + f)]

/-- The reference of a feeder: its lowest-numbered phase-voltage channel whose half-cycles are valid, if any (R173). -/
def refChan (s : State) (f : Nat) : Option Nat :=
  ((List.range 3).map (fun p => 8 * f + p)).find? (fun c => (chanGet s c).half)

/-- The reference's last positive-going crossing lies at or after a fabric cycle. -/
def refCrossed (s : State) (f c : Nat) : Bool :=
  match refChan s f with
  | some r => ((chanGet s r).lastUp).any (fun tc => decide (c * 1000 < tc))
  | none => false

/-- The first cycle of a feeder, or its next one, begins now with the calibration as it stands (R172, R173). -/
def cycleBegin (f round : Nat) (s : State) : State :=
  feedSet f { feedDefault with running := true, noref := (refChan s f).isNone, round := round, start := ltimeNs s
                               begun := s.clk.now, cal := calNow s f } s

/-- R177: the discarded samples are over: the first cycle of each feeder begins at its next reference crossing, or at once on
fixed windows. -/
def execMetrologyRestart (t mask : Nat) (s : State) : Host.Outcome State Fault Refusal :=
  let s := atTime t s
  let fs := (List.range 2).filter (fun f => bit mask f && !(feedGet s f).running &&
    ((refChan s f).isNone || refCrossed s f (s.sr.c0 + 640 * 31250)))
  if !s.sr.metro ∨ s.sr.discard ≠ 0 ∨ fs.isEmpty then .next s
  else .next (bookCommit 1 2 0 [bookNew 0x0612 0 (fs.map (fun f => 2 ^ f)).sum 640 0]
    (fs.foldl (fun s f => objPut (0x06002800 + f) 0 (cycleBegin f 0 s)) s))

/-- A sample in primary units, in 2^-87 uV or uA: full scale is 0.80 V at 2^23 codes (Table 17-10), then ratio, gain,
polarity and offset (R172, R475). (DEDUCED, log 104) -/
def sampleVal (cal : List Nat) (j : Nat) (code : Int) : Int :=
  let ratio := if j < 4 then cal.getD 32 4294967296 else cal.getD 33 4294967296
  let x := code * 800000 * ratio * cal.getD j 4294967296
  (if cal.getD (16 + j) 0 = 1 then -x else x) + sgn 64 (cal.getD (8 + j) 0) * 2 ^ 87

/-- Add the entries of two lists place by place; a missing entry is 0. -/
def addInts (a b : List Int) : List Int := (List.range (max a.length b.length)).map (fun i => a.getD i 0 + b.getD i 0)

/-- A 24-bit code (R171). -/
def code24 (c : Int) : Int := max (-8388608) (min 8388607 c)

/-- One sample instant added to a feeder's cycle: its eight channels' codes. -/
def feedSample (codes : List Int) (x : Feed) : Feed :=
  if x.running then { x with samples := (List.range 8).map (fun j => codes.getD j 0) :: x.samples } else x

/-- A cycle's samples moved on by a quarter of it: each shifted by +90 degrees at the fundamental, whose period the cycle is
(Table 6-8). (DESIGN CHOICE, log 253) -/
def quarter (l : List Int) : List Int := l.drop (l.length / 4) ++ l.take (l.length / 4)

/-- A channel's samples of a cycle in primary units, oldest first, a current's with its phase correction: the current
advanced by the angle (R172). (DESIGN CHOICE, log 106) -/
def cycleValues (x : Feed) (j : Nat) : List Int :=
  let l := x.samples.reverse.map (fun c => sampleVal x.cal j (c.getD j 0))
  let a := if j < 4 then 0 else x.cal.getD (24 + j) 0
  if a = 0 then l
  else
    let c := Config.cosSin (sgn 64 a)
    List.zipWith (fun i i' => (i * c.1 + i' * c.2) / 4294967296) l (quarter l)

/-- The sum of the products of two series. -/
def dotInts (a b : List Int) : Int := (List.zipWith (· * ·) a b).sum

/-- R52: a capture writes one word per channel of its mask, and the PTIME of its first sample. -/
def captureSample (codes : List Int) (s : State) : State :=
  match s.cap with
  | none => s
  | some c =>
    if c.limit ≤ c.n then captureStop s
    else
      let chs := (List.range 16).filter (fun i => bit c.mask i)
      let words := (chs.map (fun i => toLe 8 (unsgn 64 (codes.getD i 0)))).flatten
      let s1 := if c.n = 0 then dramWrite c.base (toLe 8 (ptimeNs s)) s else s
      let s2 := frameOut (dramWrite (c.base + 16 + c.n * chs.length * 8) words { s1 with cap := some { c with n := c.n + 1 } })
      if matReached s2 c.wing c.endAt then captureStop s2 else s2

/-- R171, R52: a sample instant of the sixteen converters, n-th after c0: discarded after a restart, else added to each
feeder's cycle and to the running capture. No sample reaches the Keeper at another cycle. -/
def execMetrologySample (t : Nat) (codes : List Int) (s : State) : Host.Outcome State Fault Refusal :=
  let s := atTime t s
  let n := (s.clk.now - s.sr.c0) / 31250
  let l := codes.map code24
  if !s.sr.metro ∨ s.clk.now < s.sr.c0 ∨ (s.clk.now - s.sr.c0) % 31250 ≠ 0 ∨ n < s.sr.sample then .next s
  else
    let s0 := { s with sr := { s.sr with sample := n + 1 } }
    if s.sr.discard ≠ 0 then .next { s0 with sr := { s0.sr with discard := s0.sr.discard - 1 } }
    else
      let s1 := feedSet 0 (feedSample (l.take 8) (feedGet s0 0)) s0
      .next (captureSample l (feedSet 1 (feedSample ((l.drop 8).take 8) (feedGet s1 1)) s1))

/-- Root mean square of a cycle in uV or uA, rounded down. (DEDUCED, log 105) -/
def rmsOf (sum n : Nat) : Nat := isqrt (sum / (n * 2 ^ 174))

/-- Mean of a product in 10^-3 units (mW, mvar), rounded toward zero. -/
def powerOf (sum : Int) (n : Nat) : Int := Int.tdiv sum (n * 2 ^ 174 * 1000000000)

/-- The quadrant of Table 7-2 that the signs of P and Q give: quantities 2 to 5 (R174). -/
def quadrant (p q : Int) : Nat :=
  if 0 ≤ p then (if 0 ≤ q then 2 else 5) else (if 0 ≤ q then 3 else 4)

/-- Energy of a cycle's sum of products in 2^-32 uWh: the sum times 31.25 us (R171, R174). -/
def energyOf (sum : Int) : Nat := sum.natAbs / (2 ^ 142 * 115200000000000)

/-- Add to the energy below the registers. -/
def fineAdd (p q e : Nat) (s : State) : State :=
  { s with sr := { s.sr with fine := tabPut 0 (p * 6 + q) (tabGet 0 s.sr.fine (p * 6 + q) + e) s.sr.fine } }

/-- No run. -/
def runDefault : Run := { n := 0, yes := false, since := 0 }

/-- R182, R183: a tamper starts or ends: its object, its count, the record with its value, strongroom source 2. -/
def tamperSet (k : Nat) (on : Bool) (since value : Nat) (s : State) : State :=
  let s1 := objPut (0x06004000 + k) (b2n on) s
  let s2 := if on then objPut (0x06004100 + k) (obj s1 (0x06004100 + k) + 1) s1 else s1
  srRaise 2 (bookCommit 2 k 1 [bookNew (if on then 0x0630 else 0x0631) k k since value] s2)

/-- R182: a cycle of a metrology tamper kind: its run goes on or begins, and the N-th cycle decides.
(DEDUCED, log 107) -/
def tamperCycle (k : Nat) (yes : Bool) (begun value : Nat) (s : State) : State :=
  let r := tabGet runDefault s.sr.runs k
  let r' : Run := if r.n ≠ 0 ∧ r.yes = yes then { r with n := r.n + 1 } else { n := 1, yes := yes, since := begun }
  let s1 := { s with sr := { s.sr with runs := tabPut runDefault k r' s.sr.runs } }
  if r'.n = obj s 0x06003200 ∧ obj s (0x06004000 + k) ≠ b2n yes then tamperSet k yes r'.since value s1 else s1

/-- R179: a reversed-current cycle of phase `pp` with active power `p` mW. -/
def reversed (s : State) (pp : Nat) (p : Int) : Bool :=
  let f := pp / 3
  let nom := obj s (0x06001400 + 8 * f + pp % 3) * obj s (0x06001400 + 8 * f + 4 + pp % 3)
  obj s (0x06003000 + pp) == 1 && decide (p * 4294967296000000000 < -((obj s 0x06003100 * nom : Nat) : Int))

/-- A fixed window in samples (R173). -/
def windowLen (s : State) (round : Nat) : Nat :=
  if obj s 0x02000200 = 60 then (if round % 3 = 2 then 534 else 533) else 640

/-- The largest of a list. -/
def maxOf (l : List Nat) : Nat := l.foldl max 0

/-- The smallest of a list. -/
def minOf : List Nat → Nat
  | [] => 0
  | x :: xs => xs.foldl min x

/-- R173, R174, R179 to R182: the quantities of a feeder's cycle, its energy, and its tamper runs. -/
def cycleResults (f : Nat) (x : Feed) (s : State) : State :=
  let n := x.samples.length
  let v := (List.range 8).map (cycleValues x)
  let g := fun j => v.getD j []
  let rms := (List.range 8).map (fun j => rmsOf (dotInts (g j) (g j)).toNat n)
  let pq := (List.range 3).map (fun p => (dotInts (g p) (g (4 + p)), dotInts (quarter (g p)) (g (4 + p))))
  let s1 := (List.range 8).foldl (fun s j => objPut (0x06002000 + 8 * f + j) (rms.getD j 0) s) s
  let s2 := (List.range 3).foldl (fun s p =>
    let pp := 3 * f + p
    let a := pq.getD p (0, 0)
    let P := powerOf a.1 n
    let S := rms.getD p 0 * rms.getD (4 + p) 0 / 1000000000
    let pf : Int := if S = 0 then 0 else Int.tdiv (P * 4294967296) S
    let s1 := objPut (0x06002400 + pp) (unsgn 64 pf) (objPut (0x06002300 + pp) S
      (objPut (0x06002200 + pp) (unsgn 64 (powerOf a.2 n)) (objPut (0x06002100 + pp) (unsgn 64 P) s)))
    fineAdd pp (quadrant a.1 a.2) (energyOf a.2) (fineAdd pp (if 0 ≤ a.1 then 0 else 1) (energyOf a.1) s1)) s1
  let r := List.zipWith (· - ·) (addInts (addInts (g 4) (g 5)) (g 6)) (g 7)
  let res := rmsOf (dotInts r r).toNat n
  let vs := [rms.getD 0 0, rms.getD 1 0, rms.getD 2 0]
  let asym := if vs.sum = 0 then 0 else (maxOf vs - minOf vs) * 3 * 4294967296 / vs.sum
  let s3 := objPut (0x06002600 + f) res (objPut (0x06002700 + f) asym (objPut (0x06002800 + f) (b2n x.noref) s2))
  let imax := maxOf [rms.getD 4 0, rms.getD 5 0, rms.getD 6 0]
  let ok := !x.noref
  let ne := decide (obj s 0x06003500 * obj s (0x06001400 + 8 * f + 3) < rms.getD 3 0 * 4294967296)
  let s4 := (List.range 3).foldl (fun s p =>
    let P := powerOf (pq.getD p (0, 0)).1 n
    tamperCycle (4 + 3 * f + p) (ok && reversed s (3 * f + p) P) x.start (unsgn 64 P) s) s3
  let s5 := tamperCycle (10 + f)
    (ok && decide (obj s 0x06003300 < res ∧ obj s 0x06003400 * imax < res * 4294967296)) x.start res s4
  tamperCycle (12 + f) (ok && (ne || decide (obj s 0x06003600 < asym))) x.start (if ne then rms.getD 3 0 else asym) s5

/-- The minute's means of the per-cycle RMS of a feeder's phase voltages (Table 9-4). -/
def minuteAdd (f : Nat) (s : State) : State :=
  (List.range 3).foldl (fun s p =>
    let i := 3 * f + p
    { s with bill := { s.bill with
        mSum := tabPut 0 i (tabGet 0 s.bill.mSum i + obj s (0x06002000 + 8 * f + p)) s.bill.mSum
        mN := tabPut 0 i (tabGet 0 s.bill.mN i + 1) s.bill.mN } }) s

/-- R173: a feeder's cycle ends at its reference crossing, or at the end of its fixed window; a calibration change takes
effect at this boundary and marks the running interval (R172, Table 7-5). -/
def execMetrologyCycleEnd (t f : Nat) (s : State) : Host.Outcome State Fault Refusal :=
  let s := atTime t s
  let x := feedGet s f
  let n := x.samples.length
  let ends := if (refChan s f).isSome then refCrossed s f x.begun else decide (windowLen s x.round ≤ n)
  if !(decide (f < 2) && s.sr.metro && x.running) ∨ n = 0 ∨ !ends then .next s
  else
    let x := { x with noref := x.noref || (refChan s f).isNone }
    let s1 := minuteAdd f (cycleResults f x s)
    let s2 := if calNow s1 f = x.cal then s1
      else { s1 with bill := { s1.bill with iFlags := s1.bill.iFlags ||| 0x10 } }
    let s3 := if x.noref then { s2 with bill := { s2.bill with iFlags := s2.bill.iFlags ||| 0x20, mFlags := s2.bill.mFlags ||| 2 } } else s2
    .next (cycleBegin f ((x.round + 1) % 3) s3)

/-- R178, R182: a tamper input stands at a level since a cycle: once it has held its active level, or the other, for the whole
debounce time it becomes active or inactive; the record's LTIME is that at which the level began. -/
def execTamperInputChange (t k : Nat) (level : Bool) (since : Nat) (s : State) : Host.Outcome State Fault Refusal :=
  let s := atTime t s
  let cfg := obj s (0x06003700 + k)
  if k < 4 then
    let s1 := { s with sr := { s.sr with pins := tabPut (false, 0) k (level, since) s.sr.pins } }
    let on := level == bit cfg 1
    if bit cfg 0 ∧ since + bits cfg 15 8 * 1000000 ≤ s.clk.now ∧ on ≠ (obj s (0x06004000 + k) == 1) then
      .next (tamperSet k on (ltimeNs s - (s.clk.now - since)) (b2n level) s1)
    else .next s1
  else .next s

/-! ### LEGAL authorisations (R165) -/

/-- Reasons of event 0x0641 in the order R165 judges them; 0 when the authorisation verifies. (DEDUCED, log 128) -/
def legalReason (n : Nat) (a : LegalAuth) (s : State) : Nat :=
  if !a.keyOk then 1 else if a.unitId ≠ oct s 0x00000300 then 2 else if a.object ≠ n then 5
  else if a.counter ≤ s.sr.authCtr then 3 else if !(a.hashOk && a.sigOk) then 4 else 0

/-- R165, R169: serve a LEGAL change by its authorisation: NOPOWER, AUTH with record 0x0641, or `f`; the counter is
spent only by a change applied. -/
def legalServe (n : Nat) (a : LegalAuth) (f : State → Nat × Bytes × State) (s : State) : Nat × Bytes × State :=
  if noPower s then (stNOPOWER, [], s)
  else
    let r := legalReason n a s
    if r = 0 then
      let x := f { s with sr := { s.sr with authCtr := a.counter } }
      if x.1 = stDONE then x else (x.1, x.2.1, s)
    else (stAUTH, [], bookCommit 3 0 0 [bookNew 0x0641 0 n r 0] s)

/-! ### Reading and acknowledging the Register Book (R184) -/

/-- A record's 64 bytes (Table 6-11). -/
def bookBytes (r : BookRec) : Bytes :=
  toLe 8 r.seq ++ toLe 8 r.ltime ++ toLe 2 r.code ++ toLe 2 r.src ++ toLe 4 r.flags ++ toLe 8 r.p0 ++ toLe 8 r.p1 ++
    toLe 8 r.p2 ++ padTo 16 r.check

/-- R184, R479: up to 32 records from a sequence, in ascending order. -/
def execReadTheRegisterBook (t : Nat) (via : Via) (seq : Nat) (s : State) : Host.Outcome State Fault Refusal :=
  let s := atTime t s
  .next (serve via 0x06005000 (fun s =>
    (stDONE, recordsBody (((s.sr.book.filter (fun r => notBeforeW 64 r.seq seq)).reverse.take 32).map bookBytes), s)) s)

/-- R184: acknowledge up to a sequence: not backwards, not past the newest record. -/
def execAcknowledgeTheRegisterBook (t : Nat) (via : Via) (seq : Nat) (s : State) : Host.Outcome State Fault Refusal :=
  let s := atTime t s
  .next (serve via 0x06005200 (checked
    [(notBeforeW 64 seq s.sr.acked && notBeforeW 64 (obj s 0x06005100) seq, stRANGE), (!noPower s, stNOPOWER)]
    (fun s => (stDONE, [], commitOne { s with sr := { s.sr with acked := seq } }))) s)

end Sys2Proof.Machine
end

