-- ==== Sys2Proof/Machine/Calendar.lean ====
section
/-! DEFINITION. Civil time and the tariff calendar (R198 to R205), and the friendly-hours calendar (R233). -/

namespace Sys2Proof.Machine

/-! ### The Gregorian calendar from 2000-01-01 -/

/-- Year, month and day of a day count from 2000-01-01. -/
def civilDate (d : Int) : Int × Nat × Nat :=
  let z := d + 730425
  let era := z / 146097
  let doe := (z - era * 146097).toNat
  let yoe := (doe - doe / 1460 + doe / 36524 - doe / 146096) / 365
  let doy := doe - (365 * yoe + yoe / 4 - yoe / 100)
  let mp := (5 * doy + 2) / 153
  let day := doy - (153 * mp + 2) / 5 + 1
  let m := if mp < 10 then mp + 3 else mp - 9
  (era * 400 + yoe + (if m ≤ 2 then 1 else 0), m, day)

/-- Weekday of a day count: 1 Monday to 7 Sunday (2000-01-01 was a Saturday). -/
def weekday (d : Int) : Nat := ((d + 5) % 7).toNat + 1

/-! ### Calendar images (Table 7-1) -/

/-- Standard zone offset Z, minutes. -/
def calZone (c : Bytes) : Int := sgn 16 (beAt c 12 2)
/-- Daylight-saving shift, minutes. -/
def calShift (c : Bytes) : Nat := beAt c 14 1
/-- Calendar ID. -/
def calId (c : Bytes) : Nat := beAt c 0 4
/-- Activation LTIME. -/
def calFrom (c : Bytes) : Nat := beAt c 4 8

/-- Day count of a rule in a year: month, week (5 the last), weekday (R198). -/
def ruleDay (c : Bytes) (off : Nat) (y : Int) : Int :=
  let m := beAt c off 1
  let wd := beAt c (off + 2) 1
  let d1 := dayCount y m 1
  let first := d1 + (((wd : Int) - weekday d1) % 7)
  let last := (if m = 12 then dayCount (y + 1) 1 1 else dayCount y (m + 1) 1) - 1
  if beAt c (off + 1) 1 = 5 then last - (((weekday last : Int) - wd) % 7)
  else first + 7 * ((beAt c (off + 1) 1 : Int) - 1)

/-- The start and end instants of a year in local standard seconds; the end rule's hour is in daylight time. -/
def dstStart (c : Bytes) (y : Int) : Int := ruleDay c 16 y * 86400 + beAt c 19 1 * 3600
/-- The end instant. -/
def dstEnd (c : Bytes) (y : Int) : Int := ruleDay c 20 y * 86400 + beAt c 23 1 * 3600 - calShift c * 60

/-- The later of two rule instants at or before a local standard time: instant, and whether it starts daylight saving. -/
def dstPick (std : Int) (b : Option (Int × Bool)) (e : Int × Bool) : Option (Int × Bool) :=
  if std < e.1 then b
  else match b with
    | none => some e
    | some x => if x.1 ≤ e.1 then some e else some x

/-- The last start or end instant at or before a local standard time, of its year and those beside it (R198). -/
def dstLast (c : Bytes) (std : Int) : Option (Int × Bool) :=
  let y := (civilDate (std / 86400)).1
  [(dstStart c (y - 1), true), (dstEnd c (y - 1), false), (dstStart c y, true), (dstEnd c y, false),
   (dstStart c (y + 1), true), (dstEnd c (y + 1), false)].foldl (dstPick std) none

/-- Daylight saving is in force at a local standard time (R198). -/
def dstAt (c : Bytes) (std : Int) : Bool :=
  if calShift c = 0 then false else ((dstLast c std).map (·.2)).getD false

/-- Local standard seconds of an LTIME in ns. -/
def stdOf (s : State) (c : Bytes) (t : Nat) : Int := (t / 1000000000 : Nat) - (obj s 0x07003100 : Int) + 60 * calZone c

/-- R198: local civil seconds of an LTIME. -/
def civilOf (s : State) (c : Bytes) (t : Nat) : Int :=
  let x := stdOf s c t
  x + (if dstAt c x then 60 * (calShift c : Int) else 0)

/-- R200: the civil time that events act by: in the repeated hour after a daylight-saving end, the last second before
the jump. -/
def civilEff (s : State) (c : Bytes) (t : Nat) : Int :=
  let x := stdOf s c t
  let sh := 60 * (calShift c : Int)
  match dstLast c x with
  | some (e, false) => if x < e + sh then e + sh - 1 else civilOf s c t
  | _ => civilOf s c t

/-! ### The rate in force (R204) -/

/-- A special day entry names a date: with its year, or every year. -/
def specialIs (c : Bytes) (i : Nat) (every : Bool) (date : Int × Nat × Nat) : Bool :=
  let o := 1120 + 4 * i
  decide (beAt c (o + 1) 1 ≠ 0 ∧ beAt c (o + 1) 1 = date.2.1 ∧ beAt c (o + 2) 1 = date.2.2) &&
    (if every then beAt c o 1 == 255 else decide (beAt c o 1 ≠ 255 ∧ (2000 + beAt c o 1 : Int) = date.1))

/-- The used season in force at a date: the latest start at or before it, wrapping from the last of the year. -/
def seasonAt (c : Bytes) (m d : Nat) : Nat :=
  let used := (List.range 4).filter (fun i => beAt c (24 + 4 * i + 3) 1 == 1)
  let key := fun i => beAt c (24 + 4 * i) 1 * 32 + beAt c (24 + 4 * i + 1) 1
  let pick := fun (l : List Nat) => l.foldl (fun b i => match b with
    | none => some i
    | some j => if key j < key i then some i else some j) none
  match pick (used.filter (fun i => decide (key i ≤ m * 32 + d))) with
  | some i => i
  | none => (pick used).getD 0

/-- The day profile of a civil date (R204, 1 and 2). -/
def dayProfile (c : Bytes) (d : Int) : Nat :=
  let date := civilDate d
  match (List.range 64).find? (fun i => specialIs c i false date) with
  | some i => beAt c (1120 + 4 * i + 3) 1
  | none => match (List.range 64).find? (fun i => specialIs c i true date) with
    | some i => beAt c (1120 + 4 * i + 3) 1
    | none =>
      let week := beAt c (24 + 4 * seasonAt c date.2.1 date.2.2 + 2) 1
      beAt c (40 + 7 * week + (weekday d - 1)) 1

/-- The last used switch point of a day at or before a second of it: its second and its rate. -/
def lastPoint (c : Bytes) (profile sec : Nat) : Option (Nat × Nat) :=
  (List.range 16).foldl (fun b i =>
    let o := 96 + 64 * profile + 4 * i
    let at_ := beAt c o 1 * 3600 + beAt c (o + 1) 1 * 60
    if beAt c o 1 ≠ 255 ∧ at_ ≤ sec then some (at_, beAt c (o + 2) 1) else b) none

/-- R204, 3 and 4: the last switch point at or before a civil time, carried over from earlier days back to the civil
time of activation, and the carry-in rate before it. (DESIGN CHOICE, log 116) -/
def rateBack (c : Bytes) (since : Int) : Nat → Int → Nat → Nat
  | 0, _, _ => beAt c 1376 1
  | fuel + 1, d, sec =>
    match lastPoint c (dayProfile c d) sec with
    | some (p, r) => if since ≤ d * 86400 + p then r else beAt c 1376 1
    | none => if d * 86400 < since then beAt c 1376 1 else rateBack c since fuel (d - 1) 86399

/-- The rate of a calendar at a civil time, the calendar active since a civil time. -/
def rateAt (c : Bytes) (since civil : Int) : Nat := rateBack c since 1500 (civil / 86400) (civil % 86400).toNat

/-- The price of a rate in a calendar. -/
def priceOf (c : Bytes) (r : Nat) : Int := sgn 64 (beAt c (1384 + 8 * (r - 1)) 8)

/-- R205: the calendar for an LTIME and the LTIME of its activation. (DEDUCED, log 117) -/
def calendarAt (s : State) (t : Nat) : Bytes × Nat :=
  let prev := oct s 0x07004300
  if !notBefore64 t s.bill.calAt ∧ prev ≠ [] then (prev, calFrom prev) else (oct s 0x07004100, s.bill.calAt)

/-- R205: the rate in force at an LTIME, with its calendar. -/
def rateAtTime (s : State) (t : Nat) : Nat × Bytes :=
  let c := calendarAt s t
  (rateAt c.1 (civilOf s c.1 c.2) (civilEff s c.1 t), c.1)

/-! ### Checks of an image (R202) -/

/-- A month and day within limits. -/
def dayOk (m d : Nat) : Bool := decide (1 ≤ m ∧ m ≤ 12 ∧ 1 ≤ d ∧ d ≤ monthMax m)

/-- A daylight-saving rule within limits. -/
def ruleOk (c : Bytes) (o : Nat) : Bool :=
  decide (1 ≤ beAt c o 1 ∧ beAt c o 1 ≤ 12 ∧ 1 ≤ beAt c (o + 1) 1 ∧ beAt c (o + 1) 1 ≤ 5 ∧ 1 ≤ beAt c (o + 2) 1 ∧
    beAt c (o + 2) 1 ≤ 7 ∧ beAt c (o + 3) 1 ≤ 23)

/-- The head of a calendar image within limits. -/
def calHeadOk (c : Bytes) : Bool :=
  let sh := calShift c
  let z := calZone c
  decide (calId c ≠ 0) && decide (-720 ≤ z ∧ z ≤ 840 ∧ z % 15 = 0) && (sh == 0 || decide (15 ≤ sh ∧ sh ≤ 120 ∧ sh % 15 = 0)) &&
    decide (beAt c 15 1 = 0) && ruleOk c 16 && ruleOk c 20 && decide (slice c 16 3 ≠ slice c 20 3)

/-- Seasons, week profiles, special days, carry-in and reserved octets within limits. -/
def calBodyOk (c : Bytes) : Bool :=
  (List.range 4).all (fun i => let o := 24 + 4 * i
    dayOk (beAt c o 1) (beAt c (o + 1) 1) && decide (beAt c (o + 2) 1 ≤ 7 ∧ beAt c (o + 3) 1 ≤ 1)) &&
  (List.range 4).any (fun i => beAt c (24 + 4 * i + 3) 1 == 1) &&
  (List.range 56).all (fun i => decide (beAt c (40 + i) 1 ≤ 15)) &&
  (List.range 64).all (fun i => let o := 1120 + 4 * i
    beAt c (o + 1) 1 == 0 || (dayOk (beAt c (o + 1) 1) (beAt c (o + 2) 1) && decide (beAt c (o + 3) 1 ≤ 15))) &&
  decide (1 ≤ beAt c 1376 1 ∧ beAt c 1376 1 ≤ 8) && decide (beAt c 1377 7 = 0)

/-- The switch points within limits. -/
def calPointsOk (c : Bytes) : Bool :=
  (List.range 256).all (fun i => let o := 96 + 4 * i
    decide ((beAt c o 1 ≤ 23 ∨ beAt c o 1 = 255) ∧ beAt c (o + 1) 1 ≤ 59 ∧ 1 ≤ beAt c (o + 2) 1 ∧ beAt c (o + 2) 1 ≤ 8 ∧
      beAt c (o + 3) 1 = 0))

/-- R202, 3: in each day profile the used points stand first, in strictly ascending time. -/
def calOrderOk (c : Bytes) : Bool :=
  (List.range 16).all (fun p => (List.range 15).all (fun i =>
    let o := 96 + 64 * p + 4 * i
    let a := beAt c o 1 * 60 + beAt c (o + 1) 1
    let b := beAt c (o + 4) 1 * 60 + beAt c (o + 5) 1
    beAt c (o + 4) 1 == 255 || (decide (beAt c o 1 ≠ 255) && decide (a < b))))

/-! ### Friendly hours (R233) -/

/-- A friendly image's fields within limits. -/
def friendlyOk (c : Bytes) : Bool :=
  (List.range 8).all (fun i => let o := 6 * i
    decide (beAt c o 1 < 128 ∧ beAt c (o + 1) 1 ≤ 23 ∧ beAt c (o + 2) 1 ≤ 59 ∧ beAt c (o + 3) 1 ≤ 23 ∧
      beAt c (o + 4) 1 ≤ 59 ∧ beAt c (o + 5) 1 = 0)) &&
  (List.range 32).all (fun i => let o := 48 + 4 * i
    decide (beAt c (o + 3) 1 = 0) && (beAt c (o + 1) 1 == 0 || dayOk (beAt c (o + 1) 1) (beAt c (o + 2) 1)))

/-- A window holds at a civil day and second: from its start on a day of its mask, or on from the day before. -/
def windowHolds (c : Bytes) (i : Nat) (d : Int) (sec : Nat) : Bool :=
  let o := 6 * i
  let mask := beAt c o 1
  let a := beAt c (o + 1) 1 * 3600 + beAt c (o + 2) 1 * 60
  let e := beAt c (o + 3) 1 * 3600 + beAt c (o + 4) 1 * 60
  let today := bit mask (weekday d - 1)
  let before := bit mask (weekday (d - 1) - 1)
  if e ≤ a then (today && decide (a ≤ sec)) || (before && decide (sec < e))
  else today && decide (a ≤ sec ∧ sec < e)

/-- R233: an LTIME is friendly. -/
def friendly (s : State) (t : Nat) : Bool :=
  let c := oct s 0x08002000
  let civil := civilOf s (oct s 0x07004100) t
  let d := civil / 86400
  let date := civilDate d
  if c.isEmpty then false
  else
    (List.range 32).any (fun i => let o := 48 + 4 * i
      decide (beAt c (o + 1) 1 ≠ 0 ∧ beAt c (o + 1) 1 = date.2.1 ∧ beAt c (o + 2) 1 = date.2.2 ∧
        (beAt c o 1 = 255 ∨ (2000 + beAt c o 1 : Int) = date.1))) ||
    (List.range 8).any (fun i => beAt c (6 * i) 1 != 0 && windowHolds c i d (civil % 86400).toNat)

end Sys2Proof.Machine
end

