-- ==== Sys2Proof/Machine/Billing.lean ====
section
/-! DEFINITION. Billing (chapter 7): the 1 ms tick and its steps in the order of Table 7-6, the legal clock, profile
intervals, demand, billing periods, the tariff calendar and what is published. -/

namespace Sys2Proof.Machine

/-- LTIME of the present tick (R185): the last whole millisecond. -/
def tickNow (s : State) : Nat := ltimeNs s / 1000000 * 1000000

/-- A billing commit: its words and extents, its records, in the order of its step (R215). -/
def billCommit (step words extents : Nat) (rs : List BookNew) (s : State) : State :=
  commitPush { tick := tickNow s, at_ := s.clk.now, cls := 0, sub := step, words := words + 8 * rs.length
               extents := extents + rs.length, records := rs, payload := payloadNone } s

/-- Change the billing state. -/
def billMod (f : Bill → Bill) (s : State) : State := { s with bill := f s.bill }

/-- Energy register of feeder, quantity, rate (Table 7-2). -/
def regNum (f q r : Nat) : Nat := 0x07100000 + f * 65536 + q * 4096 + r * 256
/-- Maximum demand of feeder, direction, rate. -/
def maxNum (f d r : Nat) : Nat := 0x07200000 + f * 65536 + d * 4096 + r * 256
/-- Last demand of feeder, direction. -/
def lastNum (f d : Nat) : Nat := 0x07300000 + f * 65536 + d * 4096
/-- The rate in force. -/
def rateNow (s : State) : Nat := obj s 0x07005000

/-- The largest U64 (R3, R207). -/
def maxU64 : Nat := 18446744073709551615

/-! ### The tick (R195, R206, R207, R214) -/

/-- R3, R207: post to one register, which holds at its largest value when it would pass it; event 0x0707 once for it. -/
def postReg (f q r e : Nat) (s : State) : State :=
  let n := regNum f q r
  let old := obj s n
  let s1 := objPut n (min (old + e) maxU64) s
  if maxU64 < old + e ∧ !s.bill.sat.contains n then
    billCommit 1 1 1 [bookNew 0x0707 0 (f * 256 + q * 16 + r) (tickNow s) 0] (billMod (fun b => { b with sat := b.sat ++ [n] }) s1)
  else s1

/-- R206: a feeder's whole uWh of one quantity: total, register of the rate in force, interval and subperiod; the
fraction stays below. -/
def postQuantity (f q : Nat) (s : State) : State :=
  let whole := fun p => tabGet 0 s.sr.fine ((3 * f + p) * 6 + q) / 4294967296
  let e := whole 0 + whole 1 + whole 2
  let s1 := { s with sr := { s.sr with fine := (List.range 3).foldl (fun t p =>
    let k := (3 * f + p) * 6 + q
    tabPut 0 k (tabGet 0 t k % 4294967296) t) s.sr.fine } }
  let s2 := postReg f q (rateNow s) e (postReg f q 0 e s1)
  billMod (fun b => { b with
    iE := tabMod 0 (f * 6 + q) (· + e) b.iE
    iPh := if q < 2 then (List.range 3).foldl (fun t p => tabMod 0 (q * 6 + 3 * f + p) (· + whole p) t) b.iPh else b.iPh
    sE := if q < 2 then tabMod 0 (f * 2 + q) (· + e) b.sE else b.sE }) s2

/-- R206: the energy of every cycle that ended since the last tick is posted. -/
def postEnergy (s : State) : State :=
  (List.range 2).foldl (fun s f => (List.range 6).foldl (fun s q => postQuantity f q s) s) s

/-- Metrology gives nothing (Table 7-5, POWER_DOWN). -/
def metroDown (s : State) : Bool := s.sr.onVbak || !s.sr.metro

/-- Some energy register is saturated: it would have passed its largest value (R207). -/
def anySaturated (s : State) : Bool := !s.bill.sat.isEmpty

/-- Status bits that this tick gives its interval (Table 7-5). (DEDUCED, log 111) -/
def tickFlags (s : State) : Nat :=
  let g := obj s 0x07007A00
  b2n (metroDown s || s.bill.failDue) + 8 * b2n (decide (0 < g) && !notBefore64 (tickNow s) (obj s 0x07007900)) +
  32 * b2n ((feedGet s 0).noref || (feedGet s 1).noref) + 64 * b2n ((List.range 14).any (fun k => obj s (0x06004000 + k) == 1)) +
  128 * b2n (!ltimeDisciplined s) + 256 * b2n (anySaturated s)

/-- R167: what a tick has changed in MRAM is a commit of the tick. (DEDUCED, log 256) -/
def tickCommit (s : State) : State := if mramOf s = mramTaken s then s else billCommit 1 24 2 [] s

/-- R206, R215 step 1: a new 1 ms tick of LTIME: cycle energy is posted before anything else, and the tick marks the
running interval, subperiod and minute; each whole second adds to the active tampers' seconds. -/
def tickPost (s : State) : State :=
  let k := ltimeNs s / 1000000
  if k = s.sr.tick then s
  else
    let s1 := postEnergy { s with sr := { s.sr with tick := k } }
    let fl := tickFlags s1
    let g := if bit fl 3 then obj s1 0x07007A00 else 0
    let s2 := billMod (fun b => { b with
      iFlags := b.iFlags ||| fl, iG := max b.iG g
      sFlags := b.sFlags ||| fl, sG := max b.sG g
      sBad := b.sBad || metroDown s1 || s1.bill.failDue
      mFlags := b.mFlags ||| b2n (metroDown s1) }) s1
    tickCommit (if k % 1000 = 0 then
      (List.range 14).foldl (fun s i =>
        if obj s (0x06004000 + i) = 1 then objPut (0x06004200 + i) (obj s (0x06004200 + i) + 1) s else s) s2
    else s2)

/-- R206, R215: the 1 ms tick of the Keeper. -/
def execKeeperTick (t : Nat) (s : State) : Host.Outcome State Fault Refusal :=
  let s := atTime t s
  .next (tickPost s)

/-! ### The legal clock (R190 to R195) -/

/-- PTIME less LTIME in ns, rounded toward zero (R190). -/
def clockOffset (s : State) : Int := Int.tdiv (s.clk.ptime - s.clk.ltime) nsFine

/-- R191: LTIME runs at (1 + e / 1,000 s) times its crystal rate, bounded by 07.0074.00; undisciplined, with the learned offset
beside it (R470). -/
def slewBy (e : Int) (s : State) : State :=
  let lim : Int := obj s 0x07007400 * nsFine / 1000000
  let r := Int.tdiv (e * nsFine) 1000000000000
  { s with clk := { s.clk with slew := max (-lim) (min lim r) + if ltimeDisciplined s then 0 else learned s } }

/-- Nearest whole millisecond of an offset in ns (R192). -/
def nearestMs (e : Int) : Int := (2 * e + 1000000) / 2000000 * 1000000

/-- R192: the step is withheld: LTIME runs free until a set; event 0x0708 at most once an hour. -/
def stepWithheld (e : Int) (s : State) : State :=
  let due := match s.bill.heldAt with
    | some h => decide (h + 3600000000000 ≤ s.clk.now)
    | none => true
  let s1 := ltimeFree (billMod (fun b => { b with withheld := true }) s)
  if due then keeperRaise 0x0708 0 (unsgn 64 e) 1 (billMod (fun b => { b with heldAt := some s.clk.now }) s1) else s1

/-- R192: an offset above the limit: counted toward a step while it stays within 10 ms of the first; once confirmed,
due at the next whole second, or withheld above the largest automatic step. -/
def stepCount (e : Int) (missed : Bool) (s : State) : State :=
  let keep := !missed && (match s.bill.first with
    | some f => decide (f - 10000000 ≤ e ∧ e ≤ f + 10000000)
    | none => false)
  let first := if keep then s.bill.first.getD e else e
  let n := if keep then s.bill.confirms + 1 else 1
  let s1 := billMod (fun b => { b with first := some first, confirms := n }) { s with clk := { s.clk with slew := 0 } }
  if n < obj s 0x07007500 then disciplineState 3 s1
  else if e.natAbs ≤ obj s 0x07007600 * 1000000000 then
    disciplineState 3 (billMod (fun b => { b with step := some (nearestMs e, (ltimeNs s / 1000000000 + 1) * 1000000000) }) s1)
  else stepWithheld e s1

/-- R470: a disciplined second's slew is learned. -/
def learnSlew (missed : Bool) (s : State) : State :=
  if missed then s else { s with clk := { s.clk with learn := s.clk.learn + s.clk.slew, learnN := s.clk.learnN + 1 } }

/-- What a set still slews after a second at the present slew (R191, R193). -/
def slewLess (r : Int) (s : State) : Int := r - Int.tdiv ((s.clk.slew - learned s) * 1000000000) nsFine

/-- R190 to R192: the comparison of a whole second of LTIME: the offset is measured and slewed or counted toward a
step; undisciplined, LTIME runs free but for what a set still slews (R193). (DEDUCED, log 113) -/
def execDisciplineComparison (t : Nat) (s : State) : Host.Outcome State Fault Refusal :=
  let s := atTime t s
  let sec := ltimeNs s / 1000000000
  if sec = s.bill.second then .next s
  else
    let missed := decide (sec ≠ s.bill.second + 1)
    let s0 := billMod (fun b => { b with second := sec }) s
    if ltimeDisciplined s then
      let e := clockOffset s
      let s1 := objPut 0x07007200 (unsgn 64 e) (billMod (fun b => { b with slewLeft := none }) s0)
      if s.bill.withheld then .next (if obj s 0x07007600 * 1000000000 < e.natAbs then stepWithheld e s1 else ltimeFree s1)
      else if e.natAbs ≤ obj s 0x07007300 * 1000000000 then
        .next (disciplineState (if e.natAbs ≤ 1000 then 2 else 1)
          (slewBy e (billMod (fun b => { b with first := none, confirms := 0, step := none }) (learnSlew missed s1))))
      else .next (stepCount e missed s1)
    else
      let s1 := billMod (fun b => { b with first := none, confirms := 0 }) s0
      match s.bill.slewLeft with
      | some r =>
        let left := slewLess r s
        if left.natAbs ≤ 1000 then .next (ltimeFree (billMod (fun b => { b with slewLeft := none }) s1))
        else .next (disciplineState 1 (slewBy left (billMod (fun b => { b with slewLeft := some left }) s1)))
      | none => .next (ltimeFree s1)

/-- R165: a LEGAL change applied: record 0x0640 with the object, the new value (or its CRC-32C) and the old one. -/
def legalRecord (n new old words : Nat) (s : State) : State :=
  commitPush { tick := nextTick s, at_ := tickCycle s, cls := 3, sub := 0, words := words + 9, extents := 3
               records := [bookNew 0x0640 0 n new old], payload := payloadNone } s

/-- R193: set LTIME: the offset formed at the service is slewed within A, otherwise stepped by all of it at the next tick. -/
def setLtimeTo (target : Nat) (s : State) : Nat × Bytes × State :=
  let e : Int := sgn 64 (target + 2 ^ 64 - ltimeNs s)
  let s1 := billMod (fun b => { b with withheld := false, step := none, setStep := none, slewLeft := none, first := none, confirms := 0 })
    (legalRecord 0x07007700 target (ltimeNs s) 1 s)
  if e.natAbs ≤ obj s 0x07007300 * 1000000000 then
    (stDONE, [], disciplineState 1 (slewBy e (billMod (fun b => { b with slewLeft := some e }) s1)))
  else (stDONE, [], billMod (fun b => { b with setStep := some (e, tickNow s + 1000000) }) s1)

/-- R193: executing 07.0077.00. -/
def execSetLtime (t : Nat) (via : Via) (target : Nat) (auth : LegalAuth) (s : State) : Host.Outcome State Fault Refusal :=
  let s := atTime t s
  .next (keeperServe via 0x07007700 0x0702 (legalServe 0x07007700 auth (setLtimeTo target)) s)

/-! ### Profile intervals (R196, R197, R213, R214) -/

/-- The latest boundary of intervals of `len` seconds at or before an LTIME, in ns (R196). -/
def boundaryAt (s : State) (len t : Nat) : Nat :=
  let g := obj s 0x07000100 % len
  let sec := t / 1000000000
  if sec < g then 0 else ((sec - g) / len * len + g) * 1000000000

/-- R213: the running interval closes at an LTIME: its record (Table 7-3), the published record (Table 9-3); the next
opens at another LTIME. -/
def closeInterval (endL startL extra : Nat) (s : State) : State :=
  let b := s.bill
  let seq := obj s 0x07008100 + 1
  let short := b.iGrid || decide (endL < b.iStart + 900000000000)
  let st := (b.iFlags ||| extra ||| 4 * b2n short ||| 1024 * b2n b.iGrid) % 2048
  let e := fun f => ((List.range 6).map (fun q => toLe 8 (tabGet 0 b.iE (f * 6 + q)))).flatten
  let r := toLe 8 endL ++ toLe 4 seq ++ toLe 2 st ++ toLe 1 (rateNow s) ++ toLe 1 b.iG ++ e 0 ++ e 1 ++ toLe 8 b.iStart ++ toLe 8 0
  let p := toLe 8 endL ++ toLe 8 b.iStart ++ toLe 8 seq ++ toLe 2 st ++ toLe 6 0 ++
    ((List.range 12).map (fun i => toLe 8 (tabGet 0 b.iPh i))).flatten
  billMod (fun b => { b with
    recs := (r :: b.recs).take 57344
    pubs := (p :: b.pubs).take 12288
    pFlags := b.pFlags ||| st
    iStart := startL
    iFlags := b2n (metroDown s || b.failDue)
    iG := 0
    iE := []
    iPh := []
    iGrid := false }) (objPut 0x07008200 (if 57344 < seq then seq - 57343 else 1) (objPut 0x07008100 seq s))

/-! ### Demand (R208 to R210) -/

/-- The demand configuration in force: L minutes and n. -/
def demandCfg (s : State) : Nat × Nat := (obj s 0x07000400 % 256, obj s 0x07000400 / 256)

/-- R208, R209: one demand of a window: the last demand, and the maximum of its rate and of the total. -/
def demandTake (f d e endL : Nat) (complete : Bool) (s : State) : State :=
  let v := 3 * e / (50 * (demandCfg s).1)
  let r := rateNow s
  let up := fun s r => if complete && decide (obj s (maxNum f d r) < v) then
    objPut (maxNum f d r + 1) endL (objPut (maxNum f d r) v s) else s
  let new := complete && (decide (obj s (maxNum f d r) < v) || decide (obj s (maxNum f d 0) < v))
  up (up (objPut (lastNum f d + 2) (b2n (!complete) + 2 * b2n new) (objPut (lastNum f d + 1) endL (objPut (lastNum f d) v s))) r) 0

/-- Replace the running subperiod by a new one; the ended one is kept for its windows, with the status bits of Table 7-5. -/
def closeSub (bad : Bool) (extra endL startL : Nat) (s : State) : State :=
  let c := demandCfg s
  let short := s.bill.sGrid || decide (endL < s.bill.sStart + c.1 * 60 / c.2 * 1000000000)
  billMod (fun b => { b with
    subs := ({ e := b.sE, bad := b.sBad || bad || metroDown s || b.sGrid, g := b.sG
               flags := (b.sFlags ||| extra ||| b2n (metroDown s) ||| 4 * b2n short ||| 1024 * b2n b.sGrid) % 2048 } :: b.subs).take 15
    sE := [], sBad := metroDown s || b.failDue, sGrid := false, sFlags := b2n (metroDown s || b.failDue), sG := 0
    sStart := startL, fresh := b.fresh - 1 }) s

/-! ### Billing periods (R211, R212) -/

/-- R212: the LTIME of a civil instant: its first occurrence, or the jump over it (R200). -/
def ltimeOfCivil (s : State) (civil : Int) : Nat :=
  let c := oct s 0x07004100
  let au : Int := obj s 0x07003100
  let std := civil
  let dst := civil - 60 * (calShift c : Int)
  let at_ : Int :=
    if dstAt c dst then dst
    else if !dstAt c std then std
    else dstStart c (civilDate (std / 86400)).1
  ((at_ - 60 * calZone c + au) * 1000000000).toNat

/-- The latest scheduled boundary at or before an LTIME (R211, R212), if there is a schedule: its civil instant and its
LTIME. -/
def boundaryB (s : State) (t : Nat) : Option (Int × Nat) :=
  let d := obj s 0x07006300 / 256
  let h := obj s 0x07006300 % 256
  if d = 0 then none
  else
    let date := civilDate (civilOf s (oct s 0x07004100) t / 86400)
    let inst := fun (y : Int) (m : Nat) => dayCount y m d * 86400 + (h : Int) * 3600
    let this := inst date.1 date.2.1
    let prev := if date.2.1 = 1 then inst (date.1 - 1) 12 else inst date.1 (date.2.1 - 1)
    if notBefore64 t (ltimeOfCivil s this) then some (this, ltimeOfCivil s this) else some (prev, ltimeOfCivil s prev)

/-- A scheduled period end is due at an LTIME (R212); in repeated civil time it is not taken a second time (R200). -/
def periodDue (s : State) (t : Nat) : Bool :=
  match boundaryB s t with
  | some (i, b) => notBefore64 t b && later64 b s.bill.tLast && decide (i + 1 ≠ s.bill.pInst)
  | none => false

/-- The civil instant of the latest scheduled boundary at or before an LTIME, plus one. -/
def periodInst (s : State) (t : Nat) : Int :=
  match boundaryB s t with
  | some (i, b) => if notBefore64 t b then i + 1 else s.bill.pInst
  | none => s.bill.pInst

/-- The registers and maxima of both feeders as Tables 7-4 and 7-7 order them, by a word order. (DEDUCED, log 120) -/
def regsBytes (w : Nat → Nat → Bytes) (s : State) (f : Nat) : Bytes :=
  ((List.range 54).map (fun i => w 8 (obj s (regNum f (i / 9) (i % 9))))).flatten

/-- The maximum demands of a feeder. -/
def maxBytes (w : Nat → Nat → Bytes) (s : State) (f : Nat) : Bytes :=
  ((List.range 18).map (fun i => w 8 (obj s (maxNum f (i / 9) (i % 9))) ++ w 8 (obj s (maxNum f (i / 9) (i % 9) + 1)))).flatten

/-- The billing snapshot (Table 7-4). -/
def snapshot (number endL cause : Nat) (s : State) : Bytes :=
  toLe 8 number ++ toLe 8 s.bill.pStart ++ toLe 8 endL ++ toLe 4 (s.bill.pFlags ||| 2 * b2n (cause == 3)) ++ toLe 1 cause ++
  toLe 1 (demandCfg s).1 ++ toLe 1 (demandCfg s).2 ++ toLe 1 (calId (oct s 0x07004100)) ++ toLe 32 0 ++
  regsBytes toLe s 0 ++ regsBytes toLe s 1 ++ maxBytes toLe s 0 ++ maxBytes toLe s 1 ++ List.replicate 544 0

/-- R210: a held demand configuration takes effect; the first n subperiods after it are incomplete. -/
def demandApply (s : State) : State :=
  let new := obj s 0x07000200 + 256 * obj s 0x07000300
  if new = obj s 0x07000400 then s
  else billMod (fun b => { b with subs := [], fresh := obj s 0x07000300, sBad := true }) (objPut 0x07000400 new s)

/-- R211: the billing period ends at `endL`, the next beginning at `startL`: snapshot, maxima cleared, held
configuration applied, strongroom source 5; its commit and record are the caller's. -/
def periodClose (endL startL cause : Nat) (s : State) : State :=
  let number := obj s 0x07006100 + 1
  let snap := snapshot number endL cause s
  let s1 := (List.range 36).foldl (fun s i =>
    let m := maxNum (i / 18) (i / 9 % 2) (i % 9)
    objPut m 0 (objPut (m + 1) 0 s)) (objPut 0x07006100 number s)
  srRaise 5 (billMod (fun b => { b with
    snaps := (snap :: b.snaps).take 24, pStart := startL, tLast := startL
    pInst := if cause = 2 then b.pInst else periodInst s startL, pFlags := 0, endNow := none }) (demandApply s1))

/-- R211: a billing period ends in one commit with event 0x0702. -/
def periodEnd (endL startL cause : Nat) (s : State) : State :=
  billCommit 4 340 4 [bookNew 0x0702 0 (obj s 0x07006100 + 1) cause 0] (periodClose endL startL cause s)

/-- The body of 07.0062.00. -/
def endPeriodNow (s : State) : Nat × Bytes × State :=
  (stDONE, [], legalRecord 0x07006200 0 0 1 (billMod (fun b => { b with endNow := some (ltimeNs s) }) s))

/-- R211: executing 07.0062.00, LEGAL. -/
def execEndTheBillingPeriodNow (t : Nat) (via : Via) (auth : LegalAuth) (s : State) : Host.Outcome State Fault Refusal :=
  let s := atTime t s
  .next (keeperServe via 0x07006200 0x0702 (legalServe 0x07006200 auth endPeriodNow) s)

/-! ### Steps of the clock (R194, R195, R212) -/

/-- R194, R195: LTIME is stepped by `e` ns at a tick, in one commit: the running intervals close at t_o and open at t_n, a
forward step past a boundary ends the period with cause 3, H and g take R195, events 0x0701 and 0x0702, strongroom source 7.
(DEDUCED, log 114) -/
def clockStepBy (e : Int) (s : State) : State :=
  let tO := tickNow s
  let tN := ((tO : Int) + e).toNat
  let passed := decide (0 < e) && periodDue s tN
  let s1 := closeSub true 2 tO tN (closeInterval tO tN 2 s)
  let s2 := if passed then periodClose tO tN 3 s1 else s1
  let s3 := if e < 0 then
      objPut 0x07007A00 (min (obj s2 0x07007A00 + 1) 255)
        (objPut 0x07007900 (if later64 tO (obj s2 0x07007900) then tO else obj s2 0x07007900) s2) else s2
  let s4 := objPut 0x07007800 (obj s3 0x07007800 + 1) { s3 with
    clk := { s3.clk with ltime := s3.clk.ltime + e * nsFine, slew := if ltimeDisciplined s3 then 0 else learned s3 }
    sr := { s3.sr with tick := tN / 1000000 } }
  let s5 := billMod (fun b => { b with
    iFlags := b.iFlags ||| 2, sFlags := b.sFlags ||| 2, sBad := true, step := none, setStep := none, first := none, confirms := 0
    mFlags := b.mFlags ||| 4, second := tN / 1000000000, minute := tN / 60000000000
    civil := civilEff s4 (oct s4 0x07004100) tN }) s4
  srRaise 7 (commitPush { tick := tO, at_ := s.clk.now, cls := 0, sub := 2, words := if passed then 396 else 48, extents := 8
                          records := bookNew 0x0701 0 tO tN 0 :: (if passed then [bookNew 0x0702 0 (obj s 0x07006100 + 1) 3 0] else [])
                          payload := payloadNone } s5)

/-- A step due now: a set's, or a confirmed one (R192, R193). -/
def stepDue (s : State) : Option Int :=
  ((s.bill.setStep.toList ++ s.bill.step.toList).find? (fun x => notBefore64 (ltimeNs s) x.2)).map (·.1)

/-- R192 to R194, R215 step 2: a confirmed or set step is applied at its tick. -/
def tickStep (s : State) : State :=
  match stepDue s with
  | some e => disciplineState 0 (clockStepBy e s)
  | none => s

/-- R192 to R194, R215: a confirmed or set step, after the energy of the tick. -/
def execClockStep (t : Nat) (s : State) : Host.Outcome State Fault Refusal :=
  let s := atTime t s
  .next (tickStep (tickPost s))

/-! ### Ends within a tick (R208, R213, R211, R215) -/

/-- A boundary of a grid closes an interval begun at an LTIME: one later than its start, and of a new grid not before the tick from
which it is in force (R196, R197). -/
def gridDue (s : State) (start b : Nat) (grid : Bool) : Bool :=
  later64 b start && (!grid || notBefore64 b s.bill.gridAt)

/-- R208: a demand subperiod ends; the demand of the window of the last n subperiods. -/
def tickDemand (s : State) : State :=
  let c := demandCfg s
  let len := c.1 * 60 / c.2
  let b := boundaryAt s len (tickNow s)
  if gridDue s s.bill.sStart b s.bill.sGrid then
    let s1 := closeSub (decide (s.bill.fresh ≠ 0) || decide (b ≠ s.bill.sStart + len * 1000000000)) 0 b b s
    let w := s1.bill.subs.take c.2
    let complete := decide (w.length = c.2) && w.all (fun x => !x.bad)
    let sum := fun k => (w.map (fun x => tabGet 0 x.e k)).sum
    billCommit 3 16 4 [] ((List.range 4).foldl (fun s k => demandTake (k / 2) (k % 2) (sum k) b complete s) s1)
  else s

/-- R213: a profile interval ends at the boundary of the grid it has reached. -/
def tickProfile (s : State) : State :=
  let b := boundaryAt s 900 (tickNow s)
  if gridDue s s.bill.iStart b s.bill.iGrid then billCommit 3 32 2 [] (closeInterval b b 0 s) else s

/-- R211, R215 step 4: a billing period ends at its scheduled boundary (cause 1), or at the first tick after 07.0062.00
(cause 2); both together are one end, with cause 1. -/
def tickPeriod (s : State) : State :=
  let now := tickNow s
  if periodDue s now then periodEnd now now 1 s
  else if s.bill.endNow.any (fun a => later64 now a) then periodEnd now now 2 s
  else s

/-- R208, R215 step 3: a demand subperiod end, after the steps before it. -/
def execDemandSubperiodEnd (t : Nat) (s : State) : Host.Outcome State Fault Refusal :=
  let s := atTime t s
  .next (tickDemand (tickStep (tickPost s)))

/-- R213, R215 step 3: a profile interval end, after the steps before it. -/
def execProfileIntervalEnd (t : Nat) (s : State) : Host.Outcome State Fault Refusal :=
  let s := atTime t s
  .next (tickProfile (tickDemand (tickStep (tickPost s))))

/-- R215: the steps 1 to 4 of Table 7-6 in their order, each as far as it is due. -/
def tickEnds (s : State) : State := tickPeriod (tickProfile (tickDemand (tickStep (tickPost s))))

/-- R211, R215 step 4: a billing-period end, after the steps before it. -/
def execBillingPeriodEnd (t : Nat) (s : State) : Host.Outcome State Fault Refusal :=
  let s := atTime t s
  .next (tickEnds s)

/-- R195: at the first tick at which LTIME reaches H, the repeat generation returns to 0. -/
def execRepeatGenerationReset (t : Nat) (s : State) : Host.Outcome State Fault Refusal :=
  let s := atTime t s
  if obj s 0x07007A00 ≠ 0 ∧ notBefore64 (tickNow s) (obj s 0x07007900) then
    .next (billCommit 5 1 1 [] (objPut 0x07007A00 0 s))
  else .next s

/-! ### Civil time and the tariff calendar (R199 to R205) -/

/-- R199: at the first tick at or after 07.0033.00, A_u takes its pending value; event 0x070B. -/
def tickOffset (s : State) : State :=
  let a := obj s 0x07003300
  if a ≠ 0 ∧ notBefore64 (tickNow s) a then
    let s1 := objPut 0x07003100 (obj s 0x07003200) (objPut 0x07003300 0 s)
    billCommit 5 2 2 [bookNew 0x070B 0 (obj s 0x07003100) (obj s 0x07003200) 0]
      (billMod (fun b => { b with iFlags := b.iFlags ||| 512, sFlags := b.sFlags ||| 512 }) s1)
  else s

/-- R199, R215 step 5: the change of A_u, after the steps before it. (DEDUCED, log 115) -/
def execTaiUtcChange (t : Nat) (s : State) : Host.Outcome State Fault Refusal :=
  let s := atTime t s
  .next (tickOffset (tickEnds s))

/-- R204, R200: the rate in force at the present tick: in civil time that has been passed already, it does not change. -/
def rateDue (s : State) : Nat :=
  let c := oct s 0x07004100
  rateAt c (civilOf s c s.bill.calAt) (max s.bill.civil (civilEff s c (tickNow s)))

/-- R204: a tariff switch: the rate becomes the one due; event 0x0704, strongroom source 6. -/
def switchRate (s : State) : State :=
  let r := rateDue s
  let old := rateNow s
  let s1 := billMod (fun b => { b with civil := max b.civil (civilEff s (oct s 0x07004100) (tickNow s)) }) s
  if r = old then s1
  else srRaise 6 (keeperRaise 0x0704 0 old r (billCommit 5 1 1 [] (objPut 0x07005000 r s1)))

/-- R203: the passive calendar becomes active at the first tick at or after its activation LTIME, the active one the
previous; event 0x0703; the rate is evaluated afresh. -/
def tickCalendar (s : State) : State :=
  let p := oct s 0x07004200
  let now := tickNow s
  if p ≠ [] ∧ notBefore64 now (calFrom p) then
    let s1 := octPut 0x07004200 [] (octPut 0x07004100 p (octPut 0x07004300 (oct s 0x07004100) s))
    let s2 := billMod (fun b => { b with calAt := now, iFlags := b.iFlags ||| 512, sFlags := b.sFlags ||| 512, civil := civilEff s1 p now }) s1
    switchRate (billCommit 5 362 2 [bookNew 0x0703 0 (calId p) (calFrom p) 0] s2)
  else s

/-- R203, R215 step 5: a calendar's activation, after the steps before it. -/
def execCalendarActivation (t : Nat) (s : State) : Host.Outcome State Fault Refusal :=
  let s := atTime t s
  .next (tickCalendar (tickOffset (tickEnds s)))

/-- R215: the steps 1 to 5 of Table 7-6 in their order, each as far as it is due. -/
def tickRates (s : State) : State := switchRate (tickCalendar (tickOffset (tickEnds s)))

/-- R204, R215 step 5: a switch point of the active calendar changes the rate in force, after the steps before it. -/
def execTariffSwitch (t : Nat) (s : State) : Host.Outcome State Fault Refusal :=
  let s := atTime t s
  .next (tickRates s)

/-- R202: a checked calendar image becomes the passive one. -/
def calendarWrite (img : Bytes) (s : State) : Nat × Bytes × State :=
  (stDONE, [], legalRecord 0x07004000 (crc32c img) (crc32c (oct s 0x07004200)) 181
    (octPut 0x07004200 img s))

/-- R202's checks, in its order. -/
def calendarChecks (img : Bytes) : List (Bool × Nat) :=
  [(decide (img.length = 1448), stLENGTH), (calHeadOk img && calBodyOk img && calPointsOk img, stRANGE), (calOrderOk img, stRANGE)]

/-- R201, R202: a LEGAL write of 07.0040.00. -/
def execCalendarImageWrite (t : Nat) (via : Via) (img : Bytes) (auth : LegalAuth) (s : State) :
    Host.Outcome State Fault Refusal :=
  let s := atTime t s
  .next (keeperServe via 0x07004000 0x0701 (checkedCount 0x07004000 (calendarChecks img) (legalServe 0x07004000 auth (calendarWrite img))) s)

/-- The body of 07.0044.00. -/
def withdrawCalendar (s : State) : Nat × Bytes × State :=
  (stDONE, [], legalRecord 0x07004400 0 0 1 (octPut 0x07004200 [] s))

/-- R202: executing 07.0044.00, LEGAL. -/
def execWithdrawThePassiveCalendar (t : Nat) (via : Via) (auth : LegalAuth) (s : State) : Host.Outcome State Fault Refusal :=
  let s := atTime t s
  .next (keeperServe via 0x07004400 0x0702 (legalServe 0x07004400 auth withdrawCalendar) s)

/-! ### Power captures (R216) -/

/-- R216, R215 step 6: at the tick after a switch to VBAK: the +A and -A totals of each feeder, the rate and LTIME.
(DESIGN CHOICE, log 118) -/
def execPowerFailCapture (t : Nat) (s : State) : Host.Outcome State Fault Refusal :=
  let s := tickRates (atTime t s)
  if s.bill.failDue then
    let v := [obj s (regNum 0 0 0), obj s (regNum 0 1 0), obj s (regNum 1 0 0), obj s (regNum 1 1 0), rateNow s, tickNow s]
    .next (billCommit 6 6 1 [bookNew 0x0705 0 (v.getD 0 0) (v.getD 2 0) (rateNow s)]
      (billMod (fun b => { b with failDue := false, capture := v, iFlags := b.iFlags ||| 1, sFlags := b.sFlags ||| 1, sBad := true }) s))
  else .next s

/-- R216: on return to VSR: the seconds spent on VBAK and the rate in force, written before the supply record. -/
def execPowerUpCapture (t : Nat) (s : State) : Host.Outcome State Fault Refusal :=
  let s := atTime t s
  match s.bill.upDue with
  | some secs =>
    if s.bill.failDue then .next s
    else
      .next (commitPush { tick := nextTick s, at_ := tickCycle s, cls := 0, sub := 6, words := 9, extents := 2
                          records := [bookNew 0x0706 0 secs (rateNow s) 0], payload := payloadNone }
        (billMod (fun b => { b with upDue := none }) s))
  | none => .next s

/-! ### Reads and publication -/

/-- R205: executing 07.0053.00: the rate in force at an LTIME, then its price. (DEDUCED, log 119) -/
def execRateAndPriceAtAnLtime (t : Nat) (via : Via) (l : Nat) (s : State) : Host.Outcome State Fault Refusal :=
  let s := atTime t s
  .next (serve via 0x07005300 (fun s =>
    let r := rateAtTime s l
    (stDONE, toBe 1 r.1 ++ toBe 8 (unsgn 64 (priceOf r.2 r.1)), s)) s)

/-- R211: executing 07.0060.00: a snapshot by age, 0 the newest. (DEDUCED, log 121) -/
def execReadSnapshotByAge (t : Nat) (via : Via) (age : Nat) (s : State) : Host.Outcome State Fault Refusal :=
  let s := atTime t s
  .next (serve via 0x07006000 (fun s => if 24 ≤ age then (stRANGE, [], s)
    else match s.bill.snaps[age]? with
      | some b => (stDONE, b, s)
      | none => (stNONE, [], s)) s)

/-- R213, R479: executing 07.0080.00: up to 16 records from a sequence, in ascending order. -/
def execReadProfileRecords (t : Nat) (via : Via) (seq : Nat) (s : State) : Host.Outcome State Fault Refusal :=
  let s := atTime t s
  .next (serve via 0x07008000 (fun s =>
    let newest := obj s 0x07008100
    let n := if notBeforeW 64 newest seq then min (newest + 1 - seq) s.bill.recs.length else 0
    (stDONE, recordsBody ((s.bill.recs.take n).reverse.take 16), s)) s)

/-- R218: executing 07.0090.0f: a feeder's registers, then its maximum demands, between ticks. -/
def execConsistentRegisterSet (t : Nat) (via : Via) (f : Nat) (s : State) : Host.Outcome State Fault Refusal :=
  let s := atTime t s
  .next (serve via (0x07009000 + f % 16) (fun s => (stDONE, regsBytes toBe s f ++ maxBytes toBe s f, s)) s)

/-- R251: in the tick at which LTIME passes a whole minute, the minute record (Table 9-4) is published. -/
def execMinutePublish (t : Nat) (s : State) : Host.Outcome State Fault Refusal :=
  let s := atTime t s
  let m := tickNow s / 60000000000
  if m = s.bill.minute then .next s
  else
    let mean := fun i => if tabGet 0 s.bill.mN i = 0 then 0 else tabGet 0 s.bill.mSum i / tabGet 0 s.bill.mN i
    let r := toLe 8 (m * 60000000000) ++ ((List.range 6).map (fun i => toLe 8 (mean i))).flatten ++ toLe 2 s.bill.mFlags ++ toLe 6 0
    .next (billCommit 7 8 1 [] (billMod (fun b => { b with
      mins := tabPut [] (m % 8192) r b.mins, mSum := [], mN := [], mFlags := b2n (metroDown s), minute := m }) s))

end Sys2Proof.Machine
end

