-- ==== Sys2Proof/Machine/Mac.lean ====
section
/-! DEFINITION. The radio MAC (chapter 4): keys and outgoing counters, the judgement of received frames by the owner
wing, the verdict with its acknowledgement, and the neighbour table's access. -/

namespace Sys2Proof.Machine

/-! ### Keys (R91, R92) -/

/-- State of an ordinary key: 0 EMPTY, 1 RECEIVE, 2 ACTIVE, 3 RETIRED (04.0021.kk). -/
def keyState (s : State) (k : Nat) : Nat := if 1 ≤ k ∧ k ≤ 0xBF then obj s (0x04002100 + k) else 0

/-- The key's index is in state RECEIVE or ACTIVE. -/
def keyUsable (s : State) (k : Nat) : Bool := keyState s k == 1 || keyState s k == 2

/-- The ordinary key that is ACTIVE, 0 if none. -/
def activeKey (s : State) : Nat := ((List.range 192).find? (fun k => keyState s k == 2)).getD 0

/-- R91: the limits of the key table hold with key `k` in state `st`. -/
def keyLimits (s : State) (k st : Nat) : Bool :=
  let l := (List.range 192).map (fun i => if i = k then st else keyState s i)
  decide ((l.filter (· != 0)).length ≤ 8 ∧ (l.filter (fun x => x == 1 || x == 2)).length ≤ 2 ∧
    (l.filter (· == 2)).length ≤ 1)

/-- Values of a key's counter reserved so far (R93). -/
def keyResv (s : State) (k : Nat) : Nat := tabGet 65536 s.mac.resv k

/-- Set the values reserved. -/
def keyResvSet (k n : Nat) (s : State) : State := { s with mac := { s.mac with resv := tabPut 65536 k n s.mac.resv } }

/-- R91: new material under an index: generation up, state RECEIVE, counter and sequence from 0, first block reserved,
in one commit. -/
def keyMaterial (k : Nat) (key : Bytes) (s : State) : State :=
  let s1 := objPut (0x04002500 + k) 0 (objPut (0x04002100 + k) 1
    (objPut (0x04002300 + k) ((obj s (0x04002300 + k) + 1) % 65536) (octPut (0x04002000 + k) key s)))
  commitOne (keyResvSet k 65536 { s1 with mac := { s1.mac with
    seqs := tabPut 0 k 0 s1.mac.seqs, block := s1.mac.block.filter (· != k) } })

/-- R91: a value for 04.0020.kk: 16 octets, the index EMPTY or RETIRED, within the key table's limits. -/
def keyMaterialSet (kk : Nat) (key : Bytes) : State → Nat × Bytes × State := fun s => checked
  [(decide (key.length = 16), stTYPE), (decide (1 ≤ kk ∧ kk ≤ 0xBF), stRANGE),
   (keyState s kk == 0 || keyState s kk == 3, stRANGE), (keyLimits s kk 1, stRANGE), (srOpen s, stUNREACHABLE), (!noPower s, stNOPOWER)]
  (fun s => (stDONE, [], keyMaterial kk key s)) s

/-- R91: a write of key material to 04.0020.kk. -/
def execKeyMaterialWrite (t : Nat) (via : Via) (kk : Nat) (key : Bytes) (s : State) : Host.Outcome State Fault Refusal :=
  let s := atTime t s
  .next (serve via (0x04002000 + kk % 256) (keyMaterialSet kk key) s)

/-- R91: a value for 04.0021.kk, within the key table's limits. -/
def keyStateTo (kk st : Nat) : State → Nat × Bytes × State := fun s => checked
  [(decide (1 ≤ kk ∧ kk ≤ 0xBF ∧ st ≤ 3), stRANGE), (keyLimits s kk st, stRANGE), (srOpen s, stUNREACHABLE), (!noPower s, stNOPOWER)]
  (fun s => (stDONE, [], commitOne (objPut (0x04002100 + kk) st s))) s

/-- R91: a write to 04.0021.kk. -/
def execKeyStateWrite (t : Nat) (via : Via) (kk st : Nat) (s : State) : Host.Outcome State Fault Refusal :=
  let s := atTime t s
  .next (serve via (0x04002100 + kk % 256) (keyStateTo kk st) s)

/-- Some slot is ARMED. -/
def anyArmed (s : State) : Bool := s.armed.any (fun e => e.2.state == 1)

/-- R92: a value for the armed-broadcast key: every slot starts its counter range again; refused while a slot is ARMED. -/
def armedKeySet (key : Bytes) : State → Nat × Bytes × State := fun s =>
  checked [(decide (key.length = 16), stTYPE), (!anyArmed s, stRANGE), (srOpen s, stUNREACHABLE), (!noPower s, stNOPOWER)]
    (fun s => (stDONE, [], commitOne ((List.range 64).foldl (fun s i => objPut (0x04002400 + i) (i * 2 ^ 26) s)
      (octPut 0x04002200 key s)))) s

/-- R92: the armed-broadcast key is written. -/
def execArmedKeyWrite (t : Nat) (via : Via) (key : Bytes) (s : State) : Host.Outcome State Fault Refusal :=
  let s := atTime t s
  .next (serve via 0x04002200 (armedKeySet key) s)

/-! ### Outgoing counters (R93, R94) -/

/-- A wing asks wing 0 for a counter (R93): the request is held 215 FCLK from its arrival. -/
def counterAsk (w p assertion k : Nat) (s : State) : State :=
  { s with mac := { s.mac with held := s.mac.held ++
      [{ wing := w, port := p, assert := assertion, key := k, ends := s.clk.now + writeTime w 0 s.clk.now + 215 }] } }

/-- The acknowledgement reserved on a port for an assertion cycle. -/
def ackAt (s : State) (pn on_ : Nat) : Option Span :=
  (portGet s pn).resv.find? (fun r => r.rank == 3 && r.on_ == on_)

/-- A reserved acknowledgement is not started. -/
def ackDrop (pn on_ : Nat) (s : State) : State :=
  let x := portGet s pn
  portSet pn { x with resv := x.resv.filter (fun r => !(r.rank == 3 && r.on_ == on_)) } s

/-- R93, R94: a frame is not started for want of a counter: NOCOUNTER counted, MAC_STAT.NOCTR set. -/
def noCounter (w : Nat) (s : State) : State := macFlag w 5 (count w (tallyMac 16) s)

/-- R94: no key is ACTIVE: MAC_STAT.NOCTR set, event 0x0409 with key index 0 at most once per second per wing. -/
def keyless (w : Nat) (s : State) : State := raiseOnce (4300 + w) 1000000000 w 0x0409 w 0 0 (macFlag w 5 s)

/-- R94: a send request or a secured beacon finds no key ACTIVE: NOCOUNTER counted. -/
def noKey (w : Nat) (s : State) : State := keyless w (count w (tallyMac 16) s)

/-- R93, R94, R120: the MAC's frame on a port gets no counter: a request completes with a status, a flood's repetition
starts again, a relay is dropped, a beacon is not sent. (DEDUCED, log 73) -/
def jobNoCounter (pn status : Nat) (s : State) : State :=
  match jobGet s pn with
  | none => s
  | some j =>
    if j.kind ≤ 1 then jobComplete pn status s
    else if j.kind = 2 then jobBegin pn j (count 0 (tallyTc 7) s)
    else if j.kind = 3 then jobDone pn (count 0 (tallyTc 4) s)
    else jobDone pn s

/-- R93: 1,000 FCLK before the TXEN assertion of an acknowledgement or an exchange its counter is requested. An
acknowledgement whose key is no longer RECEIVE or ACTIVE is not sent (R94). -/
def execCounterRequest (t w p assertion kk : Nat) (s : State) : Host.Outcome State Fault Refusal :=
  let s := atTime t s
  let pn := 2 * w + p
  if 2 ≤ p ∨ assertion ≠ s.clk.now + 1000 then .next s
  else if (ackAt s pn assertion).any (fun r => r.kind == kk && r.desc == 0) then
    if keyUsable s kk then .next (counterAsk w p assertion kk s) else .next (ackDrop pn assertion s)
  else match jobGet s pn with
    | some j =>
      if j.phase = 5 ∧ j.csl ∧ j.ctr.isNone ∧ j.start = assertion ∧ kk = activeKey s ∧
        !s.mac.held.any (fun r => r.wing == w && r.port == p && r.assert == assertion) then
        if kk = 0 then .next (jobNoCounter pn 7 (noKey w s)) else .next (counterAsk w p assertion kk s)
      else .next s
    | none => .next s

/-- R93: the order in which held requests get their values: assertion cycle, wing, port. -/
def ctrBefore (a b : CtrReq) : Bool :=
  decide (a.assert < b.assert) || (a.assert == b.assert && (decide (a.wing < b.wing) ||
    (a.wing == b.wing && decide (a.port ≤ b.port))))

/-- Insert a request in that order. -/
def ctrInsert (r : CtrReq) : List CtrReq → List CtrReq
  | [] => [r]
  | x :: xs => if ctrBefore r x then r :: x :: xs else x :: ctrInsert r xs

/-- The requests in that order. -/
def ctrSort : List CtrReq → List CtrReq
  | [] => []
  | r :: rs => ctrInsert r (ctrSort rs)

/-- R93: half of the current block is used: the next block is asked for. -/
def blockAsk (k : Nat) (s : State) : State :=
  if keyResv s k ≤ obj s (0x04002500 + k) + 32768 ∧ keyResv s k < 2 ^ 32 ∧ !s.mac.block.contains k then
    hwPost 0 2 0x0401 k { s with mac := { s.mac with block := s.mac.block ++ [k] } }
  else s

/-- R93: one request gets the next value of its key, or none: NOCOUNTER. -/
def counterGive (r : CtrReq) (s : State) : State :=
  let pn := 2 * r.wing + r.port
  let v := obj s (0x04002500 + r.key)
  if 0xFFFFFFFF ≤ v ∨ keyResv s r.key ≤ v then
    let s1 := noCounter r.wing s
    let s2 := if v < 0xFFFFFFFF then raise r.wing 0x0409 r.wing r.key 0 s1 else s1
    if (ackAt s pn r.assert).isSome then ackDrop pn r.assert s2 else jobNoCounter pn 4 s2
  else
    let s1 := blockAsk r.key (objPut (0x04002500 + r.key) (v + 1) s)
    let s2 := if v + 1 = 0xFFFFFFFF then raise 0 0x040A 0 r.key (obj s1 (0x04002300 + r.key)) s1 else s1
    let x := portGet s2 pn
    let s3 := portSet pn { x with resv := x.resv.map (fun y =>
      if y.rank = 3 ∧ y.on_ = r.assert then { y with desc := v + 1 } else y) } s2
    match jobGet s3 pn with
    | some j => if j.phase = 5 ∧ j.start = r.assert then jobSet pn (some { j with ctr := some v }) s3 else s3
    | none => s3

/-- R93: a request's hold ends: it and every held request with an earlier assertion get their values in order.
(DEDUCED, log 72) -/
def execCounterAssign (t : Nat) (s : State) : Host.Outcome State Fault Refusal :=
  let s := atTime t s
  let due := s.mac.held.filter (fun r => decide (r.ends ≤ s.clk.now))
  let p := fun (r : CtrReq) => due.any (fun d => ctrBefore r d)
  let s1 := { s with mac := { s.mac with held := s.mac.held.filter (fun r => !p r) } }
  .next ((ctrSort (s.mac.held.filter p)).foldl (fun s r => counterGive r s) s1)

/-- R93, R164: the next block of 65,536 values is reserved in MRAM by request kind 0x0401 from slot 2 of wing 0, in its turn;
answered NOPOWER, it is asked for again. -/
def execCounterBlockReserve (t kk : Nat) (s : State) : Host.Outcome State Fault Refusal :=
  let s := atTime t s
  let turn := s.sr.doors.head?.any (fun d => d.slot == 2 && d.kind == 0x0401 && decide (d.at_ ≤ s.clk.now)) &&
    leAt (reqSlot s 2).words 32 8 == kk
  if !turn then .next s
  else if noPower s then .next (hwPost 0 2 0x0401 kk (reqServed 0 0x0401 5 [] s))
  else
    .next (reqServed 0 0x0401 0 [] (commitOne (keyResvSet kk (keyResv s kk + 65536)
      { s with mac := { s.mac with block := s.mac.block.filter (· != kk) } })))

/-! ### The look-up at the owner wing (R96, R97) -/

/-- The extended address that a source stands for (R96). -/
def srcExt (s : State) : Addr → Option Nat
  | .ext a => some a
  | .short n => (candidateShort s n).map (fun p => obj s (0x04006000 + p))
  | .absent => none

/-- A frame type that never goes to Check-in (R97). -/
def noCheckin : FrameType → Bool
  | .beacon | .enhAck | .command => true
  | _ => false

/-- R96, R97: the source address is decoded: owner and home wing found, every other place returned; a home wing without
one marks the frame NOPLACE. -/
def laneLookup (w l : Nat) (src : Addr) (ft : FrameType) (s : State) : State :=
  let x := laneGet s w l
  let a := srcExt s src
  let owner := (a.map (ownerOf s)).getD w
  let dir := (a.map (dirOf s)).getD 0xFFFFFFFF
  let home := if dir = 0xFFFFFFFF then owner else dir % s.part.wings
  let keep := if noCheckin ft then 0 else x.places &&& 2 ^ home
  laneSet w l { x with src := src, ftype := ft, owner := owner, home := home, dir := dir, looked := true
                       places := keep, noplace := !noCheckin ft && keep == 0 }
    (returnPlaces (x.places - keep) s)

/-- R96: a look-up goes to the owner wing when the source address is decoded. -/
def execSourceAddressLookup (t w lane : Nat) (src : Addr) (ftype : FrameType) (s : State) :
    Host.Outcome State Fault Refusal :=
  let s := atTime t s
  let x := laneGet s w lane
  if x.st = 2 ∧ !x.looked then .next (laneLookup w lane src ftype s) else .next s

/-- A broadcast data frame whose payload begins with the flood dispatch (R101, R115). -/
def isFlood (f : MacFrame) : Bool :=
  f.ftype == .data && f.dst == .short 0xFFFF && f.payload.take 1 == [0xF1]

/-- The lane report of a frame (Table 3-10). -/
def laneReport (s : State) (w l : Nat) (x : Lane) : Bytes :=
  let p := x.phr.getD { modeSwitch := false, fcsShort := false, dw := false, coded := false, length := 0 }
  toLe 2 p.length ++ toLe 1 x.bin ++
  toLe 1 (x.port + 2 * b2n p.coded + 4 * b2n p.dw + 8 * b2n p.fcsShort + 16 * b2n x.noplace + 32 * (x.mode % 8)) ++
  toLe 2 (unsgn 16 x.rssi) ++ toLe 2 (unsgn 16 x.foff) ++ toLe 8 x.ends ++ toLe 4 (airTick s w x.ends) ++
  toLe 4 (airTick s w x.sfd) ++ toLe 1 l ++ toLe 7 0

/-- The receive record of a frame (Table 4-21). -/
def rxRecord (s : State) (w l : Nat) (x : Lane) (f : MacFrame) (kind : Nat) : Bytes :=
  padTo 2112 (laneReport s w l x ++ toLe 1 kind ++ toLe 1 0 ++ toLe 2 f.payloadOff ++ toLe 2 f.payload.length ++
    toLe 2 0 ++ toLe 8 (match f.src with
      | .ext a => a
      | _ => 0) ++ toLe 8 (ptimeAt s x.ends) ++ toLe 8 0 ++ f.psdu)

/-- A MAC payload as Check-in reads it under the push wPorts in force. -/
def apduNow (s : State) (b : Bytes) (o : Opened) : Apdu := apduOf (obj s 0x05002000) (obj s 0x05002100) b o

/-- The frame of a lane as Check-in takes it (R132). -/
def inFrameOf (s : State) (w : Nat) (x : Lane) (f : MacFrame) (l t0 verdict : Nat) : InFrame :=
  { dir := x.dir, pay := f.payload, opened := f.opened, apdu := apduNow s f.payload f.opened, t0 := t0, air := true, lane := l
    port := 2 * w + x.port, bin := x.bin, rssi := x.rssi, heard := ptimeAt s x.ends, desc := 0, bellOn := false
    unsec := !f.secured, verdict := verdict, mode := none, batch := none, waited := 0, a := 0, f := none, filled := false
    entry := [], wpInt := 0, wpVolt := 0, body := false, sigIn := none, nat := none, dirErr := false, judged := none
    lobby := rxRecord s w l x f 2, owner := x.owner }

/-- A frame that goes to Check-in of its home wing: data, with a directory index and a place. -/
def toCheckin (s : State) (w : Nat) (x : Lane) (f : MacFrame) : Bool :=
  f.ftype == .data && !isFlood f && x.dir != 0xFFFFFFFF && !x.noplace && regF s (macCfg w) 0 0 == 1

/-- R78, R136: the end of the last symbol: a bad FCS is counted and the lane's places returned; a good frame is handed
over 1,200 FCLK later, and one heard on its home wing is ready for Check-in now. (DESIGN CHOICE, log 58) -/
def execFrameEnd (t w lane : Nat) (fcsOk : Bool) (rssi foff : Int) (frame : MacFrame) (s : State) :
    Host.Outcome State Fault Refusal :=
  let s := atTime t s
  let x := laneGet s w lane
  if x.st ≠ 2 then .next s
  else if fcsOk then
    let s1 := if x.looked then s else laneLookup w lane frame.src frame.ftype s
    let e := placedAt s (2 * w + x.port) s.clk.now
    let y := { laneGet s1 w lane with st := 3, ends := e, rssi := rssi, foff := foff, frame := some frame
                                      freeAt := some (e + 1200) }
    let s2 := laneSet w lane y s1
    if toCheckin s2 w y frame ∧ y.home = w then .next (inputPush w (inFrameOf s2 w y frame lane e 0) s2)
    else .next s2
  else
    .next (airCount (2 * w + x.port) 6 (returnPlaces x.places
      (laneSet w lane { laneDefault with st := 3, port := x.port, bin := x.bin
                                         freeAt := some (s.clk.now + 1200) } s)))

/-! ### The checks (R98, R99) -/

/-- R90: the frame is addressed to the part: its destination PAN ID, present or implied, and its address are the part's or
broadcast; a beacon may carry no address. With no PAN configured only beacons and enhanced beacon requests are.
(DEDUCED, log 63) -/
def macAddressed (s : State) (w : Nat) (f : MacFrame) : Bool :=
  let pan := regF s (macCfg w) 63 48
  if pan = 0xFFFF then f.ftype == .beacon || (f.ftype == .command && f.ebRequest)
  else (f.dstPan == pan || f.dstPan == 0xFFFF) &&
    (f.dst == .ext (obj s 0x04000300) || f.dst == .short (regF s (macCfg w) 47 32) || f.dst == .short 0xFFFF ||
      (f.ftype == .beacon && f.dst == .absent))

/-- A short source address belongs to a parent candidate (R96). -/
def macSrcOk (s : State) (f : MacFrame) : Bool :=
  match f.src with
  | .short n => (candidateShort s n).isSome
  | _ => true

/-- Steps 1 to 8 of Table 4-2: the counter of the first that fails, 0 for an unsecured frame accepted, none to go on. -/
def macEarly (s : State) (w : Nat) (x : Lane) (f : MacFrame) : Option Nat :=
  if x.noplace || regF s (macCfg w) 0 0 == 0 then some 3
  else if f.version ≠ 2 ∨ f.ftype = .other ∨ f.seqSuppressed ∨ !f.complete then some 4
  else if !f.ieOk then some 5
  else if !macAddressed s w f || !macSrcOk s f then some 6
  else if !f.secured then
    if f.ftype = .beacon ∨ (f.ftype = .command ∧ f.ebRequest) ∨ (f.ftype = .data ∧ regF s (macCfg w) 1 1 = 1) then some 0
    else some 7
  else if f.level % 4 = 0 ∨ 7 < f.level ∨ f.keyMode ≠ 1 ∨ f.ctrSuppressed then some 8
  else if !keyUsable s f.keyIdx then some 9
  else if f.counter = 0xFFFFFFFF then some 10
  else none

/-- R99: a frame's slot of an entry: 0 A, 1 B, and whether it matches; else a slot whose key is no longer in use. -/
def slotOf (s : State) (x : Nbr) (k : Nat) : Nat × Bool :=
  let g := obj s (0x04002300 + k)
  let stale := fun k' g' => !keyUsable s k' || g' != obj s (0x04002300 + k')
  if x.keyA = k ∧ x.genA = g then (0, true)
  else if x.keyB = k ∧ x.genB = g then (1, true)
  else if stale x.keyA x.genA then (0, false)
  else if stale x.keyB x.genB then (1, false)
  else (1 - x.slot, false)

/-- R112: an accepted frame or Enh-Ack clears misses and ADRIFT; recovery raises event 0x0404. -/
def cslHeard (w k : Nat) (s : State) : State :=
  let x := nbrGet s k
  let s1 := nbrSet k { x with flags := setBits (setBits x.flags 10 8 0) 5 5 0 } s
  if bit x.flags 5 then raise w 0x0404 w x.addr (bits x.flags 10 8) s1 else s1

/-- R110: an observation of the drift in 1/1,024 ppm between two anchors; none where they lie too near or too far.
(DEDUCED, log 76) -/
def driftObs (span3 p3 : Nat) : Option (Int × Bool) :=
  if 180000000000 ≤ span3 ∧ span3 ≤ 259200000000000 ∧ p3 ≠ 0 then
    let m := (2 * span3 + p3) / (2 * p3)
    let e : Int := span3 - m * p3
    some (e * 1024000000 / (m * p3), decide (200 * (m * p3) < e.natAbs * 1000000))
  else none

/-- R110: the drift after an observation. -/
def driftNext (ok : Bool) (d o : Int) : Int := if ok then d + (o - d) / 4 else o

/-- R110: a frame with a CSL IE re-anchors the partner and updates its drift; one without ends the partnership. -/
def cslAnchor (w k mode : Nat) (f : MacFrame) (ends : Nat) (s : State) : State :=
  let x := nbrGet s k
  if f.hasCsl ∧ f.cslPeriod ≠ 0 then
    let a := ptimeAt s ends + f.cslPhase * tenSymbols3 mode / 3
    let y := nbrFlag 4 true { x with anchor := a, period := f.cslPeriod }
    let o := if x.period = f.cslPeriod ∧ x.anchor ≠ 0 then driftObs ((a - x.anchor) * 3) (f.cslPeriod * tenSymbols3 mode)
             else none
    match o with
    | none => nbrSet k y s
    | some (v, true) => raise w 0x040B w x.addr (unsgn 64 v) (nbrSet k y s)
    | some (v, false) => nbrSet k (nbrFlag 7 true { y with drift := driftNext (bit x.flags 7) x.drift v }) s
  else nbrSet k (nbrFlag 4 false { x with period := 0 }) s

/-- The receive mode bits of an entry's flags (Table 4-5). -/
def rxModeOf (x : Lane) : Nat := x.mode % 8 + 8 * b2n ((x.phr.map (·.coded)).getD false)

/-- R99 with an entry held: the outcome (0 ACCEPTED, 1 REPEAT, 2 COPY, 13 REPLAY) and what it changes.
(DEDUCED, log 60) -/
def macReplay (k w : Nat) (x : Lane) (f : MacFrame) (s : State) : Nat × State :=
  let n := nbrGet s k
  let sl := slotOf s n f.keyIdx
  let held := if sl.1 = 0 then n.ctrA else n.ctrB
  let heard := ptimeAt s x.ends
  let here := 2 * w + x.port
  if !sl.2 || laterW 32 f.counter held then
    let g := obj s (0x04002300 + f.keyIdx)
    let n1 := if sl.1 = 0 then { n with ctrA := f.counter, keyA := f.keyIdx, genA := g }
              else { n with ctrB := f.counter, keyB := f.keyIdx, genB := g }
    let n2 := { n1 with seq := f.seq, slot := sl.1, ends := x.ends, heard := heard, port := here, bin := x.bin
                        rssi := x.rssi, flags := setBits (setBits n.flags 6 6 0) 14 11 (rxModeOf x) }
    (0, cslAnchor (k / 8192) k x.mode f x.ends (cslHeard (k / 8192) k (nbrSet k n2 s)))
  else if f.counter = held ∧ f.seq = n.seq then
    if x.ends ≤ n.ends + 1000 ∧ n.ends ≤ x.ends + 1000 then
      (2, nbrSet k (if n.rssi < x.rssi then { n with heard := heard, port := here, bin := x.bin, rssi := x.rssi }
                    else { n with heard := heard }) s)
    else (1, nbrSet k (nbrFlag 6 false { n with ends := x.ends, heard := heard }) s)
  else (13, s)

/-- R105: NBR_FULL: MAC_STAT.NBRFULL on the owner wing, event 0x0401 at most once per second per wing. -/
def nbrFull (w a : Nat) (s : State) : State :=
  raiseOnce (4100 + w) 1000000000 w 0x0401 w w a (macFlag w 3 s)

/-- Steps 9 to 11 of Table 4-2 at the owner wing: the entry is made only for a frame whose MIC verifies (R105).
(DEDUCED, log 61) -/
def macOwner (a w : Nat) (x : Lane) (f : MacFrame) (s : State) : Nat × State :=
  let ow := ownerOf s a
  match nbrFind s ow a with
  | some k => if f.micOk then macReplay k w x f s else (12, s)
  | none =>
    match nbrRoom s ow with
    | none => (11, nbrFull ow a s)
    | some (_, v) =>
      if f.micOk ∨ v.any (fun y => (atGive s ow y.addr).isNone) then
        match nbrMake ow a s with
        | (some k, s1) => macReplay k w x f s1
        | (none, s1) => (11, nbrFull ow a s1)
      else (12, s)

/-- R480: the wing whose MAC judges a frame: for an Enh-Ack heard on the port whose frame awaits one, the wing whose request sent
that frame. -/
def judgeWing (s : State) (w : Nat) (x : Lane) (f : MacFrame) : Nat :=
  match jobGet s (2 * w + x.port) with
  | some j => if f.ftype = .enhAck ∧ j.phase = 3 then j.wing else w
  | none => w

/-- R98: the outcome of a lane's frame, by MAC counter, and the state after its commit. An Enh-Ack carries no source
address, so steps 9 and 11 do not apply to it (R480). (DEDUCED, log 62) -/
def macJudge (w : Nat) (x : Lane) (f : MacFrame) (s : State) : Nat × State :=
  match macEarly s (judgeWing s w x f) x f with
  | some o => (o, s)
  | none => match srcExt s f.src with
    | none => (if f.micOk then 0 else 12, s)
    | some a => macOwner a w x f s

/-- The commit of a lane's frame at its owner wing. -/
def laneCommit (w l : Nat) (s : State) : State :=
  let x := laneGet s w l
  match x.frame, x.outcome with
  | some f, none => let r := macJudge w x f s; laneSet w l { x with outcome := some r.1 } r.2
  | _, _ => s

/-- R96: the place of a lane's commit: by end cycle, then hearing wing, port and lane. -/
def commitKey (k : Nat) (x : Lane) : Nat := ((x.ends * 8 + k / 24) * 2 + x.port) * 24 + k % 24

/-- R96: the commits due in this FCLK, in their order, up to a lane's own. -/
def commitsUpTo (w l : Nat) (s : State) : State :=
  let own := commitKey (w * 24 + l) (laneGet s w l)
  let due := s.air.lanes.filter (fun e => e.2.st == 3 && e.2.frame.isSome && e.2.outcome.isNone && decide (e.2.ends + 700 ≤ s.clk.now ∧ commitKey e.1 e.2 ≤ own))
  (sortKey (fun e => commitKey e.1 e.2) due).foldl (fun s e => laneCommit (e.1 / 24) (e.1 % 24) s) s

/-- R96: 700 FCLK after the frame's end the owner wing applies its commit, behind those that come before it. -/
def execOwnerCommit (t w lane : Nat) (s : State) : Host.Outcome State Fault Refusal :=
  let s := atTime t s
  let x := laneGet s w lane
  if x.st = 3 ∧ x.ends + 700 ≤ s.clk.now then .next (commitsUpTo w lane s) else .next s

/-! ### The acknowledgement (R100, R102) -/

/-- The mode of an acknowledgement: that of its frame, coded and whitened as it was (R102). -/
def ackMode (s : State) (w : Nat) (x : Lane) : Nat :=
  let p := x.phr.getD { modeSwitch := false, fcsShort := false, dw := false, coded := false, length := 0 }
  let c := if regF s (airRxcfg w x.port) 32 32 = 0 then 1 else 2 + regF s (airRxcfg w x.port) 33 33
  x.mode % 8 + (if p.coded then 8 * c else 0) + (if p.dw then 32 else 0)

/-- Octets of an Enh-Ack (Table 4-4). -/
def ackLen (x : Lane) (f : MacFrame) : Nat :=
  2 + 1 + (match f.src with
    | .ext _ => 8
    | .short _ => 2
    | .absent => 0) + 6 + micLen f.level + (if (x.phr.map (·.fcsShort)).getD false then 2 else 4)

/-- Table 4-4: an Enh-Ack's MAC header up to the frame counter: frame control with frame pending where the owner entry has a send
request outstanding, sequence number, destination, security control. -/
def ackHeader (s : State) (k : Nat) (f : MacFrame) : Bytes :=
  let ext := match f.src with
    | .ext _ => true
    | _ => false
  toLe 2 (2 + 8 + 16 * b2n (bit (nbrGet s k).flags 2) + 64 + (if ext then 0xC00 else 0x800) + 0x2000) ++ toLe 1 f.seq ++
  (match f.src with
    | .ext a => toLe 8 a
    | .short n => toLe 2 n
    | .absent => []) ++ toLe 1 (f.level + 8)

/-- Table 4-4, R102: the octets of a reserved acknowledgement with its counter before its MIC and FCS. -/
def ackOctets (r : Span) : Bytes := r.hdr ++ toLe 4 (r.desc - 1) ++ toLe 1 r.kind

/-- The acknowledgement's span, its first symbol 1,000,000 FCLK after the frame's end (R79). -/
def ackSpan (s : State) (w : Nat) (x : Lane) (f : MacFrame) : Span :=
  let m := ackMode s w x
  spanAt s (2 * w + x.port) 3 f.seq 0 (x.ends + 1000000 - 35200) (airTime m (leastPreamble m) (ackLen x f)) x.bin false f.keyIdx

/-- R100: an acknowledgement is reserved. -/
def ackWanted (s : State) (w : Nat) (x : Lane) (f : MacFrame) (o : Nat) : Option Nat :=
  if s.power.fail.isNone ∧ f.secured ∧ f.dst ≠ .short 0xFFFF ∧ o ≤ 2 ∧ regF s (macAckmap w x.port) x.bin x.bin = 1 then
    match (srcExt s f.src).bind (fun a => nbrFind s (ownerOf s a) a) with
    | some k => if bit (nbrGet s k).flags 6 then none else some k
    | none => none
  else none

/-- R81: the reserved or running transmissions of rank 3 or 4 on a port, with a planned CSL exchange. -/
def rank34 (s : State) (pn : Nat) : List Span :=
  ((portGet s pn).cur.toList ++ (portGet s pn).resv ++ cslSpan s pn).filter (fun r => r.rank == 3 || r.rank == 4)

/-- R100, R81: the acknowledgement decided at the verdict: reserved, lost to another transmission, or withheld.
(DEDUCED, log 71) -/
def ackDecide (w : Nat) (x : Lane) (f : MacFrame) (o : Nat) (s : State) : State :=
  if !f.ar then s
  else match ackWanted s w x f o with
    | none => count w (tallyMac 15) s
    | some k =>
      let pn := 2 * w + x.port
      let sp := { ackSpan s w x f with hdr := ackHeader s k f }
      let s1 := count w (tallyMac 14) (nbrSet k (nbrFlag 6 true (nbrGet s k)) s)
      if (rank34 s pn).any (fun y => spansClash y sp) then airCount pn 14 s1
      else portSet pn { portGet s1 pn with resv := (portGet s1 pn).resv ++ [sp] } s1

/-! ### Rings (R122, R135) -/

/-- The ring at a CFG and PTR pair is full (R6). -/
def ringFull (s : State) (ptr n : Nat) : Bool :=
  (regF s ptr 31 0 + 4294967296 - regF s ptr 63 32) % 4294967296 == n

/-- Write a record at a ring's producer count and advance it. -/
def ringPut (cfg ptr n : Nat) (b : Bytes) (s : State) : State :=
  regPutF ptr 31 0 ((regF s ptr 31 0 + 1) % 4294967296)
    (dramWrite (regF s cfg 63 12 * 4096 + regF s ptr 31 0 % n * b.length) b s)

/-- R122: a record goes to a wing's receive ring, or is lost: RQ_FULL, the flag, event 0x0412. (DEDUCED, log 65) -/
def rxRing (w : Nat) (b : Bytes) (s : State) : State :=
  let n := 2 ^ ringLog2 (regF s (macRqCfg w) 4 0) 4 16 4
  if ringFull s (macRqPtr w) n then
    let s1 := macFlag w 6 (count w (tallyMac 22) s)
    raiseRate (4200 + w) 1000000000 w 0x0412 w w 1 s1
  else bell w 5 (ringPut (macRqCfg w) (macRqPtr w) n b s)

/-- R135: a Lobby refusal: LOBBYFULL, event 0x0504 at most once per second. -/
def lobbyRefuse (w k : Nat) (s : State) : State :=
  let s1 := ingFlag w 3 (count w (tallyIng k) s)
  raiseRate (5000 + w + 10 * (k - 24)) 1000000000 w 0x0504 w w 1 s1

/-- R135: a frame goes to a wing's Lobby: limited by the token bucket, then by the ring of 256. `tokens` counts what
the bucket lacks, in 10^-9 frame. (DEDUCED, log 81) -/
def lobby (w : Nat) (b : Bytes) (s : State) : State :=
  let x := ingGet s w
  let rate := obj s 0x05006000
  let lack := x.tokens - rate * (s.clk.now - x.tokAt)
  if rate * 1000000000 < lack + 1000000000 then lobbyRefuse w 25 (ingSet w { x with tokens := lack, tokAt := s.clk.now } s)
  else
    let s1 := ingSet w { x with tokens := lack + 1000000000, tokAt := s.clk.now } s
    if ringFull s1 (ingLobPtr w) 256 then lobbyRefuse w 24 s1
    else bell w 10 (count w (tallyIng 23) (ringPut (ingLobCfg w) (ingLobPtr w) 256 b s1))

/-! ### The verdict's destinations (R101, R118, R480) -/

/-- The beacon candidates' windows: half-width in ns after `n` misses (Table 4-10). -/
def halfWidth (s : State) (n : Nat) : Nat :=
  obj s 0x04006300 * 1000 + n * (max ((s.mac.drift.getD 0).natAbs) 5120 * obj s 0x04006200 / 1024)

/-- R113: the window around the `k`-th next beacon, in PTIME. (DEDUCED, log 75) -/
def parentWindow (s : State) : Option (Nat × Nat) :=
  let k := s.mac.misses + 1
  let p := s.mac.beacon + ((k * obj s 0x04006200 * 1000000 : Nat) : Int) * (1024000000 + s.mac.drift.getD 0) / 1024000000
  let h := halfWidth s s.mac.misses
  some (p.toNat - h, p.toNat + h)

/-- R113: a beacon of the parent counts: drift learned, misses cleared, the prediction anchored anew. -/
def beaconCounts (pn heard : Nat) (s : State) : State :=
  let o := if s.mac.beacon = 0 then none else driftObs ((heard - s.mac.beacon) * 3) (obj s 0x04006200 * 3000000)
  let d := match o with
    | some (v, false) => some (driftNext s.mac.drift.isSome (s.mac.drift.getD 0) v)
    | _ => s.mac.drift
  let s1 := match o with
    | some (v, true) => raise 0 0x040B 0 (obj s (0x04006000 + s.mac.parent)) (unsgn 64 v) s
    | _ => s
  let s2 := { s1 with mac := { s1.mac with drift := d, misses := 0, beacon := heard, bport := pn } }
  let old := s.mac.bport
  (if s.mac.window.isSome then jobKick old else id) { s2 with mac := { s2.mac with window := parentWindow s2 } }

/-- R113, R114: an accepted, secured beacon of a candidate: noted in a scan, counted for the parent. -/
def beaconHeard (a pn heard : Nat) (s : State) : State :=
  match candidateExt s a with
  | none => s
  | some p =>
    let s1 := { s with mac := { s.mac with
      heardAt := tabPut (0, 0) p (heard, pn) s.mac.heardAt
      heard := if s.mac.scan.isSome then s.mac.heard ||| 2 ^ p else s.mac.heard } }
    if s.mac.scan.isNone ∧ s.mac.parent = p then beaconCounts pn heard s1 else s1

/-- R480: an Enh-Ack that fits the frame awaiting it on the hearing port completes the attempt; the partner is heard. -/
def enhAckMatch (w : Nat) (x : Lane) (f : MacFrame) (s : State) : State :=
  let pn := 2 * w + x.port
  match jobGet s pn with
  | none => s
  | some j =>
    if j.phase = 3 ∧ f.seq = j.seq ∧ j.start ≤ x.sfd ∧ x.sfd ≤ j.winEnd ∧ f.secured then
      let s1 := exchangeDone j (cslHeard (j.nbr / 8192) j.nbr s)
      jobComplete pn 0 (if f.hasCsl ∧ f.cslPeriod ≠ 0 then cslAnchor (j.nbr / 8192) j.nbr x.mode f x.ends s1 else s1)
    else s

/-- A seen-cache entry has not expired (R117). -/
def seenLive (s : State) (e : Seen) : Bool :=
  laterW 64 (e.at_ + obj s 0x04009000 * 1000000000) (ptimeNs s)

/-- Seen-cache of a wing holds a flood (R117). -/
def isSeen (s : State) (w origin ident : Nat) : Bool :=
  (tabGet [] s.mac.seen w).any (fun e => e.origin == origin && e.ident == ident && seenLive s e)

/-- R115, R118 step 1: an accepted flood on its hearing wing: checked, looked up and passed to wing 0 as one REG-time
message. The flood keeps its receive record. A payload too short for the dispatch and the header counts FLOODFMT.
(DESIGN CHOICE, log 239) -/
def floodHeard (w l : Nat) (x : Lane) (f : MacFrame) (s : State) : State :=
  let h := f.payload.drop 1
  let flags := beAt h 7 1
  if f.payload.length < 9 ∨ 4 ≤ flags / 32 ∨ flags % 16 ≠ 0 then count w (tallyTc 2) s
  else
    let fl : Flood := { ident := beAt h 2 4, origin := beAt h 0 2, ttl := beAt h 6 1, flags := flags, mask := 0, mode := 0
                        bin := 0, reps := 0, gap := 0, data := rxRecord s w l x f 0, since := s.clk.now, nextRep := 0
                        sent := 0, left := 0 }
    let pass := fun (s : State) => { s with mac := { s.mac with
      accept := s.mac.accept ++ [(fl, w, s.clk.now + writeTime w 0 s.clk.now)] } }
    if w = 0 then { s with mac := { s.mac with accept := s.mac.accept ++ [(fl, w, s.clk.now)] } }
    else if isSeen s w fl.origin fl.ident then count w (tallyTc 1) s
    else pass (seenInsert w { origin := fl.origin, ident := fl.ident, at_ := ptimeNs s } s)

/-- A frame already in its home wing's Check-in learns the MAC's verdict (R136). (DEDUCED, log 64) -/
def inVerdict (w lane port ends v : Nat) (s : State) : State :=
  let g := fun (f : InFrame) => if f.air ∧ f.lane = lane ∧ f.port = port ∧ f.t0 = ends ∧ f.verdict = 0 then { f with verdict := v } else f
  let x := ingGet s w
  ingSet w { x with queue := x.queue.map g, pipe := x.pipe.map g } s

/-- FCLK to forward a frame to its home wing (R25, Table 1-10): lane report and payload in INGEST beats of 16 bytes.
(DESIGN CHOICE, log 59) -/
def forwardTime (s : State) (w home len : Nat) : Nat := messageTime .ingest (ceilDiv (32 + len) 16) (hops w home) s.clk.now

/-- R109: an enhanced beacon's job on a port and bin, in the bin's receive mode. -/
def beaconJob (s : State) (pn b : Nat) : Job :=
  let m := binMode s pn b % 8
  let lv := if obj s 0x04007300 = 1 then txLevel s (pn / 2) else 0
  let n := 2 + 1 + 2 + 8 + (if lv = 0 then 0 else 6) + (oct s 0x04007200).length + micLen lv + 4
  { kind := 4, wing := pn / 2, entry := 0, dst := 0, nbr := 0, payload := 0, len := 0, flags := 0, limit := 1, tries := 0
    nb := 0, be := 0, phase := 0, start := 0, unit := 1000000 + symbols m 8, bin := b, mode := m
    preamble := leastPreamble m, psdu := n, seq := tabGet 0 s.mac.seqs (activeKey s), ctr := none, level := lv
    firstAt := 0, winEnd := 0, csl := false, air := airTime m (leastPreamble m) n, flood := 0 }

/-- The sequence number of a key moves on (R93). -/
def seqNextOf (k : Nat) (s : State) : State :=
  { s with mac := { s.mac with seqs := tabPut 0 k ((tabGet 0 s.mac.seqs k + 1) % 256) s.mac.seqs } }

/-- R109, R94: an enhanced beacon on a bin: none on a bin not enabled; secured, it needs an ACTIVE key. -/
def sendBeacon (pn b : Nat) (s : State) : State :=
  if !bit (binMode s pn b) 3 ∨ binMode s pn b % 4 = 3 then s
  else if obj s 0x04007300 = 1 ∧ activeKey s = 0 then noKey (pn / 2) s
  else jobStart pn (beaconJob s pn b) (seqNextOf (activeKey s) s)

/-- R101: an ACCEPTED frame goes where Table 4-3 says; a place it does not need is returned. (DEDUCED, log 68) -/
def macRoute (w l : Nat) (x : Lane) (f : MacFrame) (s : State) : State :=
  let back := returnPlaces x.places
  match f.ftype with
  | .data =>
    if isFlood f then back (floodHeard w l x f s)
    else if x.dir = 0xFFFFFFFF then back (lobby x.owner (rxRecord s w l x f 2) s)
    else if x.home = w then inVerdict w l (2 * w + x.port) x.ends 1 s
    else inputPush x.home (inFrameOf s w x f l (s.clk.now + forwardTime s w x.home f.payload.length) 1) s
  | .beacon => back (match srcExt s f.src with
    | some a => if f.secured then beaconHeard a (2 * w + x.port) (ptimeAt s x.ends) s else s
    | none => s)
  | .enhAck => back (enhAckMatch w x f s)
  | .command => back (if f.ebRequest then sendBeacon (2 * w + x.port) x.bin s else rxRing w (rxRecord s w l x f 1) s)
  | .multipurpose => back s
  | .other => back s

/-- R78, R95: 1,200 FCLK after the frame's end it is delivered, counted by the port, and the verdict falls: counted, acknowledged or not, routed; the lane is free. -/
def execMacVerdict (t w lane : Nat) (s : State) : Host.Outcome State Fault Refusal :=
  let s := atTime t s
  let x := laneGet s w lane
  if x.st = 3 ∧ x.frame.isSome ∧ x.ends + 1200 ≤ s.clk.now then
    let s1 := commitsUpTo w lane s
    let y := laneGet s1 w lane
    match y.frame, y.outcome with
    | some f, some o =>
      let s2 := ackDecide w y f o (count w (tallyMac o) (airCount (2 * w + y.port) (if y.noplace then 9 else 0)
        (laneSet w lane laneDefault s1)))
      if o = 0 then .next (macRoute w lane y f s2)
      else .next (returnPlaces y.places (inVerdict y.home lane (2 * w + y.port) y.ends 2 s2))
    | _, _ => .next s1
  else .next s

/-! ### Neighbour table access (R121, R125) -/

/-- An entry as its 64 bytes (Table 4-5). -/
def nbrBytes (x : Nbr) : Bytes :=
  toLe 8 x.addr ++ toLe 2 x.short ++ toLe 2 x.flags ++ toLe 4 x.dir ++ toLe 4 x.ctrA ++ toLe 4 x.ctrB ++ toLe 1 x.keyA ++
  toLe 1 x.keyB ++ toLe 2 x.genA ++ toLe 2 x.genB ++ toLe 1 x.seq ++ toLe 1 x.slot ++ toLe 8 x.ends ++ toLe 8 x.heard ++
  toLe 8 x.anchor ++ toLe 2 x.period ++ toLe 1 x.port ++ toLe 1 x.bin ++ toLe 4 (unsgn 32 x.drift)

/-- MAC_NBR_CTL's request is taken: OP and INDEX written, GO clear again when it is done. -/
def nbrCtl (w op idx : Nat) (s : State) : State :=
  regPutF (macNbrCtl w) 63 63 0 (regPutF (macNbrCtl w) 58 56 op (regPutF (macNbrCtl w) 12 0 idx s))

/-- The block and index of MAC_NBR_CTL exist. -/
def nbrIn (s : State) (w idx : Nat) : Bool := decide (w < s.part.wings ∧ idx < 8192)

/-- Table 4-16: READ, or an OP that acts as READ, snapshots an entry into MAC_NBR_DATA0 to 7. -/
def nbrRead (w op idx : Nat) (s : State) : State :=
  let b := nbrBytes (nbrGet s (w * 8192 + idx))
  (List.range 8).foldl (fun s j => regSet (macNbrData w j) (BitVec.ofNat 64 (leAt b (8 * j) 8)) s) (nbrCtl w op idx s)

/-- R121, Table 4-16: READ snapshots an entry into MAC_NBR_DATA0 to 7. -/
def execNbrRead (t w idx : Nat) (s : State) : Host.Outcome State Fault Refusal :=
  let s := atTime t s
  if nbrIn s w idx then .next (nbrRead w 0 idx s) else .next s

/-- Set or clear PINSW of a valid entry; one that is not valid is left. (DESIGN CHOICE, log 240) -/
def pinSw (k : Nat) (v : Bool) (s : State) : State :=
  let x := nbrGet s k
  if bit x.flags 0 then nbrSet k (nbrFlag 1 v x) s else s

/-- R121, Table 4-16: PIN sets PINSW. -/
def execNbrPin (t w idx : Nat) (s : State) : Host.Outcome State Fault Refusal :=
  let s := atTime t s
  if nbrIn s w idx then .next (pinSw (w * 8192 + idx) true (nbrCtl w 1 idx s)) else .next s

/-- R121, Table 4-16: UNPIN clears PINSW. -/
def execNbrUnpin (t w idx : Nat) (s : State) : Host.Outcome State Fault Refusal :=
  let s := atTime t s
  if nbrIn s w idx then .next (pinSw (w * 8192 + idx) false (nbrCtl w 2 idx s)) else .next s

/-- The entry of an address on its owner wing. -/
def nbrByAddr (s : State) (a : Nat) : Option Nat := nbrFind s (ownerOf s a) a

/-- R125: 04.0110.00 answers the entry, or NONEIGHBOUR. -/
def execLookUpEntryByAddress (t : Nat) (via : Via) (addr : Nat) (s : State) : Host.Outcome State Fault Refusal :=
  let s := atTime t s
  .next (serve via 0x04011000 (fun s => match nbrByAddr s addr with
    | some k => (stDONE, nbrBytes (nbrGet s k), s)
    | none => (stNONEIGHBOUR, [], s)) s)

/-- R125: 04.0111.00 pins an entry by address. -/
def execPinEntryByAddress (t : Nat) (via : Via) (addr : Nat) (s : State) : Host.Outcome State Fault Refusal :=
  let s := atTime t s
  .next (serve via 0x04011100 (fun s => match nbrByAddr s addr with
    | some k => (stDONE, [], pinSw k true s)
    | none => (stNONEIGHBOUR, [], s)) s)

/-- R125: 04.0112.00 unpins an entry by address. -/
def execUnpinEntryByAddress (t : Nat) (via : Via) (addr : Nat) (s : State) : Host.Outcome State Fault Refusal :=
  let s := atTime t s
  .next (serve via 0x04011200 (fun s => match nbrByAddr s addr with
    | some k => (stDONE, [], pinSw k false s)
    | none => (stNONEIGHBOUR, [], s)) s)

end Sys2Proof.Machine
end

