-- ==== Sys2Proof/Machine/Nand.lean ====
section
/-! DEFINITION. The NAND below the Profile Store (R272 to R281): geometry, blocks and streams, the free pool, program
units and the order in which operations start. -/

namespace Sys2Proof.Machine

/-- A Profile Store that has never started. -/
def storeDefault : Store :=
  { good := 0, image := 0, taken := 0, lastT := 0, intake := [], intakeAt := 0, late := [], lateAt := 0, lateQ := []
    reading := false, blocks := [], pageSeq := 0, flip := [], ops := [], tasks := [], nextTask := 1, chFree := []
    dirs := [], sigmas := [], sealQ := [], sealing := none, patches := [], mergeDue := false, jnum := 0, gen := 0, ckptAt := 0
    clean := false, wearAt := 0, bakeAt := 0, expAt := 0, dayLate := 0, temp := 0
    feats := [] }

/-- A wing's Profile Store. -/
def storeGet (s : State) (w : Nat) : Store := tabGet storeDefault s.store w

/-- Replace a wing's Profile Store. -/
def storeSet (w : Nat) (x : Store) (s : State) : State := { s with store := tabPut storeDefault w x s.store }

/-- Change a wing's Profile Store. -/
def storeMod (w : Nat) (f : Store → Store) (s : State) : State := storeSet w (f (storeGet s w)) s

/-- A block erased and never used. -/
def blockDefault : NandBlock :=
  { st := 0, stream := 0, slc := false, day := 0, erases := 0, bake := 0, bakeCk := 0, openAt := 0, closeAt := 0, openT := 0
    closeT := 0, pages := [], weak := false }

/-- A block of a wing's store. -/
def blockGet (x : Store) (b : Nat) : NandBlock := tabGet blockDefault x.blocks b

/-- Replace a block. -/
def blockSet (b : Nat) (k : NandBlock) (x : Store) : Store := { x with blocks := tabPut blockDefault b k x.blocks }

/-- NFC_STAT.STATE (Table 10-17). -/
def storeState (s : State) (w : Nat) : Nat := regF s (nfcStat w) 18 16

/-- NFC_STAT.STATE changes. -/
def storeStateSet (w v : Nat) (s : State) : State := regPutF (nfcStat w) 18 16 v s

/-- An NFC_STAT flag with its Bell Board source. -/
def nfcFlag (w b : Nat) (s : State) : State := stat w (nfcStat w) b 13 s

/-- A level of NFC_STAT. -/
def nfcLevel (w b : Nat) (v : Bool) (s : State) : State := regPutF (nfcStat w) b b (b2n v) s

/-! ### Geometry (R272 to R275, R281) -/

/-- No target. -/
def noTarget : NandTarget :=
  { onfi := false, page := 0, spare := 0, planes := 0, pages := 0, blocks := 0, luns := 0, tlc := false, bad := [] }

/-- The target at a chip enable. -/
def targetAt (s : State) (w ch t : Nat) : NandTarget := tabGet noTarget s.nand ((w * 2 + ch) * 8 + t)

/-- A target meets Table 10-1. -/
def targetOk (x : NandTarget) : Bool :=
  x.onfi && x.page == 16384 && decide (2048 ≤ x.spare) && (x.planes == 1 || x.planes == 2 || x.planes == 4) &&
  decide (384 ≤ x.pages ∧ x.pages ≤ 3072 ∧ 256 ≤ x.blocks ∧ x.blocks ≤ 16384 ∧ 1 ≤ x.luns ∧ x.luns ≤ 4) &&
  (!x.tlc || x.pages % 3 == 0)

/-- Two targets report one geometry. -/
def sameGeometry (a b : NandTarget) : Bool :=
  a.planes == b.planes && a.pages == b.pages && a.blocks == b.blocks && a.luns == b.luns && a.tlc == b.tlc

/-- The targets a wing uses: channel and number, in ascending order (NFC_CHj_CFG.FOUND). -/
def targetsOf (s : State) (w : Nat) : List (Nat × Nat) :=
  [0, 1].flatMap (fun ch => ((List.range 8).filter (fun t => bit (regF s (nfcChCfg w ch) 23 16) t)).map (fun t => (ch, t)))

/-- R273: good blocks of a target. -/
def goodOf (x : NandTarget) : Nat := x.luns * x.blocks - x.bad.length

/-- R273: a block's native page count. (DEDUCED, log 158) -/
def nativePages (s : State) (w : Nat) : Nat := regF s (nfcGeom w) 11 8 * regF s (nfcGeom w) 31 20

/-- R274: pages of a block in its mode. -/
def blockPages (s : State) (w : Nat) (slc : Bool) : Nat := if slc then nativePages s w / 3 else nativePages s w

/-- R281: summary pages of a block of `p` pages. -/
def summaryPages (p : Nat) : Nat := ceilDiv (64 + 16 * p) 16384

/-- R281: data pages of a block in its mode. -/
def dataPages (s : State) (w : Nat) (slc : Bool) : Nat := blockPages s w slc - summaryPages (blockPages s w slc)

/-- Table 10-2: pages of a program unit. -/
def unitPages (s : State) (w : Nat) (slc : Bool) : Nat :=
  if regF s (nfcGeom w) 0 0 = 1 ∧ !slc then 3 * regF s (nfcGeom w) 11 8 else regF s (nfcGeom w) 11 8

/-- R273: good blocks of the targets of a list. -/
def goodSum (s : State) (w : Nat) (l : List (Nat × Nat)) : Nat := (l.map (fun c => goodOf (targetAt s w c.1 c.2))).sum

/-- The good blocks a wing's store takes: at most 65,536 and at most 4 TiB / N of data (R273). -/
def goodBlocks (s : State) (w : Nat) : Nat :=
  min (min 65536 (4398046511104 / s.part.wings / max 1 (nativePages s w * 16384))) (goodSum s w (targetsOf s w))

/-- The numbers of a channel's blocks: from the first up to, not including, the second. -/
def chanRange (s : State) (w ch : Nat) : Nat × Nat :=
  let g := (storeGet s w).good
  let n0 := min g (goodSum s w ((targetsOf s w).filter (fun c => c.1 == 0)))
  if ch = 0 then (0, n0) else (n0, g)

/-- The channel of a block. -/
def chanOf (s : State) (w b : Nat) : Nat := if b < (chanRange s w 0).2 then 0 else 1

/-- The target that holds good block `b`, walking the targets in order. -/
def targetOfBlock (s : State) (w : Nat) : List (Nat × Nat) → Nat → Nat × Nat
  | [], _ => (0, 0)
  | c :: cs, b => if b < goodOf (targetAt s w c.1 c.2) then c else targetOfBlock s w cs (b - goodOf (targetAt s w c.1 c.2))

/-- The channels on which a wing has blocks. -/
def chansOf (s : State) (w : Nat) : List Nat :=
  [0, 1].filter (fun ch => decide ((chanRange s w ch).1 < (chanRange s w ch).2))

/-- R277: the fewest SLC blocks that give 512 MiB, on wing 0. (DESIGN CHOICE, log 142) -/
def imageBlocks (s : State) (w : Nat) : Nat :=
  if w = 0 then ceilDiv 536870912 (max 1 (dataPages s w (obj s 0x0A002100 == 1) * 16384)) else 0

/-- IMAGE blocks of a channel: half of them on each, or all on the only one. -/
def imageShare (s : State) (w ch : Nat) : Nat :=
  let n := (storeGet s w).image
  if (chansOf s w).length = 2 then (if ch = 0 then (n + 1) / 2 else n / 2) else n

/-- IMAGE blocks are the highest of each channel (DESIGN CHOICE: the spec names none). -/
def isImage (s : State) (w b : Nat) : Bool :=
  decide ((chanRange s w (chanOf s w b)).2 ≤ b + imageShare s w (chanOf s w b))

/-- The block of the `i`-th run of IMAGE pages: the channels in turn, from the highest block down. -/
def imageBlock (s : State) (w i : Nat) : Nat :=
  if (chansOf s w).length = 2 then (chanRange s w (i % 2)).2 - 1 - i / 2
  else (chanRange s w ((chansOf s w).headD 0)).2 - 1 - i

/-- R276: T_x of a channel. -/
def pageTransfer (s : State) (w ch : Nat) : Nat :=
  let v := regF s (nfcChCfg w ch) 4 0
  ceilDiv 18432000 (100 * (if 4 ≤ v ∧ v ≤ 16 then v else 4)) + 160

/-! ### The free pool (R278, R279) -/

/-- The free pool: erased good blocks outside IMAGE. -/
def freePool (s : State) (w : Nat) : Nat :=
  let x := storeGet s w
  x.good - x.image - (x.blocks.filter (fun e => e.2.st != 0 && !isImage s w e.1)).length

/-- R279: the spare reserve. -/
def spareReserve (s : State) (w : Nat) : Nat := max 4 (ceilDiv (obj s 0x0A001200 * (storeGet s w).good) 100)

/-- NFC_STAT.FREE follows the free pool. -/
def freeSync (w : Nat) (s : State) : State := regPutF (nfcStat w) 47 32 (min 65535 (freePool s w)) s

/-- The free blocks of a channel that have been erased, and its lowest block never used. -/
def freeOn (s : State) (w ch : Nat) : List (Nat × Nat) :=
  let x := storeGet s w
  let r := chanRange s w ch
  let used := (x.blocks.filter (fun e => e.2.st == 0 && decide (r.1 ≤ e.1 ∧ e.1 < r.2) && !isImage s w e.1)).map
    (fun e => (e.1, e.2.erases))
  let fresh := tabGap r.1 x.blocks
  if fresh < r.2 ∧ !isImage s w fresh then (fresh, 0) :: used else used

/-- The best block of a list: lowest (or highest) erase count, ties to the lower number. -/
def pickBlock (high : Bool) : List (Nat × Nat) → Option (Nat × Nat)
  | [] => none
  | c :: cs => match pickBlock high cs with
    | none => some c
    | some d =>
      let better := if high then decide (d.2 < c.2) else decide (c.2 < d.2)
      if better || (c.2 == d.2 && decide (c.1 < d.1)) then some c else some d

/-- R279: an ordinary write: INTAKE, LATE, a day stream or a directory sweep, and no relocation nor the end of a full block. -/
def isOrdinary (o : NandOp) : Bool :=
  !o.reloc && o.pages.any (fun p => p.typ == 0) && (o.stream == 2 || o.stream == 3 || decide (0x8000 ≤ o.stream) ||
    (o.stream == 1 && o.pages.any (fun p => p.logical / 2 ^ 56 == 2)))

/-- The free blocks of a channel. -/
def freeChan (s : State) (w ch : Nat) : Nat :=
  let r := chanRange s w ch
  r.2 - r.1 - imageShare s w ch -
    ((storeGet s w).blocks.filter (fun e => e.2.st != 0 && decide (r.1 ≤ e.1 ∧ e.1 < r.2) && !isImage s w e.1)).length

/-- R279: a write of this kind may take a free block of the channel. -/
def mayTake (s : State) (w ch : Nat) (o : NandOp) : Bool :=
  if isOrdinary o then decide (spareReserve s w < freePool s w) else decide (2 < freeChan s w ch)

/-- R278: the block a stream takes on a channel. -/
def takeBlock (s : State) (w ch : Nat) (o : NandOp) : Option Nat :=
  if mayTake s w ch o then (pickBlock (decide (0x8000 ≤ o.stream)) (freeOn s w ch)).map (·.1) else none

/-- The open block of a stream on a channel. -/
def openBlock (s : State) (w ch stream : Nat) : Option Nat :=
  let r := chanRange s w ch
  ((storeGet s w).blocks.find? (fun e => e.2.st == 1 && e.2.stream == stream && decide (r.1 ≤ e.1 ∧ e.1 < r.2))).map (·.1)

/-- Pages of a block programmed or on their way. -/
def blockUsed (x : Store) (b : Nat) : Nat :=
  (blockGet x b).pages.length + ((x.ops.filter (fun o => o.kind == 0 && o.blk == some b)).map (fun o => o.pages.length)).sum

/-! ### Operations (R276) -/

/-- Rank among operations ready in one FCLK (R276). -/
def opRank (o : NandOp) : Nat :=
  if o.reloc then 0 else if o.stream ≤ 3 then o.stream + 1 else if o.stream = 4 then 6 else 5

/-- An operation put behind those ready before it, and among those of its FCLK by rank. -/
def opInsert (o : NandOp) : List NandOp → List NandOp
  | [] => [o]
  | x :: xs => if x.ready = o.ready ∧ opRank o < opRank x then o :: x :: xs else x :: opInsert o xs

/-- A program not yet placed. -/
def programOp (s : State) (stream day : Nat) (pages : List NandPage) (entries : List StoreEntry) (task : Nat) : NandOp :=
  { kind := 0, stream := stream, day := day, reloc := false, chan := none, blk := none, page := 0, pages := pages
    entries := entries, src := [], task := task, ready := s.clk.now, start := none, tries := 0 }

/-- An operation queued. -/
def opQueue (w : Nat) (o : NandOp) (s : State) : State := storeMod w (fun x => { x with ops := opInsert o x.ops }) s

/-- A page not yet programmed (its sequence is given as it is programmed). (DESIGN CHOICE, log 156) -/
def newPage (logical typ count : Nat) (data : Bytes) : NandPage :=
  { logical := logical, seq := 0, typ := typ, count := count, data := data, valid := typ == 0, lost := false }

/-- Pages filled up with pad pages to whole program units (R278). (DEDUCED, log 147) -/
def padPages (u : Nat) (l : List NandPage) : List NandPage :=
  l ++ List.replicate ((u - l.length % u) % u) (newPage 0 2 0 [])

/-- Cut a list of pages into program units. -/
def unitsOf (u : Nat) : Nat → List NandPage → List (List NandPage)
  | 0, _ => []
  | f + 1, l => if l.isEmpty then [] else l.take (max 1 u) :: unitsOf u f (l.drop (max 1 u))

/-- R277: MAP and JOURNAL pages, queued once for each channel. -/
def writeTwice (w stream task : Nat) (pages : List NandPage) (s : State) : State :=
  let slc := obj s 0x0A002100 == 1
  let u := unitPages s w slc
  (chansOf s w).foldl (fun s ch =>
    (unitsOf u (pages.length + 1) (padPages (max 1 u) pages)).foldl (fun s l =>
      opQueue w { programOp s stream 0 l [] task with chan := some ch } s) s) s

/-- A journal record: its number, its kind and three numbers, written to the JOURNAL stream. Kinds 1 SEAL_START,
2 SEAL_DONE, 3 MERGE. (DESIGN CHOICE, log 146) -/
def journalRec (w kind a b c : Nat) (s : State) : State :=
  let n := (storeGet s w).jnum + 1
  writeTwice w 1 0 [newPage (2 ^ 56 + n) 0 1 (toLe 8 kind ++ toLe 8 a ++ toLe 8 b ++ toLe 8 c)]
    (storeMod w (fun x => { x with jnum := n }) s)

/-- Bytes written as pages of 16,384, with logical addresses rising from `base`. -/
def bytePages (base : Nat) (data : Bytes) : List NandPage :=
  (List.range (ceilDiv data.length 16384)).map (fun i => newPage (base + i) 0 1 (slice data (16384 * i) 16384))

/-- R152, R249: a sweep (kind 2) or assignment list (kind 3) written to the JOURNAL stream; older ones of its kind are
superseded. A read-only store starts none (R298). -/
def journalList (w kind number : Nat) (data : Bytes) (s : State) : State :=
  if storeState s w = 4 ∨ (kind = 3 ∧ storeState s w = 5) then
    let s1 := storeMod w (fun x => { x with blocks := x.blocks.map (fun e => (e.1, { e.2 with
      pages := e.2.pages.map (fun p => if e.2.stream = 1 ∧ p.logical / 2 ^ 56 = kind then { p with valid := false } else p) })) }) s
    writeTwice w 1 0 (bytePages (kind * 2 ^ 56 + number * 65536) data) s1
  else s

/-- The channel a program unit goes to: its own, or the one after the stream's last (R278). -/
def opChan (s : State) (w : Nat) (o : NandOp) : Nat :=
  match o.chan with
  | some c => c
  | none =>
    let next := 1 - tabGet 0 (storeGet s w).flip o.stream
    if (chansOf s w).contains next then next else 1 - next

/-- R281: the summary that closes a block: block number, stream, counts, times, bake hours, then a line per page. -/
def blockSummary (b : Nat) (k : NandBlock) (pages : List NandPage) (m : Nat) : Bytes :=
  toLe 4 b ++ toLe 2 k.stream ++ toLe 2 m ++ toLe 4 pages.length ++ toLe 4 k.erases ++ toLe 8 k.openAt ++
  toLe 8 k.closeAt ++ toLe 2 (unsgn 16 k.openT) ++ toLe 2 (unsgn 16 k.closeT) ++ toLe 4 (k.bake * 100 / 2 ^ 32) ++ toLe 8 ((pages.head?.map (·.seq)).getD 0) ++
  List.replicate 16 0 ++
  pages.flatMap (fun p => toLe 8 p.logical ++ toLe 4 (p.seq - (pages.head?.map (·.seq)).getD 0) ++ toLe 1 p.typ ++ [0] ++
    toLe 2 p.count)

/-- R278, R281: a block is filled with pad pages and its summary, and closed. -/
def blockFill (w b : Nat) (s : State) : State :=
  let x := storeGet s w
  let k := blockGet x b
  let left := dataPages s w k.slc - blockUsed x b
  let m := summaryPages (blockPages s w k.slc)
  let o := programOp s k.stream k.day (List.replicate left (newPage 0 2 0 []) ++ List.replicate m (newPage 0 1 0 [])) [] 0
  opQueue w { o with blk := some b, chan := some (chanOf s w b) }
    (storeSet w (blockSet b { k with st := 2, closeAt := ptimeNs s, closeT := x.temp, bakeCk := k.bake } x) s)

/-- R278: a block whose next unit no longer fits is filled and closed. -/
def closeFull (w b : Nat) (s : State) : State :=
  let x := storeGet s w
  let k := blockGet x b
  let left := dataPages s w k.slc - blockUsed x b
  if k.st = 1 ∧ left < (if k.stream = 4 then 1 else max 1 (unitPages s w k.slc)) then blockFill w b s else s

/-- A program is given its block: the stream's open block on its channel, or a new one (R278, R279). -/
def placeOp (w : Nat) (o : NandOp) (s : State) : Option (Nat × State) :=
  let ch := opChan s w o
  match openBlock s w ch o.stream with
  | some b => some (b, storeMod w (fun x => { x with flip := tabPut 0 o.stream ch x.flip }) s)
  | none => match takeBlock s w ch o with
    | none => none
    | some b => some (b, storeMod w (fun x => blockSet b { blockGet x b with st := 1, stream := o.stream, day := o.day, slc := (decide (o.stream ≤ 4) && obj s 0x0A002100 == 1), openAt := ptimeNs s, openT := x.temp, pages := [], weak := false, bake := 0, bakeCk := 0 } { x with flip := tabPut 0 o.stream ch x.flip }) s)

/-- R411: a chunk's pages go to the block of their place in IMAGE, which an erase under way holds back, unless R295 has
moved the block's pages to another. -/
def placeImage (w : Nat) (o : NandOp) (s : State) : Option (Nat × State) :=
  let b := imageBlock s w (o.page / max 1 (dataPages s w (obj s 0x0A002100 == 1)))
  let k := blockGet (storeGet s w) b
  if k.st = 4 then none
  else if k.st = 3 then placeOp w o s
  else if k.st = 0 then some (b, storeMod w (fun x => blockSet b { k with st := 1, stream := 4, day := 0, slc := obj s 0x0A002100 == 1, openAt := ptimeNs s, openT := x.temp, pages := [], weak := false, bake := 0, bakeCk := 0 } x) s)
  else some (b, s)

/-- The target an operation runs on. -/
def opTarget (s : State) (w b : Nat) : Nat × Nat := targetOfBlock s w (targetsOf s w) b

/-- The place of good block `b` among those of its target. -/
def blockIndex (s : State) (w : Nat) : List (Nat × Nat) → Nat → Nat
  | [], b => b
  | c :: cs, b => if b < goodOf (targetAt s w c.1 c.2) then b else blockIndex s w cs (b - goodOf (targetAt s w c.1 c.2))

/-- The LUN of the `i`-th good block of a target, from LUN `l` on. -/
def lunFrom (x : NandTarget) : Nat → Nat → Nat → Nat
  | 0, l, _ => l
  | f + 1, l, i =>
    let n := x.blocks - (x.bad.filter (fun b => b / 65536 == l)).length
    if i < n then l else lunFrom x f (l + 1) (i - n)

/-- The LUN a block lies on, in the numbering of `Store.feats`. -/
def lunOf (s : State) (w b : Nat) : Nat :=
  let t := opTarget s w b
  (t.1 * 8 + t.2) * 4 + lunFrom (targetAt s w t.1 t.2) 4 0 (blockIndex s w (targetsOf s w) b)

/-- R294, 1: the read band of a block: of the bands whose lower bound is not above its hours, that with the largest, the first
of equals. (DEDUCED, log 265) -/
def bandOf (s : State) (h : Nat) : Nat :=
  ((List.range 8).map (fun j => obj s (0x0A004400 + j))).foldl (fun b v =>
    match b with
    | none => if bits v 63 40 ≤ h then some v else none
    | some y => if bits v 63 40 ≤ h ∧ bits y 63 40 < bits v 63 40 then some v else some y) none |>.getD 0

/-- R274, R294: SET FEATURES of a word's feature address and parameters on a block's LUN. -/
def featSet (w b v : Nat) (s : State) : State :=
  storeMod w (fun x => { x with feats := tabPut 0 (lunOf s w b) (v % 2 ^ 40) x.feats }) s

/-- A target has an operation running (R276). -/
def targetBusy (s : State) (w : Nat) (t : Nat × Nat) : Bool :=
  (storeGet s w).ops.any (fun o => o.start.isSome && (match o.blk with
    | some b => opTarget s w b == t
    | none => false))

/-- FCLK an operation holds its channel from its start. (DEDUCED, log 141) -/
def opHold (s : State) (w : Nat) (o : NandOp) (ch : Nat) : Nat :=
  if o.kind = 0 then 400 + o.pages.length * pageTransfer s w ch else 400

/-- The least time an operation takes: what Table 10-2 gives without the device's busy time. -/
def opLeast (s : State) (w : Nat) (o : NandOp) (ch : Nat) : Nat :=
  if o.kind = 0 then 520 + o.pages.length * pageTransfer s w ch
  else if o.kind = 1 then (if o.tries = 0 then 400 else 1000) + pageTransfer s w ch + 2000
  else 520

/-- Replace the `n`-th operation. -/
def opSet (w n : Nat) (o : NandOp) (s : State) : State := storeMod w (fun x => { x with ops := x.ops.set n o }) s

/-- The `n`-th operation starts if it has its block and its target is free, at the first FCLK at which its channel is
free too; a read sets its block's thresholds first (R294). A read-only store starts no ordinary write (R298). -/
def opStart (w n : Nat) (s : State) : State :=
  match (storeGet s w).ops[n]? with
  | none => s
  | some o =>
    if o.start.isSome ∨ (storeState s w = 5 ∧ isOrdinary o) then s
    else
      let p := match o.blk with
        | some b => some (b, s)
        | none => if o.kind ≠ 0 then none else if o.stream = 4 ∧ !o.reloc then placeImage w o s else placeOp w o s
      match p with
      | none => s
      | some (b, s1) =>
        let ch := chanOf s1 w b
        let at_ := max s1.clk.now (tabGet 0 (storeGet s1 w).chFree ch)
        let s2 := if targetBusy s1 w (opTarget s1 w b) then opSet w n { o with blk := some b } s1
          else storeMod w (fun x => { x with chFree := tabPut 0 ch (at_ + opHold s1 w o ch) x.chFree })
            (opSet w n { o with blk := some b, start := some at_ }
              (if o.kind = 1 then featSet w b (bandOf s1 ((blockGet (storeGet s1 w) b).bake / 2 ^ 32)) s1 else s1))
        if o.kind = 0 then closeFull w b s2 else s2

/-- Every operation that can start starts, in order (R276); none does under R301 or R381. -/
def opsStart (w : Nat) (s : State) : State :=
  if noNewOps s then s
  else freeSync w ((List.range ((storeGet s w).ops.length + 2)).foldl (fun s n => opStart w n s) s)

end Sys2Proof.Machine
end

