-- ==== Sys2Proof/Machine/Checkin.lean ====
section
/-! DEFINITION. Check-in (chapter 5): the directory and its operations, admission, the Guest Book, the checks, the
staged record, and session migration (R338, R339). -/

namespace Sys2Proof.Machine

/-! ### Capacity and the directory (R126 to R129) -/

/-- A wing's fitted DRAM rounded down to a power of two. -/
def dramPow (s : State) (w : Nat) : Nat := if dramSize s w = 0 then 0 else 2 ^ Nat.log2 (dramSize s w)

/-- R126: a wing's directory capacity C. -/
def capacity (s : State) (w : Nat) : Nat :=
  let d := dramPow s w
  if d < 4294967296 then 0 else min ((d - 3221225472) / 20480) (1048576 / s.part.wings)

/-- An index is admissible (R126). (DEDUCED, log 91) -/
def admissible (s : State) (i : Nat) : Bool :=
  decide (i < 1048576 ∧ i / s.part.wings < capacity s (i % s.part.wings))

/-- An index is provisioned: its current entry is VALID. -/
def provisioned (s : State) (i : Nat) : Bool := decide (i < 1048576) && bit (entFlags (entryOf s i)) 0

/-- The lowest admissible free index from `i`, of `n` tried (R130). -/
def freeIndex (s : State) : Nat → Nat → Option Nat
  | 0, _ => none
  | n + 1, i => if admissible s i && !provisioned s i then some i else freeIndex s n (i + 1)

/-- Replace a Guest Book entry. -/
def gbSet (w k : Nat) (e : Bytes) (s : State) : State :=
  let x := ingGet s w
  ingSet w { x with gb := tabPut [] k e x.gb } s

/-- An entry with one flag. -/
def entFlag (i : Nat) (v : Bool) (e : Bytes) : Bytes := putLe e 4 2 (setBits (entFlags e) i i (b2n v))

/-- Change an index's current entry: the Guest Book's copy, then DIRTY, else the directory slot (R129, R139). -/
def entryMod (i : Nat) (f : Bytes → Bytes) (s : State) : State :=
  let w := i % s.part.wings
  match gbFind s w i with
  | some k => gbSet w k (entFlag 2 true (f (entryOf s i))) s
  | none => dramWrite (dirSlot s i) (f (entryOf s i)) s

/-- A frame of the endpoint is in flight: admitted with no outcome (R141). -/
def inFlight (s : State) (i : Nat) : Bool := (ingGet s (i % s.part.wings)).pipe.any (fun f => f.dir == i)

/-- Write a Guest Book entry back whole to its slot (R139, R140). (DESIGN CHOICE, log 82) -/
def gbWriteback (w k : Nat) (s : State) : State :=
  let e := entFlag 2 false (tabGet [] (ingGet s w).gb k)
  count w (tallyIng 30) (gbSet w k e (dramWrite (dirSlot s (leAt e 0 4)) e s))

/-- R139: the victim: the unpinned entry with the oldest last-heard time, ties to the lower number. -/
def gbVictim (s : State) (w : Nat) : Option Nat :=
  ((ingGet s w).gb.foldl (fun (m : Option (Nat × Nat)) e =>
    if bit (entFlags e.2) 1 || inFlight s (leAt e.2 0 4) then m
    else match m with
      | some (_, h) => if laterW 64 h (leAt e.2 48 8) then some (e.1, leAt e.2 48 8) else m
      | none => some (e.1, leAt e.2 48 8)) none).map (·.1)

/-- R139: an index's entry filled from its directory slot, into a free entry or a victim's place. -/
def gbFill (i : Nat) (s : State) : State :=
  let w := i % s.part.wings
  if (gbFind s w i).isSome then s
  else
    let k := tabGap 0 (ingGet s w).gb
    if k < 131072 then gbSet w k (entFlag 2 false (dramRead s (dirSlot s i) 256)) s
    else match gbVictim s w with
      | none => s
      | some v =>
        let s1 := if bit (entFlags (tabGet [] (ingGet s w).gb v)) 2 then gbWriteback w v s else s
        gbSet w v (entFlag 2 false (dramRead s1 (dirSlot s1 i) 256)) (count w (tallyIng 29) s1)

/-- An entry with bytes 64 to 159 read as zero (R129). -/
def entryShown (e : Bytes) : Bytes := putBytes e 64 (List.replicate 96 0)

/-! ### Provisioning (R130) -/

/-- A part of a byte string is all zero. -/
def zeroAt (b : Bytes) (off n : Nat) : Bool := (slice b off n).all (fun x => x == 0)

/-- R130 check 2: the limits of Table 5-5. -/
def provRange (b : Bytes) : Bool :=
  let i := beAt b 0 4
  let fl := beAt b 21 1
  let su := beAt b 20 1
  decide ((i < 1048576 ∨ i = 0xFFFFFFFF) ∧ beAt b 4 8 ≠ 0 ∧ (su = 1 ∨ su = 2) ∧ fl < 8 ∧ 1 ≤ beAt b 22 1 ∧
    beAt b 22 1 ≤ 6 ∧ beAt b 23 1 = 0 ∧ (if bit fl 1 then beAt b 32 4 < 262144 else beAt b 32 4 = 0xFFFFFFFF)) &&
  (!bit fl 0 || !zeroAt b 108 96) &&
  (su == 2 || (zeroAt b 60 16 && zeroAt b 92 16 && zeroAt b 172 32))

/-- R130: the entry of a provisioned endpoint. -/
def provEntry (i : Nat) (b : Bytes) : Bytes :=
  let fl := beAt b 21 1
  let flags := 1 + 32 * b2n (bit fl 1) + 64 * b2n (bit fl 2) + 128 * b2n (bit fl 0) + 512 * b2n (!zeroAt b 108 96)
  toLe 4 i ++ toLe 2 flags ++ slice b 20 1 ++ slice b 22 1 ++ toLe 8 (beAt b 4 8) ++ slice b 12 8 ++
  List.replicate 16 0 ++ toLe 4 (beAt b 32 4) ++ List.replicate 20 0 ++ slice b 44 64 ++ List.replicate 32 0 ++
  toLe 8 (beAt b 36 8) ++ toLe 8 (beAt b 24 8) ++ List.replicate 80 0

/-- Write a directory index into an address's slot and into any entry that holds it (R104, R130). -/
def addrIndex (a i p : Nat) (s : State) : State :=
  let ow := ownerOf s a
  let s1 := if leNat (dramRead s p 8) = a then dramWrite (p + 8) (toLe 4 i) s
            else dramWrite p (slotBytes { nbrFresh a with dir := i }) s
  match nbrFind s1 ow a with
  | some k => nbrSet k { nbrGet s1 k with dir := i } s1
  | none => s1

/-- R130: executing 05.0100.00; the first check that fails answers, changes nothing and is counted.
(DEDUCED, log 85) -/
def execProvision (t : Nat) (via : Via) (rec : Bytes) (s : State) : Host.Outcome State Fault Refusal :=
  let s := atTime t s
  let ask := beAt rec 0 4
  let a := beAt rec 4 8
  .next (serve via 0x05010000 (checkedCount 0x05010000
    [(decide (rec.length = 204), stLENGTH), (provRange rec, stRANGE),
     (ask == 0xFFFFFFFF || !provisioned s ask, stINDEX_USED), (dirOf s a == 0xFFFFFFFF, stADDRESS_USED)]
    (fun s =>
      let w := ask % s.part.wings
      match if ask = 0xFFFFFFFF then freeIndex s 1048576 0 else if admissible s ask then some ask else none with
      | none => (stDIRECTORY_FULL, [], countRefusal 0x05010000 stDIRECTORY_FULL
          (raise w 0x0505 w ask (if ask = 0xFFFFFFFF then capacity s 0 else capacity s w) s))
      | some i =>
        let ow := ownerOf s a
        match atGive s ow a with
        | none => (stADDR_FULL, [], countRefusal 0x05010000 stADDR_FULL (addrFull ow a s))
        | some p =>
          let h := i % s.part.wings
          let s1 := dramWrite (dirSlot s i) (provEntry i rec ++ padTo 128 (slice rec 108 96)) s
          (stDONE, toBe 4 i, raise h 0x0506 h i a (addrIndex a i p s1)))) s)

/-! ### Endpoint operations (R131) -/

/-- Event 0x0507: an operation applied. -/
def opDone (i op : Nat) (s : State) : State := raise (i % s.part.wings) 0x0507 (i % s.part.wings) i op s

/-- R131 operation 1: entry, directory slot and address-table index cleared. -/
def opDeprovision (i : Nat) (s : State) : State :=
  let w := i % s.part.wings
  let a := leAt (entryOf s i) 8 8
  let s1 := match gbFind s w i with
    | some k => gbSet w k [] s
    | none => s
  let s2 := dramWrite (dirSlot s1 i) (List.replicate 2048 0) s1
  let s3 := { s2 with mac := { s2.mac with replies := s2.mac.replies.filter (fun r => r.2 != i) } }
  opDone i 1 (match atFind s3 (ownerOf s3 a) a with
    | some p => addrIndex a 0xFFFFFFFF p s3
    | none => s3)

/-- R338: the next export number, and the sealed entry of Table 11-12. -/
def sealEntry (i : Nat) (s : State) : Bytes × State :=
  let n := obj s 0x0B040200
  let h := toBe 2 1 ++ toBe 2 (obj s 0x0B040000) ++ toBe 4 i ++ toBe 8 n ++ toBe 8 (ptimeNs s) ++ toBe 8 0
  let nonce := toBe 2 (obj s 0x0B040000) ++ toBe 2 0 ++ toBe 8 n
  (h ++ Config.gcmSeal (oct s 0x0B040100) nonce h (entryOf s i), commitOne (objPut 0x0B040200 (n + 1) s))

/-- R131: operations 1, 2 and 9, once no frame of the endpoint is in flight: status and body. -/
def opApply (op i : Nat) (s : State) : Nat × Bytes × State :=
  if op = 1 then (stDONE, [], opDeprovision i s)
  else if op = 2 then (stDONE, [], opDone i 2 (entryMod i (entFlag 4 true) s))
  else if noPower s then (stNOPOWER, [], s)
  else
    let r := sealEntry i s
    let n := obj s 0x0B040200
    let w := i % s.part.wings
    (stDONE, r.1, raise w 0x0B40 w i n (opDone i 9 (entryMod i (entFlag 4 true) r.2)))

/-- R131: an operation that waits for the endpoint's frames in flight is answered when it applies. (DEDUCED, log 84) -/
def opServe (via : Via) (op i : Nat) (s : State) : State :=
  if provisioned s i ∧ inFlight s i ∧ viaOpen s via ∧ viaLevel s via ≠ 0 then
    let x := ingGet s (i % s.part.wings)
    ingSet (i % s.part.wings) { x with ops := x.ops ++ [{ via := via, op := op, dir := i }] } s
  else serve via 0x05010100 (fun s => if provisioned s i then opApply op i s else (stNOT_PROVISIONED, [], s)) s

/-- The operations waiting for an endpoint whose last frame in flight is done. (DEDUCED, log 89) -/
def opsRun (w i : Nat) (s : State) : State :=
  if inFlight s i then s
  else
    let x := ingGet s w
    (x.ops.filter (fun o => o.dir == i)).foldl (fun s o =>
      let r := if provisioned s i then opApply o.op i s else (stNOT_PROVISIONED, [], s)
      answer o.via 0x05010100 r.1 r.2.1 r.2.2) (ingSet w { x with ops := x.ops.filter (fun o => o.dir != i) } s)

/-! ### Carried frames (R133) -/

/-- A descriptor's limits (Table 5-7). -/
def carriedBad (s : State) (w : Nat) (b : Bytes) : Bool :=
  let len := leAt b 8 2
  decide (len < 9 ∨ 2018 < len ∨ 2 ≤ leAt b 10 1 ∨ leAt b 24 8 ≠ 0 ∨ leAt b 12 4 % s.part.wings ≠ w ∨
    1048576 ≤ leAt b 12 4) || !dramIn s w (leAt b 0 8) len

/-- What a carried frame would be in the Lobby: a record of kind 2 with no lane report. (DESIGN CHOICE, log 246) -/
def carriedRecord (pay : Bytes) (heard : Nat) : Bytes :=
  padTo 2112 (List.replicate 32 0 ++ [2, 0, 0, 0] ++ toLe 2 pay.length ++ List.replicate 10 0 ++ toLe 8 heard ++ List.replicate 8 0 ++ pay)

/-- A carried frame as Check-in takes it: the payload at its descriptor's address and of its length. -/
def carriedFrame (s : State) (w a : Nat) (b : Bytes) (o : Opened) : InFrame :=
  let pay := dramRead s (leAt b 0 8) (leAt b 8 2)
  { dir := leAt b 12 4, pay := pay, opened := o, apdu := apduNow s pay o, t0 := s.clk.now, air := false, lane := 0, port := 0xFF
    bin := 0, rssi := 0, heard := leAt b 16 8, desc := a, bellOn := bit (leAt b 10 1) 0, unsec := false, verdict := 1, mode := none
    batch := none, waited := 0, a := 0, f := none, filled := false, entry := [], wpInt := 0, wpVolt := 0
    body := false, sigIn := none, nat := none, dirErr := false, judged := none, lobby := carriedRecord pay (leAt b 16 8), owner := w }

/-- R133: Check-in takes the next descriptor of its carried-frame ring, at most one in an FCLK. -/
def execCarriedFrame (t w : Nat) (opened : Opened) (s : State) : Host.Outcome State Fault Refusal :=
  let s := atTime t s
  let n := 2 ^ ringLog2 (regF s (ingXqCfg w) 4 0) 4 16 4
  let cons := regF s (ingXqPtr w) 63 32
  if regF s (ingXqPtr w) 31 0 = cons ∨ (ingGet s w).xqAt = s.clk.now + 1 then .next s
  else
    let a := regF s (ingXqCfg w) 63 12 * 4096 + cons % n * 32
    let b := dramRead s a 32
    let s1 := ingSet w { ingGet s w with xqAt := s.clk.now + 1 } (regPutF (ingXqPtr w) 63 32 ((cons + 1) % 4294967296) s)
    let done := fun (st : Nat) (s : State) =>
      (if bit (leAt b 10 1) 0 then bell w 8 else id) (dramWrite (a + 11) (toLe 1 st) s)
    if carriedBad s w b then .next (done 2 s1)
    else if !provisioned s (leAt b 12 4) then .next (done 3 s1)
    else if !placeFree s w then .next (carriedFull w a (bit (leAt b 10 1) 0) s1)
    else
      .next (inputPush w (carriedFrame s w a b opened)
        (placesSet w (placesUsed s1 w + 1) (dramWrite (a + 11) (toLe 1 0) s1)))

/-! ### Admission (R136 to R138, R142) -/

/-- R33, R136: the least spacing of admissions before a frame that ended in a mode of service. -/
def admitGap (m : Nat) : Nat := if m = 2 then 500 else 125

/-- Staging records and body slots reserved by frames in the pipeline. -/
def reserved (x : Ing) : Nat × Nat := (x.pipe.length, (x.pipe.filter (·.body)).length)

/-- Frames in the fill queue (R139). -/
def fillQueue (s : State) (x : Ing) : Nat :=
  (x.pipe.filter (fun f => !f.filled && (match f.f with
    | some c => decide (s.clk.now < c)
    | none => false))).length

/-- The frame's admission instant has come (R136, R137): its batch's, or its own at the rate of the mode it ended in. -/
def admitDue (s : State) (x : Ing) (f : InFrame) : Bool :=
  match f.mode with
  | none => false
  | some m =>
    if m = 1 then f.batch.any (fun a => decide (a ≤ s.clk.now))
    else decide (f.t0 ≤ s.clk.now) && (x.lastA.map (fun a => decide (a + admitGap m ≤ s.clk.now))).getD true

/-- The entry is cached or its fill is under way. -/
def cachedOrFilling (s : State) (w i : Nat) : Bool :=
  (gbFind s w i).isSome || (ingGet s w).pipe.any (fun f => f.dir == i && f.f.isSome && !f.filled)

/-- R138, R147: an admitted frame with its look-up's result: when its signature or its outcome falls. -/
def admitFrame (s : State) (x : Ing) (f : InFrame) (hit : Bool) : InFrame :=
  let a := s.clk.now
  let fl := max (a + 360) ((x.lastF.map (· + 32)).getD 0)
  let e := entryOf s f.dir
  let p := apduNow s f.pay f.opened
  let push := p.dstPort == obj s 0x05002000 || p.dstPort == obj s 0x05002100
  let sign := (push || p.inSubset) && (bit (entFlags e) 7 || p.signing.isSome)
  { f with
    a := a, f := if hit then none else some fl, entry := e, wpInt := obj s 0x05002000, wpVolt := obj s 0x05002100, apdu := p
    body := p.dstPort != obj s 0x05002000
    sigIn := if sign then some (if hit then a + 900 else fl + 960) else none
    nat := if sign then none else some (if hit then a + 1800 else fl + 1860) }

/-- R142: admission waits for a staging record (bit 0) or a body slot (bit 1): each such wait counted and flagged once. -/
def admitWait (w : Nat) (f : InFrame) (rest : List InFrame) (bitNo : Nat) (s : State) : State :=
  let x := ingGet s w
  if bit f.waited bitNo then s
  else
    let s1 := ingSet w { x with queue := { f with waited := f.waited + 2 ^ bitNo } :: rest } s
    raiseOnce (5200 + w) 1000000000 w 0x0501 w x.unrel.length ((x.unrel.filter (·.body.isSome)).length)
      (ingFlag w bitNo (count w (tallyIng 32) s1))

/-- R136, R138, R142: the frame at the head of the queue is admitted where its instant has come: its records reserved, its
look-up begun. -/
def admitOne (w : Nat) (s : State) : State :=
  let x := ingNow s w
  match x.queue with
  | [] => s
  | f :: rest =>
    if noNewOps s ∨ !admitDue s x f ∨ 512 ≤ fillQueue s x then ingSet w x s
    else if 1048576 ≤ x.unrel.length + (reserved x).1 then admitWait w f rest 0 (ingSet w x s)
    else if f.apdu.dstPort ≠ obj s 0x05002000 ∧ 65536 ≤ (x.unrel.filter (·.body.isSome)).length + (reserved x).2 then
      admitWait w f rest 1 (ingSet w x s)
    else
      let hit := !provisioned s f.dir || cachedOrFilling s w f.dir
      let g := admitFrame s x f hit
      let s1 := ingSet w { x with queue := rest, pipe := x.pipe ++ [g], lastA := some s.clk.now
                                  lastF := if hit then x.lastF else g.f } s
      if provisioned s f.dir then
        let s2 := match gbFind s1 w f.dir with
          | some k => gbSet w k (putLe (entryOf s1 f.dir) 48 8 (ptimeNs s1)) s1
          | none => s1
        count w (tallyIng (if hit then 27 else 28)) s2
      else s1

/-- R153: every admission due in this FCLK, as an operation on an endpoint finds them. -/
def admitAll (w : Nat) (s : State) : State :=
  (List.range 16).foldl (fun s _ => match (ingNow s w).queue with
    | [] => s
    | f :: _ => if admitDue s (ingNow s w) f then admitOne w s else s) s

/-- R136, R138, R142: a frame is admitted. -/
def execAdmission (t w : Nat) (s : State) : Host.Outcome State Fault Refusal :=
  let s := atTime t s
  .next (admitOne w s)

/-- R137: a batch closes 40,000 FCLK after its first frame was ready. -/
def execBatchClose (t w : Nat) (s : State) : Host.Outcome State Fault Refusal :=
  let s := atTime t s
  let x := ingGet s w
  match x.open_ with
  | some (e, _) => if e + 40000 ≤ s.clk.now then .next (ingSet w (closeBatch s.clk.now x) s) else .next s
  | none => .next s

/-- Change the first frame of the pipeline that satisfies a test. -/
def pipeMod (p : InFrame → Bool) (g : InFrame → InFrame) : List InFrame → List InFrame
  | [] => []
  | f :: fs => if p f then g f :: fs else f :: pipeMod p g fs

/-- R136, R139: a fill slot: the entry is filled, last heard at the latest admission of its endpoint; an uncorrectable DRAM error
is every frame's that shares the fill and suspends the endpoint (event 0x0503). -/
def execFill (t w : Nat) (dramOk : Bool) (s : State) : Host.Outcome State Fault Refusal :=
  let s := atTime t s
  let p := fun (f : InFrame) => !f.filled && (match f.f with
    | some c => decide (c ≤ s.clk.now)
    | none => false)
  match (ingGet s w).pipe.find? p with
  | none => .next s
  | some f =>
    let x := ingGet s w
    let mark := fun (g : InFrame) => if g.dir = f.dir ∧ f.a ≤ g.a then { g with dirErr := !dramOk } else g
    let s1 := ingSet w { x with pipe := (pipeMod p (fun g => { g with filled := true }) x.pipe).map mark } s
    let s2 := gbFill f.dir s1
    let last := ((x.pipe.filter (fun g => g.dir == f.dir)).getLast?.map (·.a)).getD f.a
    let s3 := match gbFind s2 w f.dir with
      | some k => gbSet w k (putLe (entryOf s2 f.dir) 48 8 (ptimeAt s2 last)) s2
      | none => s2
    if dramOk then .next s3
    else .next (ingFlag w 4 (raise w 0x0503 w f.dir (dirSlot s3 f.dir) (entryMod f.dir (entFlag 4 true) s3)))

/-- R147: how long a verify unit is held, by suite. -/
def verifyTime (e : Bytes) : Nat := if leAt e 6 1 = 2 then 500000 else 200000

/-- R147: the first frame of the signature queue is taken by a free verify unit. -/
def execSignatureVerifyStart (t w : Nat) (s : State) : Host.Outcome State Fault Refusal :=
  let s := atTime t s
  let x := ingGet s w
  let p := fun (f : InFrame) => f.sigIn.isSome && f.nat.isNone && f.verdict != 2
  match x.pipe.find? p, x.units.findIdx? (fun u => decide (u ≤ s.clk.now)) with
  | some f, some k =>
    if (f.sigIn.getD 0) ≤ s.clk.now then
      let v := verifyTime f.entry
      .next (ingSet w { x with units := x.units.set k (s.clk.now + v)
                               pipe := pipeMod p (fun g => { g with nat := some (s.clk.now + v + 900) }) x.pipe } s)
    else .next s
  | _, _ => .next s

/-! ### The checks (R143 to R149) -/

/-- A push wPort in force at the frame's admission. -/
def isPush (f : InFrame) : Bool := f.apdu.dstPort == f.wpInt || f.apdu.dstPort == f.wpVolt

/-- The key a frame is under, of an entry: the dedicated or the global one. -/
def frameKey (e : Bytes) (ded : Bool) : Bytes := slice e (if ded then 128 else 64) 32

/-- The invocation counter the frame is judged against: the live one, unless an operation replaced its key (R131, R145). -/
def heldCounter (live f : Bytes) (ded : Bool) : Nat :=
  leAt (if frameKey live ded = frameKey f ded then live else f) (if ded then 28 else 24) 4

/-- Steps 1 to 13 of Table 5-9: the counter of the first that fails. -/
def checkAuth (s : State) (f : InFrame) : Option Nat :=
  let a := f.apdu
  let e := f.entry
  let su := leAt e 6 1
  let title := slice e 16 8
  let own := oct s 0x05000200
  firstFail [
    (a.wrapped, 4),
    (a.length == a.after && (f.air || decide (a.length ≤ 2010)), 5),
    (!isPush f || cipherTag a.outer || a.outer == 0xDF, 6),
    (!f.dirErr, 7),
    (!bit (entFlags e) 4, 8),
    ((a.signing.map (·.lengthsOk)).getD true, 9),
    (a.title.isSome, 10),
    (a.title == some title &&
      (a.signing.map (fun g => g.originTitle == title && (g.recipientTitle == [] || g.recipientTitle == own))).getD true, 11),
    (a.cipherOk, 34),
    (a.control % 16 == su && bit a.control 4 && !bit a.control 6 && !bit a.control 7, 12),
    (a.tag != 0xDC || bit (entFlags e) 8, 13),
    (a.tagOk, 14),
    (match a.signing with
      | some g => bit (entFlags e) 9 && g.sigLen == (if su = 2 then 96 else 64) && a.sigOk
      | none => !bit (entFlags e) 7, 15)]

/-- TAI of a date-time in ns (R149). -/
def taiOf (s : State) (d : DateTime) : Int := (d.utcSeconds + obj s 0x05002600) * 1000000000

/-- R149: a time outside its limits is TIME_RANGE; unlocked PTIME has no future limit. (DEDUCED, log 87) -/
def timeOk (s : State) (d : DateTime) : Bool :=
  let e := taiOf s d
  let now : Int := ptimeNs s
  d.specified && decide (0 ≤ e) && (!ptimeLocked s || decide (e ≤ now + obj s 0x05002300 * 1000000000)) &&
  decide (now - obj s 0x05002400 * 86400000000000 ≤ e)

/-- Steps 15 to 21 of Table 5-9: the counter of the first that fails. (DEDUCED, log 86) -/
def checkBody (s : State) (f : InFrame) : Option Nat :=
  let p := f.apdu.plain
  let head := [(p.isDataNotification, 16), (p.lengthsOk, 17)]
  match p.body with
  | .interval d mins _ vals =>
    let lim := leAt f.entry 168 8
    firstFail (head ++ [
      (f.apdu.dstPort == f.wpInt, 18),
      (decide (1 ≤ vals.length ∧ vals.length ≤ 6) && vals.length == leAt f.entry 7 1, 19),
      (mins == obj s 0x05002200 && (!d.specified || (d.subZero && d.utcSeconds % (mins * 60 : Nat) == 0)), 20),
      (timeOk s d, 21),
      (lim == 0 || vals.all (fun v => decide (v ≤ lim)), 22)])
  | .voltage d vals =>
    firstFail (head ++ [
      (f.apdu.dstPort == f.wpVolt, 18), (decide (1 ≤ vals.length ∧ vals.length ≤ 60), 19),
      (timeOk s d, 21), (vals.all (fun v => decide (0 < v ∧ v ≤ obj s 0x05002500)), 22)])
  | .other => firstFail (head ++ [(false, 18)])

/-- R144, R145: a frame's outcome by Check-in counter, and whether its invocation counter is committed. -/
def checkinJudge (s : State) (f : InFrame) : Nat × Bool :=
  if !isPush f ∧ !f.apdu.inSubset then (3, false)
  else match checkAuth s f with
    | some o => (o, false)
    | none =>
      let held := heldCounter (entryOf s f.dir) f.entry (f.apdu.tag == 0xDC)
      if f.apdu.ic = held then (1, false)
      else if f.apdu.ic < held then (2, false)
      else if isPush f then ((checkBody s f).getD 0, true)
      else (0, true)

/-! ### The staged record (R150, R151) -/

/-- Kind of a staged record (Table 5-12). -/
def kindOf (f : InFrame) (o : Nat) : Nat :=
  if o = 3 then 4 else if f.apdu.dstPort = f.wpInt then 1 else if f.apdu.dstPort = f.wpVolt then 2 else 3

/-- The interval end or first minute of a record in TAI ns, 0 where it has none. -/
def recEnd (s : State) (f : InFrame) : Nat :=
  match f.apdu.plain.body with
  | .interval d _ _ _ => (taiOf s d).toNat
  | .voltage d _ => (taiOf s d).toNat
  | .other => 0

/-- R151: required destinations by kind and flags: 1 PROFILE, 2 CHARGE, 4 AUDIT, 8 LEDGER. -/
def required (kind fl : Nat) : Nat :=
  if kind = 1 then 1 + 2 * b2n (bit fl 5) + 4 * b2n (bit fl 6) else if kind = 2 ∧ bit fl 6 then 4 else 8

/-- The body a record carries: voltages as U16, a plaintext, or the APDU untouched. -/
def bodyOf (f : InFrame) (kind : Nat) : Bytes :=
  if kind = 4 then f.apdu.raw
  else match f.apdu.plain.body with
    | .voltage _ vals => if kind = 2 then vals.flatMap (fun v => toLe 2 v) else f.apdu.plain.raw
    | _ => f.apdu.plain.raw

/-- R149, R150: the record's flags. -/
def recFlags (s : State) (f : InFrame) (kind : Nat) (rep : Bool) : Nat :=
  let doubt := match f.apdu.plain.body with
    | .interval d _ _ _ => !ptimeLocked s || d.doubtful
    | .voltage d _ => !ptimeLocked s || d.doubtful
    | .other => false
  b2n f.apdu.signing.isSome + 2 * b2n (!f.air) + 4 * b2n rep + 8 * b2n (doubt && decide (kind ≤ 2)) + 16 * b2n f.unsec +
  32 * b2n (f.apdu.tag == 0xDC)

/-- The staging area of a wing. -/
def stgBase (s : State) (w : Nat) : Nat := regF s (ingStgCfg w) 63 28 * 268435456

/-- The lowest free body slot of a wing. (DESIGN CHOICE, log 88) -/
def freeBody (x : Ing) : Nat :=
  ((List.range (x.unrel.length + 1)).find? (fun i => !x.unrel.any (fun u => u.body == some i))).getD 0

/-- A staged record (Table 5-12). -/
def stagedRecord (s : State) (f : InFrame) (seq kind flags req body blen : Nat) : Bytes :=
  let p := f.apdu.plain
  let hi := decide (kind = 1 ∨ kind = 2)
  let f0 := match p.body with
    | .interval _ m st vals => (m, vals.length, st, vals)
    | .voltage _ vals => (vals.length, leAt f.entry 7 1, 0, [])
    | .other => (0, 0, 0, [])
  let g := if hi then f0 else (0, 0, 0, [])
  toLe 8 seq ++ toLe 4 f.dir ++ toLe 1 kind ++ toLe 1 flags ++ toLe 1 req ++ toLe 1 0 ++ toLe 8 f.t0 ++ toLe 8 f.heard ++
  toLe 4 (if kind = 4 then 0 else f.apdu.ic) ++ toLe 4 (leAt f.entry 40 4) ++ toLe 8 (if hi then recEnd s f else 0) ++
  toLe 2 g.1 ++ toLe 1 g.2.1 ++ toLe 1 g.2.2.1 ++ toLe 1 f.port ++ toLe 1 f.bin ++ toLe 2 (unsgn 16 f.rssi) ++
  padTo 48 (g.2.2.2.flatMap (fun v => toLe 8 v)) ++ toLe 8 body ++ toLe 2 blen ++ List.replicate 6 0 ++
  toLe 4 p.invokeId ++ toLe 4 0

/-- R150, R151: a STAGED or PASSED frame is written to staging. -/
def stageFrame (w : Nat) (f : InFrame) (o : Nat) (s : State) : State :=
  let x := ingGet s w
  let kind := kindOf f o
  let e := entryOf s f.dir
  let rep := decide (kind = 1) && notBeforeW 64 (leAt e 56 8) (recEnd s f)
  let seq := x.seq + 1
  let req := required kind (entFlags e)
  let bslot := if f.body then some (freeBody x) else none
  let base := stgBase s w
  let baddr := match bslot with
    | some k => base + 134217728 + 2048 * k
    | none => 0
  let body := if f.body then bodyOf f kind else []
  let r := stagedRecord s f seq kind (recFlags s f kind rep) req baddr body.length
  let s1 := ingSet w { x with seq := seq, unrel := x.unrel ++ [{ seq := seq, at_ := s.clk.now, req := req, conf := 0, body := bslot }] } s
  let s2 := dramWrite (base + seq % 1048576 * 128) r (if f.body then dramWrite baddr body s1 else s1)
  let s3 := entryMod f.dir (fun e => putLe (if kind = 1 ∧ !rep then putLe e 56 8 (recEnd s f) else e) 176 8 seq) s2
  let s4 := if rep then count w (tallyIng 33) s3 else s3
  if bit req 3 then bell w 11 s4 else s4

/-- R145, R146: a frame's invocation counter is committed, and REPLY_HELD cleared. Under a key an operation has replaced since
(R131) the commit is the old state's: the other frames in flight under that key are judged against it. -/
def commitCounter (w : Nat) (f : InFrame) (s : State) : State :=
  let ded := f.apdu.tag == 0xDC
  let off := if ded then 28 else 24
  let x := ingGet s w
  let s1 := ingSet w { x with pipe := x.pipe.map (fun g =>
    if g.dir = f.dir ∧ frameKey g.entry ded = frameKey f.entry ded then { g with entry := putLe g.entry off 4 f.apdu.ic } else g) } s
  if frameKey (entryOf s1 f.dir) ded = frameKey f.entry ded then entryMod f.dir (fun e => entFlag 3 false (putLe e off 4 f.apdu.ic)) s1
  else s1

/-- R146: a held reply passes to the owner wing's MAC again. -/
def replyPass (i : Nat) (s : State) : State :=
  { s with mac := { s.mac with replies := s.mac.replies ++ [(ownerOf s (leAt (entryOf s i) 8 8), i)] } }

/-- The cycle of a frame's invocation-counter decision (Table 5-8): 600 FCLK before its outcome, not before the decision on an
earlier frame of its endpoint, and where it commits 120 FCLK after the endpoint's last commit (R145). -/
def judgeAt (x : Ing) (f : InFrame) (n : Nat) (commits : Bool) : Nat :=
  let c := tabGet (0, 0) x.commits f.dir
  max (n - 600) (max (c.1 - 1) (if commits ∧ c.2 ≠ 0 then c.2 - 1 + 120 else 0))

/-- The first frame of a pipeline to be judged by now, no unjudged frame of its endpoint before it: with its judgement and the cycle
of that. -/
def firstJudged (s : State) (x : Ing) : List InFrame → List Nat → Option (InFrame × (Nat × Bool) × Nat)
  | [], _ => none
  | f :: fs, seen =>
    if f.judged.isSome then firstJudged s x fs seen
    else
      let j := checkinJudge s f
      let c := judgeAt x f (f.nat.getD 0) j.2
      if !seen.contains f.dir ∧ f.verdict = 1 ∧ bit (entFlags f.entry) 0 ∧ f.nat.isSome ∧ c ≤ s.clk.now then some (f, j, c)
      else firstJudged s x fs (if f.verdict = 2 ∨ !bit (entFlags f.entry) 0 then seen else f.dir :: seen)

/-- R138, R144, R145: the decision on one frame is made: its counter committed, its outcome 600 FCLK later. -/
def judgeOne (w : Nat) (s : State) : State :=
  let x := ingGet s w
  match firstJudged s x x.pipe [] with
  | none => s
  | some (f, j, c) =>
    let old := tabGet (0, 0) x.commits f.dir
    let s1 := ingSet w { x with
      pipe := pipeMod (· == f) (fun g => { g with judged := some j, nat := some (c + 600) }) x.pipe
      commits := tabPut (0, 0) f.dir (c + 1, if j.2 then c + 1 else old.2) x.commits } s
    if j.2 then commitCounter w f s1 else s1

/-- Every decision that has fallen due on a wing's frames (R138). -/
def judgeAll (w : Nat) (s : State) : State := (ingGet s w).pipe.foldl (fun s _ => judgeOne w s) s

/-- A frame of the pipeline may end now: dropped 1,200 FCLK after its admission, or judged and its outcome due (R136, R144). -/
def outcomeDue (s : State) (f : InFrame) : Bool :=
  if f.verdict = 2 || !bit (entFlags f.entry) 0 then decide (f.verdict ≠ 0 ∧ f.a + 1200 ≤ s.clk.now)
  else f.judged.isSome && f.nat.any (fun n => decide (n ≤ s.clk.now))

/-- R144: what an outcome does. -/
def applyOutcome (w : Nat) (f : InFrame) (s : State) : State :=
  let o := (f.judged.getD (0, false)).1
  let s2 := count w (tallyIng o) (placesSet w (placesUsed s w - 1) s)
  let s3 := if o = 0 ∨ o = 3 then stageFrame w f o s2 else s2
  let e := entryOf s3 f.dir
  let s4 := if o = 1 ∧ bit (entFlags e) 3 ∧ leAt e 32 4 = f.apdu.ic then count w (tallyIng 31) (replyPass f.dir s3) else s3
  let s5 := if o = 14 ∨ o = 15 ∨ o = 2 then raiseOnce (5300 + w) 1000000000 w 0x0508 w f.dir o s4 else s4
  if f.bellOn then bell w 8 s5 else s5

/-- R131, R135: a frame whose endpoint had been deprovisioned before its admission goes to the Lobby.
(DEDUCED, log 248) -/
def toLobby (w : Nat) (f : InFrame) (s : State) : State :=
  let s1 := lobby f.owner f.lobby (placesSet w (placesUsed s w - 1) s)
  if f.bellOn then bell w 8 s1 else s1

/-- R136, R144: a frame's outcome falls, or it is dropped without one; operations that waited for it apply. -/
def execCheckinOutcome (t w : Nat) (s : State) : Host.Outcome State Fault Refusal :=
  let s := judgeAll w (atTime t s)
  let x := ingGet s w
  match x.pipe.find? (outcomeDue s) with
  | none => .next s
  | some f =>
    let s1 := ingSet w { x with pipe := x.pipe.erase f } s
    if f.verdict = 2 then .next (opsRun w f.dir s1)
    else if !bit (entFlags f.entry) 0 then .next (opsRun w f.dir (toLobby w f s1))
    else .next (opsRun w f.dir (applyOutcome w f s1))

/-! ### Operations as commands (R131, R338, R339) -/

/-- R138, R153: what is due in this FCLK before an operation on an endpoint: the admission of its frames and their decisions. -/
def opReady (via : Via) (i : Nat) (s : State) : State :=
  if viaOpen s via then judgeAll (i % s.part.wings) (admitAll (i % s.part.wings) s) else s

/-- An operation of R131 that applies at once to a provisioned endpoint. -/
def opNow (via : Via) (op i : Nat) (lenOk : Bool) (f : Bytes → Bytes) (s : State) : State :=
  serve via 0x05010100 (checked [(lenOk, stLENGTH), (provisioned s i, stNOT_PROVISIONED)]
    (fun s => (stDONE, [], opDone i op (entryMod i f s)))) s

/-- R131 operation 1. -/
def execDeprovision (t : Nat) (via : Via) (i : Nat) (s : State) : Host.Outcome State Fault Refusal :=
  let s := opReady via i (atTime t s)
  .next (opServe via 1 i s)

/-- R131 operation 2. -/
def execSuspend (t : Nat) (via : Via) (i : Nat) (s : State) : Host.Outcome State Fault Refusal :=
  let s := opReady via i (atTime t s)
  .next (opServe via 2 i s)

/-- R131 operation 3. -/
def execResume (t : Nat) (via : Via) (i : Nat) (s : State) : Host.Outcome State Fault Refusal :=
  let s := opReady via i (atTime t s)
  .next (opNow via 3 i true (entFlag 4 false) s)

/-- R131 operation 4: dedicated key written, DEDOK set, dedicated counter 0. -/
def execSetDed (t : Nat) (via : Via) (i : Nat) (key : Bytes) (s : State) : Host.Outcome State Fault Refusal :=
  let s := opReady via i (atTime t s)
  .next (opNow via 4 i (decide (key.length = 32)) (fun e => entFlag 8 true (putLe (putBytes e 128 key) 28 4 0)) s)

/-- R131 operation 5: DEDOK cleared, key zeroed. -/
def execClearDed (t : Nat) (via : Via) (i : Nat) (s : State) : Host.Outcome State Fault Refusal :=
  let s := opReady via i (atTime t s)
  .next (opNow via 5 i true (fun e => entFlag 8 false (putBytes e 128 (List.replicate 32 0))) s)

/-- R131 operation 6: keys replaced, global counter 0, REPLY_HELD cleared. -/
def execRekey (t : Nat) (via : Via) (i : Nat) (keys : Bytes) (s : State) : Host.Outcome State Fault Refusal :=
  let s := opReady via i (atTime t s)
  .next (opNow via 6 i (decide (keys.length = 64)) (fun e => entFlag 3 false (putLe (putBytes e 64 keys) 24 4 0)) s)

/-- Software-pinned entries of a wing (R141). -/
def gbPins (s : State) (w : Nat) : Nat := ((ingGet s w).gb.filter (fun e => bit (entFlags e.2) 1)).length

/-- R141: PIN: filled first where it is not cached; the 16,385th of a wing is refused. -/
def gbPin (i : Nat) (s : State) : Nat × State :=
  let w := i % s.part.wings
  if !provisioned s i then (2, s)
  else if !bit (entFlags (entryOf s i)) 1 ∧ 16384 ≤ gbPins s w then (3, s)
  else
    (0, entryMod i (entFlag 1 true) (gbFill i s))

/-- R131: UNPIN clears PINNED. -/
def gbUnpin (i : Nat) (s : State) : State := entryMod i (entFlag 1 false) s

/-- R131 operation 7 (R141). -/
def execPinEndpoint (t : Nat) (via : Via) (i : Nat) (s : State) : Host.Outcome State Fault Refusal :=
  let s := opReady via i (atTime t s)
  .next (serve via 0x05010100 (fun s =>
    let r := gbPin i s
    if r.1 = 2 then (stNOT_PROVISIONED, [], s) else if r.1 = 3 then (stPINLIMIT, [], s)
    else (stDONE, [], opDone i 7 r.2)) s)

/-- R131 operation 8. -/
def execUnpinEndpoint (t : Nat) (via : Via) (i : Nat) (s : State) : Host.Outcome State Fault Refusal :=
  let s := opReady via i (atTime t s)
  .next (serve via 0x05010100 (fun s =>
    if provisioned s i then (stDONE, [], opDone i 8 (gbUnpin i s)) else (stNOT_PROVISIONED, [], s)) s)

/-- R131 operation 9, R338. -/
def execExportSession (t : Nat) (via : Via) (i : Nat) (s : State) : Host.Outcome State Fault Refusal :=
  let s := opReady via i (atTime t s)
  .next (opServe via 9 i s)

/-- R339: session state taken from a sealed entry. -/
def importEntry (x e : Bytes) : Bytes :=
  let y := putBytes (putBytes (putBytes e 6 (slice x 6 1)) 16 (slice x 16 8)) 64 (slice x 64 96)
  let z := putLe (putLe y 24 4 (max (leAt x 24 4) (leAt e 24 4))) 28 4 (max (leAt x 28 4) (leAt e 28 4))
  entFlag 3 false (entFlag 4 false (entFlag 8 (bit (entFlags x) 8) z))

/-- R339: operation 10: LENGTH, AUTH, STALE, or imported. -/
def execImportSession (t : Nat) (via : Via) (i : Nat) (sealed : Bytes) (tagOk : Bool) (entry : Bytes) (s : State) :
    Host.Outcome State Fault Refusal :=
  let s := opReady via i (atTime t s)
  let w := i % s.part.wings
  let src := beAt sealed 2 2
  let num := beAt sealed 8 8
  .next (serve via 0x05010100 (fun s =>
    if !provisioned s i then (stNOT_PROVISIONED, [], s)
    else match firstFail [(decide (sealed.length = 304) && beAt sealed 0 2 == 1, stLENGTH), (tagOk, stAUTH),
        (decide (tabGet 0 s.lease.seen src < num), stSTALE)] with
      | some st => (st, [], raise w 0x0B42 w i st (count w (tallyCg 7) s))
      | none =>
        let s1 := entryMod i (importEntry (padTo 256 entry)) s
        let s2 := { s1 with lease := { s1.lease with seen := tabPut 0 src num s1.lease.seen } }
        (stDONE, [], raise w 0x0B41 w i (src * 2 ^ 48 + num % 2 ^ 48) (opDone i 10 s2))) s)

/-- R157: 05.0102.00 answers an entry with its keys zeroed. -/
def execLookUpEndpointByIndex (t : Nat) (via : Via) (i : Nat) (s : State) : Host.Outcome State Fault Refusal :=
  let s := opReady via i (atTime t s)
  .next (serve via 0x05010200 (fun s =>
    if provisioned s i then (stDONE, entryShown (entryOf s i), s) else (stNOT_PROVISIONED, [], s)) s)

/-! ### Guest Book access (R154), replies (R146), release (R151), the sweep (R152) -/

/-- ING_GB_CTL's request taken and done: OP, INDEX and RESULT; GO clear. -/
def gbCtl (w op i result : Nat) (s : State) : State :=
  let a := ingGbCtl w
  regPutF a 63 63 0 (regPutF a 58 56 op (regPutF a 55 52 result (regPutF a 19 0 i s)))

/-- An index is homed on the wing and provisioned. -/
def gbHomed (s : State) (w i : Nat) : Bool := decide (w < s.part.wings ∧ i % s.part.wings = w) && provisioned s i

/-- R154: READ, or an OP that acts as READ, copies an entry with its keys zeroed to ING_GB_DST. -/
def gbRead (w op i : Nat) (s : State) : State :=
  let s := judgeAll w s
  let dst := regF s (ingGbDst w) 63 6 * 64
  if !gbHomed s w i then gbCtl w op i 2 s
  else
    let s1 := gbCtl w op i (if (gbFind s w i).isSome then 0 else 1) s
    if dramIn s w dst 256 then dramWrite dst (entryShown (entryOf s i)) s1 else s1

/-- R154: READ. -/
def execGbRead (t w i : Nat) (s : State) : Host.Outcome State Fault Refusal :=
  let s := atTime t s
  .next (gbRead w 0 i s)

/-- R141, R154: PIN. -/
def execGbPin (t w i : Nat) (s : State) : Host.Outcome State Fault Refusal :=
  let s := atTime t s
  if gbHomed s w i then let r := gbPin i s; .next (gbCtl w 1 i r.1 r.2) else .next (gbCtl w 1 i 2 s)

/-- R154: UNPIN. -/
def execGbUnpin (t w i : Nat) (s : State) : Host.Outcome State Fault Refusal :=
  let s := atTime t s
  if gbHomed s w i then .next (gbCtl w 2 i 0 (gbUnpin i s)) else .next (gbCtl w 2 i 2 s)

/-- R154: WRITEBACK of a cached entry. -/
def execWriteback (t w i : Nat) (s : State) : Host.Outcome State Fault Refusal :=
  let s := judgeAll w (atTime t s)
  if gbHomed s w i then
    match gbFind s w i with
    | some k => .next (gbCtl w 3 i 0 (gbWriteback w k s))
    | none => .next (gbCtl w 3 i 1 s)
  else .next (gbCtl w 3 i 2 s)

/-- R146: the counter last committed for a key in use: the global one, or the dedicated one while DEDOK.
(DEDUCED, log 247) -/
def lastCommitted (e : Bytes) (ic : Nat) : Bool :=
  ic != 0 && (leAt e 24 4 == ic || (bit (entFlags e) 8 && leAt e 28 4 == ic))

/-- R146, R153: HOLDREPLY, after any commit of its FCLK: STALEIC, BADLEN, or held and passed to the MAC.
(DEDUCED, log 90) -/
def execHoldReply (t w i : Nat) (s : State) : Host.Outcome State Fault Refusal :=
  let s := judgeAll w (atTime t s)
  let ic := regF s (ingGbArg w) 63 32
  let len := regF s (ingGbArg w) 10 0
  if !gbHomed s w i then .next (gbCtl w 4 i 2 s)
  else if !lastCommitted (entryOf s i) ic then .next (gbCtl w 4 i 4 s)
  else if len = 0 ∨ 1664 < len then .next (gbCtl w 4 i 5 s)
  else .next (replyPass i (entryMod i (fun e => entFlag 3 true (putLe (putLe e 32 4 ic) 36 2 len)) (gbCtl w 4 i 0 s)))

/-- R139, R154: FLUSH writes every DIRTY entry back. (DESIGN CHOICE, log 83) -/
def execFlushGuestBook (t w : Nat) (s : State) : Host.Outcome State Fault Refusal :=
  let s := judgeAll w (atTime t s)
  .next (regPutF (ingCtl w) 1 1 0 ((ingGet s w).gb.foldl (fun s e =>
    if bit (entFlags e.2) 2 then gbWriteback w e.1 s else s) s))

/-- R151: the records at the head of the ring whose destinations have all confirmed. -/
def unrelDone : List Unrel → Nat
  | [] => 0
  | u :: us => if u.req &&& u.conf = u.req then unrelDone us + 1 else 0

/-- R151: a destination confirms: the bit set in the record; records released in order; a sequence outside the
unreleased part sets BADREL. -/
def confirmDest (w seq dest : Nat) (s : State) : State :=
  let x := ingGet s w
  match x.unrel.find? (fun u => u.seq % 2 ^ 60 == seq) with
  | none => ingFlag w 5 s
  | some u =>
    let c := u.conf ||| (dest % 16)
    let l := x.unrel.map (fun y => if y.seq = u.seq then { y with conf := c } else y)
    let n := unrelDone l
    ingSet w { x with unrel := l.drop n, cons := x.cons + n }
      (dramWrite (stgBase s w + u.seq % 1048576 * 128 + 15) (toLe 1 c) s)

/-- R151: a write of ING_STG_REL. -/
def execStagingConfirm (t w : Nat) (v : Word) (s : State) : Host.Outcome State Fault Refusal :=
  let s := atTime t s
  if w < s.part.wings then .next (confirmDest w (bits v.toNat 63 4) (bits v.toNat 3 0) s) else .next s

/-- The indices homed on a wing that are provisioned: those with bytes in its directory region or a cached entry. -/
def homedIndices (s : State) (w : Nat) : List Nat :=
  let base := regF s (ingDirCfg w) 63 30 * 1073741824
  let hs := (s.dram.filter (fun c => decide (base ≤ c.1 ∧ c.1 < base + capacity s w * 2048 ∧ (c.1 - base) % 2048 = 4))).map
    (fun c => (c.1 - base) / 2048 * s.part.wings + w)
  let gs := (ingGet s w).gb.map (fun e => leAt e.2 0 4)
  (hs ++ gs.filter (fun i => !hs.contains i)).filter (fun i => provisioned s i)

/-- R152: a sweep: bytes 0 to 63 and 160 to 183 of every valid entry, event 0x0509. (DEDUCED, log 155) -/
def execDirectorySweep (t w : Nat) (s : State) : Host.Outcome State Fault Refusal :=
  let s := judgeAll w (atTime t s)
  let x := ingGet s w
  if w < s.part.wings ∧ x.sweepAt + obj s 0x05004000 * 60000000000 ≤ s.clk.now then
    let l := homedIndices s w
    let m := l.foldl (fun m i => tabPut [] i (slice (entryOf s i) 0 64 ++ slice (entryOf s i) 160 24) m) []
    .next (journalList w 2 (storeGet s w).pageSeq (m.flatMap (·.2))
      (raise w 0x0509 w w l.length (ingSet w { x with swept := if storeState s w = 4 then m else x.swept, sweepAt := s.clk.now } s)))
  else .next s

end Sys2Proof.Machine
end

