-- ==== Sys2Proof/Machine/Prepay.lean ====
section
/-! DEFINITION. Prepayment accounts (chapter 8): charges, vouchers, due scans, supply authorisations and account
operations. -/

namespace Sys2Proof.Machine

/-! ### Accounts and plans (R221, R222) -/

/-- An account's record (Table 8-1); one never opened is zero. -/
def accGet (s : State) (a : Nat) : Bytes := padTo 48 (tabGet [] s.prepay.accounts a)

/-- Replace an account's record; a zero record is not listed. -/
def accSet (a : Nat) (b : Bytes) (s : State) : State :=
  { s with prepay := { s.prepay with
      accounts := tabPut [] a (if b = List.replicate 48 0 then [] else b) s.prepay.accounts } }

/-- Balance. -/
def accBalance (b : Bytes) : Int := sgn 64 (leAt b 0 8)
/-- Supply state. -/
def accState (b : Bytes) : Nat := leAt b 33 1
/-- Plan. -/
def accPlan (b : Bytes) : Nat := leAt b 32 1
/-- Directory index. -/
def accDir (b : Bytes) : Nat := leAt b 28 4

/-- A plan's value in 08.0010 to 08.0014. -/
def planVal (s : State) (k p : Nat) : Int := sgn 64 (obj s (0x08001000 + k * 256 + p))

/-- Table 8-2: 0 CREDIT, 1 LOW, 2 EMERGENCY, 3 EXHAUSTED, the first row that matches. -/
def creditState (s : State) (b : Bytes) : Nat :=
  let p := accPlan b
  if accBalance b ≤ -planVal s 0 p then 3 else if accBalance b ≤ 0 then 2
  else if accBalance b ≤ planVal s 1 p then 1 else 0

/-- The plan's flags. -/
def planFlag (s : State) (b : Bytes) (i : Nat) : Bool := bit (obj s (0x08001400 + accPlan b)) i

/-- R234 without friendliness: 1 a disconnect, 2 a reconnect, 0 nothing. -/
def actionBase (s : State) (b : Bytes) : Nat :=
  if accState b = 1 ∧ planFlag s b 0 ∧ accBalance b ≤ -planVal s 0 (accPlan b) then 1
  else if accState b = 3 ∧ planVal s 2 (accPlan b) ≤ accBalance b then 2 else 0

/-- R234: the action due at an LTIME. -/
def actionDue (s : State) (b : Bytes) (t : Nat) : Nat :=
  if actionBase s b = 1 ∧ planFlag s b 1 ∧ friendly s t then 0 else actionBase s b

/-- A counter of 08.0300. -/
def prepayCount (k : Nat) (s : State) : State := objPut (0x08030000 + k) (obj s (0x08030000 + k) + 1) s

/-- A commit of a prepayment request: its extents of six words, and its records. -/
def prepayCommit (extents : Nat) (rs : List BookNew) (s : State) : State :=
  commitPush { tick := nextTick s, at_ := tickCycle s, cls := 3, sub := 0, words := 6 * extents + 8 * rs.length
               extents := extents + rs.length, records := rs, payload := payloadNone } s

/-- The Register Book records and the Logbook event that a change of credit state writes (R228). -/
def creditEvents (a old new : Nat) (bal : Nat) : List BookNew :=
  if old < new ∧ new = 2 then [bookNew 0x0804 0 a bal 0] else if old < new ∧ new = 3 then [bookNew 0x0805 0 a bal 0] else []

/-! ### Charging (R225 to R228) -/

/-- A staged record by its sequence. -/
def stagedRec (s : State) (w seq : Nat) : Bytes := dramRead s (stgBase s w + seq % 1048576 * 128) 128

/-- The charge item of a staged record (Table 8-4). -/
def chargeBytes (r : Bytes) : Bytes :=
  slice r 0 8 ++ slice r 36 4 ++ slice r 8 4 ++ slice r 40 8 ++ slice r 48 2 ++ slice r 50 1 ++ slice r 13 1 ++ toLe 4 0 ++ slice r 56 48

/-- R226: judge one item `r` (Table 8-4) against its account: outcome and the record with map and last end. -/
def judgeItem (s : State) (acc r : Bytes) : Nat × Bytes :=
  let endT := leAt r 16 8
  let mins := leAt r 24 2
  let L := leAt acc 8 8
  let map := leAt acc 16 8
  let lam := mins * 60000000000
  if accState acc = 0 ∨ accDir acc ≠ leAt r 12 4 then (3, acc)
  else if leAt r 26 1 ≤ (planVal s 3 (accPlan acc)).toNat then (4, acc)
  else if mins ≠ leAt acc 34 1 then
    if later64 endT L then (0, putLe (putLe (putLe acc 16 8 1) 8 8 endT) 34 1 mins) else (2, acc)
  else if later64 endT L then
    let k := (endT + two64 - L) % two64 / lam
    (0, putLe (putLe acc 16 8 (if 64 ≤ k then 1 else (map * 2 ^ k + 1) % two64)) 8 8 endT)
  else
    let i := (L + two64 - endT) % two64 / lam
    if 64 ≤ i then (2, acc)
    else if bit map i then (1, acc)
    else (0, putLe acc 16 8 (map ||| 2 ^ i))

/-- R227: price an item and take it from the balance, which holds at -2^63: the record, and whether it would have passed. What
a negative charge leaves of a balance that would pass 2^63 - 1 is a free value. (DESIGN CHOICE, log 260) -/
def priceItem (s : State) (acc r : Bytes) : Bytes × Bool :=
  let e := leAt r (32 + 8 * (planVal s 3 (accPlan acc)).toNat) 8
  let rc := rateAtTime s ((leAt r 16 8 + two64 - 1000000) % two64)
  let x : Int := (e : Int) * priceOf rc.2 rc.1 + leAt acc 24 4
  let c := x / 1000000000
  let b := accBalance acc - c
  let low : Int := -(2 ^ 63 : Int)
  let kept := if b < low then unsgn 64 low else if (2 ^ 63 : Int) ≤ b then (freeWord s).1.toNat else unsgn 64 b
  (putLe (putLe acc 24 4 (x - c * 1000000000).toNat) 0 8 kept, decide (b < low))

/-- The number under which MRAM keeps that an account's balance is held (R227). -/
def heldKey (a : Nat) : Nat := 0x100000000 + a

/-- One item of a charge request: its 16 reply bytes, its records, and the state after it (R226 to R228). The saturation is
recorded once while the balance is held. (DESIGN CHOICE, log 257) -/
def chargeItem (r : Bytes) (s : State) : Bytes × List BookNew × State :=
  let a := leAt r 8 4
  let acc := accGet s a
  let j := judgeItem s acc r
  let p := if j.1 = 0 then priceItem s j.2 r else (j.2, false)
  let old := creditState s acc
  let new := creditState s p.1
  let first := p.2 && obj s (heldKey a) == 0
  let s0 := if j.1 = 0 then objPut (heldKey a) (b2n p.2) (accSet a p.1 { s with free := s.free + 1 }) else s
  let s1 := prepayCount j.1 s0
  let s2 := if j.1 = 0 ∧ old < new ∧ new = 1 then keeperRaise 0x0803 0 a (leAt p.1 0 8) s1 else s1
  let due := b2n (actionDue s2 p.1 (tickNow s2) != 0)
  let s3 := if due = 1 then srRaise 8 s2 else s2
  (toLe 1 j.1 ++ toLe 1 new ++ toLe 1 due ++ toLe 5 0 ++ slice p.1 0 8,
   (if j.1 = 0 then creditEvents a old new (leAt p.1 0 8) else []) ++
     (if first then [bookNew 0x0830 0 a (ltimeNs s) 0] else []), s3)

/-- A wing with no charge request. -/
def chargeDefault : ChargeReq := { items := [], sent := false, retryAt := none, last := 0 }

/-- A wing's charge request. -/
def chargeGet (s : State) (w : Nat) : ChargeReq := tabGet chargeDefault s.prepay.charges w

/-- Replace a wing's charge request. -/
def chargeSet (w : Nat) (x : ChargeReq) (s : State) : State :=
  { s with prepay := { s.prepay with charges := tabPut chargeDefault w x s.prepay.charges } }

/-- The staged INTERVAL records that require CHARGE and are not yet in a request, in staging order. -/
def chargeWaiting (s : State) (w : Nat) : List Unrel :=
  (ingGet s w).unrel.filter (fun u => bit u.req 1 && !bit u.conf 1 && later64 u.seq (chargeGet s w).last)

/-- R225: a charge request with its items (Table 8-4), by slot 4w + 3. -/
def chargeSubmit (w : Nat) (s : State) : State :=
  hwSubmit (4 * w + 3) 0x0881 ((chargeGet s w).items.flatMap (fun q => chargeBytes (stagedRec s w q))) s

/-- The items of the charge request in a slot. -/
def chargeOf : Nat → Bytes → List Bytes
  | 0, _ => []
  | n + 1, b => if b.isEmpty then [] else b.take 80 :: chargeOf n (b.drop 80)

/-- R225: a charge request is sent when 8 items wait, 10,000 FCLK after the first, or again 1 ms after a NOPOWER or
BADREQ reply; one is outstanding at most. -/
def execChargeSend (t w : Nat) (s : State) : Host.Outcome State Fault Refusal :=
  let s := atTime t s
  let x := chargeGet s w
  if !(w < s.part.wings) ∨ x.sent ∨ (srReach s).isNone then .next s
  else match x.retryAt with
    | some r => if r ≤ s.clk.now then .next (chargeSubmit w (chargeSet w { x with sent := true, retryAt := none } s)) else .next s
    | none =>
      let l := (chargeWaiting s w).take 8
      match l with
      | [] => .next s
      | u :: _ =>
        if l.length = 8 ∨ u.at_ + 10000 ≤ s.clk.now then
          .next (chargeSubmit w (chargeSet w { x with items := l.map (·.seq), sent := true, last := (l.getLast?.map (·.seq)).getD x.last } s))
        else .next s

/-- Accounts of a request's items, each once. -/
def distinctOf : List Nat → List Nat
  | [] => []
  | a :: l => a :: (distinctOf l).filter (· != a)

/-- Items of a request in order. -/
def chargeItems : List Bytes → State → Bytes × List BookNew × State
  | [], s => ([], [], s)
  | q :: qs, s =>
    let r := chargeItem q s
    let m := chargeItems qs r.2.2
    (r.1 ++ m.1, r.2.1 ++ m.2.1, m.2.2)

/-- R225: a charge reply of NOPOWER or BADREQ: counted, and the same items are sent again 1 ms later. -/
def chargeAgain (w st : Nat) (s : State) : State :=
  countRefusal 0x0881 st (reqServed w 0x0881 st []
    (chargeSet w { chargeGet s w with sent := false, retryAt := some (s.clk.now + 1000000) } s))

/-- R226 to R228, R225: kind 0x0881: every item judged and priced in one commit; CHARGE is confirmed for each. In a
state without power the reply is NOPOWER. -/
def execCharge (t w : Nat) (s : State) : Host.Outcome State Fault Refusal :=
  let s := atTime t s
  let x := chargeGet s w
  if !x.sent ∨ !s.sr.doors.head?.any (fun d => d.slot == 4 * w + 3 && decide (d.at_ ≤ s.clk.now)) then .next s
  else if noPower s then .next (chargeAgain w 5 s)
  else
    let l := chargeOf 8 ((reqSlot s (4 * w + 3)).words.drop 32)
    let n := (distinctOf (l.map (fun r => leAt r 8 4))).length
    let r := chargeItems l s
    let s1 := prepayCommit n r.2.1 (chargeSet w { x with items := [], sent := false } r.2.2)
    .next (reqServed w 0x0881 0 r.1 (x.items.foldl (fun s q => confirmDest w q 2 s) s1))

/-! ### Vouchers (R229 to R232) -/

/-- The latest LTIME the Keeper has reached (R230, 5). -/
def tMax (s : State) : Nat := if later64 (obj s 0x07007900) (ltimeNs s) then obj s 0x07007900 else ltimeNs s

/-- The candidate slots of a voucher ID (R231). -/
def candidates (id : Nat) : List Nat := (List.range 64).map (fun i => (id + i) % 131072)

/-- The store holds an ID (R231). -/
def storeHolds (s : State) (id : Nat) : Bool :=
  (candidates id).any (fun k => let e := tabGet (0, 0) s.prepay.store k
    e.1 == id && later64 e.2 (tMax s))

/-- The first free candidate (R231). -/
def storeFree (s : State) (id : Nat) : Option Nat :=
  (candidates id).find? (fun k => let e := tabGet (0, 0) s.prepay.store k
    e.1 == 0 || notBefore64 (tMax s) e.2)

/-- Entries held, 08.0201.00. -/
def storeHeld (s : State) : Nat := (s.prepay.store.filter (fun e => e.2.1 != 0 && later64 e.2.2 (tMax s))).length

/-- R230's checks in their order. (DEDUCED, log 122) -/
def voucherChecks (v : Bytes) (sigOk : Bool) (s : State) : List (Bool × Nat) :=
  let id := beAt v 0 8
  let amount := sgn 64 (beAt v 32 8)
  let till := beAt v 40 8
  let acc := accGet s (beAt v 24 4)
  [(decide (v.length = 112), stLENGTH),
   (decide (id ≠ 0 ∧ beAt v 24 4 < 262144 ∧ beAt v 28 4 = 0 ∧ 1 ≤ amount ∧ amount ≤ 1000000000000), stRANGE),
   (decide (slice v 8 16 = oct s 0x00000300), stWRONG_UNIT),
   (sigOk, stSIGNATURE),
   (later64 till (tMax s) && notBefore64 (ltimeNs s + obj s 0x08003100 * 86400000000000) till, stVALIDITY),
   (!storeHolds s id, stUSED),
   (decide (accState acc ≠ 0), stNOT_OPEN),
   (decide (accBalance acc + amount < (2 ^ 63 : Int)), stOVERFLOW),
   ((storeFree s id).isSome, stSTORE_FULL)]

/-- R232: a voucher applied: the amount added, its store entry and record 0x0820 in one commit; the reply gives the part
repaid, the new balance and the credit state. -/
def voucherApply (v : Bytes) (s : State) : Nat × Bytes × State :=
  let id := beAt v 0 8
  let a := beAt v 24 4
  let acc := accGet s a
  let amount := sgn 64 (beAt v 32 8)
  let b := accBalance acc + amount
  let acc' := putLe acc 0 8 (unsgn 64 b)
  let repaid := min amount (max 0 (-accBalance acc))
  let s1 := accSet a acc' { s with prepay := { s.prepay with
    store := tabPut (0, 0) ((storeFree s id).getD 0) (id, beAt v 40 8) s.prepay.store } }
  let s2 := prepayCommit 2 [bookNew 0x0820 0 a id (unsgn 64 b)] (prepayCount 5 (objPut (heldKey a) 0 s1))
  let s3 := if actionDue s2 acc' (tickNow s2) ≠ 0 then srRaise 8 s2 else s2
  (stDONE, toBe 8 (unsgn 64 repaid) ++ toBe 8 (unsgn 64 b) ++ toBe 1 (creditState s3 acc'), s3)

/-- A voucher served by the Keeper: the first failing check is returned and counted, with event 0x0821.
(DEDUCED, log 123) -/
def voucherServe (v : Bytes) (sigOk : Bool) (s : State) : Nat × Bytes × State :=
  match firstFail (voucherChecks v sigOk s) with
  | some st =>
    let s1 := prepayCount 6 (keeperRaise 0x0821 0 (beAt v 0 8) st s)
    (st, [], if st = stSTORE_FULL then keeperRaise 0x0822 0 (beAt v 24 4) (storeHeld s) s1 else s1)
  | none => if noPower s then (stNOPOWER, [], s) else voucherApply v s

/-- R229 to R232: executing 08.0200.00. -/
def execVoucher (t : Nat) (via : Via) (rec : Bytes) (sigOk : Bool) (s : State) : Host.Outcome State Fault Refusal :=
  let s := atTime t s
  .next (keeperServe via 0x08020000 0x0882 (voucherServe rec sigOk) s)

/-! ### Disconnect and reconnect (R234 to R240) -/

/-- The accounts with an action due from a starting account, ascending. -/
def dueFrom (s : State) (start : Nat) : List (Nat × Nat) :=
  (s.prepay.accounts.filter (fun e => decide (start ≤ e.1) && actionDue s (padTo 48 e.2) (tickNow s) != 0)).map
    (fun e => (e.1, actionDue s (padTo 48 e.2) (tickNow s)))

/-- R235: a due scan, kind 0x0885: up to 64 accounts with an action due, and where the next scan resumes.
(DEDUCED, log 124) -/
def execDueScan (t start : Nat) (s : State) : Host.Outcome State Fault Refusal :=
  let s := atTime t s
  if !keeperFree 0 0x0885 s then .next s else
  let l := dueFrom s start
  let resume := match l[64]? with
    | some e => e.1
    | none => 0
  let body := ((l.take 64).map (fun e => toLe 4 e.1 ++ toLe 4 e.2)).flatten ++ toLe 8 resume
  .next (reqServed 0 0x0885 0 body { s with prepay := { s.prepay with scan := l.take 64, resume := resume } })

/-- R237, condition 4: the lease record the gate sent verifies and names this part and the group, the PTIME of the gate's check
lies within 1 s of LTIME, and the lease's span has not ended at the tick. (DEDUCED, log 258) -/
def leaseHolds (g gateP : Nat) (sigOk : Bool) (c : Lease) (stop : Nat) (s : State) : Bool :=
  let d := sgn 64 (gateP + two64 - tickNow s)
  sigOk && slice c.record 24 16 == oct s 0x00000300 && beAt c.record 16 2 == obj s 0x0B040000 && beAt c.record 0 8 == g &&
    decide (d.natAbs ≤ 1000000000) && later64 stop (tickNow s)

/-- R237's conditions in their order, with the statuses of R242. -/
def supplyChecks (action : Nat) (acc : Bytes) (leaseOk : Bool) (s : State) : List (Bool × Nat) :=
  [(decide (accState acc = (if action = 1 then 1 else 3)), 15),
   (actionBase s acc == action, 12),
   (!(action == 1 && planFlag s acc 1 && friendly s (tickNow s)), 13),
   (leaseOk, 14)]

/-- The supply command (Table 8-6). -/
def supplyCommand (action dir number issued till : Nat) (s : State) : Bytes :=
  let h := toBe 2 (obj s 0x0B040000) ++ toBe 1 action ++ toBe 1 0 ++ toBe 4 dir ++ toBe 8 number ++ toBe 8 issued ++ toBe 8 till
  h ++ padTo 64 (Config.signCommand h)

/-- R238: a supply authorisation issued in one commit; its command is the reply. -/
def supplyIssue (w a action : Nat) (s : State) : State :=
  let acc := accGet s a
  let n := obj s 0x08003400
  let l := ltimeNs s
  let till := l + obj s 0x08000400 * 1000000000
  let acc' := putLe (putLe (putLe acc 33 1 (if action = 1 then 2 else 4)) 36 4 n) 40 8 l
  let s1 := accSet a acc' (objPut 0x08003400 (n + 1) { s with prepay := { s.prepay with
    orders := tabIns a { number := n, till := till, action := action } s.prepay.orders } })
  reqServed w 0x0883 0 (supplyCommand action (accDir acc) n l till s1)
    (prepayCommit 2 [bookNew (if action = 1 then 0x0810 else 0x0811) 0 a n 0] (prepayCount 7 s1))

/-- R237, R238: the command gate checks the endpoint's lease at `t0`, and the Keeper decides the request it sends, kind 0x0883,
at `t`. -/
def execSupplyAuth (t0 t w account action : Nat) (leaseSigOk : Bool) (s : State) : Host.Outcome State Fault Refusal :=
  let s := atTime t0 s
  if !(w < s.part.wings ∧ account < 262144 ∧ (action = 1 ∨ action = 2)) ∨ !keeperFree w 0x0883 s then .next s
  else
    let grp := leAt (entryOf s (accDir (accGet s account))) 160 8
    let x := groupGet s grp
    let g := gate w grp s
    match x.cur with
    | none => .next g.2
    | some c =>
      if !g.1 then .next g.2
      else
        let s1 := atTime t g.2
        let ok := leaseHolds grp (ptimeNs s) leaseSigOk c (spanEnd c x.next) s1
        match firstFail (supplyChecks action (accGet s1 account) ok s1) with
        | some st => .next (reqServed w 0x0883 st [] (prepayCount 8 (keeperRaise 0x0814 0 account st s1)))
        | none =>
          if noPower s1 then .next (reqServed w 0x0883 5 [] s1) else .next (supplyIssue w account action s1)

/-- An account that was never authorised. -/
def orderDefault : SupplyOrder := { number := 0, till := 0, action := 0 }

/-- A supply state set, with the LTIME of its change. -/
def supplyState (a st : Nat) (s : State) : State := accSet a (putLe (putLe (accGet s a) 33 1 st) 40 8 (ltimeNs s)) s

/-- R239: a confirmation, kind 0x0884: applied when it names the account's last authorisation, else STATE.
(DEDUCED, log 125) -/
def execSupplyConfirm (t w account number result : Nat) (s : State) : Host.Outcome State Fault Refusal :=
  let s := atTime t s
  let o := tabGet orderDefault s.prepay.orders account
  let acc := accGet s account
  if !keeperFree w 0x0884 s then .next s
  else if 1 < result then .next (reqServed w 0x0884 1 [] s)
  else if o = orderDefault ∨ number % 4294967296 ≠ leAt acc 36 4 ∨ accState acc = 0 then .next (reqServed w 0x0884 15 [] s)
  else if noPower s then .next (reqServed w 0x0884 5 [] s)
  else
    let st := if (o.action == 1) == (result == 0) then 3 else 1
    .next (reqServed w 0x0884 0 []
      (prepayCommit 1 [bookNew 0x0812 0 account (result * 2 ^ 56 + number % 4294967296) 0] (supplyState account st s)))

/-- R240: a pending state with no confirmation lapses at its valid-until time; record 0x0813. -/
def execAuthorisationLapse (t account : Nat) (s : State) : Host.Outcome State Fault Refusal :=
  let s := atTime t s
  let o := tabGet orderDefault s.prepay.orders account
  let st := accState (accGet s account)
  if (st = 2 ∨ st = 4) ∧ notBefore64 (tickNow s) o.till then
    .next (prepayCommit 1 [bookNew 0x0813 0 account o.number 0] (prepayCount 9 (supplyState account (if st = 2 then 1 else 3) s)))
  else .next s

/-! ### Account operations (R224, R244) -/

/-- Limits of Table 8-3. -/
def accountOpChecks (r : Bytes) : List (Bool × Nat) :=
  let op := beAt r 0 1
  [(decide (r.length = 16), stLENGTH),
   (decide (1 ≤ op ∧ op ≤ 3 ∧ beAt r 1 1 ≤ 15 ∧ beAt r 3 1 = 0 ∧ beAt r 4 4 < 262144 ∧ beAt r 12 4 = 0), stRANGE),
   (decide (op ≠ 1 ∨ ((beAt r 2 1 = 1 ∨ beAt r 2 1 = 3) ∧ beAt r 8 4 < 1048576)), stRANGE)]

/-- OPEN (R224). -/
def accountOpen (r : Bytes) (s : State) : Nat × Bytes × State :=
  let a := beAt r 4 4
  if accState (accGet s a) ≠ 0 then (stIN_USE, [], s)
  else
    let b := toLe 24 0 ++ toLe 4 0 ++ toLe 4 (beAt r 8 4) ++ toLe 1 (beAt r 1 1) ++ toLe 1 (beAt r 2 1) ++ toLe 6 0 ++ toLe 8 (ltimeNs s)
    let s1 := objPut 0x08000100 (obj s 0x08000100 + 1) (objPut (heldKey a) 0 (accSet a b s))
    (stDONE, [], prepayCommit 2 [bookNew 0x0801 0 a (beAt r 8 4) 0]
      { s1 with prepay := { s1.prepay with orders := tabErase a s1.prepay.orders } })

/-- CLOSE (R224). -/
def accountClose (r : Bytes) (s : State) : Nat × Bytes × State :=
  let a := beAt r 4 4
  let acc := accGet s a
  if accState acc = 2 ∨ accState acc = 4 then (stSTATE, [], s)
  else if accState acc = 0 then (stNOT_OPEN, [], s)
  else
    let s1 := objPut 0x08000100 (obj s 0x08000100 - 1) (accSet a (List.replicate 48 0) s)
    (stDONE, [], prepayCommit 2 [bookNew 0x0802 0 a (leAt acc 0 8) 0] s1)

/-- SETPLAN (R224). -/
def accountPlan (r : Bytes) (s : State) : Nat × Bytes × State :=
  let a := beAt r 4 4
  let acc := accGet s a
  if accState acc = 0 then (stNOT_OPEN, [], s)
  else (stDONE, [], prepayCommit 2 [bookNew 0x0802 0 a (beAt r 1 1) 0] (accSet a (putLe acc 32 1 (beAt r 1 1)) s))

/-- The operation of a record of Table 8-3. (DEDUCED, log 126) -/
def accountOp (r : Bytes) (s : State) : Nat × Bytes × State :=
  if beAt r 0 1 = 1 then accountOpen r s else if beAt r 0 1 = 2 then accountClose r s else accountPlan r s

/-- R224: account operation OPEN. -/
def execOpenAccount (t : Nat) (via : Via) (rec : Bytes) (auth : LegalAuth) (s : State) : Host.Outcome State Fault Refusal :=
  let s := atTime t s
  .next (keeperServe via 0x08010000 0x0886 (checked (accountOpChecks rec ++ [(decide (beAt rec 0 1 = 1), stRANGE)])
    (legalServe 0x08010000 auth (accountOpen rec))) s)

/-- R224: account operation CLOSE. -/
def execCloseAccount (t : Nat) (via : Via) (rec : Bytes) (auth : LegalAuth) (s : State) : Host.Outcome State Fault Refusal :=
  let s := atTime t s
  .next (keeperServe via 0x08010000 0x0886 (checked (accountOpChecks rec ++ [(decide (beAt rec 0 1 = 2), stRANGE)])
    (legalServe 0x08010000 auth (accountClose rec))) s)

/-- R224: account operation SETPLAN. -/
def execSetPlan (t : Nat) (via : Via) (rec : Bytes) (auth : LegalAuth) (s : State) : Host.Outcome State Fault Refusal :=
  let s := atTime t s
  .next (keeperServe via 0x08010000 0x0886 (checked (accountOpChecks rec ++ [(decide (beAt rec 0 1 = 3), stRANGE)])
    (legalServe 0x08010000 auth (accountPlan rec))) s)

/-- R244: executing 08.0101.00: the account's record and its credit state. -/
def execReadAccount (t : Nat) (via : Via) (account : Nat) (s : State) : Host.Outcome State Fault Refusal :=
  let s := atTime t s
  .next (keeperServe via 0x08010100 0x0886 (checked [(decide (account < 262144), stRANGE)]
    (fun s => (stDONE, accGet s account ++ toBe 1 (creditState s (accGet s account)), s))) s)

/-- The friendly-hours image installed (R233). -/
def friendlyWrite (img : Bytes) (s : State) : Nat × Bytes × State :=
  (stDONE, [], legalRecord 0x08002000 (crc32c img) (crc32c (oct s 0x08002000)) 22
    (octPut 0x08002000 img s))

/-- R233's checks: LENGTH, then RANGE. -/
def friendlyChecks (img : Bytes) : List (Bool × Nat) :=
  [(decide (img.length = 176), stLENGTH), (friendlyOk img, stRANGE)]

/-- R233: a LEGAL write of 08.0020.00. -/
def execFriendlyHoursWrite (t : Nat) (via : Via) (img : Bytes) (auth : LegalAuth) (s : State) :
    Host.Outcome State Fault Refusal :=
  let s := atTime t s
  .next (keeperServe via 0x08002000 0x0801 (checked (friendlyChecks img) (legalServe 0x08002000 auth (friendlyWrite img))) s)

end Sys2Proof.Machine
end

