-- ==== Sys2Proof/Machine/Audit.lean ====
section
/-! DEFINITION. Night Audit (chapter 9): folding, assignments, segment tables, the balance, localisation, phase
identification and the jobs that run them. -/

namespace Sys2Proof.Machine

/-- Change the audit state. -/
def auditMod (f : Audit → Audit) (s : State) : State := { s with audit := f s.audit }

/-- PTIME in whole seconds. -/
def ptimeSec (s : State) : Nat := ptimeNs s / 1000000000

/-! ### Audit intervals and endpoint records (R245, R249, R250) -/

/-- The audit interval in force, seconds (R245). -/
def auditLen (s : State) : Nat := obj s 0x09000200 * 60

/-- R245: 15 min while the endpoint interval divides 15, 60 min otherwise. -/
def auditMinutes (endpointMinutes : Nat) : Nat := if 15 % endpointMinutes = 0 then 15 else 60

/-- The first audit interval boundary at or after a TAI second (R245). -/
def auditCeil (s : State) (sec : Nat) : Nat :=
  let a := obj s 0x05002600 % auditLen s
  if sec ≤ a then a else ceilDiv (sec - a) (auditLen s) * auditLen s + a

/-- The hold, 09.0020.00. -/
def auditHold (s : State) : Nat := obj s 0x09002000

/-- The address of an endpoint's audit record (R250). -/
def auditRec (s : State) (i : Nat) : Nat :=
  regF s (naEpCfg (i % s.part.wings)) 63 30 * 1073741824 + i / s.part.wings * 8192

/-- Bytes 0 to 255 of an endpoint's audit record. -/
def auditHead (s : State) (i : Nat) : Bytes := dramRead s (auditRec s i) 256

/-- An assignment's six bytes: group, phase, import channel, export channel, segment. -/
abbrev noAssign : Bytes := [0xFF, 0, 0, 0, 0, 0]

/-- R249: the assignment in force for an interval that ends at a TAI second. -/
def assignAt (s : State) (i ends : Nat) : Bytes :=
  let h := auditHead s i
  let cur := if bit (leAt h 10 2) 0 then slice h 4 6 else noAssign
  let old := if bit (leAt h 10 2) 1 ∧ notBefore64 (leAt h 24 8) (ends * 1000000000) then slice h 12 6 else cur
  match (s.audit.pend.find? (fun e => e.1 == i)).map (·.2) with
  | some (b, from_) => if from_ < ends then b else old
  | none => old

/-- Night Audit is enabled on a wing (R252). -/
def auditOn (s : State) (w : Nat) : Bool := obj s 0x09000100 == 1 && regF s (naCtl w) 0 0 == 1

/-- 09.0001.00 and NA_CTL.EN tell when Night Audit is disabled (R252, R263): a span opens or closes. -/
def auditSpan (s : State) : State :=
  let on := (List.range s.part.wings).all (fun w => auditOn s w)
  match s.audit.off with
  | (a, none) :: l => if on then auditMod (fun x => { x with off := (a, some (ptimeNs s)) :: l }) s else s
  | l => if on then s else auditMod (fun x => { x with off := (ptimeNs s, none) :: l }) s

/-! ### Folding (R252 to R255) -/

/-- The next staged record of a wing that requires AUDIT, of the kind given, when its fold is complete: its staging entry
and the cycle its fold began (R252). (DEDUCED, log 129) -/
def foldNext (s : State) (w kind d : Nat) : Option (Unrel × Nat) :=
  match (ingGet s w).unrel.find? (fun u => bit u.req 2 && decide (tabGet 0 s.audit.taken w < u.seq)) with
  | none => none
  | some u =>
    let b := max u.at_ (tabGet 0 s.audit.lastB w + d)
    if leAt (stagedRec s w u.seq) 12 1 = kind ∧ b + 360 ≤ s.clk.now then some (u, b) else none

/-- R252: a fold ends: its start and record are remembered, AUDIT is confirmed. -/
def foldDone (w : Nat) (u : Unrel) (b : Nat) (s : State) : State :=
  confirmDest w u.seq 4 (auditMod (fun a => { a with
    lastB := tabPut 0 w b a.lastB, taken := tabPut 0 w u.seq a.taken }) s)

/-- The fold map after bit `i` is set, or shifted by `k` intervals with bit 0 set (R253). -/
def mapShift (m k : Nat) : Nat := if 2048 ≤ k then 1 else (m * 2 ^ k + 1) % 2 ^ 2048

/-- The deadline of an audit interval has come at a PTIME, or the interval was closed before its deadline (R253, R256). -/
def auditLate (s : State) (ends pt : Nat) : Bool :=
  notBefore64 pt ((ends + auditHold s) * 1000000000) || decide (ends < s.audit.next)

/-- R253: the outcome of an INTERVAL record, by its counter, and the new last end and fold map. -/
def foldJudge (s : State) (r : Bytes) (ptimeB : Nat) : Nat × Nat × Nat :=
  let i := leAt r 8 4
  let endT := leAt r 40 8
  let lam := leAt r 48 2 * 60000000000
  let ends := auditCeil s (endT / 1000000000)
  let a := assignAt s i ends
  let h := auditHead s i
  let l := leAt h 32 8
  let m := leNat (dramRead s (auditRec s i + 256) 256)
  let k := (l + two64 - endT) % two64 / lam
  let begins := (ends * 1000000000 + two64 - auditLen s * 1000000000) % two64
  if leAt a 0 1 = 255 then (3, l, m)
  else if auditLate s ends ptimeB ∨ !notBefore64 begins s.audit.cold then (2, l, m)
  else if leAt r 50 1 ≤ leAt a 2 1 ∨ (leAt a 3 1 ≠ 255 ∧ leAt r 50 1 ≤ leAt a 3 1) then (4, l, m)
  else if later64 endT l then (0, endT, mapShift m ((endT + two64 - l) % two64 / lam))
  else if 2048 ≤ k then (2, l, m)
  else if bit m k then (1, l, m)
  else (0, l, m ||| 2 ^ k)

/-- Add to one accumulator: thirds of a uWh, and one to its count. (DESIGN CHOICE, log 130) -/
def cellAdd (k : Nat) (e : Int) (x : AuditInt) : AuditInt :=
  { x with cells := tabMod (0, 0) k (fun c => (c.1 + e, c.2 + 1)) x.cells }

/-- R255: room for a new interval: with all 512 in use, the oldest past its deadline is closed for OVERRUN: its accumulators on
the wing are freed, and its result carries the reason. (DEDUCED, log 262) -/
def foldRoom (w : Nat) (l : List AuditInt) (s : State) : List AuditInt × State :=
  if l.length < 512 then (l, s)
  else match l with
    | [] => (l, s)
    | o :: rest =>
      if auditLate s o.ends (ptimeNs s) then
        (rest, raise w 0x0905 w w (o.ends * 1000000000) (count w (tallyNa 13) (regPutF (naStat w) 3 3 1
          (markSet (naStat w) 3 (auditMod (fun a => { a with early := (o.ends, 4) :: a.early }) s)))))
      else (l, s)

/-- An interval's accumulators placed among a wing's, by end. -/
def intInsert (x : AuditInt) : List AuditInt → List AuditInt
  | [] => [x]
  | y :: ys => if x.ends < y.ends then x :: y :: ys else y :: intInsert x ys

/-- R253: a record's net energy is added to its accumulators; a three-phase endpoint adds a third to each phase. -/
def foldAdd (w : Nat) (r a : Bytes) (ends : Nat) (s : State) : State :=
  let val := fun c => (leAt r (56 + 8 * c) 8 : Int)
  let n := val (leAt a 2 1) - (if leAt a 3 1 = 255 then 0 else val (leAt a 3 1))
  let g := leAt a 0 1
  let ph := leAt a 1 1
  let seg := leAt a 4 2
  let key := fun p => (g * 3 + p) * 4096 + seg
  let l := tabGet [] s.audit.ints w
  let doubt := bit (leAt r 13 1) 3
  let upd := fun (x : AuditInt) =>
    let x1 := if ph = 3 then (List.range 3).foldl (fun x p => cellAdd (key p) n x) x else cellAdd (key ph) (3 * n) x
    { x1 with doubt := x1.doubt || doubt }
  if l.any (fun x => x.ends == ends) then
    auditMod (fun a => { a with ints := tabPut [] w (l.map (fun x => if x.ends = ends then upd x else x)) a.ints }) s
  else
    let q := foldRoom w l s
    auditMod (fun a => { a with
      ints := tabPut [] w (intInsert (upd { ends := ends, cells := [], doubt := false }) q.1) a.ints }) q.2

/-- R252, R253, R255: the fold of the next INTERVAL record of a wing, complete 360 FCLK after it began. -/
def execIntervalFold (t w : Nat) (s : State) : Host.Outcome State Fault Refusal :=
  let s := atTime t s
  match foldNext s w 1 32 with
  | none => .next s
  | some (u, b) =>
    let r := stagedRec s w u.seq
    let i := leAt r 8 4
    if !auditOn s w then .next (foldDone w u b (count w (tallyNa 5) s))
    else
      let j := foldJudge s r (ptimeAt s b)
      let s1 := count w (tallyNa j.1) s
      if j.1 = 0 then
        let ends := auditCeil s (leAt r 40 8 / 1000000000)
        let s2 := dramWrite (auditRec s i + 32) (toLe 8 j.2.1) (dramWrite (auditRec s i + 256) (toLe 256 j.2.2) s1)
        .next (foldDone w u b (foldAdd w r (assignAt s i ends) ends s2))
      else .next (foldDone w u b s1)

/-- S in TAI seconds of the day (R254). -/
def dailyS (s : State) : Nat := obj s 0x09003000 + obj s 0x05002600

/-- The identification window of a TAI second, by number plus one (R254). -/
def windowOf (s : State) (sec : Nat) : Nat := if sec < dailyS s then 0 else (sec - dailyS s) / 86400 + 1

/-- R254, R266: one minute of a VOLTAGE record at a TAI second: its counter, and where it is stored. A minute of the window in
which a cold start ended is late, as that window is skipped. -/
def minuteJudge (s : State) (w i start at_ : Nat) : Nat × Nat :=
  let n := windowOf s start
  let now := windowOf s at_
  let addr := auditRec s i + 512 + 2880 * ((n + 1) % 2) + 2 * (((start + 86400 - dailyS s % 86400) % 86400) / 60)
  if now < n then (9, addr)
  else if n + 1 < now ∨ n < tabGet 0 s.audit.begun w ∨ n ≤ windowOf s (s.audit.cold / 1000000000) then (8, addr)
  else if leNat (dramRead s addr 2) ≠ 0 then (7, addr)
  else (6, addr)

/-- R252, R254: the fold of the next VOLTAGE record of a wing. -/
def execVoltageFold (t w : Nat) (s : State) : Host.Outcome State Fault Refusal :=
  let s := atTime t s
  match foldNext s w 2 64 with
  | none => .next s
  | some (u, b) =>
    let r := stagedRec s w u.seq
    let i := leAt r 8 4
    let first := leAt r 40 8 / 1000000000
    if !auditOn s w then .next (foldDone w u b (count w (tallyNa 5) s))
    else if leAt (assignAt s i (auditCeil s first)) 0 1 = 255 then .next (foldDone w u b (count w (tallyNa 3) s))
    else
      let s1 := (List.range (leAt r 48 2)).foldl (fun s m =>
        let j := minuteJudge s w i (first + 60 * m) (ptimeAt s b / 1000000000)
        let s1 := count w (tallyNa j.1) s
        if j.1 = 6 then dramWrite j.2 (dramRead s (leAt r 104 8 + 2 * m) 2) s1 else s1) (count w (tallyNa 0) s)
      .next (foldDone w u b s1)

/-! ### Assignments (R248, R249) -/

/-- A segment is enabled in the table in use; the root always is. -/
def segOn (s : State) (g seg : Nat) : Bool := seg == 0 || (tabGet none (s.audit.segs.map (fun e => (e.1, some e.2))) (g * 4096 + seg)).isSome

/-- Limits of Table 9-1. -/
def assignLimits (s : State) (r : Bytes) : Bool :=
  let g := beAt r 4 1
  decide (beAt r 0 4 < 1048576 ∧ (g ≤ 1 ∨ g = 255) ∧ beAt r 5 1 ≤ 3 ∧ beAt r 6 1 ≤ 5 ∧ (beAt r 7 1 ≤ 5 ∨ beAt r 7 1 = 255) ∧
    beAt r 7 1 ≠ beAt r 6 1 ∧ beAt r 8 2 < 4096 ∧ beAt r 10 6 = 0) && (g == 255 || segOn s g (beAt r 8 2))

/-- R248, 5: the previous assignment is still needed. -/
def assignBusy (s : State) (i : Nat) : Bool :=
  let h := auditHead s i
  s.audit.pend.any (fun e => e.1 == i) ||
    (bit (leAt h 10 2) 1 && !notBefore64 (ptimeNs s) (leAt h 24 8 + auditHold s * 1000000000))

/-- R249: a new assignment is recorded, to take effect at the next audit interval boundary; the journal keeps it. -/
def assignNew (i : Nat) (a : Bytes) (s : State) : State :=
  let b := auditCeil s (ptimeSec s + 1)
  let s1 := auditMod (fun x => { x with pend := tabIns i (a, b) x.pend, kept := tabIns i a x.kept }) s
  let w := i % s.part.wings
  journalList w 3 (storeGet s w).pageSeq
    ((s1.audit.kept.filter (fun e => e.1 % s.part.wings == w)).flatMap (fun e => toLe 4 e.1 ++ e.2)) s1

/-- An assignment's six bytes from its record (Table 9-1). -/
def assignBytes (r : Bytes) : Bytes :=
  toLe 1 (beAt r 4 1) ++ toLe 1 (beAt r 5 1) ++ toLe 1 (beAt r 6 1) ++ toLe 1 (beAt r 7 1) ++ toLe 2 (beAt r 8 2)

/-- R248: executing 09.0100.00. -/
def execAssignEndpoint (t : Nat) (via : Via) (rec : Bytes) (s : State) : Host.Outcome State Fault Refusal :=
  let s := atTime t s
  let i := beAt rec 0 4
  .next (serve via 0x09010000 (fun s => checked
    [(decide (rec.length = 16), stLENGTH), (assignLimits s rec, stRANGE), (provisioned s i, stNOT_PROVISIONED),
     (bit (entFlags (entryOf s i)) 6, stNOT_AUDIT), (!assignBusy s i, stBUSY)]
    (fun s => (stDONE, [], assignNew i (assignBytes rec) s)) s) s)

/-- R249: a new assignment takes effect at its boundary: the one before it is held as the previous. An endpoint with no
identification yet has none. (DEDUCED, log 261) -/
def execAssignmentEffect (t i : Nat) (s : State) : Host.Outcome State Fault Refusal :=
  let s := atTime t s
  match (s.audit.pend.find? (fun e => e.1 == i)).map (·.2) with
  | none => .next s
  | some (a, b) =>
    if ptimeSec s < b then .next s
    else
      let h := auditHead s i
      let old := if bit (leAt h 10 2) 0 then slice h 4 6 else noAssign
      let fl := leAt h 10 2 / 4 * 4 + b2n (decide (leAt a 0 1 ≠ 255)) + 2
      let h1 := toLe 4 i ++ padTo 6 a ++ toLe 2 fl ++ padTo 6 old ++ toLe 6 0 ++ toLe 8 (b * 1000000000)
      let s1 := dramWrite (auditRec s i) h1 (auditMod (fun x => { x with pend := tabErase i x.pend }) s)
      .next (if leAt h 40 8 = 0 then dramWrite (auditRec s i + 48) [0xFF] s1 else s1)

/-! ### Segment tables (R246, R247) -/

/-- The object of a pending segment's sub (Table 9-19). -/
def segObj (g seg sub : Nat) : Nat := 0x09200000 + g * 0x100000 + seg * 256 + sub

/-- The pending table's enabled segments. -/
def segPending (s : State) (g : Nat) : List Nat := (List.range 4096).filter (fun k => k != 0 && obj s (segObj g k 4) == 1)

/-- 100.0 as F64. -/
def f64Hundred : F64 := 0x4059000000000000

/-- R246: an enabled segment's parent is lower and enabled, its resistances in range. -/
def segOk (s : State) (g : Nat) (on : List Nat) (k : Nat) : Bool :=
  let p := obj s (segObj g k 0)
  decide (p < k) && (p == 0 || on.contains p) &&
  (List.range 3).all (fun j =>
    let r := BitVec.ofNat 64 (obj s (segObj g k (1 + j)))
    !f64Special r && f64Le 0 r && f64Le r f64Hundred)

/-- R247: executing 09.0011.0g: the pending table checked whole and committed as the table in use; event 0x0906. -/
def execCommitThePendingSegmentTable (t : Nat) (via : Via) (g : Nat) (s : State) : Host.Outcome State Fault Refusal :=
  let s := atTime t s
  .next (serve via (0x09001100 + g % 256) (fun s =>
    let on := segPending s g
    checked [(on.all (segOk s g on), stRANGE), (!noPower s, stNOPOWER)] (fun s =>
      let keep := s.audit.segs.filter (fun e => decide (e.1 / 4096 ≠ g))
      let segs := on.foldl (fun m k => tabIns (g * 4096 + k)
        { parent := obj s (segObj g k 0), res := (List.range 3).map (fun j => BitVec.ofNat 64 (obj s (segObj g k (1 + j)))) } m) keep
      let n := obj s (0x09001200 + g) + 1
      let s1 := auditMod (fun a => { a with segs := segs, fresh := g :: a.fresh.filter (· != g) }) s
      (stDONE, [], raise 0 0x0906 0 g n (commitOne (objPut (0x09001000 + g) on.length (objPut (0x09001200 + g) n s1)))))
      s) s)

/-! ### Jobs (R262, R263) -/

/-- The published interval records that lie in an audit interval, oldest first (R256). -/
def feederRecs (s : State) (ends len : Nat) : List Bytes :=
  (s.bill.pubs.filter (fun p => decide ((ends - len) * 1000000000 ≤ leAt p 8 8 ∧ leAt p 0 8 ≤ ends * 1000000000))).reverse

/-- R256, FEEDER: the records cover the interval exactly: one of 15 min each, on the grid, with no barred status. -/
def feederOk (s : State) (ends len : Nat) : Bool :=
  let l := feederRecs s ends len
  l.length == len / 900 &&
  (List.range (len / 900)).all (fun k =>
    let r := l.getD k []
    let a := ends - len + 900 * k
    decide (leAt r 8 8 = a * 1000000000 ∧ leAt r 0 8 = (a + 900) * 1000000000 ∧ leAt r 24 2 &&& 0x52F = 0))

/-- The part is in QUIET HOURS: jobs wait (R262). -/
def quiet (s : State) : Bool := s.mode.cur == 2

/-- A job joins those ready; one that waits for QUIET HOURS is counted. -/
def jobReady (j : AuditJob) (w : Nat) (s : State) : State :=
  let s1 := auditMod (fun a => { a with jobs := a.jobs ++ [{ j with waited := quiet s }] }) s
  if quiet s then count w (tallyNa 12) s1 else s1

/-- The close jobs of an interval are ready, group 0 before group 1 (R262). -/
def closeReady (ends : Nat) (s : State) : State :=
  let j := fun g => { kind := 1, ends := ends, len := auditLen s, per := obj s 0x09000200 / obj s 0x05002200, who := g
                      feeder := feederOk s ends (auditLen s), waited := false : AuditJob }
  jobReady (j 1) 0 (jobReady (j 0) 0 s)

/-- R262, Table 9-6: the close jobs of the next audit interval become ready at its deadline; the identification jobs of the next
window at its end plus the hold. After a cold start the first interval is the oldest whose deadline has not passed, and
the first window the one after that in progress (R266). -/
def execAuditJobReady (t : Nat) (s : State) : Host.Outcome State Fault Refusal :=
  let s := atTime t s
  let cold := s.audit.cold / 1000000000
  let next := if s.audit.next = 0 then auditCeil s (cold + 1 - auditHold s) else s.audit.next
  let win := if s.audit.window = 0 then (windowOf s cold + 1) * 86400 + dailyS s else s.audit.window
  let now := ptimeSec s
  let due := min next win + auditHold s ≤ now
  if due ∧ next ≤ win then
    .next (closeReady next (auditMod (fun a => { a with next := next + auditLen s, window := win }) s))
  else if due then
    .next (eachWing (fun w s => jobReady { kind := 3, ends := win, len := 86400, per := 0, who := w, feeder := false, waited := false } w s)
      (auditMod (fun a => { a with next := next, window := win + 86400 }) s))
  else .next (auditMod (fun a => { a with next := next, window := win }) s)

/-- The endpoints of a group homed on a wing, as assigned for an interval. -/
def groupEndpoints (s : State) (w g ends : Nat) : List Nat :=
  (homedIndices s w).filter (fun i => bit (entFlags (entryOf s i)) 6 && leAt (assignAt s i ends) 0 1 == g)

/-- The lanes a job runs on: those in force as it starts. Between the end of QUIET HOURS and the interval boundary at which the
new count takes effect none are in force, and no job starts. (DESIGN CHOICE, log 264) -/
def auditLanes (s : State) : Nat := s.mode.lanes

/-- The segments of a group in a table, ascending. (DEDUCED, log 131) -/
def groupSegs (segs : Tab Seg) (g : Nat) : List (Nat × Seg) :=
  (segs.filter (fun e => decide (e.1 / 4096 = g))).map (fun e => (e.1 % 4096, e.2))

/-- T(B): FCLK to move `b` bytes one hop in AUDIT phases (R263). -/
def auditMove (b : Nat) : Nat := 16 * ceilDiv b 16 + 8

/-- Audit intervals of a day (R258). -/
def auditQ (s : State) : Nat := if auditLen s = 900 then 96 else 24

/-- The audit interval's end is a daily instant S (R260). -/
def isDaily (s : State) (ends : Nat) : Bool := decide (ends % 86400 = dailyS s % 86400)

/-- Table 9-7: the time of a group's close job. -/
def closeTime (s : State) (g ends segs : Nat) : Nat :=
  let l := auditLanes s
  let k := obj s 0x09005000
  let steps := Nat.log2 s.part.wings
  let m := maxOf ((List.range s.part.wings).map (fun w => (groupEndpoints s w g ends).length))
  steps * auditMove (24 * segs) + (2000 + ceilDiv (18 * segs) l) + steps * auditMove (24 * segs) + (1000 + ceilDiv (16 * m) l) +
  steps * auditMove (48 * segs) + (2000 + ceilDiv (6 * segs + 12 * k * k) l) +
  (if isDaily s ends then 2000 + ceilDiv (segs * auditQ s + auditQ s * 12 * k * k) l else 0)

/-- No identification runs on any wing. -/
def noIdent (s : State) : Bool := s.audit.ident.all (fun e => e.2.isNone)

/-- A fit with no candidates. -/
def fitDefault : AuditFit := { cands := [], theta := [], p := [] }

/-- R262, R247: the first job ready is a close job: it starts at a multiple of 64 FCLK at which every wing is free, with
the table in use; a new table clears its group's fit. -/
def execCloseJobStart (t : Nat) (s : State) : Host.Outcome State Fault Refusal :=
  let s := atTime t s
  match s.audit.jobs with
  | [] => .next s
  | j :: js =>
    if j.kind ≠ 1 ∨ s.audit.close.isSome ∨ !noIdent s ∨ quiet s ∨ auditLanes s = 0 ∨ s.clk.now % 64 ≠ 0 then .next s
    else
      let s1 := if s.audit.fresh.contains j.who then auditMod (fun a => { a with
          fresh := a.fresh.filter (· != j.who)
          fits := (List.range 3).foldl (fun m p => tabPut fitDefault (j.who * 3 + p) fitDefault m) a.fits }) s else s
      let run : AuditRun := { job := j, done := s.clk.now + closeTime s1 j.who j.ends (groupSegs s1.audit.segs j.who).length
                              segs := s1.audit.segs }
      .next (eachWing (fun w s => regSet (naJob w) (BitVec.ofNat 64 ((if isDaily s j.ends then 2 else 1) * 2 ^ 60 + j.ends / 60)) s)
        (auditMod (fun a => { a with jobs := js, close := some run }) s1))

/-! ### The balance (R256, R257) -/

/-- 10^6 and 10^-6 as F64. -/
def f64Mega : F64 := 0x412E848000000000
/-- 10^-6. -/
def f64Micro : F64 := 0x3EB0C6F7A0B5ED8D

/-- The accumulators of an interval on one wing. -/
def intOf (s : State) (w ends : Nat) : Option AuditInt := (tabGet [] s.audit.ints w).find? (fun x => x.ends == ends)

/-- The sum over wings of one accumulator. -/
def cellSum (s : State) (ends k : Nat) : Int × Nat :=
  (List.range s.part.wings).foldl (fun a w => match intOf s w ends with
    | some x => let c := tabGet (0, 0) x.cells k
                (a.1 + c.1, a.2 + c.2)
    | none => a) (0, 0)

/-- The accumulators of a group's phase by segment, summed over wings, the root included. -/
def phaseCells (s : State) (g p ends : Nat) (segs : List (Nat × Seg)) : Tab (Int × Nat) :=
  ((0 :: segs.map (·.1)).map (fun k => (k, cellSum s ends ((g * 3 + p) * 4096 + k))))

/-- R257: each segment's downstream energy in thirds of a uWh: its own and all its descendants'. -/
def downstream (cells : Tab (Int × Nat)) (segs : List (Nat × Seg)) : Tab Int :=
  segs.reverse.foldl (fun d e =>
    let own := tabGet 0 d e.1
    tabIns e.2.parent (tabGet 0 d e.2.parent + own) d) (cells.map (fun c => (c.1, c.2.1)))

/-- The nominal voltage of a group's phase in V. -/
def vNominal (s : State) (g p : Nat) : F64 := f64Div (f64Int (obj s (0x06001400 + 8 * g + p))) f64Mega

/-- Delta, hours. -/
def auditHours (s : State) : F64 := f64Div (f64Int (obj s 0x09000200)) (f64Int 60)

/-- R257: the current of each segment, A. -/
def segCurrents (s : State) (g p : Nat) (down : Tab Int) (segs : List (Nat × Seg)) : Tab F64 :=
  let vd := f64Mul (vNominal s g p) (auditHours s)
  segs.map (fun e => (e.1, f64Div (f64Mul (f64Round (tabGet 0 down e.1) 3 0) f64Micro) vd))

/-- R257: the technical loss, uWh. -/
def lossOf (s : State) (p : Nat) (cur : Tab F64) (segs : List (Nat × Seg)) : F64 :=
  let kf := f64Fx (obj s 0x09002100)
  f64Sum (segs.map (fun e =>
    let i := tabGet 0 cur e.1
    f64Mul (f64Mul (f64Mul (f64Mul (f64Mul kf i) i) (e.2.res.getD p 0)) (auditHours s)) f64Mega))

/-- R257: the feeder energy of a phase over the interval's published records, uWh. (DEDUCED, log 132) -/
def feederEnergy (s : State) (g p ends len : Nat) : Int :=
  (feederRecs s ends len).foldl (fun a r =>
    a + leAt r (32 + 8 * (3 * g + p)) 8 - leAt r (80 + 8 * (3 * g + p)) 8) 0

/-- Endpoint intervals expected and folded on a phase (Table 9-5, MISSING). -/
def expectedOf (s : State) (g p ends per : Nat) : Nat :=
  let n := ((List.range s.part.wings).map (fun w => ((groupEndpoints s w g ends).filter (fun i =>
    let ph := leAt (assignAt s i ends) 1 1
    ph == p || ph == 3)).length)).sum
  n * per

/-- Disabled at any time in an interval (Table 9-5). -/
def wasDisabled (s : State) (ends len : Nat) : Bool :=
  s.audit.off.any (fun o => decide (o.1 < ends * 1000000000) && (match o.2 with
    | some e => decide ((ends - len) * 1000000000 < e)
    | none => true))

/-- R256: the reasons of Table 9-5 and the flags of a phase's result. -/
def auditStatus (s : State) (j : AuditJob) (exp fold : Nat) : Nat :=
  let len := j.len
  let st := (feederRecs s j.ends len).foldl (fun a r => a ||| leAt r 24 2) 0
  let early := fun b => s.audit.early.contains (j.ends, b)
  let doubt := (List.range s.part.wings).any (fun w => ((intOf s w j.ends).map (·.doubt)).getD false)
  let opened := (j.ends - len) * 1000000000
  let deadline := (j.ends + auditHold s) * 1000000000
  b2n (decide (exp ≠ 0 ∧ obj s 0x09004000 * exp < (exp - fold) * 4294967296)) + 2 * b2n (!j.feeder) +
  4 * b2n (decide (((obj s 0x07000100 : Int) - obj s 0x05002600) % len ≠ 0)) + 8 * b2n (wasDisabled s j.ends len) +
  16 * b2n (early 4) + 32 * b2n (early 5) + 64 * b2n (exp == 0) +
  256 * b2n (bit st 6) + 512 * b2n (bit st 4) + 1024 * b2n (bit st 7) + 2048 * b2n doubt +
  8192 * b2n (!notBefore64 opened s.audit.cold && later64 deadline s.audit.cold)

/-! ### Residuals and regressors (R258) -/

/-- The published minute records of an audit interval, oldest first. -/
def minuteRecs (s : State) (ends len : Nat) : List Bytes :=
  (List.range (len / 60)).map (fun k =>
    let m := (ends - len) / 60 + k + 1
    let r := tabGet [] s.bill.mins (m % 8192)
    if leAt r 0 8 = m * 60000000000 then r else [])

/-- R258, 1: the mean of the feeder phase's minute means, V, or NOVOLT. -/
def feederVolts (s : State) (g p ends len : Nat) : Option F64 :=
  let l := minuteRecs s ends len
  if l.any (fun r => r.isEmpty || leAt r 56 2 != 0) then none
  else some (f64Div (f64Div (f64Int ((l.map (fun r => (leAt r (8 + 8 * (3 * g + p)) 8 : Int))).sum)) (f64Int l.length)) f64Mega)

/-- A stored minute of an endpoint, in 10 mV; 0 when none. -/
def storedMinute (s : State) (i start : Nat) : Nat :=
  leNat (dramRead s (auditRec s i + 512 + 2880 * ((windowOf s start + 1) % 2) +
    2 * (((start + 86400 - dailyS s % 86400) % 86400) / 60)) 2)

/-- R258, 3: an endpoint's mean voltage over an interval, V, when it stored enough minutes. -/
def endpointVolts (s : State) (i ends len : Nat) : Option F64 :=
  let vs := ((List.range (len / 60)).map (fun k => storedMinute s i (ends - len + 60 * k))).filter (· != 0)
  if vs.length * 4294967296 < obj s 0x09004100 * (len / 60) ∨ vs.isEmpty then none
  else some (f64Div (f64Div (f64Int vs.sum) (f64Int vs.length)) (f64Int 100))

/-- R258, 2: the modelled voltage at each node, the root's first. -/
def nodeVolts (vf : F64) (p : Nat) (cur : Tab F64) (segs : List (Nat × Seg)) : Tab F64 :=
  segs.foldl (fun v e => tabIns e.1 (f64Sub (tabGet 0 v e.2.parent) (f64Mul (e.2.res.getD p 0) (tabGet 0 cur e.1))) v) [(0, vf)]

/-- R258, 3 and 4: the residual of each segment with contributing endpoints and a resistance. -/
def segResiduals (s : State) (g p ends len : Nat) (volts : Tab F64) (segs : List (Nat × Seg)) : Tab F64 :=
  let es := ((List.range s.part.wings).flatMap (fun w => groupEndpoints s w g ends)).filter
    (fun i => leAt (assignAt s i ends) 1 1 == p)
  segs.filterMap (fun e =>
    let rs := (es.filter (fun i => leAt (assignAt s i ends) 4 2 == e.1)).filterMap (fun i =>
      (endpointVolts s i ends len).map (fun v => f64Sub (tabGet 0 volts e.1) v))
    if rs.isEmpty || f64Le (e.2.res.getD p 0) 0 then none
    else some (e.1, f64Div (f64Sum rs) (f64Int rs.length)))

/-- R258, 5: the nearest ancestor with a residual (or the root), and the resistance of the path from it. -/
def nearestAbove (p : Nat) (segs : List (Nat × Seg)) (resid : Tab F64) : Nat → Nat → F64 → Nat × F64
  | 0, _, acc => (0, acc)
  | fuel + 1, k, acc =>
    match segs.find? (fun e => e.1 == k) with
    | none => (0, acc)
    | some e =>
      let r := f64Add acc (e.2.res.getD p 0)
      if e.2.parent = 0 ∨ resid.any (fun x => x.1 == e.2.parent) then (e.2.parent, r)
      else nearestAbove p segs resid fuel e.2.parent r

/-- R258, 5 to 7: the regressors of the segments with a residual, uWh. -/
def regressors (s : State) (g p : Nat) (segs : List (Nat × Seg)) (resid : Tab F64) : Tab F64 :=
  let up := resid.map (fun e => (e.1, nearestAbove p segs resid 4096 e.1 0))
  let ix := up.map (fun e => (e.1, f64Div (f64Sub (tabGet 0 resid e.1) (if e.2.1 = 0 then 0 else tabGet 0 resid e.2.1)) e.2.2))
  ix.map (fun e =>
    let kids := (up.filter (fun u => u.2.1 == e.1)).map (fun u => tabGet 0 ix u.1)
    let loc := kids.foldl f64Sub e.2
    (e.1, f64Mul (f64Mul (f64Mul (vNominal s g p) loc) (auditHours s)) f64Mega))

/-! ### The fit (R259, R260) -/

/-- R259: one update of the fit with regressors `x` in candidate order and unexplained energy `u`. -/
def fitUpdate (lam : F64) (x : List F64) (u : F64) (f : AuditFit) : AuditFit :=
  let px := f.p.map (fun row => f64Dot row x)
  let den := f64Add lam (f64Dot x px)
  let k := px.map (fun v => f64Div v den)
  let err := f64Sub u (f64Dot x f.theta)
  let xp := (List.range x.length).map (fun j => f64Sum (List.zipWith (fun xi row => f64Mul xi (row.getD j 0)) x f.p))
  { f with
    theta := List.zipWith (fun th ki => f64Add th (f64Mul ki err)) f.theta k
    p := List.zipWith (fun row ki => List.zipWith (fun v xj => f64Div (f64Sub v (f64Mul ki xj)) lam) row xp) f.p k }

/-- The regressors of a fit's candidates. -/
def candX (f : AuditFit) (x : Tab F64) : List F64 := f.cands.map (fun c => tabGet 0 x c)

/-- The attributions theta * x of a fit's candidates. -/
def attributions (f : AuditFit) (x : Tab F64) : List (Nat × F64) :=
  (List.zip f.cands (List.zipWith f64Mul f.theta (candX f x)))

/-- The entry with the largest value, the first among equals. -/
def largest (l : List (Nat × F64)) : Option (Nat × F64) :=
  l.foldl (fun b e => match b with
    | none => some e
    | some y => if f64Lt y.2 e.2 then some e else some y) none

/-- A fit reset over its candidates (R260, 3). -/
def fitReset (cands : List Nat) (p0 : F64) : AuditFit :=
  let k := cands.length
  { cands := cands, theta := List.replicate k 0
    p := (List.range k).map (fun i => (List.range k).map (fun j => if i = j then p0 else 0)) }

/-- R260, 1 and 2: the scored segments of a day, highest first, ties to the lower index; the first K above 0. -/
def chooseCands (day : List AuditDay) (q k : Nat) : List Nat :=
  let ok := day.filter (·.ok)
  let segs := (ok.flatMap (·.resid)).foldl (fun l x => if l.contains x then l else l ++ [x]) []
  let scored := segs.filter (fun c => decide (q ≤ 2 * (ok.filter (fun d => d.resid.contains c)).length))
  let sc := scored.map (fun c => (c, f64Sum (ok.map (fun d => let v := tabGet 0 d.x c
                                                               if f64Lt 0 v then v else 0))))
  let ins := fun (l : List (Nat × F64)) (e : Nat × F64) =>
    (l.takeWhile (fun y => f64Lt e.2 y.2 || (!f64Lt y.2 e.2 && decide (y.1 < e.1)))) ++ [e] ++
    (l.dropWhile (fun y => f64Lt e.2 y.2 || (!f64Lt y.2 e.2 && decide (y.1 < e.1))))
  (((sc.filter (fun e => f64Lt 0 e.2)).foldl ins []).take k).map (·.1)

/-- One interval of a refit: the fit updated, the attributions summed. -/
def refitStep (lam : F64) (a : AuditFit × Tab F64) (d : AuditDay) : AuditFit × Tab F64 :=
  if a.1.cands.isEmpty then a
  else
    let f := fitUpdate lam (candX a.1 d.x) d.u a.1
    (f, (attributions f d.x).foldl (fun m e => tabIns e.1 (f64Add (tabGet 0 m e.1) e.2) m) a.2)

/-- R260: the refit of a group's phase at S: the fit, its localisation record (Table 9-9), and the segment named with A. -/
def refit (s : State) (g p ends : Nat) (day : List AuditDay) : AuditFit × Bytes × Option (Nat × Int) :=
  let lam := BitVec.ofNat 64 (obj s 0x09005100)
  let cands := chooseCands day (auditQ s) (obj s 0x09005000)
  let ok := day.filter (·.ok)
  let r : AuditFit × Tab F64 := ok.foldl (refitStep lam) (fitReset cands (BitVec.ofNat 64 (obj s 0x09005200)), [])
  let uPlus := f64Sum (ok.map (fun d => if f64Lt 0 d.u then d.u else 0))
  let best := largest (cands.map (fun c => (c, tabGet 0 r.2 c)))
  let theta : Nat → Option F64 := fun c => ((List.zip r.1.cands r.1.theta).find? (fun e => e.1 == c)).map (·.2)
  let named : Option (Nat × F64 × F64) := match best with
    | none => none
    | some (c, a) =>
      let th := (theta c).getD 0
      if f64Le (f64Mul (f64Fx (obj s 0x09005300)) uPlus) a && f64Le (BitVec.ofNat 64 (obj s 0x09005400)) th &&
        f64Le th (BitVec.ofNat 64 (obj s 0x09005401)) && decide (obj s 0x09005500 ≤ ok.length) then some (c, a, th) else none
  let c := (named.map (·.1)).getD 65535
  let a := (named.map (·.2.1)).getD 0
  let th := (named.map (·.2.2)).getD 0
  let share := if named.isNone then 0 else f64Div a uPlus
  (r.1, toLe 8 (ends * 1000000000) ++ toLe 1 g ++ toLe 1 p ++ toLe 2 c ++ toLe 2 ok.length ++ toLe 2 cands.length ++
    toLe 8 (unsgn 64 (f64ToInt uPlus)) ++ toLe 8 (unsgn 64 (f64ToInt a)) ++ toLe 8 th.toNat ++ toLe 8 share.toNat ++ toLe 16 0,
   named.map (fun n => (n.1, f64ToInt n.2.1)))

/-- Wing 0's workspace (Table 9-14). -/
def auditWs (s : State) : Nat := regF s (naWsCfg 0) 63 30 * 1073741824

/-- R264: a result record written to the ring. -/
def resultWrite (r : Bytes) (s : State) : State :=
  let n := obj s 0x09020100 + 1
  dramWrite (auditWs s + 128 * (n % 65536)) (toLe 8 n ++ r) (objPut 0x09020100 n s)

/-- R265, R260: a refit's localisation record written; a naming raises event 0x0902. -/
def refitWrite (g p ends : Nat) (s : State) : State :=
  let r := refit s g p ends ((tabGet [] s.audit.days (g * 3 + p)).reverse)
  let s1 := dramWrite (auditWs s + 8388608 + 64 * (s.audit.locs % 1024)) r.2.1
    (auditMod (fun a => { a with locs := a.locs + 1, fits := tabPut fitDefault (g * 3 + p) r.1 a.fits }) s)
  match r.2.2 with
  | some (c, a) => raise 0 0x0902 0 (g * 65536 + p * 4096 + c) (unsgn 64 a) s1
  | none => s1

/-- R256 to R259, R264: the close of one phase: its result record, the fit's update, the day's history. With no endpoint
interval expected the missing share is a free value. (DESIGN CHOICE, log 263) -/
def closePhase (run : AuditRun) (p : Nat) (s : State) : State × Bool :=
  let j := run.job
  let g := j.who
  let len := j.len
  let segs := groupSegs run.segs g
  let cells := phaseCells s g p j.ends segs
  let exp := expectedOf s g p j.ends j.per
  let fold := (cells.map (fun c => c.2.2)).sum
  let fit := tabGet fitDefault s.audit.fits (g * 3 + p)
  let st := auditStatus s j exp fold + 4096 * b2n fit.cands.isEmpty
  let ok := st % 128 == 0
  let F := feederEnergy s g p j.ends len
  let eThirds := (cells.map (fun c => c.2.1)).sum
  let down := downstream cells segs
  let cur := segCurrents s g p down segs
  let L : F64 := if ok then lossOf s p cur segs else 0
  let u : F64 := if ok then f64Sub (f64Sub (f64Int F) (f64Round eThirds 3 0)) L else 0
  let vf := if ok then feederVolts s g p j.ends len else none
  let resid : Tab F64 := match vf with
    | some v => segResiduals s g p j.ends len (nodeVolts v p cur segs) segs
    | none => []
  let x := regressors s g p segs resid
  let fit' : AuditFit := if ok ∧ !fit.cands.isEmpty then fitUpdate (BitVec.ofNat 64 (obj s 0x09005100)) (candX fit x) u fit else fit
  let att : List (Nat × F64) := if ok then attributions fit' x else []
  let top := largest att
  let th : F64 := match top with
    | some t => (((List.zip fit'.cands fit'.theta).find? (fun e => e.1 == t.1)).map (·.2)).getD 0
    | none => 0
  let rest := f64Sub u (f64Sum (att.map (·.2)))
  let m : Int := if exp = 0 then (freeWord s).1.toInt else ((exp : Int) - fold) * 4294967296 / exp
  let r := toLe 8 (j.ends * 1000000000) ++ toLe 1 g ++ toLe 1 p ++ toLe 2 st ++ toLe 4 exp ++ toLe 4 fold ++ toLe 2 resid.length ++
    toLe 2 ((top.map (·.1)).getD 65535) ++ toLe 8 (unsgn 64 F) ++ toLe 8 (unsgn 64 (f64ToInt (f64Round eThirds 3 0))) ++
    toLe 8 (unsgn 64 (f64ToInt L)) ++ toLe 8 (unsgn 64 (f64ToInt u)) ++ toLe 8 (unsgn 64 m) ++
    toLe 8 (unsgn 64 (f64ToInt ((top.map (·.2)).getD 0))) ++ toLe 8 th.toNat ++ toLe 8 (unsgn 64 (f64ToInt rest)) ++ toLe 32 0
  let day : AuditDay := { ends := j.ends, ok := ok, u := u, x := x, resid := resid.map (·.1) }
  let s1 := resultWrite r (auditMod (fun a => { a with
    fits := tabPut fitDefault (g * 3 + p) fit' a.fits
    days := tabMod [] (g * 3 + p) (fun l => (day :: l).take (auditQ s)) a.days }) (freeWord s).2)
  let s2 := count 0 (tallyNa (if ok then 10 else 11)) s1
  (if isDaily s j.ends then refitWrite g p j.ends s2 else s2, ok)

/-- The cells of a group leave an interval's accumulators; an interval with none left is freed. -/
def freeGroup (g ends : Nat) (l : List AuditInt) : List AuditInt :=
  (l.map (fun x => if x.ends = ends then { x with cells := x.cells.filter (fun c => decide (c.1 / 12288 ≠ g)) } else x)).filter
    (fun x => decide (x.ends ≠ ends ∨ g = 0) || !x.cells.isEmpty)

/-- R263, R264: the running close job ends: results of its three phases, event 0x0901 for those unauditable, the refit at
S; its accumulators are freed. -/
def execCloseJobEnd (t : Nat) (s : State) : Host.Outcome State Fault Refusal :=
  let s := atTime t s
  match s.audit.close with
  | none => .next s
  | some run =>
    if s.clk.now < run.done then .next s
    else
      let a := closePhase run 0 s
      let b := closePhase run 1 a.1
      let c := closePhase run 2 b.1
      let mask := b2n (!a.2) + 2 * b2n (!b.2) + 4 * b2n (!c.2)
      let s1 := if mask = 0 then c.1 else raise 0 0x0901 0 (run.job.who * 256 + mask) (run.job.ends * 1000000000) c.1
      .next (eachWing (fun w s => bell w 12 (regSet (naJob w) 0 s)) (auditMod (fun x => { x with
        close := none
        early := if run.job.who = 1 then x.early.filter (fun e => e.1 != run.job.ends) else x.early
        ints := x.ints.map (fun e => (e.1, freeGroup run.job.who run.job.ends e.2)) }) s1))

/-! ### Phase identification (R261, R262) -/

/-- The first identification job of a wing that no close job comes before. -/
def identFirst (w : Nat) : List AuditJob → Option AuditJob
  | [] => none
  | j :: js => if j.kind = 1 then none else if j.who = w then some j else identFirst w js

/-- The single-phase endpoints homed on a wing and assigned. -/
def identEndpoints (s : State) (w ends : Nat) : List Nat :=
  (homedIndices s w).filter (fun i => let a := assignAt s i ends
    bit (entFlags (entryOf s i)) 6 && leAt a 0 1 != 255 && decide (leAt a 1 1 < 3))

/-- R262, R263: a ready identification job starts on its wing. -/
def execIdentificationJobStart (t w : Nat) (s : State) : Host.Outcome State Fault Refusal :=
  let s := atTime t s
  match identFirst w s.audit.jobs with
  | none => .next s
  | some j =>
    if s.audit.close.isSome ∨ (tabGet none s.audit.ident w).isSome ∨ quiet s ∨ auditLanes s = 0 ∨ j.ends + 86400 ≤ ptimeSec s then .next s
    else
      let run : AuditRun := { job := j, done := s.clk.now + 3000 + ceilDiv (5 * 1439 * (identEndpoints s w j.ends).length) (auditLanes s)
                              segs := [] }
      .next (regSet (naJob w) (BitVec.ofNat 64 (3 * 2 ^ 60 + j.ends / 60)) (auditMod (fun a => { a with
        jobs := a.jobs.filter (fun x => x != j)
        begun := tabPut 0 w (windowOf s j.ends) a.begun
        ident := tabPut none w (some run) a.ident }) s))

/-- The minutes of a window that make a pair for an endpoint of group `g` (R261, 1): differences of the endpoint's and of
the feeder's phases, V. (DESIGN CHOICE, log 136) -/
def identPairs (s : State) (i g ends : Nat) : List (F64 × List F64) :=
  let minute := fun k => let m := (ends - 86400) / 60 + k + 1
                         let r := tabGet [] s.bill.mins (m % 8192)
                         if leAt r 0 8 = m * 60000000000 ∧ leAt r 56 2 = 0 then r else []
  let v := fun k => storedMinute s i (ends - 86400 + 60 * k)
  ((List.range 1440).drop 1).filterMap (fun k =>
    if v k = 0 ∨ v (k - 1) = 0 ∨ (minute k).isEmpty ∨ (minute (k - 1)).isEmpty then none
    else some (f64Div (f64Int ((v k : Int) - v (k - 1))) (f64Int 100),
      (List.range 3).map (fun q => f64Div (f64Int ((leAt (minute k) (8 + 8 * (3 * g + q)) 8 : Int) -
        leAt (minute (k - 1)) (8 + 8 * (3 * g + q)) 8)) f64Mega)))

/-- The Pearson correlation of two lists; a free value when either does not vary. (DESIGN CHOICE, log 135) -/
def pearson (a b : List F64) : F64 :=
  let n := f64Int a.length
  let ma := f64Div (f64Sum a) n
  let mb := f64Div (f64Sum b) n
  let da := a.map (fun x => f64Sub x ma)
  let db := b.map (fun x => f64Sub x mb)
  let den := f64Mul (f64Sqrt (f64Dot da da)) (f64Sqrt (f64Dot db db))
  if (f64Parts den).1 = 0 then Config.noVariation a b else f64Div (f64Dot da db) den

/-- R261: the identification of one endpoint: flags, phase, pairs, correlations, confidence, and the identified phase when
valid and differing. -/
def identOne (s : State) (i ends : Nat) : State × Option (Nat × Nat) :=
  let a := assignAt s i ends
  let h := auditHead s i
  let pairs := identPairs s i (leAt a 0 1) ends
  let base := auditRec s i
  let fl := leAt h 10 2 % 4 + leAt h 10 2 / 16 * 16
  let put := fun (f ph : Nat) (rs : List F64) =>
    dramWrite (base + 10) (toLe 2 f) (dramWrite (base + 40) (toLe 8 (ends * 1000000000) ++ toLe 1 ph ++ toLe 1 0 ++
      toLe 2 pairs.length ++ toLe 4 0 ++ (rs.map (fun r => toLe 8 r.toNat)).flatten) s)
  if pairs.length < obj s 0x09003100 then (put fl 255 [], none)
  else
    let rs := (List.range 3).map (fun q => pearson (pairs.map (·.1)) (pairs.map (fun x => x.2.getD q 0)))
    match largest (List.zip [0, 1, 2] rs) with
    | none => (s, none)
    | some (ph, r1) =>
      let r2 := (largest ((List.zip [0, 1, 2] rs).filter (fun e => e.1 != ph))).getD (0, 0)
      let c := f64Sub r1 r2.2
      let valid := f64Le (f64Fx (obj s 0x09003200)) r1 && f64Le (f64Fx (obj s 0x09003300)) c
      let mis := valid && decide (ph ≠ leAt a 1 1)
      (put (fl + 4 * b2n valid + 8 * b2n mis) (if valid then ph else 255) (rs ++ [c]), if mis then some (leAt a 1 1, ph) else none)

/-- Clear the bank of a window in an endpoint's record. (DEDUCED, log 133) -/
def clearBank (i win : Nat) (s : State) : State :=
  dramWrite (auditRec s i + 512 + 2880 * ((win + 1) % 2)) (List.replicate 2880 0) s

/-- R249: an identified phase applied as a new assignment when 09.0034.00 is 1; event 0x0907. -/
def identApply (w i : Nat) (m : Nat × Nat) (ends : Nat) (s : State) : State :=
  if obj s 0x09003400 = 1 ∧ !assignBusy s i then
    let a := assignAt s i ends
    raise w 0x0907 w i (m.1 * 256 + m.2) (assignNew i (putLe a 1 1 m.2) s)
  else s

/-- R261: an identification job ends: each endpoint's result, the window's banks cleared, event 0x0903. -/
def execIdentificationJobEnd (t w : Nat) (s : State) : Host.Outcome State Fault Refusal :=
  let s := atTime t s
  match tabGet none s.audit.ident w with
  | none => .next s
  | some run =>
    if s.clk.now < run.done then .next s
    else
      let ends := run.job.ends
      let r := (identEndpoints s w ends).foldl (fun (a : State × Nat) i =>
        let x := identOne a.1 i ends
        match x.2 with
        | some m => (identApply w i m ends x.1, a.2 + 1)
        | none => (x.1, a.2)) (s, 0)
      let s1 := (homedIndices s w).foldl (fun s i => clearBank i (windowOf s (ends - 1)) s) r.1
      .next (raise w 0x0903 w w r.2 (count w (tallyNa 14) (bell w 12 (regSet (naJob w) 0
        (auditMod (fun a => { a with ident := tabPut none w none a.ident }) s1)))))

/-- R262: an identification job not started by the end of the window after its own is skipped: counted, event 0x0904, the
window's banks cleared. -/
def execIdentificationSkipped (t w : Nat) (s : State) : Host.Outcome State Fault Refusal :=
  let s := atTime t s
  match s.audit.jobs.find? (fun j => j.kind == 3 && j.who == w && decide (j.ends + 86400 ≤ ptimeSec s)) with
  | none => .next s
  | some j =>
    let s1 := (homedIndices s w).foldl (fun s i => clearBank i (windowOf s (j.ends - 1)) s) s
    .next (raise w 0x0904 w w (j.ends * 1000000000) (count w (tallyNa 15)
      (auditMod (fun a => { a with jobs := a.jobs.filter (fun x => x != j) }) s1)))

/-! ### Reads (R264, R265, R271) -/

/-- Bytes 0 to 255 of an endpoint's audit record as read: one never assigned has group 0xFF and no identified phase. -/
def auditShown (s : State) (i : Nat) : Bytes :=
  let h := auditHead s i
  if leAt h 24 8 = 0 then putLe (putLe (putLe h 0 4 i) 4 1 255) 48 1 255 else h

/-- R271: executing 09.0101.00: bytes 0 to 255 of an endpoint's audit record. -/
def execReadEndpointAuditState (t : Nat) (via : Via) (i : Nat) (s : State) : Host.Outcome State Fault Refusal :=
  let s := atTime t s
  .next (serve via 0x09010100 (fun s => checked [(decide (i < 1048576), stRANGE), (provisioned s i, stNOT_PROVISIONED)]
    (fun s => (stDONE, auditShown s i, s)) s) s)

/-- R264, R479: executing 09.0200.00: up to 16 results from a sequence. -/
def execReadResults (t : Nat) (via : Via) (seq : Nat) (s : State) : Host.Outcome State Fault Refusal :=
  let s := atTime t s
  .next (serve via 0x09020000 (fun s =>
    let newest := obj s 0x09020100
    let oldest := if 65536 ≤ newest then newest - 65535 else 1
    let from_ := max seq oldest
    let n := if notBeforeW 64 newest from_ ∧ newest ≠ 0 then min 16 (newest + 1 - from_) else 0
    (stDONE, recordsBody ((List.range n).map (fun k => dramRead s (auditWs s + 128 * ((from_ + k) % 65536)) 128)), s)) s)

/-- R265, R479: executing 09.0210.00: localisation records by age, newest first, up to 16. -/
def execReadLocalisationRecords (t : Nat) (via : Via) (age : Nat) (s : State) : Host.Outcome State Fault Refusal :=
  let s := atTime t s
  .next (serve via 0x09021000 (fun s =>
    let held := min s.audit.locs 1024
    let n := min 16 (held - age)
    (stDONE, recordsBody ((List.range n).map (fun k =>
      dramRead s (auditWs s + 8388608 + 64 * ((s.audit.locs - 1 - age - k) % 1024)) 64)), s)) s)

end Sys2Proof.Machine
end

