-- ==== Sys2Proof/Machine/Crier.lean ====
section
/-! DEFINITION. What the MAC sends (R106 to R112), parent tracking (R113, R114) and the Town Crier (R115 to R120). -/

namespace Sys2Proof.Machine

/-! ### Send requests -/

/-- A port has a request or held reply of any wing in progress (R106). -/
def portBusy (s : State) (pn : Nat) : Bool :=
  (match jobGet s pn with
    | some j => decide (j.kind ≤ 1)
    | none => false) || s.mac.waits.any (fun x => x.1 == pn && decide (x.2.kind ≤ 1))

/-- The largest unicast payload at a level (R106). -/
def maxPayload (level : Nat) : Nat := 2047 - (27 + micLen level + 4)

/-- The unicast job of a request: data frame, version 2, 27 octets of header (R106). -/
def sendJob (s : State) (kind w a k payload len flags limit : Nat) : Job :=
  let x := nbrGet s k
  let m := bits x.flags 13 11
  let lv := txLevel s w
  let n := 27 + len + micLen lv + 4
  { kind := kind, wing := w, entry := a, dst := x.addr, nbr := k, payload := payload, len := len, flags := flags
    limit := limit, tries := 0, nb := 0, be := 0, phase := 0, start := 0, unit := 1000000 + symbols m 8, bin := x.bin
    mode := m, preamble := leastPreamble m, psdu := n, seq := tabGet 0 s.mac.seqs (activeKey s), ctr := none, level := lv
    firstAt := 0, winEnd := 0, csl := bit flags 1 && bit x.flags 4, air := airTime m (leastPreamble m) n, flood := 0 }

/-- The entry of a destination, made from its slot if it must be. -/
def destEntry (w a : Nat) (s : State) : Option Nat × State :=
  match nbrFind s w a with
  | some k => (some k, s)
  | none => if (atFind s w a).isSome then nbrMake w a s else (none, s)

/-- A taken request or reply starts on its entry's best port; its entry is pinned (R105, R106). -/
def sendStart (kind w a k payload len flags limit : Nat) (s : State) : State :=
  let x := nbrGet s k
  let s1 := nbrSet k (nbrFlag 2 true { x with pend := x.pend + 1 }) s
  jobStart x.port (sendJob s kind w a k payload len flags limit) (seqNextOf (activeKey s) s1)

/-- The limits of Table 4-7 but the gate's. -/
def requestBad (s : State) (w : Nat) (b : Bytes) : Bool :=
  let len := leAt b 16 2
  let a := leAt b 8 8
  decide (len = 0 ∨ maxPayload (txLevel s w) < len ∨ 8 ≤ leAt b 18 1 ∨ leAt b 19 1 = 0 ∨ 16 < leAt b 19 1 ∨
    leAt b 22 2 ≠ 0) || ownerOf s (leAt b 0 8) != w || !dramIn s (a / 0x8000000000) a len

/-- R335: the Room Key group of a destination: its endpoint entry's, else 0B.0306.00. -/
def destGroup (s : State) (a : Nat) : Nat :=
  let d := dirOf s a
  if d = 0xFFFFFFFF then obj s 0x0B030600 else leAt (entryOf s d) 160 8

/-- R106: one request of the ring: BADREQ, NONEIGHBOUR, NOKEY, or begun. (DEDUCED, log 80) -/
def sendTake (w a : Nat) (b : Bytes) (s : State) : State :=
  let flags := leAt b 18 1
  let back := fun st s => requestBack w a flags st 0 0 s
  if requestBad s w b then back 6 s
  else
    let g := gate w (destGroup s (leAt b 0 8)) s
    if !g.1 then back 6 g.2
    else match destEntry w (leAt b 0 8) g.2 with
      | (none, s1) => back 5 s1
      | (some k, s1) =>
        if activeKey s1 = 0 then back 7 (noKey w s1)
        else sendStart 0 w a k (leAt b 8 8) (leAt b 16 2) flags (leAt b 19 1) s1

/-- The port a destination's entry names. (DESIGN CHOICE, log 67) -/
def destPort (s : State) (w a : Nat) : Nat :=
  match nbrFind s w a with
  | some k => (nbrGet s k).port
  | none => 0

/-- R146: a held reply is taken: with AR, by CSL where it can, with attempt limit 05.0027.00. -/
def replyTake (w i : Nat) (s : State) : State :=
  let e := entryOf s i
  let s1 := { s with mac := { s.mac with replies := s.mac.replies.erase (w, i) } }
  match destEntry w (leAt e 8 8) s1 with
  | (none, s2) => s2
  | (some k, s2) =>
    if activeKey s2 = 0 then noKey w s2
    else sendStart 1 w 0 k (dirSlot s2 i + 384) (leAt e 36 2) 3 (obj s2 0x05002700) s2

/-- R106: the MAC takes the next held reply, or the next request of its ring, once its port is free. It does so whether or not
MAC_CFG.EN is set. (DESIGN CHOICE, log 241) -/
def execSendRequestTake (t w : Nat) (s : State) : Host.Outcome State Fault Refusal :=
  let s := atTime t s
  match s.mac.replies.find? (fun r => r.1 == w) with
  | some r =>
    if portBusy s (destPort s w (leAt (entryOf s r.2) 8 8)) then .next s else .next (replyTake w r.2 s)
  | none =>
    let n := 2 ^ ringLog2 (regF s (macSqCfg w) 4 0) 4 16 4
    let cons := regF s (macSqPtr w) 63 32
    if regF s (macSqPtr w) 31 0 = cons then .next s
    else
      let a := regF s (macSqCfg w) 63 12 * 4096 + cons % n * 32
      let b := dramRead s a 32
      if portBusy s (destPort s w (leAt b 0 8)) then .next s
      else .next (sendTake w a b (regPutF (macSqPtr w) 63 32 ((cons + 1) % 4294967296) s))

/-! ### Channel access (R107, R108) -/

/-- R107: a backoff of a whole number of unit periods below 2^BE ends, and CCA begins. -/
def execCsmaBackoffEnd (t pn : Nat) (s : State) : Host.Outcome State Fault Refusal :=
  let s := atTime t s
  match jobGet s pn with
  | some j =>
    if j.phase = 0 ∧ (s.clk.now - j.start) % j.unit = 0 ∧ (s.clk.now - j.start) / j.unit < 2 ^ j.be then
      .next (jobSet pn (some { j with phase := 1, start := s.clk.now }) s)
    else .next s
  | none => .next s

/-- R108, R120: channel access failed. -/
def accessFailed (pn : Nat) (j : Job) (s : State) : State :=
  if j.kind ≤ 1 then jobComplete pn 3 (count j.wing (tallyMac 17) s)
  else if j.kind = 2 then jobBegin pn j (count 0 (tallyTc 7) s)
  else if j.kind = 3 then jobDone pn (count 0 (tallyTc 4) s)
  else jobDone pn (count j.wing (tallyMac 17) s)

/-- R93, R94, R107: the channel is clear: a counter is asked for 1,000 FCLK before TXEN; an unsecured frame is posted. -/
def accessClear (pn : Nat) (j : Job) (s : State) : State :=
  let at_ := if j.level = 0 then s.clk.now else s.clk.now + 1000
  let k := activeKey s
  if windowBlocks s pn (spanAt s pn 4 0 0 at_ j.air j.bin false 1) then jobSet pn (some { j with phase := 4 }) s
  else if j.level = 0 then postJob pn (jobSet pn (some { j with phase := 5, start := at_ }) s)
  else if k = 0 then jobNoCounter pn 7 ((if j.kind = 2 ∨ j.kind = 3 then keyless else noKey) j.wing s)
  else counterAsk (pn / 2) (pn % 2) at_ k (jobSet pn (some { j with phase := 5, start := at_, ctr := none }) s)

/-- R107: CCA finds the channel busy: the transmit bin's power, `pwr` dBFS, reaches 04.0041.00, or its watcher correlates a
preamble. -/
def ccaBusy (s : State) (pwr : Int) (preamble : Bool) : Bool := preamble || decide (sgn 64 (obj s 0x04004100) ≤ pwr)

/-- R107: CCA ends after 8 symbol periods, the channel busy or clear. -/
def execCcaEnd (t pn : Nat) (pwr : Int) (preamble : Bool) (s : State) : Host.Outcome State Fault Refusal :=
  let s := atTime t s
  match jobGet s pn with
  | some j =>
    if j.phase = 1 ∧ j.start + symbols j.mode 8 ≤ s.clk.now then
      if ccaBusy s pwr preamble then
        if obj s 0x04004002 < j.nb + 1 then .next (accessFailed pn j s)
        else .next (jobSet pn (some { j with phase := 0, start := s.clk.now, nb := j.nb + 1
                                             be := min (j.be + 1) (obj s 0x04004001) }) s)
      else .next (accessClear pn j s)
    else .next s
  | none => .next s

/-- R480: a frame whose SFD the port found within the window still awaits its verdict. -/
def windowHeld (s : State) (pn b e : Nat) : Bool :=
  (List.range 24).any (fun l =>
    let x := laneGet s (pn / 2) l
    x.port == pn % 2 && (x.st == 2 || (x.st == 3 && x.frame.isSome)) && decide (b ≤ x.sfd ∧ x.sfd ≤ e))

/-- R112: an exchange is missed: CSL_MISS, the misses, and at the third ADRIFT with event 0x0403. -/
def cslMiss (j : Job) (s : State) : State :=
  let w := j.nbr / 8192
  let x := nbrGet s j.nbr
  let m := min 3 (bits x.flags 10 8 + 1)
  let y := { x with flags := setBits x.flags 10 8 m }
  let s1 := count w (tallyMac 21) s
  if m = 3 ∧ !bit x.flags 5 then raise w 0x0403 w x.addr x.exch (nbrSet j.nbr (nbrFlag 5 true y) s1)
  else nbrSet j.nbr y s1

/-- R480, R108: the window closes without its Enh-Ack: a new attempt, or NO_ACK at the limit. -/
def execAckWaitTimeout (t pn : Nat) (s : State) : Host.Outcome State Fault Refusal :=
  let s := atTime t s
  match jobGet s pn with
  | some j =>
    if j.phase = 3 ∧ j.winEnd ≤ s.clk.now ∧ !windowHeld s pn j.start j.winEnd then
      let s1 := if j.csl then cslMiss j s else s
      if j.tries < j.limit then .next (jobBegin pn j s1)
      else .next (jobComplete pn 2 (count j.wing (tallyMac 18) s1))
    else .next s
  | none => .next s

/-- R109: every 04.0070.00 ms enhanced beacons go on every bin of 04.0071.pn. (DEDUCED, log 74) -/
def execEnhancedBeaconInterval (t : Nat) (s : State) : Host.Outcome State Fault Refusal :=
  let s := atTime t s
  let i := obj s 0x04007000 * 1000000
  let due : Bool := match s.mac.ebNext with
    | some n => decide (n ≤ s.clk.now)
    | none => true
  if i ≠ 0 ∧ due then
    let s1 := { s with mac := { s.mac with ebNext := some (s.clk.now + i) } }
    .next ((List.range (2 * s.part.wings)).foldl (fun s pn =>
      (List.range 64).foldl (fun s b => if bit (obj s (0x04007100 + pn)) b then sendBeacon pn b s else s) s) s1)
  else .next s

/-! ### Following a parent (R113, R114) -/

/-- R114: a scan begins: 04.0064.00 ms, never less than two beacon intervals. -/
def scanBegin (s : State) : State :=
  { s with mac := { s.mac with scan := some (s.clk.now + max (obj s 0x04006400) (2 * obj s 0x04006200) * 1000000)
                               heard := 0, window := none } }

/-- R114: a candidate becomes the parent: event 0x0407, anchored on the last beacon heard from it. -/
def parentTake (p why : Nat) (s : State) : State :=
  let h := tabGet (0, 0) s.mac.heardAt p
  let s1 := { s with mac := { s.mac with parent := p, lostP := 255, misses := 0, beacon := h.1, bport := h.2, drift := none
                                         scan := none, scans := 0, window := none } }
  let s2 := if h.1 = 0 then s1 else { s1 with mac := { s1.mac with window := parentWindow s1 } }
  raise 0 0x0407 0 p why (regPutF (macStat 0) 1 1 0 s2)

/-- R113: a window closes without a counted beacon: a miss; the third loses the parent and a scan begins. -/
def execParentWindowClose (t : Nat) (s : State) : Host.Outcome State Fault Refusal :=
  let s := atTime t s
  match s.mac.window with
  | some (_, b) =>
    if notBeforeW 64 (ptimeNs s) b then
      let p := s.mac.parent
      let pn := s.mac.bport
      let m := s.mac.misses + 1
      if m < 3 then
        let s1 := { s with mac := { s.mac with misses := m } }
        .next (jobKick pn (raise 0 0x0405 0 p m { s1 with mac := { s1.mac with window := parentWindow s1 } }))
      else
        let s1 := { s with mac := { s.mac with misses := 0, parent := 255, lostP := p, scans := 0 } }
        .next (jobKick pn (macFlag 0 2 (raise 0 0x0406 0 p s.mac.beacon (scanBegin s1))))
    else .next s
  | none => .next s

/-- R114: a scan ends: the lowest candidate heard but the lost parent, else the lost parent if heard, else another
scan. -/
def execScanEnd (t : Nat) (s : State) : Host.Outcome State Fault Refusal :=
  let s := atTime t s
  match s.mac.scan with
  | some e =>
    if e ≤ s.clk.now then
      match (List.range 4).find? (fun p => bit s.mac.heard p && p != s.mac.lostP) with
      | some p => .next (parentTake p 1 s)
      | none =>
        if s.mac.lostP < 4 ∧ bit s.mac.heard s.mac.lostP then .next (parentTake s.mac.lostP 1 s)
        else
          let s1 := { s with mac := { s.mac with scans := s.mac.scans + 1 } }
          .next (scanBegin (raise 0 0x0408 0 s1.mac.scans 0 (regPutF (macStat 0) 1 1 1 s1)))
    else .next s
  | none => .next s

/-- R113: 04.0066.00 makes a candidate the part's parent; an empty candidate is out of range. -/
def execTakeParent (t : Nat) (via : Via) (pp : Nat) (s : State) : Host.Outcome State Fault Refusal :=
  let s := atTime t s
  .next (serve via 0x04006600 (fun s =>
    if pp < 4 ∧ obj s (0x04006000 + pp) ≠ 0 then (stDONE, [], parentTake pp 2 s) else (stRANGE, [], s)) s)

/-! ### The Town Crier -/

/-- A flood frame's job: 21 octets of header, the flood's MAC payload, MIC and a 4-octet FCS (R115). -/
def floodJob (s : State) (kind pn bin mode len ident : Nat) : Job :=
  let lv := txLevel s (pn / 2)
  let n := 21 + len + micLen lv + 4
  { kind := kind, wing := pn / 2, entry := 0, dst := 0xFFFF, nbr := 0, payload := 0, len := len, flags := 0, limit := 1
    tries := 0, nb := 0, be := 0, phase := 0, start := 0, unit := 1000000 + symbols mode 8, bin := bin, mode := mode
    preamble := leastPreamble mode, psdu := n, seq := tabGet 0 s.mac.seqs (activeKey s), ctr := none, level := lv
    firstAt := 0, winEnd := 0, csl := false, air := airTime mode (leastPreamble mode) n, flood := ident }

/-- Start a flood frame on every port of a mask. -/
def floodOn (kind mask bin mode len ident : Nat) (s : State) : State :=
  (List.range 16).foldl (fun s pn =>
    if bit mask pn then jobStart pn (floodJob s kind pn bin mode len ident) (seqNextOf (activeKey s) s) else s) s

/-- R118 step 4: relay a flood if relaying is on, a parent is followed and its TTL allows. -/
def relayQueue (f : Flood) (s : State) : State :=
  if f.ttl = 0 then count 0 (tallyTc 5) s
  else if obj s 0x04009100 = 1 ∧ s.mac.parent < 4 ∧ s.mac.scan.isNone then
    if 64 ≤ s.mac.relays.length then count 0 (tallyTc 4) s
    else { s with mac := { s.mac with
      relays := s.mac.relays ++ [{ f with ttl := f.ttl - 1, since := s.clk.now + obj s 0x04009200 * 1000 }] } }
  else s

/-- R118 steps 2 to 4: an accepted flood at wing 0: seen and dropped, or delivered to the receive ring and relayed. -/
def execFloodAtWing0 (t : Nat) (s : State) : Host.Outcome State Fault Refusal :=
  let s := atTime t s
  match s.mac.accept.find? (fun x => decide (x.2.2 ≤ s.clk.now)) with
  | none => .next s
  | some x =>
    let f := x.1
    let s1 := { s with mac := { s.mac with accept := s.mac.accept.erase x } }
    if isSeen s1 0 f.origin f.ident then .next (count 0 (tallyTc 1) s1)
    else
      let s2 := seenInsert 0 { origin := f.origin, ident := f.ident, at_ := ptimeNs s1 } s1
      .next (relayQueue f (bell 0 7 (rxRing 0 f.data (count 0 (tallyTc 0) s2))))

/-- R118: a relay's hold ends: its channel access begins on every relay port. In a scan (R114) it is dropped.
(DESIGN CHOICE, log 242) -/
def execRelayHoldEnd (t : Nat) (s : State) : Host.Outcome State Fault Refusal :=
  let s := atTime t s
  match s.mac.relays.find? (fun f => decide (f.since ≤ s.clk.now)) with
  | none => .next s
  | some f =>
    let s1 := { s with mac := { s.mac with relays := s.mac.relays.erase f } }
    if s1.mac.scan.isSome then .next (count 0 (tallyTc 4) s1)
    else if activeKey s1 = 0 then .next (count 0 (tallyTc 4) (keyless 0 s1))
    else .next (floodOn 3 (obj s1 0x04009300 % 2 ^ (2 * s1.part.wings)) (obj s1 0x04009500) (obj s1 0x04009400)
      (leAt f.data 36 2) f.ident s1)

/-- R119 check 2: the fields of Table 4-12. -/
def floodRange (s : State) (b : Bytes) : Bool :=
  decide (beAt b 8 4 ≤ 0xFBFFFFFF ∧ beAt b 13 1 / 32 < 3 ∧ beAt b 13 1 % 16 = 0 ∧ beAt b 14 2 ≠ 0 ∧
    beAt b 14 2 ≤ portMask s ∧ beAt b 17 1 < 64 ∧ 1 ≤ beAt b 18 1 ∧ beAt b 18 1 ≤ 8 ∧ beAt b 19 1 = 0 ∧
    (beAt b 18 1 = 1 ∨ (1 ≤ beAt b 20 2 ∧ beAt b 20 2 ≤ 60000))) && modeOk (beAt b 16 1)

/-- R119: a flood request accepted: its ID enters every wing's cache, its repetitions are queued. (DEDUCED, log 78) -/
def floodAccept (b : Bytes) (s : State) : State :=
  let f : Flood := { ident := beAt b 8 4, origin := obj s 0x04000200, ttl := beAt b 12 1, flags := beAt b 13 1
                     mask := beAt b 14 2, mode := beAt b 16 1, bin := beAt b 17 1, reps := beAt b 18 1, gap := beAt b 20 2
                     data := b.drop 24, since := s.clk.now, nextRep := 0, sent := 0
                     left := beAt b 18 1 * popCount 16 (beAt b 14 2) }
  let s1 := eachWing (fun w s => seenInsert w { origin := f.origin, ident := f.ident, at_ := ptimeNs s } s) s
  { s1 with mac := { s1.mac with floods := s1.mac.floods ++ [f] } }

/-- R119: executing 04.0100.00; a refused request counts REQ_REFUSED. -/
def execFloodRequest (t : Nat) (via : Via) (rec : Bytes) (s : State) : Host.Outcome State Fault Refusal :=
  let s := atTime t s
  let p := beAt rec 22 2
  let no := fun st (s : State) => (st, ([] : Bytes), count 0 (tallyTc 10) s)
  .next (serve via 0x04010000 (fun s =>
    if s.power.fail.isSome then (stNOPOWER, [], s)
    else if rec.length ≠ 24 + p ∨ p = 0 ∨ 2047 - (30 + micLen (txLevel s 0) + 4) < p then no stLENGTH s
    else if !floodRange s rec then no stRANGE s
    else if isSeen s 0 (obj s 0x04000200) (beAt rec 8 4) then no stDUPLICATE_ID s
    else
      let g := gate 0 (beAt rec 0 8) s
      if !g.1 then no stLEASE g.2
      else if 256 ≤ s.mac.floods.length then no stBUSY s
      else (stDONE, [], floodAccept rec g.2)) s)

/-- R120: repetition r of a flood is due r x spacing after acceptance, on every selected port. -/
def execFloodRepetition (t i : Nat) (s : State) : Host.Outcome State Fault Refusal :=
  let s := atTime t s
  match s.mac.floods[i]? with
  | some f =>
    if f.nextRep < f.reps ∧ f.since + f.nextRep * f.gap * 1000000 ≤ s.clk.now then
      let s1 := { s with mac := { s.mac with floods := s.mac.floods.set i { f with nextRep := f.nextRep + 1 } } }
      .next (floodOn 2 f.mask f.bin f.mode (9 + f.data.length) f.ident s1)
    else .next s
  | none => .next s

/-- Drop a flood's jobs that are not on a port. -/
def floodDrop (ident : Nat) (s : State) : State :=
  let s1 := { s with mac := { s.mac with waits := s.mac.waits.filter (fun x => !(x.2.kind == 2 && x.2.flood == ident)) } }
  (List.range 16).foldl (fun s pn => match jobGet s pn with
    | some j => if j.kind = 2 ∧ j.flood = ident ∧ j.phase ≠ 2 then jobDone pn s else s
    | none => s) s1

/-- R120: repetitions not sent within 04.0101.00 s of acceptance are abandoned: EXPIRED, event 0x0410.
(DEDUCED, log 77) -/
def execFloodExpired (t i : Nat) (s : State) : Host.Outcome State Fault Refusal :=
  let s := atTime t s
  match s.mac.floods[i]? with
  | some f =>
    if f.since + obj s 0x04010100 * 1000000000 ≤ s.clk.now then
      let sent := f.sent / max 1 (f.left / max 1 f.reps)
      let s1 := floodDrop f.ident { s with mac := { s.mac with floods := s.mac.floods.eraseIdx i } }
      .next ((List.range (f.reps - sent)).foldl (fun s _ =>
        bell 0 7 (raise 0 0x0410 0 f.ident sent (count 0 (tallyTc 8) s))) s1)
    else .next s
  | none => .next s

/-- R117: seen-cache entries expire 04.0090.00 s after their insertion. -/
def execSeenCacheExpiry (t w : Nat) (s : State) : Host.Outcome State Fault Refusal :=
  let s := atTime t s
  .next { s with mac := { s.mac with
    seen := tabPut [] w ((tabGet [] s.mac.seen w).filter (seenLive s)) s.mac.seen } }

end Sys2Proof.Machine
end

