-- ==== Sys2Proof/Machine/Image.lean ====
section
/-! DEFINITION. Image slots, bundles and the download record (R400 to R411): what their fields say, the slot pointer and
the counter record, and the chunks the part holds. -/

namespace Sys2Proof.Machine

/-! ### The slot pointer (Table 14-7) -/

/-- The slot pointer as it is read: a word found uncorrectable reads as ACTIVE A, PREV B and CONFIRMED (R417).
(DEDUCED, log 210) -/
def ptr (s : State) : Nat :=
  if s.upd.ptrBad then bits (obj s 0x0D012300) 63 32 * 2 ^ 32 + 0x121 else obj s 0x0D012300

/-- GEN. -/
def ptrGen (p : Nat) : Nat := bits p 63 32
/-- TRIALS. -/
def ptrTrials (p : Nat) : Nat := bits p 19 16
/-- PREVFAILED. -/
def ptrPrevFailed (p : Nat) : Bool := bit p 9
/-- CONFIRMED. -/
def ptrConfirmed (p : Nat) : Bool := bit p 8
/-- PREV: 0 none, 1 A, 2 B. -/
def ptrPrev (p : Nat) : Nat := bits p 5 4
/-- ACTIVE: 0 none, 1 A, 2 B. -/
def ptrActive (p : Nat) : Nat := bits p 1 0

/-- A pointer word of its fields. -/
def ptrMake (gen trials : Nat) (prevFailed confirmed : Bool) (prev active : Nat) : Nat :=
  gen % 2 ^ 32 * 2 ^ 32 + trials % 16 * 2 ^ 16 + b2n prevFailed * 512 + b2n confirmed * 256 + prev % 4 * 16 + active % 4

/-- The Keeper commits a pointer word (R415, R424). -/
def ptrCommit (p : Nat) (s : State) : State :=
  commitOne (objPut 0x0D012300 p { s with upd := { s.upd with ptrBad := false } })

/-! ### The security-version counter record (R407) -/

/-- A copy is good (R407); one with an uncorrectable word is held as no words. (DEDUCED, log 211) -/
def copyGood (c : List Word) : Bool :=
  decide (c.length = 4) && decide ((c.getD 1 0) = ~~~(c.getD 0 0)) &&
  decide ((c.getD 3 0).toNat % 2 ^ 32 = crc32c ((c.take 3).flatMap (fun w => toLe 8 w.toNat)))

/-- Generation of a copy. -/
def copyGen (c : List Word) : Nat := bits (c.getD 2 0).toNat 63 32

/-- The copy in force: the good one of the later generation, A when equal. -/
def copyPick (s : State) : Option Nat :=
  let a := s.upd.copies.getD 0 []
  let b := s.upd.copies.getD 1 []
  if copyGood a ∧ (!copyGood b ∨ !laterW 32 (copyGen b) (copyGen a)) then some 0
  else if copyGood b then some 1 else none

/-- The counter in force; all ones in the fall-back (Table 14-5). (DEDUCED, log 212) -/
def counterNow (s : State) : Nat :=
  match copyPick s with
  | some i => ((s.upd.copies.getD i []).getD 0 0).toNat
  | none => 2 ^ 64 - 1

/-- The revocation mask in force; the fall-back has none of its own (R408). -/
def maskNow (s : State) : Nat :=
  match copyPick s with
  | some i => bits ((s.upd.copies.getD i []).getD 2 0).toNat 7 0
  | none => 0

/-- A copy's words (Table 14-4). -/
def copyMake (counter gen mask : Nat) : List Word :=
  let w0 : Word := BitVec.ofNat 64 counter
  let w2 : Word := BitVec.ofNat 64 (gen % 2 ^ 32 * 2 ^ 32 + mask % 256)
  let l := [w0, ~~~w0, w2]
  l ++ [BitVec.ofNat 64 (crc32c (l.flatMap (fun w => toLe 8 w.toNat)))]

/-- R409: the record is written over the copy not in force, a generation later; copy A when no copy is good. -/
def counterWrite (counter mask : Nat) (s : State) : State :=
  let r := match copyPick s with
    | some i => (1 - i, copyGen (s.upd.copies.getD i []) + 1)
    | none => (0, copyGen (s.upd.copies.getD 0 []) + 1)
  let l := [s.upd.copies.getD 0 [], s.upd.copies.getD 1 []]
  { s with upd := { s.upd with copies := l.set r.1 (copyMake counter r.2 mask) } }

/-! ### Bundle headers (Table 14-1) -/

/-- L. -/
def bunLen (h : Bytes) : Nat := beAt h 48 8
/-- Payload length. -/
def bunPayload (h : Bytes) : Nat := beAt h 56 8
/-- UNITBOUND. -/
def bunBound (h : Bytes) : Bool := bit (beAt h 12 1) 0
/-- ECDSA root-key index. -/
def bunEcdsa (h : Bytes) : Nat := beAt h 13 1
/-- LMS root-key index. -/
def bunLms (h : Bytes) : Nat := beAt h 14 1
/-- Revocation mask. -/
def bunMask (h : Bytes) : Nat := beAt h 15 1
/-- Security version. -/
def bunVer (h : Bytes) : Nat := beAt h 32 8
/-- Build number. -/
def bunBuild (h : Bytes) : Nat := beAt h 40 8

/-! ### The manifest and the trailer (Tables 14-2 and 14-3) -/

/-- Length of component `i + 1` in a manifest. -/
def manLen (m : Bytes) (i : Nat) : Nat := beAt m (64 * i + 4) 4
/-- Offset of component `i + 1` within the payload. -/
def manOff (m : Bytes) (i : Nat) : Nat := beAt m (64 * i + 8) 8

/-- The most octets of component `i + 1`. -/
def manMost (i : Nat) : Nat := [2097152, 4194304, 16777216, 469762048].getD i 0

/-- Two components share no octet of the payload. -/
def manApart (m : Bytes) (i j : Nat) : Bool :=
  decide (manOff m i + manLen m i ≤ manOff m j ∨ manOff m j + manLen m j ≤ manOff m i)

/-- Table 14-2: the limits of a manifest for a payload of `p` octets. -/
def manifestOk (m : Bytes) (p : Nat) : Bool :=
  (List.range 4).all (fun i => decide (beAt m (64 * i) 2 = i + 1 ∧ beAt m (64 * i + 2) 2 = 0 ∧ 0 < manLen m i ∧ manLen m i ≤ manMost i ∧
    manOff m i % 4096 = 0 ∧ manOff m i + manLen m i ≤ p) && (List.range i).all (manApart m i))

/-- The manifest of a bundle (R402). -/
def bunManifest (b : Bytes) : Bytes := slice b 512 256

/-- The octets of component `i + 1` of a bundle. -/
def component (b : Bytes) (i : Nat) : Bytes := slice b (768 + manOff (bunManifest b) i) (manLen (bunManifest b) i)

/-- The first component whose SHA-384 is not its manifest entry's, from 1; 0 if none. -/
def badComponent (b : Bytes) : Nat :=
  match (List.range 4).find? (fun i => Config.sha384 (component b i) != slice (bunManifest b) (64 * i + 16) 48) with
  | some i => i + 1
  | none => 0

/-- What the signatures sign (Table 14-3). -/
def bunSigned (b : Bytes) : Bytes := b.take 768
/-- The ECDSA signature of the trailer. -/
def bunEcdsaSig (b : Bytes) : Bytes := slice b (bunLen (b.take 512) - 1708) 96
/-- The LMS signature of the trailer. -/
def bunLmsSig (b : Bytes) : Bytes := slice b (bunLen (b.take 512) - 1612) 1612
/-- The ECDSA public key of a header. -/
def bunEcdsaKey (h : Bytes) : Bytes := slice h 64 96
/-- The LMS public key of a header. -/
def bunLmsKey (h : Bytes) : Bytes := slice h 160 56

/-! ### The slots (R400) -/

/-- R400: the NOR device's size, 0 if it gives no valid slot. (DESIGN CHOICE, log 196) -/
def norValid (s : State) : Nat :=
  if 67108864 ≤ s.upd.norSize ∧ s.upd.norSize ≤ 1073741824 then s.upd.norSize else 0

/-- R400: slot A begins at 0 and slot B at half the device. -/
def slotSize (s : State) : Nat := norValid s / 2

/-- The octets of a slot (1 A, 2 B), in chunks of 65,536. -/
def slotOctets (s : State) (slot : Nat) : Bytes :=
  (s.upd.nor.filter (fun e => decide (0 < slot) && e.1 / 8192 == slot - 1)).flatMap (·.2)

/-- What a slot holds from now on, known to the model. -/
def slotPut (slot : Nat) (chunks : List Bytes) (s : State) : State :=
  let base := (slot - 1) * 8192
  let cleared := tabDrop (fun k => decide (base ≤ k ∧ k < base + 8192)) s.upd.nor
  { s with upd := { s.upd with
    norKnown := s.upd.norKnown ||| 2 ^ (slot - 1)
    nor := chunks.zipIdx.foldl (fun m e => tabPut [] (base + e.2) e.1 m) cleared } }

/-- A slot's contents are what the device gives, where nothing in the model has erased or written it.
(DESIGN CHOICE, log 197) -/
def slotGiven (slot : Nat) (b : Bytes) (s : State) : State :=
  if bit s.upd.norKnown (slot - 1) then s
  else slotPut slot ((List.range (ceilDiv b.length 65536)).map (fun c => slice b (65536 * c) 65536)) s

/-- R414: an erase or program of a slot is cut off: what the slot holds is a free value. (DESIGN CHOICE, log 276) -/
def slotTorn (s : State) : State :=
  match s.upd.writing with
  | some (slot, _) =>
    if s.upd.shut then s
    else
      let r := freeWord s
      slotPut slot [Config.norTorn r.1] r.2
  | none => s

/-! ### The download record (R410, R411) -/

/-- The header of the download; empty for none. -/
def dlHeader (s : State) : Bytes := oct s 0x0D010600

/-- n: chunks of the download. -/
def dlChunks (s : State) : Nat := if dlHeader s = [] then 0 else ceilDiv (bunLen (dlHeader s)) 65536

/-- Octets of chunk `c`. -/
def chunkLen (s : State) (c : Nat) : Nat :=
  if c + 1 < dlChunks s then 65536 else bunLen (dlHeader s) - 65536 * (dlChunks s - 1)

/-- Chunk `c` is held: its bit of the bitmap, most significant first. -/
def chunkHeld (s : State) (c : Nat) : Bool := bit ((oct s 0x0D010500).getD (c / 8) 0).toNat (7 - c % 8)

/-- Chunks held. -/
def chunksHeld (s : State) : Nat := ((List.range (dlChunks s)).filter (chunkHeld s)).length

/-- An empty bitmap. -/
def noChunks : Bytes := List.replicate 1024 0

/-- R169, R424: the download record changes by request kind 0x0D06, which commits it. -/
def recordKeep (s : State) : State := reqServed 0 0x0D06 0 [] (commitOne s)

/-- The download record is committed: a header and an empty chunk bitmap (request kind 0x0D06). -/
def recordSet (h : Bytes) (s : State) : State := recordKeep (octPut 0x0D010500 noChunks (octPut 0x0D010600 h s))

/-- The bit of chunk `c` is committed; event 0x0D02 with the last. -/
def chunkCommit (c : Nat) (s : State) : State :=
  let m := oct s 0x0D010500
  let s1 := recordKeep (octPut 0x0D010500 (m.set (c / 8) (m.getD (c / 8) 0 ||| BitVec.ofNat 8 (2 ^ (7 - c % 8)))) s)
  if chunksHeld s1 = dlChunks s1 then raise 0 0x0D02 0 (bunBuild (dlHeader s1)) (dlChunks s1) s1 else s1

/-- What a chunk's bitmap commit is answered when its pages are programmed: NOPOWER or UNREACHABLE where no commit can be made
(R169, R363). -/
def chunkAnswer (s : State) : Nat := if !srOpen s then stUNREACHABLE else if noPower s then stNOPOWER else stDONE

/-- A program of the IMAGE stream has completed: once a chunk's pages are all programmed its bit is committed, and its
write and any other of the same chunk are answered (R411, Table 14-10). -/
def imageDone (serial : Nat) (s : State) : State :=
  match s.upd.chunks.find? (fun w => w.serial == serial) with
  | none => s
  | some w =>
    if 1 < w.left then
      { s with upd := { s.upd with chunks := s.upd.chunks.map (fun y => if y.serial = serial then { y with left := y.left - 1 } else y) } }
    else
      let mine := s.upd.chunks.filter (fun y => y.c == w.c)
      let st := chunkAnswer s
      let s0 := { s with upd := { s.upd with chunks := s.upd.chunks.filter (fun y => y.c != w.c) } }
      mine.foldl (fun s y => answer y.via 0x0D010100 st [] s) (if st = stDONE then chunkCommit w.c s0 else s0)

/-- R411, R412: an update under way is dropped by a reset of wing 0: the verified mark, chunk writes, the slot write and
its DONE; chunks committed stay. (DEDUCED, log 218) -/
def updateDrop (s0 : State) : State :=
  let s := slotTorn s0
  { s with
    upd := { s.upd with verified := false, writing := none, outcome := 0, done := none, chunks := [], report := [], head := none }
    store := s.store.map (fun e => (e.1, { e.2 with ops := e.2.ops.filter (fun o => !(o.kind == 0 && o.stream == 4)) })) }

/-- A reset of the part: besides, the trial and the activation's wait end, and Shuttered is entered by cause 6 alone.
(DEDUCED, log 216) -/
def updateReset (cause : Nat) (s : State) : State :=
  let s1 := updateDrop s
  { s1 with upd := { s1.upd with actAt := none, trial := none, noSlot := none, shut := cause == 6, run := [], verdict := none, imageAt := 0 } }

end Sys2Proof.Machine
end

