-- ==== Sys2Proof/Machine/Store.lean ====
section
/-! DEFINITION. The Profile Store (R282 to R308): decisions, intake, spans and their seals, the late path, merges,
expiry, garbage collection, wear, refresh, checkpoints, start and reads. -/

namespace Sys2Proof.Machine

/-! ### Spans (R282) -/

/-- A_e, 05.0026.00. -/
def epochOff (s : State) : Nat := obj s 0x05002600

/-- The present UTC day (R282). -/
def presentDay (s : State) : Int := (((ptimeNs s / 1000000000 : Nat) : Int) - epochOff s) / 86400

/-- Interval number n of an interval end (R282). -/
def intervalNo (s : State) (e mu : Nat) : Nat := (e / 1000000000 - epochOff s) / (60 * max 1 mu) - 1

/-- The span of an interval end, and the position in it (R282). -/
def spanPos (s : State) (e mu : Nat) : Nat × Nat := (intervalNo s e mu / 96, intervalNo s e mu % 96)

/-- The end of a span, UTC seconds (R282). -/
def spanStop (mu n : Nat) : Nat := (n + 1) * 96 * 60 * mu

/-- The death day of a span under the retention in force (R282). -/
def deathDay (s : State) (mu n : Nat) : Nat := ceilDiv (spanStop mu n) 86400 + obj s 0x0A001000

/-- A span is past retention (R282). -/
def pastRetention (s : State) (mu n : Nat) : Bool := decide ((deathDay s mu n : Int) ≤ presentDay s)

/-- R287: the hold H. -/
def sealHold (s : State) (mu : Nat) : Nat := max 600 (min (obj s 0x0A001100) (96 * 60 * mu - 3600))

/-- R287: PTIME at which a span is sealed. -/
def sealTime (s : State) (mu n : Nat) : Nat := (spanStop mu n + epochOff s + sealHold s mu) * 1000000000 % two64

/-- One more than the newest span sealed of an interval length (0: none). (DEDUCED, log 149) -/
def sealedTo (x : Store) (mu : Nat) : Nat := tabGet 0 x.sigmas mu

/-- A store that has sealed no span of `mu` takes the spans whose hold is over already as sealed. -/
def sigmaStart (w mu : Nat) (s : State) : State :=
  let x := storeGet s w
  if sealedTo x mu = 0 then
    storeSet w { x with sigmas := tabPut 0 mu ((ptimeNs s / 1000000000 - epochOff s - sealHold s mu) / (96 * 60 * max 1 mu)) x.sigmas } s
  else s

/-- A span is sealed, or its seal has begun (R283). -/
def spanSealed (x : Store) (mu n : Nat) : Bool :=
  decide (n < sealedTo x mu) || (match x.sealing with
    | some j => j.mu == mu && j.span == n
    | none => false)

/-! ### Span buffers (R286) -/

/-- The buffer half of a home slot for a span. (DESIGN CHOICE, log 143) -/
def halfAddr (s : State) (w h n : Nat) : Nat := regF s (nfcBufCfg w) 63 30 * 1073741824 + h * 10240 + n % 2 * 5120

/-- A half holds a span: OPEN is set. -/
def halfOpen (b : Bytes) : Bool := bit (leAt b 9 1) 7

/-- A half holds this span. -/
def halfHolds (b : Bytes) (mu n : Nat) : Bool := halfOpen b && leAt b 4 4 == n && leAt b 10 2 == mu

/-- The values of a record of `c` channels laid out for `c2` channels, absent ones 0. -/
def layValues (b : Bytes) (c c2 : Nat) : Bytes :=
  (List.range (96 * c2)).flatMap (fun j =>
    if j % c2 < c then padTo 8 (slice b (144 + 8 * (c * (j / c2) + j % c2)) 8) else List.replicate 8 0)

/-- R283, Table 10-8: an entry placed at position `k` of a span record. -/
def recordPut (b e : Bytes) (n k flags : Nat) : Bytes :=
  let mu := leAt e 6 2
  let old := if halfHolds b mu n then b else List.replicate 144 0
  let c := leAt old 8 1
  let c2 := max c (leAt e 4 1 % 8)
  let doubt := bit (leAt e 4 1) 3
  let vals := putBytes (layValues old c c2) (8 * (c2 * k)) (padTo (8 * c2) (slice e 16 (8 * (leAt e 4 1 % 8))))
  let fl := (leAt old 9 1 ||| flags) ||| (if doubt then 8 else 0)
  slice e 0 4 ++ toLe 4 n ++ toLe 1 c2 ++ toLe 1 fl ++ toLe 2 mu ++ toLe 2 (144 + 768 * c2) ++
  toLe 2 (leAt old 14 2 + b2n (!bit (leAt old 16 12) k)) ++ toLe 12 (leAt old 16 12 ||| 2 ^ k) ++
  toLe 12 (if doubt then leAt old 28 12 ||| 2 ^ k else leAt old 28 12) ++
  putBytes (slice old 40 96) k (slice e 5 1) ++ List.replicate 8 0 ++ vals

/-- A record with its CRC (Table 10-8). -/
def recordSeal (b : Bytes) : Bytes :=
  let r := slice b 0 (leAt b 12 2)
  putLe r 136 4 (crc32c (putLe r 136 4 0))

/-- The halves of a wing that are OPEN: home slot and address, ascending. -/
def openHalves (s : State) (w : Nat) : List (Nat × Nat) :=
  let base := regF s (nfcBufCfg w) 63 30 * 1073741824
  (s.dram.filter (fun c => decide (base ≤ c.1 ∧ c.1 < base + capacity s w * 10240 ∧ (c.1 - base) % 5120 = 9) &&
    bit c.2.toNat 7)).map (fun c => ((c.1 - base) / 10240, c.1 - 9))

/-! ### Copying, erasing and retiring (R291, R295, R296) -/

/-- A block's erase is queued. -/
def eraseQueue (w b : Nat) (s : State) : State :=
  opQueue w { programOp s (blockGet (storeGet s w) b).stream 0 [] [] 0 with kind := 2, blk := some b, chan := some (chanOf s w b) }
    (storeMod w (fun x => blockSet b { blockGet x b with st := 4 } x) s)

/-- A block's live pages with their places. -/
def livePages (k : NandBlock) : List (Nat × NandPage) :=
  (k.pages.zipIdx.filter (fun p => p.1.valid)).map (fun p => (p.2, p.1))

/-- Cut a list into runs of `u`. -/
def runsOf {α : Type} (u : Nat) : Nat → List α → List (List α)
  | 0, _ => []
  | f + 1, l => if l.isEmpty then [] else l.take (max 1 u) :: runsOf u f (l.drop (max 1 u))

/-- A task begins: its identity and the state that holds it. -/
def taskNew (w kind a b : Nat) (s : State) : Nat × State :=
  let x := storeGet s w
  (x.nextTask, storeSet w { x with tasks := x.tasks ++ [{ id := x.nextTask, kind := kind, a := a, b := b }]
                                   nextTask := x.nextTask + 1 } s)

/-- R291's copy rule: a block's valid pages are copied to their stream (or to block `dest`) under a task. -/
def copyBlock (w kind b : Nat) (dest : Option Nat) (s : State) : State :=
  let k := blockGet (storeGet s w) b
  let live := livePages k
  let t := taskNew w kind b (if kind = 4 then live.length else dest.getD 0) s
  let s1 := if kind = 1 then countBy w (tallyNfc 13) live.length t.2 else t.2
  (runsOf (unitPages s w k.slc) (live.length + 1) live).foldl (fun s l =>
    opQueue w { programOp s k.stream k.day (padPages (unitPages s w k.slc) (l.map (·.2))) [] t.1 with
      reloc := true, blk := dest, chan := if k.stream ≤ 1 then some (chanOf s w b) else none
      src := l.map (fun p => (b, p.1)) } s) s1

/-- A block may be a source of copies: closed, outside IMAGE, and not already one. -/
def mayCopy (x : Store) (e : Nat × NandBlock) : Bool :=
  e.2.st == 2 && e.2.stream != 4 && !x.tasks.any (fun t => decide (t.kind ≤ 4) && t.a == e.1) &&
  !x.ops.any (fun o => o.blk == some e.1)

/-- R291: the victim: fewest valid pages, ties to the lower erase count; day blocks only when no other closed block
holds an invalid page. -/
def gcVictim (x : Store) : Option Nat :=
  let c := x.blocks.filter (mayCopy x)
  let other := c.filter (fun e => decide (e.2.stream < 0x8000))
  let c2 := if other.any (fun e => e.2.pages.any (fun p => !p.valid && p.typ == 0)) then other else c
  (pickBlock false (c2.map (fun e => (e.1, (livePages e.2).length * 2 ^ 40 + e.2.erases)))).map (·.1)

/-- R291: garbage collection of a block begins. -/
def gcStart (w b : Nat) (s : State) : State := copyBlock w 1 b none s

/-- Blocks that hold nothing the map refers to are erased: MAP, JOURNAL, INTAKE and LATE (Table 10-3). -/
def reap (w : Nat) (s : State) : State :=
  let x := storeGet s w
  (x.blocks.filter (fun e => mayCopy x e && decide (e.2.stream ≤ 3) && !e.2.pages.any (·.valid))).foldl
    (fun s e => eraseQueue w e.1 s) s

/-! ### Expiry (R290) -/

/-- The oldest death day among a wing's day blocks. -/
def oldestDay (x : Store) : Option Nat :=
  (x.blocks.filter (fun e => decide (0x8000 ≤ e.2.stream) && (e.2.st == 1 || e.2.st == 2))).foldl
    (fun m e => match m with
      | none => some e.2.day
      | some d => some (min d e.2.day)) none

/-- The interval minutes and span of an intake-format entry. -/
def entrySpan (s : State) (e : Bytes) : Nat × Nat := (leAt e 6 2, (spanPos s (leAt e 8 8) (leAt e 6 2)).1)

/-- The patch keys of a span. -/
def patchesOf (s : State) (x : Store) (mu n : Nat) : List StoreEntry :=
  x.patches.filter (fun p => entrySpan s p.data == (mu, n))

/-- LATE pages none of whose patches is in the index are no longer referred to. -/
def lateSync (w : Nat) (s : State) : State :=
  storeMod w (fun x => { x with blocks := x.blocks.map (fun e => if e.2.stream = 3 then
    (e.1, { e.2 with pages := e.2.pages.map (fun p =>
      { p with valid := p.valid && (runsOf 64 (p.count + 1) p.data).any (fun d => x.patches.any (fun q => q.data == d)) }) })
    else e) }) s

/-- Patches dropped, and the index no longer full (R288). -/
def patchesDrop (w : Nat) (p : StoreEntry → Bool) (s : State) : State :=
  lateSync w (nfcLevel w 7 false (storeMod w (fun x => { x with patches := x.patches.filter (fun q => !p q) }) s))

/-- A death day's blocks are erased; its directories, patch keys and merges are dropped (R290, Table 10-15). -/
def expireDay (w d : Nat) (s : State) : State :=
  let x := storeGet s w
  let bs := x.blocks.filter (fun e => decide (0x8000 ≤ e.2.stream) && e.2.day == d && (e.2.st == 1 || e.2.st == 2))
  let gone := x.dirs.filter (fun r => r.day == d)
  let isGone := fun (mn : Nat × Nat) => gone.any (fun r => r.mu == mn.1 && r.span == mn.2)
  let s1 := storeMod w (fun x => { x with
    dirs := x.dirs.filter (fun r => r.day != d)
    tasks := x.tasks.filter (fun t => !((t.kind == 5 || t.kind == 8) && isGone (t.a, t.b)) && !(decide (t.kind ≤ 4) && bs.any (fun e => e.1 == t.a)))
    ops := x.ops.filter (fun o => o.start.isSome || !(decide (0x8000 ≤ o.stream) && o.day == d)) }) s
  let s2 := patchesDrop w (fun q => isGone (entrySpan s q.data)) s1
  raise w 0x0A0F w d bs.length (countBy w (tallyNfc 16) bs.length (bs.foldl (fun s e => eraseQueue w e.1 s) s2))

/-! ### STORE_FULL (R298) -/

/-- An ordinary program waits for a block that R279 does not let it take. -/
def blockWanted (s : State) (w : Nat) : Bool :=
  (storeGet s w).ops.any (fun o => o.kind == 0 && o.blk.isNone && o.start.isNone && !o.reloc &&
    (openBlock s w (opChan s w o) o.stream).isNone && !mayTake s w (opChan s w o) o)

/-- R298: a write that finds no free block above R_s first erases what is past retention, then collects garbage; with
neither possible the store enters READ_ONLY. -/
def storeFull (w : Nat) (s : State) : State :=
  let x := storeGet s w
  if storeState s w = 4 ∧ blockWanted s w ∧ !noNewOps s ∧ !x.ops.any (fun o => o.kind == 2) ∧ !x.tasks.any (fun t => t.kind == 1) then
    match oldestDay x with
    | some d =>
      if (d : Int) ≤ presentDay s ∧ ptimeLocked s then expireDay w d s
      else match gcVictim x with
        | some b => if (blockGet x b).pages.any (fun p => !p.valid) then gcStart w b s
                    else raise w 0x0A08 w (freePool s w) (spareReserve s w)
                      (count w (tallyNfc 17) (nfcFlag w 1 (storeStateSet w 5 s)))
        | none => raise w 0x0A08 w (freePool s w) (spareReserve s w) (count w (tallyNfc 17) (nfcFlag w 1 (storeStateSet w 5 s)))
    | none => match gcVictim x with
      | some b => if (blockGet x b).pages.any (fun p => !p.valid) then gcStart w b s
                  else raise w 0x0A08 w (freePool s w) (spareReserve s w)
                    (count w (tallyNfc 17) (nfcFlag w 1 (storeStateSet w 5 s)))
      | none => raise w 0x0A08 w (freePool s w) (spareReserve s w) (count w (tallyNfc 17) (nfcFlag w 1 (storeStateSet w 5 s)))
  else s

/-- Staged records of a wing that need PROFILE and have not been taken, in sequence order. -/
def profileWaiting (s : State) (w : Nat) : List Unrel :=
  (ingGet s w).unrel.filter (fun u => bit u.req 0 && !bit u.conf 0 && later64 u.seq (storeGet s w).taken)

/-- R298: READ_ONLY is left when the free pool exceeds R_s plus 1% of the good blocks. -/
def readOnlyLeave (w : Nat) (s : State) : State :=
  if storeState s w = 5 ∧ spareReserve s w * 100 + (storeGet s w).good < freePool s w * 100 then
    raise w 0x0A09 w (freePool s w) (profileWaiting s w).length (storeStateSet w 4 s)
  else s

/-- After any change: what can be erased is, what can start does. -/
def storeRun (w : Nat) (s : State) : State := storeFull w (opsStart w (reap w (readOnlyLeave w s)))

/-! ### Outcomes (R308) -/

/-- A record ends with counter `k` of Table 10-22 and confirms PROFILE. (DESIGN CHOICE, log 139) -/
def profileEnd (w k seq : Nat) (s : State) : State :=
  let s1 := count w (tallyNfc k) s
  if (ingGet s w).unrel.any (fun u => u.seq % 2 ^ 60 == seq) then confirmDest w seq 1 s1 else s1

/-! ### Intake (R283 to R285) -/

/-- The intake entry of a staged record (Table 10-7). -/
def intakeEntry (r : Bytes) : Bytes :=
  let f := leAt r 13 1
  let c := leAt r 50 1
  slice r 8 4 ++ toLe 1 (c % 8 + 8 * b2n (bit f 3) + 16 * b2n (bit f 1) + 32 * b2n (bit f 0)) ++ slice r 51 1 ++
  slice r 48 2 ++ slice r 40 8 ++ padTo 48 (slice r 56 (8 * c))

/-- Places of a hot stream's unit (R284). -/
def unitPlaces (s : State) (w : Nat) : Nat := unitPages s w (obj s 0x0A002100 == 1) * 256

/-- A unit of entries closes and is queued, its places filled in order (R284). -/
def unitClose (w stream : Nat) (s : State) : State :=
  let x := storeGet s w
  let u := unitPages s w (obj s 0x0A002100 == 1)
  let es := (if stream = 2 then x.intake else x.late).take (u * 256)
  if es.isEmpty then s
  else
    let pages := (List.range u).map (fun i =>
      let g := (es.drop (256 * i)).take 256
      newPage ((g.head?.map (·.seq)).getD 0) 0 g.length (g.flatMap (·.data)))
    let x2 := if stream = 2 then { x with intake := x.intake.drop (u * 256), intakeAt := s.clk.now }
              else { x with late := x.late.drop (u * 256), lateAt := s.clk.now }
    opQueue w (programOp s stream 0 pages es 0) (storeSet w x2 s)

/-- An entry joins its stream's open unit. -/
def unitAdd (w stream seq : Nat) (e : Bytes) (s : State) : State :=
  storeMod w (fun x =>
    if stream = 2 then { x with intake := x.intake ++ [{ seq := seq, data := e }], intakeAt := if x.intake.isEmpty then s.clk.now else x.intakeAt }
    else { x with late := x.late ++ [{ seq := seq, data := e }], lateAt := if x.late.isEmpty then s.clk.now else x.lateAt }) s

/-- R287: a seal is asked for; spans seal in span order. -/
def sealAsk (w mu n flags : Nat) (s : State) : State :=
  let x := storeGet s w
  if x.sealQ.any (fun j => j.mu == mu && j.span == n) || spanSealed x mu n then s
  else storeSet w { x with
    sealQ := insertKey (fun j => spanStop j.mu j.span) { mu := mu, span := n, flags := flags, packed := false, listed := false, task := 0 } x.sealQ } s

/-- R287: every open span is to be sealed with CONFIG: 05.0022.00 or 05.0026.00 changes. -/
def sealConfig (w : Nat) (s : State) : State :=
  (openHalves s w).foldl (fun s h =>
    let b := dramRead s h.2 16
    sealAsk w (leAt b 10 2) (leAt b 4 4) 1 s) s

/-- R284: a unit closes when it is full or its first entry has waited 0A.0020.00. -/
def execIntakeUnitClose (t w : Nat) (s : State) : Host.Outcome State Fault Refusal :=
  let s := atTime t s
  let x := storeGet s w
  let due := fun (l : List StoreEntry) (at_ : Nat) =>
    !l.isEmpty && (decide (unitPlaces s w ≤ l.length) || decide (at_ + obj s 0x0A002000 * 1000 ≤ s.clk.now))
  if storeState s w ≠ 4 then .next s
  else if due x.intake x.intakeAt then .next (storeRun w (unitClose w 2 s))
  else if due x.late x.lateAt then .next (storeRun w (unitClose w 3 s))
  else .next s

/-! ### Seals (R287) -/

/-- Whole records put in pages: a page takes records until the next does not fit. Each is (home slot, record). -/
def packPages (base : Nat) : List (Nat × Bytes) → Option NandPage → List NandPage
  | [], none => []
  | [], some p => [p]
  | r :: rs, none => packPages base rs (some (newPage (base + r.1) 0 1 r.2))
  | r :: rs, some p =>
    if p.data.length + r.2.length ≤ 16384 then packPages base rs (some { p with count := p.count + 1, data := p.data ++ r.2 })
    else p :: packPages base rs (some (newPage (base + r.1) 0 1 r.2))

/-- A span's logical addresses start here (Table 10-5). -/
def dayBase (mu n : Nat) : Nat := mu * 2 ^ 56 + n * 2 ^ 24

/-- A span's live pages by logical address: block, page, the page. -/
def spanPages (x : Store) (mu n : Nat) : List (Nat × Nat × NandPage) :=
  sortKey (fun p => p.2.2.logical) (x.blocks.flatMap (fun e => if 0x8000 ≤ e.2.stream then
    ((livePages e.2).filter (fun p => decide (p.2.logical / 2 ^ 24 = dayBase mu n / 2 ^ 24))).map (fun p => (e.1, p.1, p.2)) else []))

/-- The span directory, written to MAP once the span's pages are programmed (Table 10-9): each page's physical place, its
records and its first home slot. -/
def writeDirectory (w mu n task : Nat) (s : State) : State :=
  writeTwice w 0 task (bytePages (2 * 2 ^ 56 + mu * 2 ^ 48 + n * 65536)
    ((spanPages (storeGet s w) mu n).flatMap (fun p =>
      toLe 8 ((p.1 * 65536 + p.2.1) * 2 ^ 28 + p.2.2.count * 2 ^ 23 + p.2.2.logical % 2 ^ 20)))) s

/-- An intake entry may belong to a seal's span: one sealed with CONFIG may have entries placed under the settings before. -/
def sealOwns (s : State) (j : SealJob) (e : StoreEntry) : Bool := bit j.flags 0 || entrySpan s e.data == (j.mu, j.span)

/-- R287, 2: the span's intake entries are all STORED. -/
def intakeStored (s : State) (x : Store) (j : SealJob) : Bool :=
  !x.intake.any (sealOwns s j) && !x.ops.any (fun o => o.stream == 2 && o.entries.any (sealOwns s j))

/-- The operations of a task have all completed. -/
def taskQuiet (x : Store) (id : Nat) : Bool := !x.ops.any (fun o => o.task == id)

/-- R287, 3: a span's records packed into pages of its day stream. (DEDUCED, log 148) -/
def sealPack (w : Nat) (j : SealJob) (s : State) : State :=
  let recs := ((openHalves s w).filter (fun h => halfHolds (dramRead s h.2 16) j.mu j.span)).map (fun h =>
    let b := dramRead s h.2 5120
    (h.1, recordSeal (putLe b 9 1 (leAt b 9 1 % 128 ||| j.flags))))
  let pages := packPages (dayBase j.mu j.span) recs none
  let d := deathDay s j.mu j.span
  let u := max 1 (unitPages s w false)
  let t := taskNew w 7 j.mu j.span s
  let s1 := (unitsOf u (pages.length + u) (padPages u pages)).foldl
    (fun s l => opQueue w (programOp s (0x8000 + d % 32768) d l [] t.1) s) t.2
  storeMod w (fun x => { x with sealing := some { j with packed := true, task := t.1 }
                                dirs := x.dirs ++ [{ mu := j.mu, span := j.span, day := d, pages := pages.length }] }) s1

/-- R287, 3 and 4: once its intake is STORED the span is packed, and once its pages are programmed its directory written. -/
def sealAdvance (w : Nat) (s : State) : State :=
  let x := storeGet s w
  match x.sealing with
  | none => s
  | some j =>
    if noNewOps s || storeState s w ≠ 4 then s
    else if !j.packed then (if intakeStored s x j then sealPack w j s else s)
    else if !j.listed && taskQuiet x j.task then
      writeDirectory w j.mu j.span j.task (storeMod w (fun x => { x with sealing := some { j with listed := true } }) s)
    else s

/-- R287: the seal that is due: of those asked for and the next span whose hold is over, the first in span order. -/
def sealNext (s : State) (w : Nat) : Option SealJob :=
  let x := storeGet s w
  let mu := obj s 0x05002200
  let due : List SealJob := if notBefore64 (ptimeNs s) (sealTime s mu (sealedTo x mu)) then
    [{ mu := mu, span := sealedTo x mu, flags := 0, packed := false, listed := false, task := 0 }] else []
  (due.foldl (fun l j => if l.any (fun k => k.mu == j.mu && k.span == j.span) then l
    else insertKey (fun j => spanStop j.mu j.span) j l) x.sealQ).head?

/-- R287, 1 and 2: SEAL_START of the seal that is due. -/
def sealStart (w : Nat) (s : State) : State :=
  if storeState s w ≠ 4 ∨ (storeGet s w).sealing.isSome ∨ noNewOps s then s
  else
    let s1 := sigmaStart w (obj s 0x05002200) s
    match sealNext s1 w with
    | none => s1
    | some j =>
      let s2 := storeMod w (fun x => { x with sealing := some j, sealQ := x.sealQ.filter (fun k => k != j) }) s1
      let s3 := journalRec w 1 j.mu j.span 0 (nfcLevel w 8 true s2)
      let s4 := if (storeGet s3 w).intake.any (sealOwns s3 j) then unitClose w 2 s3 else s3
      storeRun w (sealAdvance w (storeRun w (sealAdvance w s4)))

/-- R287, 1 and 2: SEAL_START. -/
def execSpanSeal (t w : Nat) (s : State) : Host.Outcome State Fault Refusal :=
  let s := atTime t s
  .next (sealStart w s)

/-- R283, R306: the decision on the next staged record that requires PROFILE, after the start of a seal that is due. -/
def execProfileDecision (t w : Nat) (s : State) : Host.Outcome State Fault Refusal :=
  let s := sealStart w (atTime t s)
  match profileWaiting s w with
  | [] => .next s
  | u :: _ =>
    let x := storeGet s w
    let tj := max u.at_ (x.lastT + 16)
    let off := obj s 0x0A000100 == 0 || regF s (nfcCtl w) 0 0 == 0
    let r := dramRead s (stgBase s w + u.seq % 1048576 * 128) 128
    let mu := leAt r 48 2
    let p := spanPos s (leAt r 40 8) mu
    if s.clk.now < tj + 240 ∨ s.part.wings ≤ w then .next s
    else
      let s1 := storeMod w (fun x => { x with taken := u.seq, lastT := tj }) s
      if off then .next (profileEnd w 4 u.seq s1)
      else if storeState s w ≠ 4 then .next s
      else if pastRetention s mu p.1 then .next (profileEnd w 3 u.seq s1)
      else
        let s2 := sigmaStart w mu s1
        if spanSealed (storeGet s2 w) mu p.1 then .next (storeMod w (fun x => { x with lateQ := x.lateQ ++ [u.seq] }) s2)
        else if sealedTo (storeGet s2 w) mu + 1 < p.1 then
          let v := sealedTo (storeGet s2 w) mu
          if (storeGet s w).sealQ.any (fun j => j.mu == mu && j.span == v) || spanSealed (storeGet s2 w) mu v then .next s
          else .next (raise w 0x0A0D w (mu * 2 ^ 32 + v) 0 (count w (tallyNfc 20) (sealAsk w mu v 2 (sigmaStart w mu s))))
        else
          let a := halfAddr s2 w (leAt r 8 4 / s.part.wings) p.1
          let b := dramRead s2 a 5120
          if halfHolds b mu p.1 && bit (leAt b 16 12) p.2 then .next (profileEnd w 1 u.seq s2)
          else
            let e := intakeEntry r
            .next (unitAdd w 2 u.seq e (dramWrite a (recordPut b e p.1 p.2 128) s2))

/-- INTAKE pages whose entries all lie in sealed spans are no longer referred to (R287, 5). -/
def intakeSync (w : Nat) (s : State) : State :=
  storeMod w (fun x => { x with blocks := x.blocks.map (fun e => if e.2.stream = 2 then
    (e.1, { e.2 with pages := e.2.pages.map (fun p =>
      { p with valid := p.valid && (runsOf 64 (p.count + 1) p.data).any (fun d =>
          decide (sealedTo x (leAt d 6 2) ≤ (entrySpan s d).2)) }) })
    else e) }) s

/-- R287, 5: SEAL_DONE. -/
def execSealDone (t w : Nat) (s : State) : Host.Outcome State Fault Refusal :=
  let s := atTime t s
  let x := storeGet s w
  match x.sealing with
  | none => .next s
  | some j =>
    if !j.listed || !taskQuiet x j.task then .next s
    else
      let n := ((x.dirs.find? (fun r => r.mu == j.mu && r.span == j.span)).map (·.pages)).getD 0
      let s1 := ((openHalves s w).filter (fun h => halfHolds (dramRead s h.2 16) j.mu j.span)).foldl
        (fun s h => dramWrite h.2 (List.replicate 5120 0) s) s
      let s2 := storeMod w (fun x => { x with sealing := none, tasks := x.tasks.filter (fun k => k.id != j.task)
                                              sigmas := tabPut 0 j.mu (max (sealedTo x j.mu) (j.span + 1)) x.sigmas
                                              mergeDue := true }) s1
      let s3 := journalRec w 2 j.mu j.span n (nfcLevel w 8 false s2)
      .next (storeRun w (intakeSync w (raise w 0x0A04 w (j.mu * 2 ^ 32 + j.span) n s3)))

/-! ### The late path and merges (R288, R289) -/

/-- The records of a page of a day stream, with their offsets. -/
def pageRecords : Nat → Bytes → List Bytes
  | 0, _ => []
  | f + 1, d => if leAt d 12 2 = 0 then [] else slice d 0 (leAt d 12 2) :: pageRecords f (d.drop (leAt d 12 2))

/-- Where a span's record of an endpoint lies: block, page, the page; a page that is LOST only where no other holds it. -/
def findRecord (x : Store) (dir mu n : Nat) : Option (Nat × Nat × NandPage) :=
  let l := (spanPages x mu n).filter (fun p => (pageRecords 17 p.2.2.data).any (fun r => leAt r 0 4 == dir))
  match l.find? (fun p => !p.2.2.lost) with
  | some p => some p
  | none => l.head?

/-- The record of an endpoint in a page. -/
def recordIn (p : NandPage) (dir : Nat) : Bytes := ((pageRecords 17 p.data).find? (fun r => leAt r 0 4 == dir)).getD []

/-- The patch index holds the key of an entry (R288, 1). -/
def patchHas (x : Store) (e : Bytes) : Bool :=
  (x.patches ++ x.late ++ (x.ops.filter (fun o => o.stream == 3)).flatMap (·.entries)).any (fun p =>
    slice p.data 0 4 == slice e 0 4 && slice p.data 6 10 == slice e 6 10)

/-- R288, 3: the front of the late queue goes to the LATE stream, once the patch index has room. -/
def lateAppend (w seq : Nat) (e : Bytes) (s : State) : State :=
  let x := storeGet s w
  if 1048576 ≤ x.patches.length + x.late.length + ((x.ops.filter (fun o => o.stream == 3)).map (fun o => o.entries.length)).sum then
    storeMod w (fun x => { x with reading := false })
      (if regF s (nfcStat w) 7 7 = 1 then s else count w (tallyNfc 21) (nfcLevel w 7 true s))
  else unitAdd w 3 seq e (storeSet w { x with lateQ := x.lateQ.drop 1, reading := false } s)

/-- R288: a late record is found a REPEAT. -/
def lateRepeat (w seq : Nat) (s : State) : State :=
  profileEnd w 1 seq (storeMod w (fun x => { x with lateQ := x.lateQ.drop 1, reading := false }) s)

/-- The staged record at the front of the late queue, as an entry. -/
def lateFront (s : State) (w seq : Nat) : Bytes := intakeEntry (dramRead s (stgBase s w + seq % 1048576 * 128) 128)

/-- R288, 2 and 3: the span's page has been read (or is LOST): present makes the record REPEAT. -/
def lateJudge (w : Nat) (s : State) : State :=
  match (storeGet s w).lateQ with
  | [] => s
  | seq :: _ =>
    let e := lateFront s w seq
    let p := spanPos s (leAt e 8 8) (leAt e 6 2)
    match findRecord (storeGet s w) (leAt e 0 4) (leAt e 6 2) p.1 with
    | none => lateAppend w seq e s
    | some f =>
      if !f.2.2.lost && bit (leAt (recordIn f.2.2 (leAt e 0 4)) 16 12) p.2 then lateRepeat w seq s else lateAppend w seq e s

/-- R288: the late record at the front is looked up; a span record on NAND is read first. -/
def execLatePath (t w : Nat) (s : State) : Host.Outcome State Fault Refusal :=
  let s := atTime t s
  let x := storeGet s w
  match x.lateQ with
  | [] => .next s
  | seq :: _ =>
    let e := lateFront s w seq
    let p := spanPos s (leAt e 8 8) (leAt e 6 2)
    if x.reading ∨ storeState s w ≠ 4 then .next s
    else if patchHas x e then .next (lateRepeat w seq s)
    else if x.sealing.any (fun j => j.mu == leAt e 6 2 && j.span == p.1) then .next s
    else match findRecord x (leAt e 0 4) (leAt e 6 2) p.1 with
      | none => .next (lateAppend w seq e s)
      | some f => .next (opsStart w (opQueue w { programOp s (blockGet x f.1).stream 0 [] [] 0 with
          kind := 1, blk := some f.1, page := f.2.1, chan := some (chanOf s w f.1) } (storeMod w (fun x => { x with reading := true }) s)))

/-- The oldest span that has patches. -/
def oldestPatched (s : State) (x : Store) : Option (Nat × Nat) :=
  x.patches.foldl (fun m p =>
    let k := entrySpan s p.data
    match m with
    | none => some k
    | some o => if spanStop k.1 k.2 < spanStop o.1 o.2 then some k else some o) none

/-- A span record with an endpoint's patches folded in, its CRC kept right. (DEDUCED, log 150) -/
def foldPatches (s : State) (ps : List StoreEntry) (n : Nat) (r : Bytes) : Bytes :=
  recordSeal (ps.foldl (fun r p => recordPut (putLe r 9 1 (leAt r 9 1 ||| 128)) p.data n (spanPos s (leAt p.data 8 8) (leAt p.data 6 2)).2 0) r
    |> fun r => putLe r 9 1 (leAt r 9 1 % 128))

/-- R289: the records of one page of a span and the endpoints new to it, patches folded in, packed again from the page's logical
address. -/
def mergePage (s : State) (ps : List StoreEntry) (mu n : Nat) (recs : List Bytes) (news : List Nat) : List NandPage :=
  let all := sortKey (fun r => leAt r 0 4) (recs ++ news.map (fun d => toLe 4 d ++ toLe 4 n ++ [1, 0] ++ toLe 2 mu ++ List.replicate 900 0))
  packPages (dayBase mu n) (all.map (fun r =>
    (leAt r 0 4 / s.part.wings, foldPatches s (ps.filter (fun q => leAt q.data 0 4 == leAt r 0 4)) n r))) none

/-- The pages of a span that are not LOST, each with the home slots it may hold: from its first to the next page's. -/
def mergeSlots (l : List (Nat × Nat × NandPage)) : List ((Nat × Nat × NandPage) × Nat × Nat) :=
  l.zipIdx.map (fun p => (p.1, if p.2 = 0 then 0 else p.1.2.2.logical % 2 ^ 20,
    match l[p.2 + 1]? with
    | some q => q.2.2.logical % 2 ^ 20
    | none => 2 ^ 20))

/-- R289: a span's patches are folded into its pages, written again under their logical addresses. -/
def mergeSpan (w mu n : Nat) (s : State) : State :=
  let x := storeGet s w
  let ps := patchesOf s x mu n
  let dirs := (ps.map (fun q => leAt q.data 0 4)).eraseDups
  let good := (spanPages x mu n).filter (fun p => !p.2.2.lost)
  let held := fun (p : Nat × Nat × NandPage) => (pageRecords 17 p.2.2.data).map (fun r => leAt r 0 4)
  let news := dirs.filter (fun d => !good.any (fun p => (held p).contains d))
  let touched := (mergeSlots good).filter (fun p =>
    dirs.any (fun d => (held p.1).contains d) || news.any (fun d => decide (p.2.1 ≤ d / s.part.wings ∧ d / s.part.wings < p.2.2)))
  let pages := if good.isEmpty then mergePage s ps mu n [] news
    else touched.flatMap (fun p => mergePage s ps mu n (pageRecords 17 p.1.2.2.data)
      (news.filter (fun d => decide (p.2.1 ≤ d / s.part.wings ∧ d / s.part.wings < p.2.2))))
  let d := ((x.dirs.find? (fun r => r.mu == mu && r.span == n)).map (·.day)).getD (deathDay s mu n)
  let t := taskNew w 5 mu n s
  let u := max 1 (unitPages s w false)
  let s1 := countBy w (tallyNfc 7) touched.length t.2
  let src := touched.map (fun p => (p.1.1, p.1.2.1))
  let units := unitsOf u (pages.length + u) (padPages u pages)
  units.zipIdx.foldl (fun s l =>
    opQueue w { programOp s (0x8000 + d % 32768) d l.1 [] t.1 with src := if l.2 + 1 = units.length then src else [] } s) s1

/-- R289: a merge of the oldest patched span begins: at a seal, or with the index 75% full. -/
def execPatchMerge (t w : Nat) (s : State) : Host.Outcome State Fault Refusal :=
  let s := atTime t s
  let x := storeGet s w
  let due := x.mergeDue || decide (786432 ≤ x.patches.length)
  if storeState s w = 4 ∧ due ∧ !x.tasks.any (fun k => k.kind == 5 || k.kind == 8) ∧ !noNewOps s then
    match oldestPatched s x with
    | none => .next (storeSet w { x with mergeDue := false } s)
    | some k => .next (storeRun w (mergeSpan w k.1 k.2 s))
  else .next s

/-! ### Checkpoints (R300) -/

/-- Pages of a checkpoint: the state record, and the block table with the list of span-directory locations.
(DEDUCED, log 144) -/
def ckptPages (s : State) (w : Nat) : Nat :=
  1 + ceilDiv (32 * (storeGet s w).good + 8 * (storeGet s w).dirs.length) 16384

/-- R300: a checkpoint's duration under R276, FCLK, with the busy time the device is to signal.
(DESIGN CHOICE, log 145) -/
def ckptTime (s : State) (w : Nat) : Nat :=
  let u := max 1 (unitPages s w (obj s 0x0A002100 == 1))
  ceilDiv (ckptPages s w) u * (520 + u * pageTransfer s w 0 + Config.nandBusy 0)

/-- R300: 0A.0031.00, the declared cost in mJ: 15 W times the duration, rounded up. -/
def ckptCost (s : State) (w : Nat) : Nat := ceilDiv (15 * ckptTime s w) 1000000

/-- R300, R301: a checkpoint is due: its interval, NFC_CTL.CKPT, or a clean stop whose units have all completed. -/
def ckptDue (s : State) (w : Nat) : Bool :=
  let x := storeGet s w
  let stopping := regF s (nfcCtl w) 2 2 == 1
  (storeState s w == 4 || storeState s w == 5) && !noNewOps s && !x.tasks.any (fun k => k.kind == 6) &&
  (decide (x.ckptAt ≤ s.clk.now) || regF s (nfcCtl w) 1 1 == 1 || stopping) &&
  (!stopping || (x.intake.isEmpty && x.late.isEmpty && x.ops.all (fun o => o.entries.isEmpty) && x.sealing.isNone))

/-- R300: a checkpoint begins, or is refused for energy and tried again 10 s later. -/
def execCheckpoint (t w : Nat) (s : State) : Host.Outcome State Fault Refusal :=
  let s := atTime t s
  if w < s.part.wings ∧ ckptDue s w then
    let c := energyCheck w 1 (ckptCost s w * 1000000000) s
    if c.1 then
      let g := (storeGet s w).gen + 1
      let n := ckptPages s w
      let k := taskNew w 6 g n (storeMod w (fun x => { x with gen := g }) c.2)
      let state := toLe 8 (sealedTo (storeGet s w) (obj s 0x05002200)) ++ toLe 8 (obj s 0x05002200 * 60) ++
        toLe 8 (storeGet s w).pageSeq ++ toLe 8 (storeGet s w).jnum ++ toLe 8 g
      .next (storeRun w (writeTwice w 0 k.1 ((List.range n).map (fun i =>
        newPage (2 ^ 56 + i * 2 ^ 32 + g % 2 ^ 32) 0 1 (if i = 0 then state ++ toLe 4 (crc32c state) else []))) k.2))
    else
      let s1 := regPutF (nfcCtl w) 1 1 0 (count w (tallyNfc 19) (nfcFlag w 6 c.2))
      .next (raiseOnce (6100 + w) 3600000000000 w 0x0A03 w (ckptCost s w) (usableEnergy s w / 1000)
        (storeMod w (fun x => { x with ckptAt := s.clk.now + 10000000000 }) s1))
  else .next s

/-- R300: NFC_CTL.CKPT is set. -/
def execCkpt (t w : Nat) (s : State) : Host.Outcome State Fault Refusal :=
  let s := atTime t s
  if w < s.part.wings then .next (regPutF (nfcCtl w) 1 1 1 s) else .next s

/-- R301: a clean stop: NFC_CTL.STOP is set, and the pending units close and are programmed. -/
def stopStore (w : Nat) (s : State) : State :=
  let s1 := regPutF (nfcCtl w) 2 2 1 s
  if storeState s1 w = 4 then storeRun w (unitClose w 3 (unitClose w 2 s1)) else s1

/-- R301: NFC_CTL.STOP, or 0A.0003.00. -/
def execStop (t w : Nat) (s : State) : Host.Outcome State Fault Refusal :=
  let s := atTime t s
  if w < s.part.wings then .next (stopStore w s) else .next s

/-- R300, R301: a checkpoint has been written: what it supersedes in MAP and JOURNAL is no longer referred to. -/
def ckptDone (w g n : Nat) (s : State) : State :=
  let stopping := regF s (nfcCtl w) 2 2 == 1
  let s1 := storeMod w (fun x => { x with
    ckptAt := s.clk.now + obj s 0x0A003000 * 60000000000
    clean := stopping
    blocks := x.blocks.map (fun e => (e.1, { e.2 with
      bakeCk := e.2.bake
      pages := if e.2.stream ≤ 1 then e.2.pages.map (fun p =>
          if p.logical / 2 ^ 56 = 1 ∧ (e.2.stream = 1 ∨ p.logical % 2 ^ 32 ≠ g % 2 ^ 32) then { p with valid := false } else p)
        else e.2.pages })) }) s
  let s2 := raise w 0x0A02 w g n (count w (tallyNfc 18) (regPutF (nfcCtl w) 1 1 0 s1))
  if stopping then storeStateSet w 6 (regPutF (nfcCtl w) 2 2 0 s2) else s2

/-! ### Completions (R276, R285, R294 to R297) -/

/-- R287 to R295: a task whose operations have all completed ends. -/
def taskEnd (w : Nat) (k : StoreTask) (s : State) : State :=
  let s1 := storeMod w (fun x => { x with tasks := x.tasks.filter (fun q => q.id != k.id) }) s
  if k.kind = 1 ∨ k.kind = 3 then eraseQueue w k.a s1
  else if k.kind = 2 then raise w 0x0A0A w k.a k.b (eraseQueue w k.a (blockFill w k.b s1))
  else if k.kind = 4 then
    raise w 0x0A05 w k.a k.b (storeMod w (fun x => blockSet k.a { blockGet x k.a with st := 3 } x) s1)
  else if k.kind = 5 then
    let t := taskNew w 8 k.a k.b s1
    writeDirectory w k.a k.b t.1 t.2
  else if k.kind = 8 then
    let x := storeGet s1 w
    let ps := patchesOf s1 x k.a k.b
    let s2 := journalRec w 3 k.a k.b ps.length s1
    let s3 := patchesDrop w (fun q => entrySpan s1 q.data == (k.a, k.b)) s2
    let s4 := raise w 0x0A0C w (k.a * 2 ^ 32 + k.b) ps.length s3
    storeMod w (fun x => { x with mergeDue := decide (524288 < x.patches.length) }) s4
  else ckptDone w k.a k.b s1

/-- Every task but a seal whose operations have all completed ends; a merge goes on with its directory. -/
def tasksEnd (w : Nat) (s : State) : State :=
  ((storeGet s w).tasks.filter (fun k => k.kind != 7 && taskQuiet (storeGet s w) k.id)).foldl (fun s k => taskEnd w k s) s

/-- The place of the first operation that satisfies a test. -/
def opIndex (p : NandOp → Bool) (l : List NandOp) : Option Nat := l.findIdx? p

/-- Give pages their sequences, and summary pages their content (R280, R281). -/
def numberPages (b m : Nat) (k : NandBlock) (seq : Nat) (l : List NandPage) : List NandPage :=
  let l1 := l.zipIdx.map (fun p => { p.1 with seq := seq + 1 + p.2 })
  let sum := blockSummary b k ((k.pages ++ l1).filter (fun p => p.typ != 1)) m
  let first := (l1.filter (fun p => p.typ != 1)).length
  l1.zipIdx.map (fun p => if p.1.typ = 1 then { p.1 with data := slice sum (16384 * (p.2 - first)) 16384 } else p.1)

/-- R280, R285, R291: a unit programmed: its pages stand in its block, what they supersede is invalid, and its entries
are STORED or LATE_STORED. (DEDUCED, log 140) -/
def unitDone (w n : Nat) (o : NandOp) (b : Nat) (s : State) : State :=
  let x := storeGet s w
  let k := blockGet x b
  let m := summaryPages (blockPages s w k.slc)
  let pages := numberPages b m k x.pageSeq o.pages
  let kill := fun (bn : Nat) (q : NandBlock) => { q with pages := q.pages.zipIdx.map (fun p =>
    if o.src.contains (bn, p.2) || (o.stream == 0 && q.stream == 0 && !o.reloc && chanOf s w bn == chanOf s w b &&
        pages.any (fun y => y.typ == 0 && y.logical == p.1.logical)) then { p.1 with valid := false } else p.1) }
  let x1 := { x with blocks := x.blocks.map (fun e => (e.1, kill e.1 e.2)), ops := x.ops.eraseIdx n
                     pageSeq := x.pageSeq + o.pages.length }
  let x2 := blockSet b { blockGet x1 b with pages := (blockGet x1 b).pages ++ pages } x1
  let x3 := if o.stream = 3 then { x2 with patches := x2.patches ++ o.entries } else x2
  let s1 := countBy w (tallyNfc 5) o.pages.length (countBy w (tallyNfc 6) (o.pages.filter (fun p => p.typ == 2)).length
    (storeSet w x3 s))
  o.entries.foldl (fun s e => profileEnd w (if o.stream = 3 then 2 else 0) e.seq s) (if o.stream = 4 ∧ o.src = [] then imageDone o.day s1 else s1)

/-- R295: a program failed: the unit is placed again in a fresh block, the pages programmed earlier are copied, and the
block is retired once they are. -/
def unitFailed (w n : Nat) (b : Nat) (s : State) : State :=
  let x := storeGet s w
  let again := fun (o : NandOp) => if o.kind = 0 ∧ o.blk = some b then
    { o with blk := none, start := none, reloc := true, ready := s.clk.now } else o
  let keep := fun (o : NandOp) => !(o.kind == 0 && o.blk == some b && o.pages.all (fun p => p.typ != 0))
  let s1 := storeSet w (blockSet b { blockGet x b with st := 2 } { x with ops := (x.ops.set n ((x.ops.getD n (programOp s 0 0 [] [] 0)))).filter keep |>.map again }) s
  copyBlock w 4 b none (count w (tallyNfc 11) (nfcFlag w 3 s1))

/-- R285, R295: a NAND program completes. -/
def execProgramComplete (t w : Nat) (ok : Bool) (s : State) : Host.Outcome State Fault Refusal :=
  let s := atTime t s
  let x := storeGet s w
  let due := fun (o : NandOp) => o.kind == 0 && (match o.start, o.blk with
    | some a, some b => decide (a + opLeast s w o (chanOf s w b) ≤ s.clk.now)
    | _, _ => false)
  match opIndex due x.ops with
  | none => .next s
  | some n => match x.ops[n]? with
    | none => .next s
    | some o =>
      let b := o.blk.getD 0
      let s1 := quiesceStamp (if ok then unitDone w n o b s else unitFailed w n b s)
      .next (storeRun w (sealAdvance w (tasksEnd w s1)))

/-- A block holds data that R294, 3 marks for refresh. -/
def weaken (w b : Nat) (s : State) : State := storeMod w (fun x => blockSet b { blockGet x b with weak := true } x) s

/-- R297: a page no retry decodes. (DEDUCED, log 152; DESIGN CHOICE, log 159) -/
def pageLost (w b p : Nat) (s : State) : State :=
  let k := blockGet (storeGet s w) b
  let s1 := storeMod w (fun x => blockSet b { k with weak := true, pages := k.pages.mapIdx (fun i y =>
    if i = p then { y with lost := true } else y) } x) s
  raise w 0x0A07 w (b * 65536 + p) k.stream (count w (tallyNfc 9) (nfcFlag w 5 s1))

/-- The next retry step in use from a place on (R294, 2). -/
def retryFrom (s : State) (k : Nat) : Option Nat := (List.range 16).find? (fun r => decide (k ≤ r) && obj s (0x0A004500 + r) != 0)

/-- R297: a MAP or JOURNAL page is read from its twin on the other channel. -/
def twinRead (w b p : Nat) (s : State) : State :=
  let x := storeGet s w
  let k := blockGet x b
  let logical := ((k.pages[p]?).map (·.logical)).getD 0
  if 1 < k.stream then s
  else match x.blocks.findSome? (fun e => if e.2.stream = k.stream ∧ chanOf s w e.1 ≠ chanOf s w b then
      ((livePages e.2).find? (fun q => q.2.logical == logical && q.2.typ == 0)).map (fun q => (e.1, q.1)) else none) with
    | none => s
    | some q => opQueue w { programOp s k.stream 0 [] [] 0 with kind := 1, blk := some q.1, page := q.2, chan := some (chanOf s w q.1) } s

/-- R294, R297: a page read (physical page: block * 65,536 + page) completes: decoded, to be retried with the next
threshold step, or uncorrectable. -/
def execPageReadComplete (t w page : Nat) (decoded : Bool) (corrections : Nat) (s : State) :
    Host.Outcome State Fault Refusal :=
  let s := atTime t s
  let b := page / 65536
  let p := page % 65536
  let x := storeGet s w
  let k := blockGet x b
  let at_ := opIndex (fun o => o.kind == 1 && o.blk == some b && o.page == p) x.ops
  let o := (at_.bind (fun n => x.ops[n]?)).getD { programOp s k.stream 0 [] [] 0 with kind := 1, blk := some b, page := p, start := some 0 }
  let ready := match o.start with
    | some a => a == 0 || decide (a + opLeast s w o (chanOf s w b) ≤ s.clk.now)
    | none => false
  if k.pages.length ≤ p ∨ !ready ∨ s.part.wings ≤ w then .next s
  else
    let s1 := quiesceStamp (count w (tallyNfc 7) (if o.tries = 0 then s else count w (tallyNfc 8) s))
    let s2 := storeMod w (fun x => { x with ops := match at_ with
      | some n => x.ops.eraseIdx n
      | none => x.ops }) s1
    let cont := fun (s : State) => storeRun w (if at_.isSome && x.reading then lateJudge w s else s)
    if decoded ∧ corrections ≤ 120 then
      .next (cont (if obj s 0x0A004300 < corrections ∨ 0 < o.tries then weaken w b s2 else s2))
    else match retryFrom s o.tries with
      | some r => .next (storeMod w (fun x => { x with ops := opInsert { o with tries := r + 1, start := some s.clk.now, ready := s.clk.now } x.ops })
          (featSet w b (obj s (0x0A004500 + r)) s2))
      | none => .next (cont (twinRead w b p (pageLost w b p s2)))

/-- R296: a block erase completes: the block returns to the free pool, or is retired. (DESIGN CHOICE, log 157) -/
def execEraseComplete (t w block : Nat) (ok : Bool) (s : State) : Host.Outcome State Fault Refusal :=
  let s := atTime t s
  let x := storeGet s w
  match opIndex (fun o => o.kind == 2 && o.blk == some block && (match o.start with
      | some a => decide (a + 520 ≤ s.clk.now)
      | none => false)) x.ops with
  | none => .next s
  | some n =>
    let k := blockGet x block
    let x1 := { x with ops := x.ops.eraseIdx n }
    let s := quiesceStamp s
    if ok then
      let s1 := storeSet w (blockSet block { blockDefault with erases := k.erases + 1 } x1) s
      .next (storeRun w (freeSync w (count w (tallyNfc 10) s1)))
    else
      let s1 := storeSet w (blockSet block { k with st := 3, pages := [] } x1) s
      .next (storeRun w (raise w 0x0A06 w block k.erases (count w (tallyNfc 12) (nfcFlag w 4 s1))))

/-! ### Upkeep (R290 to R294) -/

/-- R290: expired day blocks are erased while PTIME is locked; a deferred or passed-over day, one a hour. -/
def execDayExpiry (t w : Nat) (s : State) : Host.Outcome State Fault Refusal :=
  let s := atTime t s
  let x := storeGet s w
  match oldestDay x with
  | none => .next s
  | some d =>
    if presentDay s < (d : Int) ∨ storeState s w < 4 ∨ storeState s w = 6 ∨ noNewOps s then .next s
    else if !ptimeLocked s then
      .next (raiseOnce (6200 + w) 86400000000000 w 0x0A10 w (presentDay s).toNat 0 (storeSet w { x with dayLate := (presentDay s).toNat } s))
    else
      let today : Bool := decide ((d : Int) = presentDay s ∧ x.dayLate < d)
      if today || x.expAt == 0 || decide (x.expAt + 3600000000000 ≤ s.clk.now) then
        .next (storeRun w (expireDay w d (storeSet w { x with
          expAt := if today then x.expAt else s.clk.now } s)))
      else .next s

/-- R291: garbage collection of one victim begins while the free pool holds fewer than 2 R_s blocks. -/
def execGarbageCollection (t w : Nat) (s : State) : Host.Outcome State Fault Refusal :=
  let s := atTime t s
  let x := storeGet s w
  if (storeState s w = 4 ∨ storeState s w = 5) ∧ !noNewOps s ∧ freePool s w < 2 * spareReserve s w ∧ !x.tasks.any (fun k => k.kind == 1) then
    match gcVictim x with
    | none => .next s
    | some b => .next (storeRun w (tasksEnd w (gcStart w b s)))
  else .next s

/-- The erase counts of a wing's good blocks: largest and smallest. -/
def eraseSpread (x : Store) : Nat × Nat :=
  let l := (x.blocks.filter (fun e => e.2.st != 3)).map (fun e => e.2.erases)
  (l.foldl max 0, if x.blocks.length < x.good then 0 else l.foldl min (l.headD 0))

/-- R292: a wear move begins: hourly, when the spread exceeds 0A.0035.00, at most once per 0A.0036.00. -/
def execWearMove (t w : Nat) (s : State) : Host.Outcome State Fault Refusal :=
  let s := atTime t s
  let x := storeGet s w
  let e := eraseSpread x
  if (storeState s w = 4 ∨ storeState s w = 5) ∧ !noNewOps s ∧ e.2 + obj s 0x0A003500 < e.1 ∧ x.wearAt + 3600000000000 ≤ s.clk.now then
    let src := pickBlock false ((x.blocks.filter (mayCopy x)).map (fun b => (b.1, b.2.erases)))
    let dst := pickBlock true ((chansOf s w).flatMap (fun ch => freeOn s w ch))
    match src, dst with
    | some a, some d =>
      let k := blockGet x a.1
      let x1 := blockSet d.1 { blockGet x d.1 with st := 1, stream := k.stream, day := k.day, slc := k.slc, openAt := ptimeNs s, openT := x.temp, pages := [] } { x with wearAt := s.clk.now }
      .next (storeRun w (tasksEnd w (copyBlock w 2 a.1 (some d.1) (count w (tallyNfc 14) (storeSet w x1 s)))))
    | _, _ => .next (storeSet w { x with wearAt := s.clk.now } s)
  else .next s

/-- The exponential of an integer in units of 2^-96, in units of 2^-96: a power series for its 1,024th part, squared ten
times. -/
def expFix (x : Int) : Int :=
  let one : Int := 2 ^ 96
  let y := x / 1024
  let r := (List.range 12).foldl (fun (a : Int × Int) (k : Nat) =>
    let t := a.2 * y / one / ((k : Int) + 1)
    (a.1 + t, t)) (one, one)
  (List.range 10).foldl (fun a _ => a * a / one) r.1

/-- R293: the factor of a NAND temperature in degrees, in units of 2^-32, for an activation energy in 2^-32 eV.
(DESIGN CHOICE, log 266) -/
def bakeFactor (e : Nat) (t : Int) : Nat :=
  let k := 100 * t + 27315
  if k ≤ 0 then 0
  else (expFix ((e : Int) * 10000000000 * 2 ^ 64 * (k - 35815) / (8617 * 35815 * k)) / 2 ^ 64).toNat

/-- R293: every hour each block that holds data adds the mean factor of the hour's minutes, from the junction
temperatures taken. -/
def execBakeHours (t w : Nat) (minuteTemps : List Int) (s : State) : Host.Outcome State Fault Refusal :=
  let s := atTime t s
  let x := storeGet s w
  let off := sgn 64 (obj s 0x0A004100)
  let e := obj s 0x0A004000
  let sum := (minuteTemps.map (fun t => bakeFactor e (t - off))).sum
  if w < s.part.wings ∧ x.bakeAt + 3600000000000 ≤ s.clk.now ∧ minuteTemps.length = 60 then
    .next (storeSet w { x with
      bakeAt := s.clk.now
      temp := (minuteTemps.getLastD 0 - off) * 4
      blocks := x.blocks.map (fun b => if b.2.pages.isEmpty then b else (b.1, { b.2 with bake := b.2.bake + sum / 60 })) } s)
  else .next s

/-- R294, 3: a block at its bake limit, or with a heavily corrected page, is copied within its stream.
(DEDUCED, log 151) -/
def execRefresh (t w block : Nat) (s : State) : Host.Outcome State Fault Refusal :=
  let s := atTime t s
  let x := storeGet s w
  let k := blockGet x block
  let heavy := k.weak || decide (obj s 0x0A004200 * 2 ^ 32 ≤ k.bake)
  let k1 := if k.st = 1 then { k with st := 2 } else k
  if heavy ∧ (storeState s w = 4 ∨ storeState s w = 5) ∧ !noNewOps s ∧ mayCopy x (block, k1) then
    let s1 := raise w 0x0A0B w block (k.bake * 100 / 2 ^ 32)
      (count w (tallyNfc 15) (storeSet w (blockSet block { k1 with weak := false } x) s))
    .next (storeRun w (tasksEnd w (copyBlock w 3 block none s1)))
  else .next s

/-! ### Start (R272, R273, R302, R303) -/

/-- The first target of the part that meets Table 10-1 sets the geometry of every wing (R272). -/
def partGeometry (s : State) : Option NandTarget :=
  ((List.range (s.part.wings * 16)).find? (fun i =>
    bit (regF s (nfcChCfg (i / 16) (i / 8 % 2)) 15 8) (i % 8) && targetOk (targetAt s (i / 16) (i / 8 % 2) (i % 8)))).map
    (fun i => targetAt s (i / 16) (i / 8 % 2) (i % 8))

/-- R272: the targets of a wing are read and accepted or refused; R273: its good blocks. -/
def storeGeometry (w : Nat) (s : State) : State :=
  match partGeometry s with
  | none => s
  | some g =>
    let s1 := [0, 1].foldl (fun s ch => (List.range 8).foldl (fun s t =>
      let x := targetAt s w ch t
      if !bit (regF s (nfcChCfg w ch) 15 8) t || x = noTarget then s
      else if !targetOk x then raise w 0x0A0E w (ch * 16 + t) 1 (nfcFlag w 2 s)
      else if !sameGeometry x g then raise w 0x0A0E w (ch * 16 + t) 2 (nfcFlag w 2 s)
      else regPutF (nfcChCfg w ch) (16 + t) (16 + t) 1 s) (regPutF (nfcChCfg w ch) 23 16 0 s)) s
    let s2 := regSet (nfcGeom w) (BitVec.ofNat 64 (g.blocks * 2 ^ 32 + g.pages * 2 ^ 20 + g.luns * 2 ^ 12 + g.planes * 2 ^ 8 + b2n g.tlc)) s1
    let s3 := storeMod w (fun x => { x with good := goodBlocks s2 w }) s2
    storeMod w (fun x => { x with image := imageBlocks s3 w }) s3

/-- R302, R303: the entries of unsealed spans are replayed into the span buffers, with REBUILT. -/
def replayIntake (w : Nat) (s : State) : State :=
  let x := storeGet s w
  let es := x.blocks.flatMap (fun e => if e.2.stream = 2 then
    (livePages e.2).flatMap (fun p => if p.2.lost then [] else runsOf 64 (p.2.count + 1) p.2.data) else [])
  es.foldl (fun s d =>
    let n := spanPos s (leAt d 8 8) (leAt d 6 2)
    if n.1 < sealedTo x (leAt d 6 2) then s
    else
      let a := halfAddr s w (leAt d 0 4 / s.part.wings) n.1
      dramWrite a (recordPut (dramRead s a 5120) d n.1 n.2 132) s) s

/-- R303, 5: the pages written for a span whose seal did not end are lost; it is sealed again. -/
def sealUndo (w : Nat) (s : State) : State :=
  match (storeGet s w).sealing with
  | none => s
  | some j => nfcLevel w 8 false (storeMod w (fun x => { x with
      sealing := none
      sealQ := { j with packed := false, listed := false, task := 0 } :: x.sealQ
      dirs := x.dirs.filter (fun r => !(r.mu == j.mu && r.span == j.span))
      blocks := x.blocks.map (fun e => (e.1, if 0x8000 ≤ e.2.stream then { e.2 with pages := e.2.pages.map (fun p =>
        if p.logical / 2 ^ 24 = dayBase j.mu j.span / 2 ^ 24 then { p with valid := false } else p) } else e.2)) }) s)

/-- The patches that LATE pages hold (R303, 6). -/
def latePatches (x : Store) : List StoreEntry :=
  x.blocks.flatMap (fun e => if e.2.stream = 3 then (livePages e.2).flatMap (fun p =>
    if p.2.lost then [] else (runsOf 64 (p.2.count + 1) p.2.data).map (fun d => { seq := p.2.logical, data := d })) else [])

/-- What a power cut ends: queued operations, open units, tasks, the late queue and the seal in progress; hours gathered
in open blocks since the checkpoint (R304). (DEDUCED, log 185) -/
def storeCut (w : Nat) (s : State) : State :=
  let x := storeGet (sealUndo w s) w
  storeSet w { x with ops := [], intake := [], late := [], lateQ := [], reading := false, tasks := [], chFree := []
                      pageSeq := x.pageSeq + 65536, patches := latePatches x
                      blocks := x.blocks.map (fun e => (e.1, if e.2.st = 1 then { e.2 with bake := e.2.bakeCk }
                        else if e.2.st = 4 then { e.2 with st := 2 } else e.2)) } (sealUndo w s)

/-- R303: the entries of unsealed spans that a start replays. -/
def replayCount (x : Store) (s : State) : Nat :=
  ((x.blocks.flatMap (fun e => if e.2.stream = 2 then
    (livePages e.2).flatMap (fun p => runsOf 64 (p.2.count + 1) p.2.data) else [])).filter (fun d =>
      decide (sealedTo x (leAt d 6 2) ≤ (entrySpan s d).2))).length

/-- R303: the pages a rebuild reads on a channel: the last of every block, the first of those without a summary, every page of the
INTAKE, LATE and open ones. -/
def rebuildPages (s : State) (w ch : Nat) : Nat :=
  let x := storeGet s w
  let r := chanRange s w ch
  let mine := x.blocks.filter (fun e => decide (r.1 ≤ e.1 ∧ e.1 < r.2))
  2 * (r.2 - r.1) - (mine.filter (fun e => e.2.st == 2)).length +
    ((mine.filter (fun e => e.2.st == 1 || e.2.stream == 2 || e.2.stream == 3)).map (fun e => e.2.pages.length)).sum

/-- R303: the least time of a rebuild, FCLK: what its formula gives without the device's busy times. -/
def rebuildLeast (s : State) (w : Nat) : Nat :=
  max (16 * replayCount (storeGet s w) s)
    (max (rebuildPages s w 0 * pageTransfer s w 0) (rebuildPages s w 1 * pageTransfer s w 1)) + 4000000

/-- R302: the start of a wing's Profile Store ends: warm in place, after a clean stop, or by a rebuild. -/
def execStoreStart (t w : Nat) (mapOk : Bool) (s : State) : Host.Outcome State Fault Refusal :=
  let s := atTime t s
  if w < s.part.wings ∧ released s w 4 ∧ 1 ≤ storeState s w ∧ storeState s w ≤ 3 ∧ regF s (nfcCtl w) 0 0 = 1 then
    let warm := regF s (porStat w) 24 24 == 1 && mapOk
    let path := if warm then 1 else if (storeGet s w).clean then 2 else 3
    let s1 := storeGeometry w s
    if path = 3 ∧ s.clk.now < tabGet 0 s.power.relAt (w * 8 + 4) - 1 + rebuildLeast s1 w then .next s
    else
    let s2 := if warm then storeMod w (fun x => { x with taken := 0, lateQ := [], reading := false }) s1
      else replayIntake w (storeMod w (fun x => { x with taken := 0, lastT := 0 }) (storeCut w s1))
    let s3 := storeMod w (fun x => { x with clean := false
                                            ckptAt := if path = 3 then s.clk.now else s.clk.now + obj s 0x0A003000 * 60000000000 })
      (sigmaStart w (obj s 0x05002200) s2)
    .next (storeRun w (freeSync w (raise w 0x0A01 w path ((s.clk.now - (tabGet 0 s.power.relAt (w * 8 + 4) - 1)) / 1000)
      (storeStateSet w 4 s3))))
  else .next s

/-! ### Reading profiles (R305) -/

/-- R305: one span record of an endpoint: from its buffer while OPEN, else from NAND with its patches folded in.
(DEDUCED, log 153) -/
def spanRead (s : State) (dir mu n : Nat) : Nat × Bytes :=
  let w := dir % s.part.wings
  let x := storeGet s w
  let b := dramRead s (halfAddr s w (dir / s.part.wings) n) 5120
  if pastRetention s mu n then (stEXPIRED, [])
  else if halfHolds b mu n && leAt b 0 4 == dir then (stOPEN, slice b 0 (leAt b 12 2))
  else
    let ps := (patchesOf s x mu n).filter (fun q => leAt q.data 0 4 == dir)
    match findRecord x dir mu n with
    | some f => if f.2.2.lost then (stLOST, []) else (stDONE, foldPatches s ps n (recordIn f.2.2 dir))
    | none => if ps.isEmpty then (stNONE, [])
              else (stDONE, foldPatches s ps n (toLe 4 dir ++ toLe 4 n ++ [1, 0] ++ toLe 2 mu ++ List.replicate 900 0))

/-- R305: 0A.0100.00. -/
def execReadASpan (t : Nat) (via : Via) (rec : Bytes) (s : State) : Host.Outcome State Fault Refusal :=
  let s := atTime t s
  let dir := beAt rec 0 4
  let mu := beAt rec 8 2
  .next (serve via 0x0A010000 (fun s =>
    checked [(decide (rec.length = 12), stLENGTH), (decide (dir < 1048576 ∧ 1 ≤ mu ∧ beAt rec 10 2 = 0), stRANGE)]
      (fun s =>
        let r := spanRead s dir mu (beAt rec 4 4)
        (r.1, r.2, if r.1 = stDONE ∨ r.1 = stLOST then count (dir % s.part.wings) (tallyNfc 7) s else s)) s) s)

end Sys2Proof.Machine
end

