-- ==== Sys2Proof/Machine/Logbook.lean ====
section
/-! DEFINITION. Logbook, Bell Board and Tally (chapter 15). -/

namespace Sys2Proof.Machine

/-! ### Logbook (R427 to R435) -/

/-- R428, R430: a block raises an event of its area, numbered and placed in the wing's buffer and ring.
(DESIGN CHOICE, log 165) -/
def execEventRaise (t w code src p0 p1 : Nat) (s : State) : Host.Outcome State Fault Refusal :=
  let s := atTime t s
  if w < s.part.wings ∧ 1 ≤ code ∧ code ≤ 0x0FFF then .next (raise w code src p0 p1 s) else .next s

/-- R433: LOG_SWRAISE: a software record with the parameters of LOG_SWP0 and LOG_SWP1; a code outside 0xF000 to 0xFFFF
sets SWBAD. -/
def execLogSwraise (t w : Nat) (v : Word) (s : State) : Host.Outcome State Fault Refusal :=
  let s := atTime t s
  let code := bits v.toNat 31 16
  if s.part.wings ≤ w then .next s
  else if 0xF000 ≤ code then
    .next (raise w code (bits v.toNat 15 0) (regGet s (logSwp w 0)).toNat (regGet s (logSwp w 1)).toNat s)
  else .next (regPutF (logStat w) 2 2 1 s)

/-- R432: a flush of a wing is demanded, and starts when its turn comes. -/
def execLogbookFlush (t w : Nat) (s : State) : Host.Outcome State Fault Refusal :=
  let s := atTime t s
  if w < s.part.wings then .next (if flushDemanded s w then flushStart s else flushAsk w s) else .next s

/-- R432: the flush in progress ends 20,000 + 260 n FCLK after its start, n the records it has written, those raised
meanwhile among them; the next one demanded starts. -/
def execFlushComplete (t : Nat) (s : State) : Host.Outcome State Fault Refusal :=
  let s := atTime t s
  match s.log.active with
  | none => .next (flushStart s)
  | some f =>
    if s.clk.now < f.at_ + flushTime (f.sent + (logGet s f.wing).unflushed) then .next s
    else .next (flushStart (flushEnd f (quiesceStamp s)))

/-- R432: 0E.0002.00. -/
def execFlushEveryWingNow (t : Nat) (via : Via) (s : State) : Host.Outcome State Fault Refusal :=
  let s := atTime t s
  .next (serve via 0x0E000200 (fun s =>
    let r := wingsReached logCtl (fun w s => demandFlush w (regPutF (logCtl w) 0 0 1 s)) s
    (r.1, [], flushStart r.2)) s)

/-- R435: 0E.0010.00: up to 32 whole records of a writer, from a sequence on, oldest first. -/
def execReadRecordsFromMram (t : Nat) (via : Via) (arg : Nat) (s : State) : Host.Outcome State Fault Refusal :=
  let s := atTime t s
  .next (serve via 0x0E001000 (fun s =>
    checked [(decide (arg / 2 ^ 32 ≤ 8), stRANGE), (srOpen s, stUNREACHABLE)] (fun s =>
      (stDONE, recordsBody ((((mramLog s (arg / 2 ^ 32)).filter (fun r => notBeforeW 32 r.seq arg)).reverse.take 32).map recBytes), s)) s) s)

/-! ### Bell Board (R436 to R439) -/

/-- A source of a block that the wing has, and that is not reserved (Table 15-4). -/
def sourcePresent (s : State) (w src : Nat) : Bool :=
  decide (w < s.part.wings ∧ src < 128) && !(src == 30 || src == 31 || decide (57 ≤ src ∧ src ≤ 63)) &&
  (!(decide (14 ≤ src ∧ src ≤ 18)) || blockPresent w 0xD) && (!(src == 23) || decide (w < 2)) &&
  (!decide (32 ≤ src ∧ src ≤ 56) || w == 0)

/-- R436, R438: a source of a wing occurs. -/
def execBellBoardDelivery (t w source : Nat) (s : State) : Host.Outcome State Fault Refusal :=
  let s := atTime t s
  if sourcePresent s w source then .next (bell w source s) else .next s

/-- R436: BB_SWSET raises software doorbells. -/
def execBbSwset (t w : Nat) (v : Word) (s : State) : Host.Outcome State Fault Refusal :=
  let s := atTime t s
  if w < s.part.wings then
    .next ((List.range 64).foldl (fun s i => if bit v.toNat i then bell w (64 + i) s else s) s)
  else .next s

/-- A delivery of the source has been sent, or found no path, in this FCLK. -/
def sentNow (s : State) (w src : Nat) : Bool :=
  s.bell.going.any (fun d => d.wing == w && d.source == src && d.at_ == s.clk.now) ||
  (s.bell.undeliv.contains (w, src) && bit (setNow s (flagOf w src).1).toNat (flagOf w src).2)

/-- R444: what was sent of a source in this FCLK has not been: a route written in the same FCLK decides anew. -/
def unsend (w src : Nat) (s : State) : State :=
  if s.bell.going.any (fun d => d.wing == w && d.source == src && d.at_ == s.clk.now) then
    countBy w 192 (two64 - 1) { s with bell := { s.bell with
      going := s.bell.going.filter (fun d => d.wing != w || d.source != src || d.at_ != s.clk.now) } }
  else countBy w 193 (two64 - 1) { s with bell := { s.bell with undeliv := s.bell.undeliv.filter (fun e => e != (w, src)) } }

/-- R438, R444: a route is written; one enabled while its flag is 1, or in the FCLK of its source's raise, sends a delivery. -/
def execBbRouteWrite (t w source : Nat) (v : Word) (s : State) : Host.Outcome State Fault Refusal :=
  let s := atTime t s
  let a := if source < 128 then bbRoute w source else bbSrroute w (source - 128)
  if s.part.wings ≤ w ∨ 160 ≤ source ∨ (128 ≤ source ∧ 2 ≤ w) then .next s
  else
    let now := sentNow s w source
    let s1 := regSet a (v &&& 0x8707) (if now then unsend w source s else s)
    let f := flagOf w source
    .next (if (regF s a 15 15 = 0 ∨ now) ∧ bit v.toNat 15 ∧ regF s1 f.1 f.2 f.2 = 1 then deliver w source s1 else s1)

/-- R10, R438: a W1C of a bank of flags (0, 1, or 2 for the strongroom's) in the FCLK in which `hwSet` are set: these
stay set, and are delivered where they were clear or were being cleared. -/
def execBbFlagClear (t w bank : Nat) (v hwSet : Word) (s : State) : Host.Outcome State Fault Refusal :=
  let s := atTime t s
  let a := if bank = 2 then bbSrstat w else bbStat w bank
  if s.part.wings ≤ w ∨ 3 ≤ bank ∨ (bank = 2 ∧ 2 ≤ w) then .next s
  else
    let old := (regGet s a).toNat
    let mask : Word := if bank = 2 then 0xFFFFFFFF else 0xFFFFFFFFFFFFFFFF
    let hw := hwSet &&& mask
    let s1 := regSet a ((regGet s a &&& ~~~v) ||| hw) s
    .next ((List.range 64).foldl (fun s i =>
      if bit hw.toNat i && (!bit old i || bit v.toNat i) then deliver w (64 * bank + i) s else s) s1)

/-- R437: a strongroom source reaches the carrying gate 480 FCLK after its raise; with no link carrying it is held. -/
def execStrongroomSourceArrival (t source : Nat) (s : State) : Host.Outcome State Fault Refusal :=
  let s := atTime t s
  match s.bell.srGoing.find? (fun x => x.1 == source && decide (x.2 ≤ s.clk.now)) with
  | none => .next s
  | some x =>
    let s1 := { s with bell := { s.bell with srGoing := s.bell.srGoing.erase x } }
    match s.sr.carrying with
    | some k => .next (bell k (128 + source) s1)
    | none => .next { s1 with bell := { s1.bell with srHeld := s1.bell.srHeld ++ [source] } }

/-- R439: a delivery of a source can be made now. -/
def deliverable (s : State) (w src : Nat) : Bool :=
  let r := routeOf s w src
  let tw := if bit s.mode.parked r.2.1 then 0 else r.2.1
  decide (tw < s.part.wings) && pathUp s w tw && released s tw 5

/-- R439: what wing `w` could not deliver, and can now, is delivered if its flag is still set and its route enabled. -/
def resend (w : Nat) (s : State) : State :=
  let back := s.bell.undeliv.filter (fun x => x.1 == w && deliverable s w x.2)
  let s1 := { s with bell := { s.bell with undeliv := s.bell.undeliv.filter (fun x => !back.contains x) } }
  back.foldl (fun s x =>
    let f := flagOf x.1 x.2
    if regF s f.1 f.2 f.2 = 1 then deliver x.1 x.2 s else s) s1

/-- R439: a path or a target's D5 returns. -/
def execPathReturnDelivery (t w : Nat) (s : State) : Host.Outcome State Fault Refusal :=
  let s := atTime t s
  .next (resend w s)

/-! ### Tally (R440 to R443) -/

/-- R440, R441: the counters of Ledger core `c`, which the model does not run: free values, with RETIRED + WASTED + FRONT +
BACK = 4 CYCLES. (DESIGN CHOICE, log 161) -/
def coreCounters (s : State) : List Nat × State :=
  let a := freeWord s
  let b := freeWord a.2
  let c := freeWord b.2
  let d := freeWord c.2
  let e := freeWord d.2
  ([a.1.toNat, b.1.toNat, c.1.toNat, d.1.toNat, (4 * a.1 - b.1 - c.1 - d.1).toNat, e.1.toNat, 0, 0], e.2)

/-- R442: one wing's counters are latched into its freeze bank. (DEDUCED, log 162) -/
def freezeWing (w : Nat) (s : State) : State :=
  let cores := (List.range 8).foldl (fun (a : List Nat × State) _ =>
    let r := coreCounters a.2
    (a.1 ++ r.1, r.2)) ([], s)
  let val := fun i => if 200 ≤ i ∧ i < 264 then cores.1.getD (i - 200) 0 else cntGet s w i
  let bank := (List.range 512).map val
  let s1 := cores.2
  let frz := bank.zipIdx.foldl (fun m v => tabPut 0 (w * 512 + v.2) v.1 m) s1.tally.frz
  let seq := tabGet 0 s1.tally.seq w + 1
  let s2 := { s1 with tally := { s1.tally with frz := frz, seq := tabPut 0 w seq s1.tally.seq } }
  count w 199 (bell w 27 (regPutF (talFrzStat w) 63 32 seq s2))

/-- The armed instant of a wing that PTIME has reached. -/
def freezeDue (s : State) (w : Nat) : Option Nat := (tabGet none s.tally.armed w).filter (fun p => notBeforeW 64 (ptimeNs s) p)

/-- R442: the freezes whose instant PTIME has reached fire; a wing in reset latches nothing. -/
def freezesFire (s : State) : State :=
  let fired := (List.range s.part.wings).filter (fun w => (freezeDue s w).isSome)
  let live := fired.filter (fun w => released s w 4)
  let s1 := fired.foldl (fun s w =>
    let s1 := regPutF (talFrzStat w) 0 0 0 { s with tally := { s.tally with armed := tabPut none w none s.tally.armed } }
    if released s w 4 then freezeWing w s1 else s1) s
  match live with
  | [] => s1
  | w :: _ =>
    let p := (freezeDue s w).getD 0
    let s2 := { s1 with tally := { s1.tally with last := p } }
    if w = 0 then raise 0 0x0F01 0 p (tabGet 0 s2.tally.seq 0) s2 else s2

/-- R442: a freeze's cycle has come. -/
def execFreezeLatch (t : Nat) (s : State) : Host.Outcome State Fault Refusal :=
  let s := atTime t s
  .next (freezesFire s)

/-- R442, R444: a freeze is armed on a wing, after one whose instant has come; it is refused, and what was armed stands, within
10,000 FCLK of its instant or past it. (DEDUCED, log 280) -/
def freezeArm (w p : Nat) (s0 : State) : State :=
  let s := freezesFire s0
  if notBeforeW 64 (ptimeNs s + 10000) p then raise w 0x0F02 w w p (regPutF (talFrzStat w) 1 1 1 (markSet (talFrzStat w) 1 s))
  else regPutF (talFrzStat w) 0 0 1 (regSet (talFrzAt w) (BitVec.ofNat 64 p)
    { s with tally := { s.tally with armed := tabPut none w (some p) s.tally.armed } })

/-- R442: TAL_FRZ_AT is written. -/
def execTalFrzAtWrite (t w : Nat) (v : Word) (s : State) : Host.Outcome State Fault Refusal :=
  let s := atTime t s
  if w < s.part.wings then .next (freezeArm w v.toNat s) else .next s

/-- R442: 0F.0001.00: the same instant on every wing. -/
def execArmAFreezeOnEveryWing (t : Nat) (via : Via) (p : Nat) (s : State) : Host.Outcome State Fault Refusal :=
  let s := atTime t s
  .next (serve via 0x0F000100 (fun s =>
    let r := wingsReached talFrzAt (fun w s => freezeArm w (p % two64) s) s
    (r.1, [], r.2)) s)

/-- R440: TAL_SWINC adds to a software counter. -/
def execTalSwinc (t w : Nat) (v : Word) (s : State) : Host.Outcome State Fault Refusal :=
  let s := atTime t s
  if w < s.part.wings then .next (countBy w (448 + bits v.toNat 37 32) (bits v.toNat 31 0) s) else .next s

end Sys2Proof.Machine
end

