-- ==== Sys2Proof/Machine/Ddr.lean ====
section
/-! DEFINITION. The DDR5 controllers under scheduled refresh (R449 to R453). -/

namespace Sys2Proof.Machine

/-- A controller that has issued nothing. -/
def ddrDefault : Ddr := { last := 0, banks := [], reads := [], lines := [], pend := none, refreshed := [], trc := 0, came := (0, 0) }

/-- A wing's DDR5 controller. -/
def ddrGet (s : State) (w : Nat) : Ddr := tabGet ddrDefault s.ddr w

/-- Replace a wing's DDR5 controller. -/
def ddrSet (w : Nat) (x : Ddr) (s : State) : State := { s with ddr := tabPut ddrDefault w x s.ddr }

/-- A change of schedule whose cycle has come is in force: HOT and PERIOD (R450). -/
def ddrSettle (w : Nat) (s : State) : State :=
  let x := ddrGet s w
  match x.pend with
  | some (at_, hot) =>
    if at_ ≤ s.clk.now then
      regPutF (ddrTiming w) 48 48 (b2n hot) (regPutF (ddrTiming w) 43 32 (if hot then 1792 else 3840) (ddrSet w { x with pend := none } s))
    else s
  | none => s

/-- R450: refresh period in force. -/
def refreshPeriod (s : State) (w : Nat) : Nat := if regF s (ddrTiming w) 48 48 = 1 then 1792 else 3840

/-- R450: the phase at which bank index `b`'s windows start. -/
def refreshPhase (s : State) (w b : Nat) : Nat := if regF s (ddrTiming w) 48 48 = 1 then 448 * b else 960 * b

/-- R449, R451: the first cycle at or after `c` that no window of bank index `b` holds. -/
def afterWindow (s : State) (w b c : Nat) : Nat :=
  let p := refreshPeriod s w
  let into := (c + p - refreshPhase s w b) % p
  if into < regF s (ddrTiming w) 23 16 then c - into + regF s (ddrTiming w) 23 16 else c

/-- R449: the issue cycle of the CORE access that comes next, arrived at `a`, to an address.
(DESIGN CHOICE, log 166) -/
def issueCycle (s : State) (w addr a : Nat) : Nat :=
  let x := ddrGet s w
  let bank := Config.ddrBank addr
  let prev := tabGet 0 x.banks bank
  afterWindow s w (bank % 4) (max a (max x.last (if prev = 0 then 0 else prev - 1 + x.trc)))

/-- R450: a window begins for a bank index at its fixed cycle. (DESIGN CHOICE, log 167) -/
def execRefreshWindow (t w b : Nat) (s : State) : Host.Outcome State Fault Refusal :=
  let s := ddrSettle w (atTime t s)
  if w < s.part.wings ∧ b < 4 ∧ released s w 2 ∧ s.clk.now % refreshPeriod s w = refreshPhase s w b then
    let x := ddrGet s w
    .next (ddrSet w { x with refreshed := tabPut 0 b (s.clk.now + 1) x.refreshed } s)
  else .next s

/-- R450: the device's refresh rate crosses that of 85 degrees: the schedule changes at the next multiple of 26,880. -/
def execRefreshScheduleChange (t w : Nat) (hot : Bool) (s : State) : Host.Outcome State Fault Refusal :=
  let s := ddrSettle w (atTime t s)
  if w < s.part.wings then
    .next (ddrSettle w (ddrSet w { ddrGet s w with pend := some (nextMultiple s.clk.now 26880, hot) } s))
  else .next s

/-- The way by which an access of wing `rq` reaches wing `w`'s controller: 0 local, 1 + the Corridor port of its last hop. -/
def cameBy (w rq : Nat) : Nat := if bit (w ^^^ rq) 2 then 3 else if bit (w ^^^ rq) 1 then 2 else if bit (w ^^^ rq) 0 then 1 else 0

/-- R449: an access comes after another in the controller's order: by arrival, of one FCLK local first, then by ascending port. -/
def comesAfter (a b : Nat × Nat) : Bool := decide (b.1 < a.1 ∨ (b.1 = a.1 ∧ b.2 ≤ a.2))

/-- R453: the cycle at which a line ready at `r` on wing `w` is delivered to wing `rq`: at once there, else its four beats cross. -/
def lineDelivered (s : State) (w rq r : Nat) : Nat :=
  r + messageTime .core 4 (hops w rq) r + beatsAhead s .core rq 3 w r

/-- R449: a CORE access is issued at its cycle: a write is complete, a read's line is ready L_D later.
(DEDUCED, log 168) -/
def execDramAccessIssue (t w rq addr arrived : Nat) (write : Option Bytes) (s : State) : Host.Outcome State Fault Refusal :=
  let s := ddrSettle w (atTime t s)
  let i := issueCycle s w addr arrived
  let line := addr / 64 * 64
  let x := ddrGet s w
  let from_ := (arrived, cameBy w rq)
  if !dramIn s w line 64 ∨ !released s w 2 ∨ !comesAfter from_ x.came ∨ s.clk.now < i then .next s
  else
    let x1 := { x with last := i + 1, banks := tabPut 0 (Config.ddrBank addr) (i + 1) x.banks, came := from_ }
    match write with
    | some d => .next (completeAccess rq addr true i none (dramWrite addr (d.take (64 - addr % 64)) (ddrSet w x1 s)))
    | none => .next (ddrSet w { x1 with reads := x1.reads ++ [{ rq := rq, addr := line, at_ := i + regF s (ddrTiming w) 8 0, data := dramRead s line 64 }] } s)

/-- R449, R453: a CORE read's line is ready, and on its way to its requester. -/
def execDramReadData (t w : Nat) (s : State) : Host.Outcome State Fault Refusal :=
  let s := ddrSettle w (atTime t s)
  let x := ddrGet s w
  match x.reads with
  | [] => .next s
  | r :: rs =>
    if s.clk.now < r.at_ then .next s
    else .next (completeAccess r.rq r.addr false (lineDelivered s w r.rq r.at_) (some (BitVec.ofNat 64 (leAt r.data 0 8)))
      (ddrSet w { x with reads := rs, lines := (r :: x.lines).take 64 } s))

/-- R452: an access of an engine class reaches the controller: it completes exactly 400 FCLK later. -/
def execEngineDramAccess (t w addr : Nat) (write : Option Bytes) (s : State) : Host.Outcome State Fault Refusal :=
  let s := atTime t s
  let line := addr / 64 * 64
  if !dramIn s w line 64 ∨ !released s w 2 then .next s
  else match write with
    | some d => .next (completeAccess w addr true (s.clk.now + 400) none (dramWrite addr (d.take (64 - addr % 64)) s))
    | none =>
      let x := ddrGet s w
      .next (ddrSet w { x with lines := ({ rq := w, addr := line, at_ := s.clk.now + 400, data := dramRead s line 64 } :: x.lines).take 64 } s)

end Sys2Proof.Machine
end

