-- ==== Sys2Proof/Machine/Legal.lean ====
section
/-! DEFINITION. Values on the wire (R345) and LEGAL changes (R165, R347 to R350). -/

namespace Sys2Proof.Machine

/-- R345: the value has its type's width; of OCTETS the width is the length the object states (Table 12-1).
(DEDUCED, log 37) -/
def widthOk (d : ObjDef) (val : Bytes) : Bool :=
  match objWidth d.ty with
  | some n => val.length == n
  | none => d.rng.isEmpty || d.rng.any (fun r => decide (r.1 ≤ val.length ∧ val.length ≤ r.2))

/-- Keep a value as it travels: an octet string, or the number its octets spell. -/
def objKeep (d : ObjDef) (n : Nat) (val : Bytes) (s : State) : State :=
  if d.ty = .octets then octPut n val s else objPut n (beNat val) s

/-- The value before, as record 0x0640 carries it: the number, or the CRC-32C of octets. -/
def objWord (d : ObjDef) (n : Nat) (s : State) : Nat := if d.ty = .octets then crc32c (oct s n) else obj s n

/-- The new value, as record 0x0640 carries it. -/
def valWord (d : ObjDef) (val : Bytes) : Nat := if d.ty = .octets then crc32c val else beNat val

/-- Ranges of LEGAL objects that their chapters state beside a number range: the offset of R172, a phase correction on a
voltage channel, a tamper input's debounce and unused bits, a period end's day and hour. -/
def legalRange (n : Nat) (val : Bytes) (s : State) : Bool :=
  let v := beNat val
  if n / 256 = 0x060011 then decide ((sgn 64 v).natAbs * 100 ≤ obj s (0x06001400 + n % 256))
  else if n / 256 = 0x060012 then decide (4 ≤ n % 8)
  else if n / 256 = 0x060037 then decide (1 ≤ bits v 15 8 ∧ bits v 7 2 = 0)
  else if n = 0x07006300 then decide (bits v 15 8 ≤ 28 ∧ bits v 7 0 ≤ 23)
  else true

/-- A calibration object (R172): gain, offset, phase correction, polarity or ratio. -/
def isCalibration (n : Nat) : Bool :=
  let k := n / 256
  decide (0x060010 ≤ k ∧ k ≤ 0x060013) || decide (k = 0x060015 ∨ k = 0x060016)

/-- What a LEGAL value does beside being kept: a new grid cuts the running intervals (R197), a calibration change counts
(R172), a written A_u applies as R199. (DEDUCED, log 109) -/
def legalEffect (n : Nat) (old : Nat) (s : State) : State :=
  if n = 0x07000100 then billMod (fun b => { b with iGrid := true, sGrid := true, gridAt := nextTick s }) s
  else if isCalibration n then objPut 0x06001700 (obj s 0x06001700 + 1) s
  else if n = 0x07003100 then
    bookCommit 0 5 1 [bookNew 0x070B 0 old (obj s n) 0] (billMod (fun b => { b with iFlags := b.iFlags ||| 512 }) s)
  else s

/-- R165: a LEGAL value applied: value, counter and record 0x0640 in one commit. -/
def legalApply (d : ObjDef) (n : Nat) (val : Bytes) (s : State) : Nat × Bytes × State :=
  let old := objWord d n s
  let s1 := objKeep d n val s
  (stDONE, [], legalRecord n (valWord d val) old (ceilDiv val.length 8) (legalEffect n old s1))

/-- A LEGAL SET's own checks and effect by its object. (DEDUCED, log 127) -/
def legalSetBody (d : ObjDef) (n : Nat) (val : Bytes) (a : LegalAuth) : State → Nat × Bytes × State :=
  if n = 0x07004000 then checkedCount n (calendarChecks val) (legalServe n a (calendarWrite val))
  else if n = 0x08002000 then checked (friendlyChecks val) (legalServe n a (friendlyWrite val))
  else fun s => checked [(widthOk d val, stTYPE), (objInRange d val && legalRange n val s, stRANGE)]
    (legalServe n a (legalApply d n val)) s

/-- R165, R349, R350: kind aa01: a SET of a LEGAL object with its authorisation. An object of another level takes no
authorisation: its value is not of its type's width. -/
def execLegalSet (t : Nat) (via : Via) (obj : Nat) (val : Bytes) (auth : LegalAuth) (s : State) :
    Host.Outcome State Fault Refusal :=
  let s := atTime t s
  .next (keeperServe via obj (obj / 16777216 * 256 + 1) (fun s => match (objLookup s.part.wings obj).2 with
    | some d =>
      if d.acc = .ro ∨ d.acc = .exec then (stACCESS, [], s)
      else if d.lev ≠ .legal then (stTYPE, [], s)
      else legalSetBody d obj val auth s
    | none => (stNO_OBJECT, [], s)) s)

/-- A LEGAL EXEC's effect by its object. -/
def legalExecBody (d : ObjDef) (n : Nat) (arg : Bytes) (a : LegalAuth) : State → Nat × Bytes × State :=
  if n = 0x08010000 then checked (accountOpChecks arg) (legalServe n a (accountOp arg))
  else checked [(widthOk d arg, stTYPE)] (legalServe n a (fun s =>
    if n = 0x07004400 then withdrawCalendar s
    else if n = 0x07006200 then endPeriodNow s
    else if n = 0x07007700 then setLtimeTo (beNat arg) s
    else (stNO_OBJECT, [], s)))

/-- R349, R350: kind aa02: an EXEC of a LEGAL object with its authorisation. -/
def execLegalExec (t : Nat) (via : Via) (obj : Nat) (arg : Bytes) (auth : LegalAuth) (s : State) :
    Host.Outcome State Fault Refusal :=
  let s := atTime t s
  .next (keeperServe via obj (obj / 16777216 * 256 + 2) (fun s => match (objLookup s.part.wings obj).2 with
    | some d =>
      if d.acc ≠ .exec then (stACCESS, [], s)
      else if d.lev ≠ .legal then (stTYPE, [], s)
      else legalExecBody d obj arg auth s
    | none => (stNO_OBJECT, [], s)) s)

end Sys2Proof.Machine
end

