-- ==== Sys2Proof/Machine/Reset.lean ====
section
/-! DEFINITION. Resets (R380 to R386): what a warm reset, a cold one and a restart of one wing clear and keep (R379),
and how a reset is asked for. -/

namespace Sys2Proof.Machine

/-- Registers that a reset of D1 and D3 to D6 leaves (Table 13-7): the Porter's, the DDR controller's, the Logbook's, the
staging base; a cold reset leaves only those of the Porter (whose own reset values are written beside).
(DEDUCED, log 175) -/
def regStays (cold : Bool) (a w : Nat) : Bool :=
  match regSplit a with
  | some (v, blk, off) => v != w || blk == 0 || (!cold && (blk == 0xB || blk == 0x10 || (blk == 8 && off == 0x18)))
  | none => true

/-- R386: a wing's lanes are aborted and their places released. -/
def resetLanes (w : Nat) (s : State) : State :=
  let s1 := (List.range 24).foldl (fun s l => returnPlaces (laneGet s w l).places s) s
  placesSet w 0 { s1 with air := { s1.air with lanes := tabDrop (fun k => k / 24 == w) s1.air.lanes
                                               ports := tabDrop (fun k => k / 2 == w) s1.air.ports
                                               arb := tabDrop (fun k => k == w) s1.air.arb } }

/-- A reset Check-in: frames not staged are gone; the Guest Book and the staging pointers stay but in a cold reset, after
which the directory is restored from the last sweep (R152). -/
def resetIng (cold : Bool) (w : Nat) (s : State) : State :=
  let x := ingGet s w
  if cold then ingSet w { ingDefault with swept := x.swept, restore := true } s
  else ingSet w { ingDefault with seq := x.seq, cons := x.cons, unrel := x.unrel, gb := x.gb, swept := x.swept
                                  sweepAt := x.sweepAt, commits := x.commits, restore := x.restore } s

/-- R376: running Night Audit jobs stop and are ready again. -/
def auditAbandon (s : State) : State :=
  eachWing (fun w s => regSet (naJob w) 0 s) (auditMod (fun a => { a with
    jobs := (a.close.map (·.job)).toList ++ a.ident.filterMap (fun e => e.2.map (·.job)) ++ a.jobs
    close := none, ident := [] }) s)

/-- R266: what a cold start loses of Night Audit; assignments are in force again from the journal (R249).
(DEDUCED, log 138) -/
def auditCold (s : State) : State :=
  auditMod (fun a => { a with lastB := [], taken := [], ints := [], begun := [], ident := [], close := none, jobs := []
                              early := [], next := 0, window := 0, fits := [], days := [], locs := 0
                              pend := a.kept.map (fun e => (e.1, (e.2, 0))) }) (objPut 0x09020100 0 s)

/-- R93: after a reset of the wings every key's counter resumes at the start of the next unreserved block, which is asked
for. (DEDUCED, log 181) -/
def resumeCounters (s : State) : State :=
  let ks := (List.range 192).filter (fun k => decide (0 < obj s (0x04002100 + k)))
  ks.foldl (fun s k => hwPost 0 2 0x0401 k (objPut (0x04002500 + k) (min (keyResv s k) 0xFFFFFFFF) s))
    { s with mac := { s.mac with block := ks }, sr := { s.sr with hwq := [] } }

/-- A reset MAC and Town Crier: neighbour entries lie in D2; the parent, floods and frames under way do not. -/
def resetMac (cold : Bool) (w : Nat) (s : State) : State :=
  let m := s.mac
  let m1 := { m with nbrs := if cold then tabDrop (fun k => k / 8192 == w) m.nbrs
                             else m.nbrs.map (fun e => (e.1, if e.1 / 8192 = w then nbrFlag 2 false { e.2 with pend := 0 } else e.2))
                     jobs := tabDrop (fun k => k / 2 == w) m.jobs
                     held := m.held.filter (fun r => r.wing != w)
                     waits := m.waits.filter (fun e => e.1 / 2 != w)
                     replies := m.replies.filter (fun e => e.1 != w)
                     seen := tabDrop (fun k => k == w) m.seen }
  if w = 0 then { s with mac := { m1 with seqs := [], block := [], held := [], parent := 255, lostP := 255, misses := 0,
                                          beacon := 0, bport := 0, drift := none, window := none, scan := none,
                                          heard := 0, scans := 0, ebNext := none, ebReq := [], floods := [],
                                          relays := [], accept := [], heardAt := [] } }
  else { s with mac := m1 }

/-- R355: every session ends with a reset of wing 0; event 0x0011. -/
def endSessions (s : State) : State :=
  let s1 := (List.range 16).foldl (fun s n => if (sessGet s n).isOpen then sessSet n sessionDefault (raise 0 0x0011 0 n 3 s) else s) s
  { s1 with emp := { s1.emp with queue := [], reply := none } }

/-- R163: a gate in reset carries nothing; its link trains again. (DEDUCED, log 177) -/
def resetGate (w : Nat) (s : State) : State :=
  if w < 2 then
    let s1 := if s.sr.carrying = some w then loseFlights s else s
    let s2 := srLinkSet w { srLinkDefault with upAt := none, training := true, start := s.clk.now } s1
    { s2 with sr := { s2.sr with carrying := if s2.sr.carrying = some w then none else s2.sr.carrying
                                 carryAt := some (after64 s2.clk.now) } }
  else s

/-- R55: every armed response is disarmed, reason 4. -/
def disarmAll (s : State) : State :=
  (List.range 64).foldl (fun s i => if (slotGet s i).state = 1 then disarm i 4 4 s else s) s

/-- What a reset of one wing's D1 and D3 to D6 does, and of D2 too in a cold one (Tables 13-4 and 13-7).
(DEDUCED, log 32) -/
def wingReset (cold : Bool) (w : Nat) (s : State) : State :=
  let s1 := resetGate w (resetMac cold w (resetIng cold w (resetLanes w s)))
  let s2 := { s1 with
    regs := s1.regs.filter (fun e => regStays cold e.1 w)
    cnt := tabDrop (fun k => k / 512 == w) s1.cnt
    tt := tabDrop (fun k => k / 256 == w) s1.tt
    cap := match s1.cap with
      | some c => if c.wing = w then none else some c
      | none => none
    tally := { s1.tally with armed := tabDrop (fun k => k == w) s1.tally.armed
                             frz := tabDrop (fun k => k / 512 == w) s1.tally.frz
                             seq := tabDrop (fun k => k == w) s1.tally.seq }
    bell := { s1.bell with going := s1.bell.going.filter (fun d => d.wing != w && d.target != w)
                           undeliv := s1.bell.undeliv.filter (fun e => e.1 != w) }
    ddr := if cold then tabDrop (fun k => k == w) s1.ddr else tabMod ddrDefault w (fun x => { x with reads := [], lines := [], came := (0, 0) }) s1.ddr
    lans := tabDrop (fun k => k / 2 == w) s1.lans
    pairs := tabDrop (fun k => k == w) s1.pairs
    log := { s1.log with wing := if cold then tabDrop (fun k => k == w) s1.log.wing else s1.log.wing
                         ring := s1.log.ring.filter (fun r => r.wing != w) }
    power := { s1.power with relAt := tabDrop (fun k => k / 8 == w) s1.power.relAt
                             lossAt := (List.range 4).foldl (fun l k => tabPut 0 (w * 4 + k) s1.clk.now l) s1.power.lossAt } }
  let s3 := modReplica w (fun _ => replicaReset) s2
  regPutF (porStat w) 19 16 0 (regPutF (porStat w) 6 0 (if cold then 0 else 1) s3)

/-- The registers of D0 after a cold reset: shadows at their fused defaults, no pin group held.
(DESIGN CHOICE, log 178) -/
def porCold (w : Nat) (s : State) : State :=
  (List.range 16).foldl (fun s i => regSet (porOpt w i) (regReset (porOpt w i)) s)
    (regSet (porHoldup w) (regReset (porHoldup w)) (regPutF (porPinhold w) 2 0 0 s))

/-- POR_STAT names a reset's cause, its wing and its kind (Table 13-14). -/
def porCause (r : ResetReq) (w : Nat) (s : State) : State :=
  regPutF (porStat w) 39 32 r.wing (regPutF (porStat w) 31 28 r.cause (regPutF (porStat w) 24 24 (b2n (!r.cold)) s))

/-- R380: a reset of the wings, all at once. A cold one stretches RSTn and RSTOUTn (R385). -/
def resetPart (r : ResetReq) (s : State) : State :=
  let s1 := endSessions (disarmAll (auditAbandon s))
  let s2 := eachWing (fun w s => porCause r w (if r.cold then porCold w (wingReset true w s)
    else regPutF (porPinhold w) 2 0 7 (wingReset false w s))) s1
  let s3 := updateReset r.cause (resumeCounters (auditSpan (if r.cold then auditCold s2 else s2)))
  { s3 with
    dram := if r.cold then [] else s3.dram
    fab := { s3.fab with links := [], queues := [], taken := [], flights := [] }
    mode := { s3.mode with cur := 0, old := 0, divider := 3, divAt := none, lanes := 256, lanesAt := none, parked := 0
                           toPark := 0, resumeAt := none, changes := if r.cold then 0 else s3.mode.changes }
    log := { s3.log with queue := [], active := none }
    bell := { s3.bell with srHeld := s3.bell.srHeld ++ s3.bell.srGoing.map (·.1), srGoing := [] }
    ptp := { dom := [], disc := 0, sum := 0, ue := 0, te := 0, switch := none, hand := false, pdelay := [] }
    lease := { s3.lease with
      groups := if r.cold then [] else s3.lease.groups, wait := [], inst := if r.cold then none else s3.lease.inst }
    power := { s3.power with
      fail := none, graced := false, quiet := 0, noFlush := false, flush := none, quiesce := none, held := none
      resetAt := s.clk.now, alone := 0
      driven := r.cold, optAt := none, optDone := false, hash := none, image := none, started := false
      heldAt := if r.cold then [] else s3.power.heldAt
      untrained := if r.cold then 0 else s3.power.untrained, trained := if r.cold then 0 else s3.power.trained
      trainAt := if r.cold then [] else s3.power.trainAt } }

/-- R386: a wing restarts from D1 with retention. (DEDUCED, log 183) -/
def restartAlone (w : Nat) (s : State) : State :=
  let s1 := disarmAll s
  let s2 := if w = 0 then updateDrop (endSessions s1) else s1
  let s3 := auditSpan (wingReset false w (auditAbandon s2))
  let s4 := dropWaiting ((List.range 3).foldl (fun s p => if portUsed s w p then
    linkUpBits w p 0 (linkSet w p { linkDefault with down := true, due := s.clk.now + 10240, lostAt := s.clk.now } s) else s) s3)
  flushCut (demandFlush w (resumeCounters { s4 with power := { s4.power with alone := s4.power.alone ||| 2 ^ w } }))

/-- A store operation or NAND operation that has begun and not completed, on any wing (R376, R381). -/
def opsBegun (s : State) : Nat :=
  (b2n s.log.active.isSome) + (s.store.map (fun e => (e.2.ops.filter (fun o => o.start.isSome)).length)).sum

/-- R380, R381, R396: a reset is asked for: held during a power-fail; a warm one quiesces first; a cold one is at once.
(DEDUCED, log 184) -/
def resetAsk (r : ResetReq) (s : State) : State :=
  if s.power.fail.isSome then { s with power := { s.power with held := some r } }
  else if r.cold then resetPart r s
  else if s.power.quiesce.isSome then s
  else flushStart <| eachWing (fun w s => demandFlush w s) { s with power := { s.power with quiesce := some (r, s.clk.now) } }

/-- R372, R376: power-fail declared: sources and events raised, frames not staged end, transmissions cut off. -/
def powerFail (s : State) : State :=
  if s.power.fail.isSome then s
  else
    let n := opsBegun s
    let s1 := { s with power := { s.power with fail := some s.clk.now, graced := false, quiet := 0
                                               noFlush := false, flush := none, lostMask := 0, lost := 0, quiesce := none } }
    let s2 := eachWing (fun w s => bell w 25 (raise w 0x0C01 w (usableEnergy s w) n s)) s1
    let s3 := eachWing (fun w s =>
      let x := ingGet s w
      placesSet w (placesUsed s w - x.pipe.length) (ingSet w { x with pipe := [] } s)) s2
    (List.range (2 * s3.part.wings)).foldl (fun s pn => portSilent 1 pn s) s3

end Sys2Proof.Machine
end

