-- ==== Sys2Proof/Machine/RegRead.lean ====
section
/-! DEFINITION. What a register reads (the register tables of every chapter): its stored fields, and beside them the
fields and counters that read another part of the state. -/

namespace Sys2Proof.Machine

/-- Fields put over a stored value: (hi, lo, value). -/
def overlay (v : Nat) (fs : List (Nat × Nat × Nat)) : Nat := fs.foldl (fun v f => setBits v f.1 f.2.1 f.2.2) v

/-- The Tally number of a block counter register, if an offset of a block is one (Table 15-8). -/
def counterAt (blk off : Nat) : Option Nat :=
  let k := (off - 0x100) / 8
  let c := fun n base => if 0x100 ≤ off ∧ off % 8 = 0 ∧ k < n then some (base + k) else none
  if blk = 4 ∨ blk = 5 then c 18 (tallyAir (blk - 4) 0)
  else if blk = 6 then c 23 (tallyMac 0)
  else if blk = 7 then c 11 (tallyTc 0)
  else if blk = 8 then c 35 (tallyIng 0)
  else if blk = 0xA then c 16 (tallyNa 0)
  else if blk = 0xC then c 22 (tallyNfc 0)
  else if blk = 0xD ∧ 0x8100 ≤ off ∧ off < 0x8140 ∧ off % 8 = 0 then some (tallyCg ((off - 0x8100) / 8))
  else if blk = 0xD ∨ blk = 0xE then c 16 (tallyUpl (blk - 0xD) 0)
  else if blk = 0x12 then c 8 (tallySrg 0)
  else none

/-- COR_ID (Table 1-5): topology, wings, wing. -/
def corIdValue (s : State) (w : Nat) : Nat :=
  let n := s.part.wings
  (if n = 2 then 0 else if n = 4 then 1 else 2) * 256 + n * 16 + w

/-- COR_LINK (Table 1-6) over its stored DOWN bits. -/
def corLinkValue (s : State) (w v : Nat) : Nat :=
  (List.range 3).foldl (fun v p =>
    if portUsed s w p then
      overlay v [(35 + 4 * p, 32 + 4 * p, w ^^^ 2 ^ p), (8 + p, 8 + p, 1),
                 (p, p, b2n (!(linkOn s w p).down && released s w 3))]
    else overlay v [(35 + 4 * p, 32 + 4 * p, 15)]) v

/-- Lanes of a wing held on a port by frames or searches (Table 3-4). -/
def lanesHeld (s : State) (w p : Nat) : Nat :=
  ((List.range 24).filter (fun l => let x := laneGet s w l; (x.st == 1 || x.st == 2) && x.port == p)).length

/-- Lane states of a wing (Table 3-11). -/
def laneStates (s : State) (w : Nat) : Nat := (List.range 24).foldl (fun v l =>
  v + (if laneFree s w l then 0 else (laneGet s w l).st) * 4 ^ l) 0

/-- Valid neighbour entries of a wing, and pinned ones (Table 4-15). -/
def nbrUsed (s : State) (w : Nat) : Nat × Nat :=
  let l := s.mac.nbrs.filter (fun e => e.1 / 8192 == w && bit e.2.flags 0)
  (l.length, (l.filter (fun e => nbrPinned s e.2)).length)

/-- TT_MATINC: what a replica adds in the present FCLK, its correction included (R40, Table 2-3). -/
def incNow (r : Replica) : Nat := ((r.inc : Int) + qStep r.corr r.lim 1).toNat

/-- TT_STAT (Table 2-4) over its stored flags. -/
def ttStatValue (s : State) (w v : Nat) : Nat :=
  let r := replica s w
  overlay v [(63, 32, r.epoch), (24, 16, (s.tt.filter (fun e => e.1 / 256 == w && entState e.2 == 1)).length),
             (3, 3, b2n r.skew), (2, 2, b2n r.stale), (1, 0, r.given)]

/-- UPL_CLKSTAT (Table 11-7) over its stored events. -/
def clkstatValue (s : State) (v : Nat) : Nat :=
  overlay v [(6, 6, b2n (decide (s.clk.q ≠ 0))), (5, 5, b2n (ptimeLocked s)), (4, 4, s.ptp.disc), (3, 2, (domGet s 1).state),
             (1, 0, (domGet s 0).state)]

/-- Age of the energy a wing holds in 100 us (Table 13-16). -/
def holdupAge (s : State) (w : Nat) : Nat :=
  let a := tabGet 0 s.power.heldAt w
  if a = 0 then 255 else min 255 ((s.clk.now + 1 - a) / 100000)

/-- LOG_SEQ.LAST: the newest sequence, its record complete in the ring where there is one (R431). -/
def lastSeen (s : State) (w : Nat) : Nat :=
  match s.log.ring.find? (fun r => r.wing == w) with
  | some r => r.seq - 1
  | none => (logGet s w).last

/-- NA_STAT (Table 9-13) over its stored OVERRUN. -/
def naStatValue (s : State) (w v : Nat) : Nat :=
  let jobs := s.audit.jobs.filter (fun j => j.kind == 1 || j.who == w)
  overlay v [(40, 32, s.mode.lanes), (31, 16, jobs.length), (2, 2, b2n (quiet s && !jobs.isEmpty)),
             (1, 1, b2n (s.audit.close.isSome || (tabGet none s.audit.ident w).isSome)), (0, 0, b2n (w == 0))]

/-- What a register of a wing reads. -/
def regBlockValue (s : State) (w blk off v : Nat) : Nat :=
  match counterAt blk off with
  | some n => cntGet s w n
  | none =>
    if blk = 0 then (if off = 0x18 then overlay v [(63, 56, holdupAge s w)] else v)
    else if blk = 2 then
      (if 0x1000 ≤ off ∧ off < 0x2000 then tabGet 0 s.tally.frz (w * 512 + (off - 0x1000) / 8)
       else if 0x2000 ≤ off ∧ off < 0x3000 then cntGet s w ((off - 0x2000) / 8) else v)
    else if blk = 3 then (if off = 0 then corIdValue s w else if off = 8 then corLinkValue s w v else if off = 0x10 then s.clk.now else v)
    else if blk = 4 ∨ blk = 5 then
      (if off = 0x48 then overlay v [(39, 32, lanesHeld s w (blk - 4))]
       else if off = 0x400 then laneStates s w else v)
    else if blk = 6 then
      (if off = 0x18 then overlay v [(45, 32, (nbrUsed s w).1), (29, 16, (nbrUsed s w).2)] else v)
    else if blk = 8 then
      (if off = 8 then overlay v [(47, 32, placesUsed s w), (21, 12, fillQueue s (ingGet s w))]
       else if off = 0x10 then overlay v [(19, 0, capacity s w)]
       else if off = 0x20 then (ingGet s w).cons % 2 ^ 32 * 2 ^ 32 + ((ingGet s w).seq + (ingGet s w).pipe.length) % 2 ^ 32 else v)
    else if blk = 0xA then
      (if off = 8 then naStatValue s w v else v)
    else if blk = 0xB then (if off = 0x20 then (regGet (ddrSettle w s) (ddrTiming w)).toNat else v)
    else if blk = 0xD ∨ blk = 0xE then
      (if off = 0 then overlay v [(0, 0, if regF s (uplStat w (blk - 0xD)) 10 10 = 1 then 0 else v % 2)]
       else if off = 8 then overlay v [(3, 3, b2n (decide ((domGet s 1).sel = some (2 * w + (blk - 0xD))))),
                                  (2, 2, b2n (decide ((domGet s 0).sel = some (2 * w + (blk - 0xD)))))]
       else if off = 0x8000 ∧ blk = 0xD then ptimeNs s
       else if off = 0x8008 ∧ blk = 0xD then clkstatValue s v else v)
    else if blk = 0xF then
      (if off = 0 then matNow s w else if off = 8 then incNow (replica s w) else if off = 0x10 then ttStatValue s w v
       else if 0x1000 ≤ off ∧ off < 0x3000 then
         let x := ttGet s w ((off - 0x1000) / 32)
         (if off % 32 = 0 then x.tgt else if off % 32 = 8 then x.ctl else if off % 32 = 16 then x.rep else x.arg)
       else v)
    else if blk = 0x10 then
      (if off = 0x10 then overlay v [(44, 32, (logGet s w).unflushed)]
       else if off = 0x18 then (logGet s w).flushed * 2 ^ 32 + lastSeen s w else v)
    else if blk = 0x12 then
      (if off = 0 then overlay v [(2, 2, b2n (decide (s.sr.carrying = some w))), (1, 1, b2n (srUp s (1 - w))), (0, 0, b2n (srUp s w))]
       else v)
    else v

/-- What a register reads; WO bits read 0 (R9). An access to an offset that no table assigns is a bus error (`errs`). -/
def regValue (s : State) (a : Nat) : Word :=
  match regSplit a, regAt a with
  | some (w, blk, off), some d => BitVec.ofNat 64 (regBlockValue s w blk off (regGet s a &&& ~~~BitVec.ofNat 64 d.wo).toNat)
  | _, _ => 0

/-- A register read: the counters of the Ledger cores, which the model does not run, read a free value. -/
def regRead (a : Nat) (s : State) : Word × State :=
  match regSplit a with
  | some (_, blk, off) => if blk = 2 ∧ 0x2640 ≤ off ∧ off < 0x2840 ∧ off % 64 < 48 then freeWord s else (regValue s a, s)
  | none => (0, s)

/-- A field of a register as it reads. -/
def regRF (s : State) (a hi lo : Nat) : Nat := bits (regValue s a).toNat hi lo

end Sys2Proof.Machine
end

