-- ==== Sys2Proof/Machine/Mailbox.lean ====
section
/-! DEFINITION. The Concierge's queue and how messages reach it: EMP segments (R356, R357) and mailbox slots (R362). -/

namespace Sys2Proof.Machine

/-- The place of a message among those that become complete in one FCLK (Table 12-13): mailbox slots by wing and slot, then
sessions. -/
def msgRank : Via → Nat
  | .mailbox w slot => w * 4 + slot
  | .slot k => 100 + k
  | .session n => 200 + n

/-- A message takes its place in the order of completion. -/
def msgInsert (m : Msg) : List Msg → List Msg
  | [] => [m]
  | y :: ys =>
    if m.at_ < y.at_ ∨ (m.at_ = y.at_ ∧ msgRank m.via < msgRank y.via) then m :: y :: ys else y :: msgInsert m ys

/-- R363: a message that finds the queue full is answered BUSY at once and not served. -/
def msgBusy (m : Msg) (s : State) : State :=
  match m.via with
  | .mailbox w slot => mailboxRespond w slot m.reqId m.obj stBUSY [] s
  | via => { s with emp := { s.emp with reply := some { via := some via, reqId := m.reqId, obj := m.obj, status := stBUSY, body := [] } } }

/-- R363: a complete message joins the queue of 64; the last in the order of Table 12-13 finds it full. -/
def msgQueue (m : Msg) (s : State) : State :=
  let q := msgInsert m s.emp.queue
  let s1 := { s with emp := { s.emp with queue := q.take 64 } }
  match q[64]? with
  | some l => msgBusy l s1
  | none => s1

/-- An answer given during reassembly: it is not kept (R357). -/
def replyOnly (n reqId obj status : Nat) (body : Bytes) (s : State) : State :=
  { s with emp := { s.emp with reply := some { via := some (.session n), reqId := reqId, obj := obj, status := status, body := body } } }

/-! ### The mailbox (R362) -/

/-- R362: a slot's request is read from the wing's DRAM and submitted; an address outside populated DRAM sets ERR and
clears GO; a length outside 16 to 65,616, or a kind that is not GET, SET or EXEC, is answered MALFORMED.
(DEDUCED, log 49) -/
def mailboxSubmit (w slot : Nat) (s : State) : State :=
  let a := regF s (mbxReq w slot) 63 6 * 64
  let n := regF s (mbxLen w slot) 31 0
  let r := regF s (mbxRsp w slot) 63 6 * 64
  if !dramIn s w r 65616 ∨ !dramIn s w a (max 16 (min n 65616)) then
    regPutF (mbxStat w) (8 + slot) (8 + slot) 1 (regPutF (mbxCtl w) slot slot 0 s)
  else
    let b := dramRead s a (min n 65616)
    let m : Msg := { at_ := s.clk.now, via := .mailbox w slot, reqId := beAt b 4 4, kind := beAt b 1 1, obj := beAt b 8 4, flags := beAt b 12 2, body := b.drop 16 }
    if n < 16 ∨ 65616 < n then mailboxRespond w slot 0 0 stMALFORMED [] s
    else if beAt b 0 1 ≠ 1 ∨ beAt b 2 2 ≠ 1 ∨ m.kind = 0 ∨ 3 < m.kind ∨ 2 ≤ m.flags then mailboxRespond w slot m.reqId m.obj stMALFORMED [] s
    else msgQueue m s

/-- R362: GO of a slot: submitted once the Concierge runs; a GO stays pending until then. (DEDUCED, log 48) -/
def mailboxGo (w slot : Nat) (s : State) : State :=
  let s1 := regPutF (mbxCtl w) slot slot 1 s
  if released s1 0 5 ∧ !(s1.emp.queue.any (fun m => m.via == .mailbox w slot)) then mailboxSubmit w slot s1 else s1

/-- R362: a GO bit of MBX_CTL. -/
def execMailboxGo (t w slot : Nat) (s : State) : Host.Outcome State Fault Refusal :=
  let s := atTime t s
  if w < s.part.wings ∧ slot < 4 then .next (mailboxGo w slot s) else .next s

/-! ### EMP segments (R356, R357) -/

/-- R356: a segment's header keeps the limits of Table 12-5. -/
def segmentOk (g : EmpSegment) : Bool :=
  g.version == 1 && decide (1 ≤ g.count ∧ g.count ≤ 55 ∧ g.index < g.count ∧ g.body.length ≤ 1200 ∧ g.flags < 2)

/-- A segment agrees with the others of its ID: kind, count and object. -/
def segmentFits (p : Partial) (g : EmpSegment) : Bool := p.kind == g.kind && p.count == g.count && p.obj == g.object && p.flags == g.flags

/-- R360: an ACK takes its NOTIFY from those unacknowledged. -/
def ackApply (n seq : Nat) (s : State) : State :=
  let x := sessGet s n
  sessSet n { x with unacked := x.unacked.filter (fun y => y.seq != seq) } s

/-- R356 to R358: a reassembled message waits for the Concierge; a body beyond 65,600 octets breaks the limit of a message, and a
kind that is no request kind is MALFORMED. (DEDUCED, log 47) -/
def messageComplete (n : Nat) (p : Partial) (s : State) : State :=
  let m : Msg := { at_ := s.clk.now, via := .session n, reqId := p.reqId, kind := p.kind, obj := p.obj, flags := p.flags
                   body := p.segs.flatMap (·.2) }
  if 65600 < m.body.length then replyOnly n p.reqId p.obj stMALFORMED [] s
  else if (m.kind = 0 ∨ 5 < m.kind) ∧ s.emp.queue.length < 64 then
    answer (.session n) p.obj stMALFORMED [] { s with emp := { s.emp with queue := m :: s.emp.queue } }
  else msgQueue m s

/-- R357: a segment joins its message; the message is queued once whole. -/
def segmentJoin (n : Nat) (g : EmpSegment) (s : State) : State :=
  let x := sessGet s n
  let p : Partial := (x.parts.find? (fun p => p.reqId == g.reqId)).getD
    { reqId := g.reqId, kind := g.kind, count := g.count, obj := g.object, flags := g.flags, segs := [], since := s.clk.now }
  let rest := x.parts.filter (fun p => p.reqId != g.reqId)
  if !segmentOk g ∨ !segmentFits p g then replyOnly n g.reqId g.object stMALFORMED [] (sessSet n { x with parts := rest } s)
  else
    let p1 : Partial := { p with segs := tabIns g.index g.body p.segs }
    if p1.segs.length = p1.count then messageComplete n p1 (sessSet n { x with parts := rest } s)
    else sessSet n { x with parts := rest ++ [p1] } s

/-- R355 to R357: a segment is received on a session: an ACK; a repeated request ID, answered with the stored response or
dropped while the first is queued; or a part of a message. -/
def execSegmentReceive (t n : Nat) (seg : EmpSegment) (s : State) : Host.Outcome State Fault Refusal :=
  let s := atTime t s
  let x := sessGet s n
  if n < 16 ∧ x.isOpen then
    let s1 := sessSet n { x with last := s.clk.now } s
    if seg.kind = 6 ∧ segmentOk seg then .next (ackApply n seg.reqId s1)
    else match x.stored.find? (fun r => r.reqId == seg.reqId) with
      | some r => .next (replyOnly n r.reqId r.obj r.status r.body s1)
      | none =>
        if s.emp.queue.any (fun m => m.via == .session n && m.reqId == seg.reqId) then .next s1
        else .next (segmentJoin n seg s1)
  else .next s

/-- R357: a message incomplete 2 s after its first segment is discarded and answered INCOMPLETE; event 0x0013 at most once
per second. -/
def execIncomplete (t n reqId : Nat) (s : State) : Host.Outcome State Fault Refusal :=
  let s := atTime t s
  let x := sessGet s n
  match x.parts.find? (fun p => p.reqId == reqId && decide (p.since + 2000000000 ≤ s.clk.now)) with
  | none => .next s
  | some p =>
    .next (raiseOnce 8100 1000000000 0 0x0013 0 n reqId
      (replyOnly n reqId p.obj stINCOMPLETE [] (sessSet n { x with parts := x.parts.filter (fun q => q.reqId != reqId) } s)))

end Sys2Proof.Machine
end

