-- ==== Sys2Proof/Machine/Uplink.lean ====
section
/-! DEFINITION. The uplink (chapter 11): links, parallel redundancy, transmit rings, timed launches, armed copies and the
lease drill. -/

namespace Sys2Proof.Machine

/-! ### Links (R311, R317) -/

/-- R311: an uplink port's link comes up; event 0x0B01. -/
def execUplinkLinkUp (t pn : Nat) (s : State) : Host.Outcome State Fault Refusal :=
  let s := atTime t s
  if lanEn s pn ∧ !lanRuns s pn then
    .next (raise (pn / 2) 0x0B01 pn pn (regF s (uplCfg (pn / 2) (pn % 2)) 1 1) (regPutF (uplStat (pn / 2) (pn % 2)) 0 0 1 s))
  else .next s

/-- R311, R319, R322: a link goes down. -/
def execUplinkLinkDown (t pn : Nat) (s : State) : Host.Outcome State Fault Refusal :=
  let s := atTime t s
  if pn < 2 * s.part.wings ∧ regF s (uplStat (pn / 2) (pn % 2)) 0 0 = 1 then .next (linkDown pn s) else .next s

/-- R317: no good frame for 0B.20w0.05: SILENT, SILENTEV, event 0x0B03. (DEDUCED, log 272) -/
def execPortSilent (t pn : Nat) (s : State) : Host.Outcome State Fault Refusal :=
  let s := atTime t s
  let x := lanGet s pn
  if lanEn s pn ∧ regF s (uplStat (pn / 2) (pn % 2)) 1 1 = 0 ∧
      x.good + obj s (0x0B200005 + pn / 2 * 4096) * 1000000 ≤ s.clk.now + 1 then
    .next (raise (pn / 2) 0x0B03 pn pn x.goodPt (lanFlag pn 5 (regPutF (uplStat (pn / 2) (pn % 2)) 1 1 1 s)))
  else .next s

/-! ### Receiving (R315, R316, R318) -/

/-- How R315 judges a frame: accepted, and the flags of Table 11-5 it carries (SRC_FULL 4, OUT_OF_WINDOW 8). -/
structure PrpJudge where
  accept : Bool
  full   : Bool
  out    : Bool
  entry  : Option PrpEntry
  deriving DecidableEq, Repr

/-- R315 on an entry: `d` is the sequence less the newest, as a 16-bit difference. -/
def prpEntryJudge (e : PrpEntry) (seq now : Nat) : PrpJudge :=
  let d := sgn 16 (seq + 65536 - e.newest % 65536)
  let h := { e with heard := now }
  if 0 < d then
    { accept := true, full := false, out := false
      entry := some { h with newest := seq, window := (e.window * 2 ^ d.toNat + 1) % 2 ^ 32768 } }
  else if d ≠ -32768 then
    if bit e.window (-d).toNat then { accept := false, full := false, out := false, entry := some h }
    else { accept := true, full := false, out := false, entry := some { h with window := e.window + 2 ^ (-d).toNat } }
  else { accept := true, full := false, out := true, entry := some { h with newest := seq, window := 1 } }

/-- A frame kept for comparison (R316): sequence, length and CRC-32C of its LSDU. -/
def prpKeep (b : Bytes) (e : PrpEntry) : PrpEntry :=
  { e with kept := (((trailerOf b).seq, (lsdu b).length, crc32c (lsdu b)) :: e.kept).take 16 }

/-- R315: the pair judges a frame with a well-formed trailer. -/
def prpJudge (w : Nat) (b : Bytes) (s : State) : PrpJudge × State :=
  let x := pairGet s w
  let src := beAt b 6 6
  match x.table.find? (fun e => e.mac == src) with
  | some e =>
    let j := prpEntryJudge e (trailerOf b).seq s.clk.now
    let e2 := (j.entry.map (fun y => if j.accept then prpKeep b y else y)).getD e
    (j, pairSet w { x with table := x.table.map (fun y => if y.mac = src then e2 else y) } s)
  | none =>
    let old := x.table.find? (fun e => decide (e.heard + obj s (0x0B200007 + w * 4096) * 1000000 ≤ s.clk.now))
    let e := prpKeep b { mac := src, newest := (trailerOf b).seq, window := 1, heard := s.clk.now, kept := [] }
    let yes : PrpJudge := { accept := true, full := false, out := false, entry := some e }
    if x.table.length < 256 then (yes, pairSet w { x with table := x.table ++ [e] } s)
    else match old with
      | some o => (yes, pairSet w { x with table := x.table.map (fun y => if y.mac = o.mac then e else y) } s)
      | none => ({ yes with full := true, entry := none }, s)

/-- R316: a discarded duplicate is compared with the kept copy of its sequence. -/
def prpCompare (pn : Nat) (b : Bytes) (e : PrpEntry) (s : State) : State :=
  match e.kept.find? (fun k => k.1 == (trailerOf b).seq) with
  | none => lanCount pn 9 s
  | some k =>
    if k.2.1 = (lsdu b).length ∧ k.2.2 = crc32c (lsdu b) then s
    else raiseOnce (7000 + pn / 2) 1000000000 (pn / 2) 0x0B05 pn (beAt b 6 6) (trailerOf b).seq (lanFlag pn 6 (lanCount pn 8 s))

/-- PTIME at which the delimiter of a frame of `n` octets, received to its last octet now, passed the MII boundary. -/
def arrivedAt (s : State) (pn n : Nat) : Nat := ptimeAt s (s.clk.now - octetsTime s pn (n + 5))

/-- R318: a frame goes to the port's receive ring (Table 11-5), or is lost. -/
def lanDeliver (pn : Nat) (b : Bytes) (trailer : Bool) (flags : Nat) (s : State) : State :=
  let w := pn / 2
  let l := pn % 2
  let n := 2 ^ ringLog2 (regF s (uplRqCfg w l) 4 0) 4 16 4
  let body := if trailer then b.take (b.length - 6) else b
  let r := padTo 2048 (toLe 8 (arrivedAt s pn b.length) ++ toLe 2 body.length ++ toLe 1 pn ++ toLe 1 flags ++
    toLe 2 (if trailer then (trailerOf b).seq else 0) ++ List.replicate 50 0 ++ body)
  if ringFull s (uplRqPtr w l) n then lanFlag pn 9 (lanCount pn 10 s)
  else bell w (15 + 2 * l) (ringPut (uplRqCfg w l) (uplRqPtr w l) n r s)

/-- R318: a surviving frame is sorted: supervision frames and EMP's datagrams to their units, the rest to the ring. -/
def lanSort (pn : Nat) (b : Bytes) (trailer : Bool) (flags : Nat) (s : State) : State :=
  if etherType b = 0x88FB ∨ isEmp (oct s (0x0B200002 + pn / 2 * 4096)) b then s else lanDeliver pn b trailer flags s

/-- R315: a frame of a PRP pair. -/
def prpFrame (pn : Nat) (b : Bytes) (s : State) : State :=
  if !hasTrailer b then lanSort pn b false 0 (lanCount pn 4 s)
  else
    let s1 := if onLan pn b then s else lanFlag pn 7 (lanCount pn 5 s)
    let j := prpJudge (pn / 2) b s1
    let fl := 1 + 2 * b2n (!onLan pn b) + 4 * b2n j.1.full + 8 * b2n j.1.out
    if !j.1.accept then
      let s2 := lanCount pn 3 j.2
      match j.1.entry with
      | some e => prpCompare pn b e s2
      | none => s2
    else
      let s2 := if j.1.full then lanFlag pn 8 (lanCount pn 7 j.2) else j.2
      lanSort pn b true fl (if j.1.out then lanCount pn 6 s2 else s2)

/-- R311, R315 to R318: a frame is received on a running port to its end; PTP frames go to the time unit.
(DESIGN CHOICE, log 285) -/
def execPrpReceive (t pn : Nat) (f : UplinkFrame) (s : State) : Host.Outcome State Fault Refusal :=
  let s := atTime t s
  if !lanRuns s pn then .next s
  else if !f.fcsOk ∨ isPause f.bytes ∨ 1520 < f.bytes.length then .next (lanCount pn 2 s)
  else if isPtp f.bytes then .next (ptpFrames pn 1 s)
  else
    let s1 := goodFrame pn (lanCount pn 0 s)
    if prpOn s (pn / 2) then .next (prpFrame pn f.bytes s1) else .next (lanSort pn f.bytes false 0 s1)

/-! ### Sending (R314, R319) -/

/-- R314: supervision frames on both ports every 0B.20w0.06. -/
def execSupervisionSend (t w : Nat) (s : State) : Host.Outcome State Fault Refusal :=
  let s := atTime t s
  let x := pairGet s w
  if w < s.part.wings ∧ prpOn s w ∧ (lanRuns s (2 * w) || lanRuns s (2 * w + 1)) ∧
      x.supAt + obj s (0x0B200006 + w * 4096) * 1000000 ≤ s.clk.now then
    let q := prpSeq w (pairSet w { x with supAt := s.clk.now } s)
    let frame := Config.supervision (oct s (0x0B200001 + w * 4096))
    let go := fun pn s => if lanRuns s pn then lanSend pn (some q.1) frame s else s
    .next (go (2 * w + 1) (go (2 * w) q.2))
  else .next s

/-- Limits of Table 11-4. -/
def lanDescOk (s : State) (w : Nat) (d : Bytes) : Bool :=
  dramIn s w (leAt d 0 8) (leAt d 8 2) && decide (60 ≤ leAt d 8 2 ∧ leAt d 8 2 ≤ 1514 ∧ leAt d 10 1 < 4 ∧ leAt d 14 2 = 0) &&
  (!bit (leAt d 10 1) 0 || prpOn s w)

/-- The ports a descriptor of port `pn` goes out on. -/
def descPorts (pn : Nat) (d : Bytes) : List Nat := if bit (leAt d 10 1) 0 then [pn / 2 * 2, pn / 2 * 2 + 1] else [pn]

/-- R328: an ordinary frame that leaves a port when it is free would end, with its gap, before a launch led there begins its
preamble. -/
def beforeLaunch (s : State) (pn n : Nat) : Bool :=
  let e := max s.clk.now (lanGet s pn).wire + octetsTime s pn n + octetsTime s pn 7
  [pn / 2 * 2, pn / 2 * 2 + 1].all (fun q => ((lanGet s q).launch.toList ++ (lanGet s q).leads).all (fun l =>
    !l.led || !bit l.lans (pn % 2) || (if l.entry.isSome then decide (e < l.due) else laterW 64 l.due (ptimeAt s e))))

/-- R314: the front descriptor's frame, or a launch's, leaves those of its ports that are given. -/
def lanSendOn (ports : List Nat) (seq : Option Nat) (frame : Bytes) (s : State) : State :=
  ports.foldl (fun s p => lanSend p seq frame s) s

/-- R319, R328: the front descriptor of a port's ring is taken: refused, held for its launch, or sent. -/
def execUplinkTransmitDescriptor (t pn : Nat) (s : State) : Host.Outcome State Fault Refusal :=
  let s := atTime t s
  let w := pn / 2
  let x := lanGet s pn
  if !decide (pn < 2 * s.part.wings) || tqQueued s pn == 0 || x.launch.isSome || s.power.fail.isSome then .next s
  else
    let d := dramRead s (tqAddr s pn (tqCons s pn)) 32
    let at_ := leAt d 16 8
    let ports := (descPorts pn d).filter (fun p => lanRuns s p)
    let n := lanOctets s pn (leAt d 8 2)
    if !lanDescOk s w d then .next (tqDone pn 3 0 0 s)
    else if ports.isEmpty then .next (tqDone pn 4 0 0 s)
    else if at_ ≠ 0 then
      if laterW 64 (ptimeNs s + 2000) at_ then .next (tqDone pn 2 0 0 (lanCount pn 14 s))
      else .next (lanSet pn { x with launch := some { entry := none, desc := tqAddr s pn (tqCons s pn), due := at_
                                                      lans := if bit (leAt d 10 1) 0 then 3 else 2 ^ (pn % 2)
                                                      frame := [], led := false, back := false } } s)
    else if ports.any (fun p => decide (s.clk.now < (lanGet s p).wire) || !beforeLaunch s p n) then .next s
    else
      let q := prpTake w s
      let s1 := lanSendOn ports q.1 (dramRead s (leAt d 0 8) (leAt d 8 2)) q.2
      .next (tqDone pn 0 (q.1.getD 0) (lastSent s1 (ports.headD pn)) s1)

/-! ### Timed launches (R328, R329) -/

/-- A Timetable UPL_LAUNCH's ports, as a mask of LANs. -/
def launchLans (x : Entry) : Nat := if entPort x = 2 then 3 else 2 ^ entPort x

/-- The port that keeps a Timetable's launch. -/
def launchHome (w : Nat) (x : Entry) : Nat := 2 * w + (if entPort x = 1 then 1 else 0)

/-- R328: a Timetable entry's lead: its descriptor and frame are read, and the launch kept; a bad descriptor or no running port
ends it. -/
def entryLead (w e : Nat) (x : Entry) (s : State) : State :=
  let d := dramRead s x.arg 32
  let lans := launchLans x
  let ports := [2 * w, 2 * w + 1].filter (fun p => bit lans (p % 2))
  let skip := fun (st : Nat) (s : State) => ttAdvance w e 4 (ports.foldl (fun s p => lanCount p 14 s) (lanWriteBack x.arg st 0 0 s))
  if !lanDescOk s w d then skip 3 s
  else if ports.all (fun p => !lanRuns s p) then skip 4 s
  else
    let home := lanGet s (launchHome w x)
    lanSet (launchHome w x) { home with leads := home.leads ++ [
        { entry := some e, desc := x.arg, due := s.clk.now + 2000, lans := lans
          frame := dramRead s (leAt d 0 8) (leAt d 8 2), led := true, back := false }] }
      (ttSet w e { x with leadAt := some s.clk.now } s)

/-- R328: the lead of a launch: a Timetable entry's (`e` below 256) or that of the descriptor its port holds.
(DEDUCED, log 174) -/
def execTimedLaunchLead (t pn e : Nat) (s : State) : Host.Outcome State Fault Refusal :=
  let s := atTime t s
  let w := pn / 2
  if !decide (pn < 2 * s.part.wings) || s.power.fail.isSome then .next s
  else if 256 ≤ e then
    match (lanGet s pn).launch with
    | some l =>
      if !l.led ∧ notBeforeW 64 (ptimeNs s + 2000) l.due then
        .next (lanSet pn { lanGet s pn with launch := some { l with
          led := true, frame := dramRead s (leAt (dramRead s l.desc 8) 0 8) (leAt (dramRead s (l.desc + 8) 2) 0 2) } } s)
      else .next s
    | none => .next s
  else
    let x := ttGet s w e
    if !(entState x = 1 ∧ entAction x = 4 ∧ x.leadAt = none) ∨ pn ≠ launchHome w x ∨ !leadReached s w x.tgt 2000 then .next s
    else if entNeed x ∧ !lockOk s w then .next (ttAdvance w e 3 s)
    else .next (entryLead w e x s)

/-- R329: an armed copy is due on a port and has not left yet: it takes the port before a launch. -/
def copyDue (s : State) (pn : Nat) : Bool :=
  (List.range 64).any (fun i =>
    let x := slotGet s i
    x.state == 2 && x.fireAt == none && !x.lost && bit x.upls pn && decide (x.ts + 8000 ≤ s.clk.now) && fireHeld s x (pn / 2))

/-- R328, R329: a led launch at its instant, on the LANs of its mask: each sends it whose wire is free for its preamble; the
delimiter passes now. (DEDUCED, log 170) -/
def launchSend (pn : Nat) (l : LanLaunch) (s : State) : State :=
  let w := pn / 2
  let ports := [2 * w, 2 * w + 1].filter (fun p => bit l.lans (p % 2))
  let runs := ports.filter (fun p => lanRuns s p)
  let ok := runs.filter (fun p => decide ((lanGet s p).wire + octetsTime s p 7 ≤ s.clk.now) && !copyDue s p)
  let q := if ok.isEmpty then (none, s) else prpTake w s
  let s1 := ports.foldl (fun s p =>
    if ok.contains p then
      lanCount p 13 (lanSendAt p (s.clk.now - octetsTime s p 7) q.1 l.frame.length l.frame s)
    else if runs.contains p ∨ l.entry.isSome then lanCount p 14 s else s) q.2
  let status := if !ok.isEmpty then 0 else if runs.isEmpty then 4 else 1
  let at_ := if ok.isEmpty then 0 else ptimeNs s
  match l.entry with
  | none => tqDone pn status (q.1.getD 0) at_ (lanSet pn { lanGet s1 pn with launch := none } s1)
  | some e =>
    let s2 := lanSet pn { lanGet s1 pn with leads := (lanGet s1 pn).leads.filter (fun y => y.entry != some e) } s1
    let s3 := if l.back then s2 else lanWriteBack l.desc status (q.1.getD 0) at_ s2
    if ok.isEmpty then ttAdvance w e 4 s3
    else ttAdvance w e 0 (raise w 0x0212 w (w * 256 + e) (matNow s w) s3)

/-- R328, R329: a launch that has been led, a Timetable entry's (`e` below 256) or the descriptor's its port holds, is sent at its
instant, or skipped. -/
def execTimedLaunchSend (t pn e : Nat) (s : State) : Host.Outcome State Fault Refusal :=
  let s := atTime t s
  if !decide (pn < 2 * s.part.wings) then .next s
  else if 256 ≤ e then
    match (lanGet s pn).launch with
    | some l => if l.led ∧ notBeforeW 64 (ptimeNs s) l.due then .next (launchSend pn l s) else .next s
    | none => .next s
  else
    match (lanGet s pn).leads.find? (fun l => l.entry == some e) with
    | some l => if matReached s (pn / 2) (ttGet s (pn / 2) e).tgt then .next (launchSend pn l s) else .next s
    | none => .next s

/-! ### Armed copies (R57, R59) -/

/-- The uplink copy of a fired slot: Ethernet header, fire header (Table 2-12), payload and signature as armed. -/
def fireFrame (s : State) (x : Slot) (slot pn : Nat) : Bytes :=
  padTo 6 (oct s 0x02001000) ++ padTo 6 (oct s (0x0B200001 + pn / 2 * 4096)) ++ [0x88, 0xB5] ++ toBe 2 (obj s 0x0B040000) ++
  toBe 1 slot ++ slice x.record 3 1 ++ toBe 8 x.tsPtime ++ toBe 8 x.matFire ++ x.record.drop 38

/-- R57: the copy's delimiter passes 8,000 FCLK after t_s, or when the frame in progress then ends with its gap. -/
def copyDelimiter (s : State) (x : Slot) (pn : Nat) : Nat := max (x.ts + 8000) (lanGet s pn).wire

/-- R57, R59: the copy of a slot leaves a port with its delimiter at its cycle, the port recorded as used. -/
def copySend (slot pn : Nat) (x : Slot) (seq : Option Nat) (s : State) : State :=
  let f := fireFrame s x slot pn
  lanSendAt pn (copyDelimiter s x pn - octetsTime s pn 7) seq f.length f
    (slotSet slot { slotGet s slot with usedUpl := (slotGet s slot).usedUpl ||| 2 ^ pn } s)

/-- R57, R59: a fired slot's copy on a selected uplink port; a port that does not run, or whose wing does not hold the fire
message, sends none. -/
def execArmedUplinkCopy (t slot pn : Nat) (s : State) : Host.Outcome State Fault Refusal :=
  let s := atTime t s
  let x := slotGet s slot
  let w := pn / 2
  if !(64 > slot ∧ x.state = 2 ∧ bit x.upls pn ∧ x.fireAt = none ∧ !x.lost) ∨ s.clk.now < copyDelimiter s x pn then .next s
  else
    let s1 := slotSet slot { x with upls := x.upls - 2 ^ pn } s
    if !lanRuns s pn ∨ !fireHeld s x w then .next s1
    else if !prpOn s w then .next (copySend slot pn x none s1)
    else
      let held := tabGet 0 (pairGet s1 w).armed slot
      if held ≠ 0 then
        .next (copySend slot pn x (some (held - 1)) (pairSet w { pairGet s1 w with armed := tabPut 0 slot 0 (pairGet s1 w).armed } s1))
      else
        let q := prpSeq w s1
        let keep := bit x.upls (pn / 2 * 2 + (1 - pn % 2))
        let s2 := if keep then pairSet w { pairGet q.2 w with armed := tabPut 0 slot (q.1 + 1) (pairGet q.2 w).armed } q.2 else q.2
        .next (copySend slot pn x (some q.1) s2)

/-! ### The lease drill (R336) -/

/-- The provisioned endpoints of a group, and those of them not SUSPENDED. -/
def drillEndpoints (s : State) (g : Nat) : Nat × Nat :=
  let l := ((List.range s.part.wings).flatMap (fun w => homedIndices s w)).filter (fun i => leAt (entryOf s i) 160 8 == g)
  (l.length, (l.filter (fun i => !bit (entFlags (entryOf s i)) 4)).length)

/-- R336: request kind 0x0B10: the Keeper verifies the drill lease as condition 4 of R237 would. (DEDUCED, log 173) -/
def drillKeeper (g : Nat) (sigOk : Bool) (s : State) : Nat :=
  if !srOpen s then stUNREACHABLE
  else match (groupGet s g).drill with
    | some c => if leaseHolds g (ptimeNs s) sigOk c c.expiry s then 0 else stLEASE
    | none => stLEASE

/-- R336: the drill report (Table 11-11) and the mask of failed checks. -/
def drillReport (g : Nat) (sigOk : Bool) (s : State) : Bytes × Nat :=
  let x := groupGet s g
  let lease := match x.drill with
    | none => 4
    | some c => spanJudge s c.span c.expiry
  let keeper := drillKeeper g sigOk s
  let key := b2n (oct s 0x0B030500).isEmpty
  let fed := match x.drill with
    | some c => b2n (beAt c.record 16 2 != obj s 0x0B040000)
    | none => 1
  let e := drillEndpoints s g
  (toBe 8 g ++ toBe 1 lease ++ toBe 1 keeper ++ toBe 1 key ++ toBe 1 fed ++ toBe 4 e.1 ++ toBe 4 e.2 ++
    toBe 8 ((uncertainty s).getD (2 ^ 64 - 1)) ++ toBe 8 (ptimeNs s) ++ List.replicate 28 0,
   b2n (lease != 0) + 2 * b2n (keeper != 0) + 4 * key + 8 * fed)

/-- R336: 0B.0310.00: the checks of the drill, request kind 0x0B10 in its turn among them, its report, event 0x0B30. -/
def execRunADrill (t : Nat) (via : Via) (group : Nat) (leaseSigOk : Bool) (s : State) : Host.Outcome State Fault Refusal :=
  let s := atTime t s
  if !s.sr.doors.isEmpty then .next s
  else .next (serve via 0x0B031000 (fun s =>
    let r := drillReport group leaseSigOk s
    let s1 := if !srOpen s then s else reqServed 0 0x0B10 (drillKeeper group leaseSigOk s) [] s
    (stDONE, r.1, raise 0 0x0B30 0 group r.2 (count 0 (tallyCg 6) s1))) s)

end Sys2Proof.Machine
end

