-- ==== Sys2Proof/Machine/RegWrite.lean ====
section
/-! DEFINITION. What a register write does at its target (R9 to R11, R20 and the register tables): by access type, and
with the effect of each request bit and enable. -/

namespace Sys2Proof.Machine

/-- A write that only stores: by the access type of each bit (R9, R11). A flag that hardware sets in the FCLK of the write
that clears it stays set (R10). -/
def regStore (a : Nat) (v : Word) (s : State) : State :=
  match regAt a with
  | some d => regSet a (regMerge d (regGet s a) (v &&& ~~~(setNow s a &&& BitVec.ofNat 64 d.w1c))) s
  | none => s

/-- R395: held pin groups are released; event 0x0C22 names them and who released them. (DEDUCED, log 194) -/
def pinsRelease (w mask why : Nat) (s : State) : State :=
  let h := regF s (porPinhold w) 2 0
  let m := h &&& (mask % 8)
  if m = 0 then s else raise w 0x0C22 w m why (regPutF (porPinhold w) 2 0 (h - m) s)

/-- R397: POR_CTL: COLD wins over WARM. -/
def porCtlWrite (w : Nat) (v : Word) (s : State) : State :=
  if bit v.toNat 1 then resetAsk { cause := 2, cold := true, wing := w } s
  else if bit v.toNat 0 then resetAsk { cause := 2, cold := false, wing := w } s
  else s

/-- An enable that stays 0 while a region it needs lies outside the wing's populated DRAM. -/
def enGuard (a : Nat) (ok : State → Bool) (s : State) : State := if ok s then s else regPutF a 0 0 0 s

/-- R152: a cold start restores each directory slot from the last complete sweep, and its owner's address table, before
ING_CTL.EN is set; held replies do not survive. Keys are not in the sweep. (DEDUCED, log 179; DEDUCED, log 180) -/
def directoryRestore (w : Nat) (s : State) : State :=
  let x := ingGet s w
  if !x.restore then s
  else x.swept.foldl (fun s e =>
    let slot := dirSlot s e.1
    let s1 := dramWrite (slot + 160) (slice e.2 64 24) (dramWrite slot (putLe (entFlag 3 false (entFlag 2 false (slice e.2 0 64))) 36 2 0) s)
    let a := leAt e.2 8 8
    match atGive s1 (ownerOf s1 a) a with
    | some p => dramWrite p (slotBytes { nbrFresh a with dir := e.1 }) s1
    | none => s1) (ingSet w { x with restore := false } s)

/-- R134: Check-in may be enabled: the directory region and the staging area lie in populated DRAM. -/
def ingRegions (w : Nat) (s : State) : Bool :=
  dramIn s w (regF s (ingDirCfg w) 63 30 * 1073741824) (capacity s w * 2048) && dramIn s w (stgBase s w) 268435456

/-- ING_CTL: EN held under R134, FLUSH. -/
def ingCtlWrite (w : Nat) (v : Word) (s : State) : State :=
  let s1 := enGuard (ingCtl w) (ingRegions w) (regStore (ingCtl w) v s)
  let s2 := if regF s (ingCtl w) 0 0 = 0 ∧ regF s1 (ingCtl w) 0 0 = 1 then directoryRestore w s1 else s1
  if bit v.toNat 1 then nextOf (execFlushGuestBook s2.clk.now w s2) s2 else s2

/-- NA_CTL: EN held under R268. -/
def naCtlWrite (w : Nat) (v : Word) (s : State) : State :=
  auditSpan (enGuard (naCtl w) (fun s => dramIn s w (regF s (naEpCfg w) 63 30 * 1073741824) 1073741824 &&
    dramIn s w (regF s (naWsCfg w) 63 30 * 1073741824) 1073741824) (regStore (naCtl w) v s))

/-- NFC_CTL: EN held under R307, and starting a store that is OFF (R302); CKPT, STOP. (DEDUCED, log 160) -/
def nfcCtlWrite (w : Nat) (v : Word) (s : State) : State :=
  let s1 := enGuard (nfcCtl w) (fun s => dramIn s w (regF s (nfcMapCfg w) 63 30 * 1073741824) 1073741824 &&
    dramIn s w (regF s (nfcBufCfg w) 63 30 * 1073741824) 1073741824) (regStore (nfcCtl w) v s)
  let s2 := if regF s1 (nfcCtl w) 0 0 = 1 ∧ storeState s1 w = 0 then
      storeStateSet w (if regF s1 (porStat w) 24 24 = 1 then 1 else if (storeGet s1 w).clean then 3 else 2) s1
    else s1
  if bit v.toNat 2 then nextOf (execStop s2.clk.now w s2) s2 else s2

/-- AIR_CFG: EN, TRAIN and the plain fields (R67, R69). -/
def airCfgWrite (w p : Nat) (v : Word) (s : State) : State :=
  let was := regF s (airCfg w p) 0 0
  let s1 := regStore (airCfg w p) (v &&& ~~~(3 : Word)) (regPutF (airCfg w p) 0 0 was s)
  let s2 := regPutF (airCfg w p) 0 0 was s1
  let s3 := if was = 0 ∧ bit v.toNat 0 then nextOf (execPortEnable s2.clk.now w p s2) s2
    else if was = 1 ∧ !bit v.toNat 0 then nextOf (execPortDisable s2.clk.now w p s2) s2 else s2
  if bit v.toNat 1 then nextOf (execTrain s3.clk.now w p s3) s3 else s3

/-- UPL_CFG: EN is held while the port is parked, when it reads 0; clearing it takes the link down. -/
def uplCfgWrite (w l : Nat) (v : Word) (s : State) : State :=
  if regF s (uplStat w l) 10 10 = 1 then regPutF (uplCfg w l) 0 0 (regF s (uplCfg w l) 0 0) (regStore (uplCfg w l) v s)
  else
    let s1 := if !bit v.toNat 0 ∧ regF s (uplStat w l) 0 0 = 1 then nextOf (execUplinkLinkDown s.clk.now (2 * w + l) s) s else s
    regStore (uplCfg w l) v s1

/-- A word of a Timetable entry (R44, R45): GO and STOP after the other bits. -/
def ttWrite (w e word : Nat) (v : Word) (s : State) : State :=
  let s1 := ttSet w e (entWrite word v.toNat (ttGet s w e)) s
  if word = 1 then
    if bit v.toNat 13 then ttStop w e s1 else if bit v.toNat 12 then ttGo w e s1 else s1
  else s1

/-- MAC_NBR_CTL with GO: the operation it asks for (R121). -/
def nbrCtlWrite (w : Nat) (v : Word) (s : State) : State :=
  let op := bits v.toNat 58 56
  let i := bits v.toNat 12 0
  let s1 := regStore (macNbrCtl w) v s
  if !bit v.toNat 63 then s1
  else if op = 1 then nextOf (execNbrPin s1.clk.now w i s1) s1
  else if op = 2 then nextOf (execNbrUnpin s1.clk.now w i s1) s1
  else nbrRead w op i s1

/-- ING_GB_CTL with GO: the operation it asks for (R154). -/
def gbCtlWrite (w : Nat) (v : Word) (s : State) : State :=
  let op := bits v.toNat 58 56
  let i := bits v.toNat 19 0
  let s1 := regStore (ingGbCtl w) v s
  let t := s1.clk.now
  if !bit v.toNat 63 then s1
  else if op = 1 then nextOf (execGbPin t w i s1) s1
  else if op = 2 then nextOf (execGbUnpin t w i s1) s1
  else if op = 3 then nextOf (execWriteback t w i s1) s1
  else if op = 4 then nextOf (execHoldReply t w i s1) s1
  else gbRead w op i s1

/-- LOG_RING_CFG: EN stays 0 while the ring lies outside populated DRAM (Table 15-14). -/
def ringCfgWrite (w : Nat) (v : Word) (s : State) : State :=
  let s1 := regStore (logRingCfg w) v s
  let n := 2 ^ ringLog2 (regF s1 (logRingCfg w) 4 0) 12 16 12
  if dramIn s1 w (regF s1 (logRingCfg w) 63 12 * 4096) (n * 32) then s1 else regPutF (logRingCfg w) 5 5 0 s1

/-- The GO bits of MBX_CTL, slot by slot (R362). -/
def mbxCtlWrite (w : Nat) (v : Word) (s : State) : State :=
  (List.range 4).foldl (fun s slot => if bit v.toNat slot then mailboxGo w slot s else s) s

/-- A write of a wing's register block is applied. -/
def regBlockWrite (w blk off : Nat) (v : Word) (s : State) : State :=
  let a := regA w blk off
  let t := s.clk.now
  if blk = 0 ∧ off = 0 then porCtlWrite w v s
  else if blk = 0 ∧ off = 0x10 then pinsRelease w (v.toNat % 8) 1 s
  else if blk = 1 ∧ off ≤ 8 then nextOf (execBbFlagClear t w (off / 8) v (setNow s a) s) s
  else if blk = 1 ∧ off = 0x10 then nextOf (execBbSwset t w v s) s
  else if blk = 1 ∧ off = 0x18 then nextOf (execBbFlagClear t w 2 v (setNow s a) s) s
  else if blk = 1 ∧ 0x100 ≤ off ∧ off < 0x500 then nextOf (execBbRouteWrite t w ((off - 0x100) / 8) v s) s
  else if blk = 1 ∧ 0x500 ≤ off ∧ off < 0x600 then nextOf (execBbRouteWrite t w (128 + (off - 0x500) / 8) v s) s
  else if blk = 2 ∧ off = 0 then freezeArm w v.toNat s
  else if blk = 2 ∧ off = 0x10 then nextOf (execTalSwinc t w v s) s
  else if (blk = 4 ∨ blk = 5) ∧ off = 0 then airCfgWrite w (blk - 4) v s
  else if (blk = 4 ∨ blk = 5) ∧ off = 0x40 then
    spiWrite w (blk - 4) v s
  else if blk = 6 ∧ off = 0 then
    enGuard a (fun s => dramIn s w (regGet s (macAtBase w)).toNat 67108864) (regStore a v s)
  else if blk = 6 ∧ off = 0x20 then nbrCtlWrite w v s
  else if blk = 8 ∧ off = 0 then ingCtlWrite w v s
  else if blk = 8 ∧ off = 0x28 then nextOf (execStagingConfirm t w v s) s
  else if blk = 8 ∧ off = 0x50 then gbCtlWrite w v s
  else if blk = 0xA ∧ off = 0 then naCtlWrite w v s
  else if blk = 0xC ∧ off = 0 then nfcCtlWrite w v s
  else if (blk = 0xD ∨ blk = 0xE) ∧ off = 0 then uplCfgWrite w (blk - 0xD) v s
  else if blk = 0xF ∧ 0x1000 ≤ off ∧ off < 0x3000 then ttWrite w ((off - 0x1000) / 32) (off % 32 / 8) v s
  else if blk = 0x10 ∧ off = 0 then (if bit v.toNat 0 then flushAsk w s else s)
  else if blk = 0x10 ∧ off = 0x20 then ringCfgWrite w v s
  else if blk = 0x10 ∧ off = 0x38 then nextOf (execLogSwraise t w v s) s
  else if blk = 0x13 ∧ off = 0 then mbxCtlWrite w v s
  else regStore a v s

/-- A write is applied at the register it names. -/
def regWrite (a : Nat) (v : Word) (s : State) : State :=
  match regSplit a, regAt a with
  | some (w, blk, off), some _ => regBlockWrite w blk off v s
  | _, _ => s

/-- A field of a register written by software, the register's other RW bits as they are. -/
def fieldWrite (a hi lo v : Nat) (s : State) : State :=
  match regAt a with
  | some d => regWrite a (BitVec.ofNat 64 (setBits (regGet s a &&& BitVec.ofNat 64 d.rw).toNat hi lo v)) s
  | none => s

/-- A register write of requester `rq` is applied: what the register read before it is remembered for the reads issued
before it (R20). -/
def applyWrite (rq a t0 : Nat) (v : Word) (s : State) : State :=
  let p : PastWrite := { at_ := s.clk.now, addr := a, rq := rq, t0 := t0, old := (regRead a s).1 }
  regWrite a v { s with fab := { s.fab with past := (p :: s.fab.past).take 64 } }

/-- R9 to R11, R20 to R22: a register write issued at `t0` is applied at its target once it has crossed, or ends in a bus
error, reported when a read issued then would complete. (DEDUCED, log 7) -/
def execRegisterWrite (t rq addr t0 : Nat) (v : Word) (s : State) : Host.Outcome State Fault Refusal :=
  let s := atTime t s
  if errs s rq addr true then .next (busError rq addr true (t0 + busErrorTime s rq addr t0) s)
  else match regSplit addr with
  | none => .next s
  | some (w, _, _) => if s.clk.now < t0 + appliedAfter s rq w t0 then .next s else .next (applyWrite rq addr t0 v s)

/-- The timebases `d` FCLK earlier (no slew in between). (DESIGN CHOICE, log 19) -/
def backTime (d : Nat) (s : State) : State :=
  { s with clk := { s.clk with now := s.clk.now - d, ptime := s.clk.ptime - (nsFine + s.clk.rate) * d }
           mat := { s.mat with reps := s.mat.reps.map (fun r => { r with acc := ((r.acc : Int) - r.inc * d).toNat }) } }

/-- The oldest write of an address that a read does not see: applied after the read was served at cycle `c`, or issued after
it, at `t0`, by the same requester (R20). -/
def unseenWrite (s : State) (rq a t0 c : Nat) : Option PastWrite :=
  s.fab.past.reverse.find? (fun p => p.addr == a && (decide (c < p.at_) || (p.rq == rq && decide (t0 < p.t0))))

/-- R20: what a read that the target finished serving `back` FCLK ago returns. (DEDUCED, log 282) -/
def servedValue (s : State) (rq a t0 back : Nat) : Word × State :=
  match unseenWrite s rq a t0 (s.clk.now - back) with
  | some p => (p.old, s)
  | none => regRead a (backTime back s)

/-- R19 to R22: a register read issued at `t0` completes with the value its target served half a return path before, or in a
bus error. -/
def execRemoteRegisterReadDone (t rq addr t0 : Nat) (s : State) : Host.Outcome State Fault Refusal :=
  let s := atTime t s
  if errs s rq addr false then
    let done := t0 + busErrorTime s rq addr t0
    if s.clk.now < done then .next s else .next (busError rq addr false done s)
  else match regSplit addr with
  | none => .next s
  | some (w, _, _) =>
    let done := t0 + readAfter s rq w t0
    if s.clk.now < done then .next s
    else
      let r := servedValue s rq addr t0 (s.clk.now - (t0 + appliedAfter s rq w t0 + if rq = w then 0 else 24))
      .next (completeAccess rq addr false done (some r.1) { s with free := r.2.free })

end Sys2Proof.Machine
end

