-- ==== Sys2Proof/Machine/Dictionary.lean ====
section
/-! DEFINITION. The dictionary's values (R344 to R352): what a GET of each object reads, which register fields an object
names, and what a SET of each object checks and does. -/

namespace Sys2Proof.Machine

/-! ### Register fields that objects name (R348) -/

/-- Index and sub of an object number (R344). -/
def objIdx (n : Nat) : Nat := n / 256 % 65536
/-- Sub of an object number (R344). -/
def objSub (n : Nat) : Nat := n % 256

/-- A field of one register of every wing. -/
def everyWing (s : State) (a : Nat → Nat) (hi lo : Nat) : List (Nat × Nat × Nat) :=
  (List.range s.part.wings).map (fun w => (a w, hi, lo))

/-- Fields of 03.1wpf.bb (Tables 3-3, 3-8, 3-9 and 3-14). -/
def airFields (w p f b : Nat) : List (Nat × Nat × Nat) :=
  if f = 0 then [(airCfg w p, 0, 0)]
  else if f = 1 then [(airBinmode w p (b / 16), 4 * (b % 16) + 3, 4 * (b % 16))]
  else if f = 2 then [(airCfg w p, 16, 16)]
  else if f = 3 then [(airCfg w p, 23, 20)]
  else if f = 4 then [(airCfg w p, 47, 32)]
  else if f = 5 then [(airRxcfg w p, 10, 0)]
  else if f = 6 then [(airRxcfg w p, 63, 48)]
  else if f = 7 then [(airRxcfg w p, 47, 40)]
  else if f = 8 then [(airRxcfg w p, 33, 32)]
  else if f = 9 then [(airTxcfg w p, 15, 0)]
  else if f = 10 then [(airTxcfg w p, 23, 16)]
  else []

/-- Fields of 0B.10pn.ss and 0B.20w0.00 (Table 11-1). -/
def uplFields (n : Nat) : List (Nat × Nat × Nat) :=
  let i := objIdx n
  let pn := i % 256
  if i / 256 = 0x10 then
    (if objSub n = 0 then [(uplCfg (pn / 2) (pn % 2), 0, 0)]
     else if objSub n = 1 then [(uplCfg (pn / 2) (pn % 2), 1, 1)]
     else if objSub n = 2 then [(uplCfg (pn / 2) (pn % 2), 3, 2)]
     else if objSub n = 5 then [(uplCfg (pn / 2) (pn % 2), 5, 5)] else [])
  else if i / 256 = 0x20 ∧ objSub n = 0 then [(uplCfg (i / 16 % 16) 0, 4, 4), (uplCfg (i / 16 % 16) 1, 4, 4)]
  else []

/-- The register fields a kept object names, in ascending wing. -/
def objFields (s : State) (n : Nat) : List (Nat × Nat × Nat) :=
  let i := objIdx n
  if n / 16777216 = 3 then airFields (i / 256 % 16) (i / 16 % 16) (i % 16) (objSub n)
  else if n = 0x04000100 then everyWing s macCfg 63 48
  else if n = 0x04000200 then everyWing s macCfg 47 32
  else if n = 0x04001100 then everyWing s macCfg 6 4
  else if n = 0x04001200 then everyWing s macCfg 1 1
  else if n / 256 = 0x040080 then [(macAckmap (objSub n / 2) (objSub n % 2), 63, 0)]
  else if n = 0x05000100 then everyWing s ingCtl 0 0
  else if n = 0x09000100 then everyWing s naCtl 0 0
  else if n = 0x0A000100 then everyWing s nfcCtl 0 0
  else if n / 16777216 = 0x0B then uplFields n
  else if n = 0x0E000100 then everyWing s logCfg 12 0
  else []

/-- The wing of a register. -/
def wingOf (a : Nat) : Nat :=
  match regSplit a with
  | some (w, _, _) => w
  | none => 0

/-- R363: the value is written to every field the object names; the first wing that cannot be reached ends it. -/
def fieldsWrite (v : Nat) : List (Nat × Nat × Nat) → State → Bool × State
  | [], s => (true, s)
  | (a, hi, lo) :: fs, s =>
    if !errs s 0 a true then fieldsWrite v fs (fieldWrite a hi lo (v % 2 ^ (hi + 1 - lo)) s)
    else (false, busError 0 a true (s.clk.now + busErrorTime s 0 a s.clk.now) s)

/-- The objects that name register fields of one wing, for the release of their domain (R348). -/
def keptFields (w : Nat) : List Nat :=
  (List.range 2).flatMap (fun p => let b := 0x03100000 + w * 65536 + p * 4096
    [b, b + 0x200, b + 0x300, b + 0x400, b + 0x500, b + 0x600, b + 0x700, b + 0x800, b + 0x900, b + 0xA00] ++
    (List.range 64).map (fun k => b + 0x100 + k)) ++
  [0x04000100, 0x04000200, 0x04001100, 0x04001200, 0x04008000 + 2 * w, 0x04008001 + 2 * w, 0x05000100, 0x09000100, 0x0A000100] ++
  (List.range 2).flatMap (fun l => let b := 0x0B100000 + (2 * w + l) * 256
    [b + 1, b + 2, b + 5, 0x0B200000 + w * 4096, b]) ++ [0x0E000100]

/-- R113, R348: the kept values are written to a wing's fields again, and its parent candidates held. -/
def restoreFields (w : Nat) (s : State) : State :=
  candidatesHold w <| (keptFields w).foldl (fun s n => (objFields s n).foldl (fun s f =>
    if wingOf f.1 = w then fieldWrite f.1 f.2.1 f.2.2 (obj s n % 2 ^ (f.2.1 + 1 - f.2.2)) s else s) s) s

/-! ### The capability list (R351) -/

/-- Table 12-3: version-1 parameters of a capability. -/
def capParams (s : State) (id : Nat) : List Nat :=
  let n := s.part.wings
  if id = 1 then [n, 8 * n, 24 * n, 2 * n, 2 * n, 2 * n, n]
  else if id = 2 then [1048576, 131072, 512]
  else if id = 3 then [0x7777777777777777, 64, 24]
  else if id = 4 then [8192, 65536]
  else if id = 5 then [256, 64, 8]
  else if id = 6 then [16, 32000]
  else if id = 7 then [8, 24, 57344, 4, 8, 16, 64]
  else if id = 8 then [262144, 16, 131072]
  else if id = 9 then [256, 4096, 2, 16]
  else if id = 10 then [4398046511104 / n, 65536]
  else if id = 11 then [3, 2, 4096, 512]
  else [16, 65600, 64, 4]

/-- An entry's header or parameter; a sub past its parameters holds no object. (DEDUCED, log 195) -/
def capValue (s : State) (id sub : Nat) : Option Nat :=
  let ps := capParams s id
  if sub = 0 then some (id * 2 ^ 48 + 2 ^ 40 + ps.length * 2 ^ 32 + (if id < 12 then 0x1000 + 256 * id else 0))
  else ps[sub - 1]?

/-! ### Values read (R348, R366) -/

/-- A Tally counter summed over the wings (R366). -/
def sumCnt (s : State) (n : Nat) : Nat := ((List.range s.part.wings).map (fun w => cntGet s w n)).sum % two64

/-- 06.0001.00. -/
def strongState (s : State) : Nat :=
  b2n s.sr.onVbak + 2 * b2n s.sr.metro + 4 * b2n (srUp s 0) + 8 * b2n (srUp s 1) + 16 * b2n (decide (s.sr.carrying = some 1))

/-- The armed slot objects 02.03ss. -/
def slotValue (x : Slot) (sub : Nat) : Nat :=
  if sub = 0 then x.state else if sub = 1 then x.count else if sub = 2 then x.tsPtime
  else if sub = 3 then x.matFire else if sub = 4 then x.air else x.why

/-- 0A.0060.00 (newest sealed) and 0A.0061.00 (oldest held), with their interval minutes in bits 63:32. -/
def spanEnds (s : State) (newest : Bool) : Nat :=
  let l := s.store.flatMap (fun e => e.2.dirs)
  let pick := l.foldl (fun m d => match m with
    | none => some d
    | some x => if (if newest then decide (x.span * x.mu < d.span * d.mu) else decide (d.span * d.mu < x.span * x.mu)) then some d else m)
    (none : Option SpanDir)
  match pick with
  | some d => d.mu * 2 ^ 32 + d.span % 2 ^ 32
  | none => 0

/-- 0A.0062.00: bytes of the blocks that are neither free nor retired. -/
def rawUsed (s : State) : Nat :=
  (s.store.map (fun e => (e.2.blocks.filter (fun b => b.2.st == 1 || b.2.st == 2)).foldl (fun n b =>
    n + blockPages s e.1 b.2.slc * 16384) 0)).sum

/-- Values of areas 00 to 05 that are read from the machine and not kept. -/
def readLow (s : State) (n : Nat) : Option Nat :=
  let i := objIdx n
  let k := objSub n
  if n = 0x00000100 then some (800 + 10 * s.part.wings)
  else if n / 65536 = 0 ∧ 0x10 ≤ i then capValue s (i - 0x0F) k
  else if n = 0x01000200 then some s.mode.cur
  else if n = 0x01000300 then some s.mode.changes
  else if n = 0x02000400 then some (matNow s 0)
  else if n = 0x02000500 then some s.mat.state
  else if n = 0x02000600 then some s.mat.epoch
  else if n / 256 = 0x020007 then some (chanGet s k).freq
  else if n / 65536 = 0x0203 then some (slotValue (slotGet s (i % 256)) k)
  else if n / 1048576 = 0x021 then some (regBlockValue s (i / 256 % 16) 0xF (0x1000 + 32 * (i % 256) + 8 * k) 0)
  else if n / 16777216 = 3 ∧ i % 16 = 0xB then some (regValue s (airStat (i / 256 % 16) (i / 16 % 16))).toNat
  else if n / 16777216 = 3 ∧ i % 16 = 0xC then some (cntGet s (i / 256 % 16) (tallyAir (i / 16 % 16) k))
  else if n = 0x04006500 then some s.mac.parent
  else if n / 256 = 0x040120 then some (sumCnt s (tallyMac k))
  else if n / 256 = 0x040121 then some (sumCnt s (tallyTc k))
  else if n = 0x05001000 then some ((List.range s.part.wings).map (capacity s)).sum
  else if n / 256 = 0x050011 then some (capacity s k)
  else if n = 0x05001200 then some ((List.range s.part.wings).map (fun w => (homedIndices s w).length)).sum
  else if n / 256 = 0x050200 then some (sumCnt s (tallyIng k))
  else if n / 256 = 0x050300 then some (regValue s (ingStat k)).toNat
  else none

/-- Values of areas 06 to 0A that are read from the machine and not kept. (DEDUCED, log 45) -/
def readMid (s : State) (n : Nat) : Option Nat :=
  let k := objSub n
  if n = 0x06000100 then some (strongState s)
  else if n = 0x07005100 then some (unsgn 64 (civilOf s (oct s 0x07004100) (ltimeNs s)))
  else if n = 0x07005200 then some (b2n (dstAt (oct s 0x07004100) (stdOf s (oct s 0x07004100) (ltimeNs s))))
  else if n = 0x07007000 then some (ltimeNs s)
  else if n = 0x08020100 then some (storeHeld s)
  else if n / 256 = 0x090010 then some (groupSegs s.audit.segs k).length
  else if n / 256 = 0x090300 then some (sumCnt s (tallyNa k))
  else if n / 256 = 0x090301 then some (regValue s (naStat k)).toNat
  else if n / 256 = 0x0A0002 then some (storeState s k)
  else if n = 0x0A003100 then some (((List.range s.part.wings).map (ckptCost s)).foldl max 0)
  else if n / 256 = 0x0A0050 then some (storeGet s k).good
  else if n / 256 = 0x0A0051 then some (freePool s k)
  else if n / 256 = 0x0A0052 then some ((storeGet s k).blocks.filter (fun b => b.2.st == 3)).length
  else if n / 256 = 0x0A0053 then some ((eraseSpread (storeGet s k)).1 * 2 ^ 32 + (eraseSpread (storeGet s k)).2)
  else if n = 0x0A006000 then some (spanEnds s true)
  else if n = 0x0A006100 then some (spanEnds s false)
  else if n = 0x0A006200 then some (rawUsed s)
  else if n / 256 = 0x0A0200 then some (sumCnt s (tallyNfc k))
  else if n / 256 = 0x0A0300 then some (regValue s (nfcStat k)).toNat
  else none

/-- The generation of an Option Word copy and whether its CRC holds (R388). -/
def optGood (c : List Word) : Bool :=
  decide (c.length = 17) && decide ((c.getD 16 0).toNat % 2 ^ 32 = crc32c ((c.take 16).flatMap (fun w => toLe 8 w.toNat) ++ toLe 4 ((c.getD 16 0).toNat / 2 ^ 32)))

/-- The generation of a copy. -/
def optGen (c : List Word) : Nat := (c.getD 16 0).toNat / 2 ^ 32

/-- R389: the copy to take: the good one, of two the later, A if equal. -/
def optPick (s : State) : Option Nat :=
  let a := s.power.optCopies.getD 0 []
  let b := s.power.optCopies.getD 1 []
  if optGood a ∧ (!optGood b ∨ !laterW 32 (optGen b) (optGen a)) then some 0
  else if optGood b then some 1 else none

/-- The fused default of an Option Word (Table 13-8). -/
def optFused (w : Nat) : Word := regReset (porOpt 0 w)

/-- R399: the newest good copy's word, or the fused default. -/
def optWord (s : State) (w : Nat) : Word :=
  match optPick s with
  | some c => (s.power.optCopies.getD c []).getD w 0
  | none => optFused w

/-- R418: 0D.0132.00, the whole seconds left of a trial, rounded up. -/
def trialLeft (s : State) : Nat :=
  match s.upd.trial with
  | some d => ceilDiv (d + obj s 0x0D013100 * 1000000000 - s.clk.now) 1000000000
  | none => 0

/-- OCTETS that are read from the machine and not kept. -/
def octValue (s : State) (n : Nat) : Bytes :=
  if n = 0x0D011100 then s.upd.report
  else if n / 256 = 0x0D0122 then (tabGet [] s.upd.nor (objSub n * 8192)).take 512
  else oct s n

/-- Values of areas 0B to 0F that are read from the machine and not kept. (DEDUCED, log 46; DESIGN CHOICE, log 206) -/
def readHigh (s : State) (n : Nat) : Option Nat :=
  let i := objIdx n
  let k := objSub n
  if n / 65536 = 0x0B10 ∧ k = 6 then some (regValue s (uplStat (i % 256 / 2) (i % 2))).toNat
  else if n / 65536 = 0x0B11 then some (cntGet s (i % 256 / 2) (tallyUpl (i % 2) k))
  else if n / 256 = 0x0B0111 then some (domGet s k).state
  else if n / 256 = 0x0B0112 then some (domGet s k).gm
  else if n / 256 = 0x0B0113 then some (unsgn 64 (domGet s k).offset)
  else if n = 0x0B012100 then some s.ptp.disc
  else if n = 0x0B012200 then some (ptimeNs s)
  else if n = 0x0B012300 then some ((uncertainty s).getD (2 ^ 64 - 1) % two64)
  else if n = 0x0B030300 then some (groupsHeld s)
  else if n / 256 = 0x0B0500 then some (sumCnt s (tallyCg k))
  else if n = 0x0C000100 then some (regF s (porStat 0) 31 28)
  else if n = 0x0C000200 then some (if regF s (porStat 0) 24 24 = 1 then 2 else 1)
  else if n = 0x0C003600 then some (usableEnergy s 0)
  else if n = 0x0C003700 then some (reserveUj s)
  else if n / 65536 = 0x0C02 ∧ i < 0x210 then some (optWord s (i % 16)).toNat
  else if n = 0x0D010400 then some (dlChunks s * 2 ^ 32 + chunksHeld s)
  else if n = 0x0D012300 then some (ptr s)
  else if n = 0x0D012400 then some (if s.upd.run = [] then 0 else bunVer s.upd.run)
  else if n = 0x0D012500 then some (s.upd.outcome * 65536)
  else if n = 0x0D013200 then some (trialLeft s)
  else if n = 0x0D015000 then some (counterNow s)
  else if n = 0x0D015100 then some (b2n (copyPick s).isNone)
  else if n = 0x0D015200 then some (maskNow s)
  else if n = 0x0D017000 then some (norValid s)
  else if n = 0x0D020300 then some ((List.range 16).filter (fun j => (sessGet s j).isOpen)).length
  else if n / 4096 = 0x0E004 then some (((mramLog s (i % 16)).head?.map (·.seq)).getD 0)
  else if n / 4096 = 0x0E005 then some (((mramLog s (i % 16)).getLast?.map (·.seq)).getD 0)
  else if n = 0x0E003000 then some (sumCnt s 196)
  else if n / 256 = 0x0F0002 then some (tabGet 0 s.tally.seq k)
  else if n = 0x0F000300 then some s.tally.last
  else if n / 16777216 = 0x0F ∧ 0x1000 ≤ i then
    let w := (i - 0x1000) / 0x200
    some (if k = 0 then tabGet 0 s.tally.frz (w * 512 + i % 0x200) else cntGet s w (i % 0x200))
  else none

/-- The number an object reads as. -/
def objValue (s : State) (n : Nat) : Nat :=
  match readLow s n with
  | some v => v
  | none => match readMid s n with
    | some v => v
    | none => (readHigh s n).getD (obj s n)

/-- The value octets of an object (R345); a live counter of a Ledger core, which the model does not run, is a free value,
and so is which of its four states a slot write under way is in (R426). -/
def objBytes (d : ObjDef) (n : Nat) (s : State) : Bytes × State :=
  match objWidth d.ty with
  | none => (octValue s n, s)
  | some k =>
    if n / 16777216 = 0x0F ∧ objSub n = 1 ∧ 200 ≤ objIdx n % 0x200 ∧ objIdx n % 0x200 < 264 ∧ objIdx n % 8 < 6 then
      let r := freeWord s
      (toBe k r.1.toNat, r.2)
    else if n = 0x0D012500 ∧ s.upd.writing.isSome then
      let r := freeWord s
      (toBe k (s.upd.outcome * 65536 + 1 + r.1.toNat % 4), r.2)
    else (toBe k (objValue s n), s)

/-- Objects read at one wing of their own: the wing; summed objects read every wing (R366). -/
def objWings (s : State) (n : Nat) : List Nat :=
  let i := objIdx n
  let k := objSub n
  let all := List.range s.part.wings
  if n / 1048576 = 0x021 ∨ n / 16777216 = 3 then [i / 256 % 16]
  else if n / 256 = 0x040120 ∨ n / 256 = 0x040121 ∨ n / 256 = 0x050200 ∨ n / 256 = 0x090300 ∨ n / 256 = 0x0A0200 ∨
    n / 256 = 0x0B0500 ∨ n = 0x0E003000 then all
  else if n / 256 = 0x050011 ∨ n / 256 = 0x050300 ∨ n / 256 = 0x090301 ∨ n / 256 = 0x0A0002 ∨ n / 256 = 0x0A0050 ∨
    n / 256 = 0x0A0051 ∨ n / 256 = 0x0A0052 ∨ n / 256 = 0x0A0053 ∨ n / 256 = 0x0A0300 ∨ n / 256 = 0x0F0002 then [k]
  else if (n / 65536 = 0x0B10 ∧ k = 6) ∨ n / 65536 = 0x0B11 then [i % 256 / 2]
  else if n / 16777216 = 0x0F ∧ 0x1000 ≤ i then [(i - 0x1000) / 0x200]
  else []

/-- A value held by the strongroom, read through the carrying gate (Table 12-11). (DEDUCED, log 38) -/
def strongHeld (n : Nat) : Bool :=
  let a := n / 16777216
  (a == 6 || a == 7 || a == 8) || n == 0x02000500 || n == 0x02000600 || n / 256 == 0x020007

/-- R363: an access made to serve a GET of the object completes with a bus error. -/
def readFails (s : State) (n : Nat) : Bool :=
  (objWings s n).any (fun w => !pathUp s 0 w || !pathUp s w 0) || (strongHeld n && !srOpen s)

/-! ### SET (R345, R348, R358) -/

/-- An ENGINEER anchor is held (R354), with one anchor's certificate or level put in its place. (DEDUCED, log 39) -/
def engineerAnchor (cert : Nat → Bytes) (lev : Nat → Nat) : Bool := (List.range 16).any (fun a => !(cert a).isEmpty && lev a == 1)

/-- Anchors as they stand. -/
def anchorNow (s : State) : Bool := engineerAnchor (fun a => oct s (0x0D020000 + a)) (fun a => obj s (0x0D020100 + a))

/-- R354: the write does not take away the last ENGINEER anchor. -/
def anchorStays (n : Nat) (val : Bytes) (s : State) : Bool :=
  !anchorNow s || engineerAnchor
    (fun a => if n = 0x0D020000 + a then val else oct s (0x0D020000 + a))
    (fun a => if n = 0x0D020100 + a then beNat val else obj s (0x0D020100 + a))

/-- R246: a write of a pending segment's sub leaves every enabled segment with an enabled parent that comes before it, and with
resistances in range. -/
def segStays (n : Nat) (val : Bytes) (s : State) : Bool :=
  let g := n / 1048576 % 2
  let t := objPut n (beNat val) s
  let on := segPending t g
  decide (n / 256 % 4096 ≠ 0) && on.all (fun k => decide (k ≠ n / 256 % 4096 ∧ obj t (segObj g k 0) ≠ n / 256 % 4096) || segOk t g on k)

/-- Ranges that depend on another object or on the object's own rule. -/
def setRange (n : Nat) (val : Bytes) (s : State) : Bool :=
  let v := beNat val
  if n = 0x04004000 then decide (v ≤ obj s 0x04004001)
  else if n = 0x04004001 then decide (3 ≤ v ∧ v ≤ 8)
  else if n = 0x04004002 then decide (v ≤ 5)
  else if n = 0x05002000 then decide (v ≠ obj s 0x05002100)
  else if n = 0x05002100 then decide (v ≠ obj s 0x05002000)
  else if n = 0x0B011000 then decide (v ≠ obj s 0x0B011001)
  else if n = 0x0B011001 then decide (v ≠ obj s 0x0B011000)
  else if n / 65536 = 0x0D02 then anchorStays n val s
  else if n / 1048576 = 0x092 ∨ n / 1048576 = 0x093 then segStays n val s
  else if n = 0x09003000 then decide (v % 60 = 0)
  else true

/-- R103, R113: a candidate's entry is held, marked, on its owner wing; that of the address it held before is a candidate's no
longer. (DESIGN CHOICE, log 43) -/
def candidateSet (old new : Nat) (s : State) : State :=
  candidateHold new (match nbrByAddr s old with
    | some k => if old ≠ 0 then nbrSet k (nbrMark s (nbrGet s k)) s else s
    | none => s)

/-- The ends of the audit intervals open now, oldest first: begun, their deadlines not passed (R253). -/
def openEnds (s : State) : List Nat :=
  let last := auditCeil s (ptimeSec s + 1)
  let first := if s.audit.next = 0 then auditCeil s (ptimeSec s + 1 - auditHold s) else s.audit.next
  (List.range ((last + auditLen s - first) / auditLen s)).map (fun k => first + k * auditLen s)

/-- R245, Table 9-5: 05.0022.00 or 05.0026.00 changed: open intervals are closed with CONFIG, fold maps cleared, the new
interval in force, the one that ends at the next boundary being closed with CONFIG too; and the Profile Store seals its open
spans with CONFIG. `s0` is the state before the change. (DEDUCED, log 44) -/
def configChange (s0 s : State) : State :=
  let ends := openEnds s0
  let s1 := eachWing (fun w s => (homedIndices s w).foldl (fun s i =>
    dramWrite (auditRec s i + 256) (List.replicate 256 0) s) s) s
  let s2 := ends.foldl (fun s e => closeReady e s) { s1 with objs := s0.objs }
  let s4 := objPut 0x09000200 (auditMinutes (obj s 0x05002200)) { s2 with objs := s.objs }
  let b := auditCeil s4 (ptimeSec s4 + 1)
  eachWing sealConfig (auditMod (fun a => { a with next := b, early := (b :: ends).map (fun e => (e, 5)) ++ a.early }) s4)

/-- What a SET of a value that was `old` does beside keeping its value and writing the fields it names. -/
def setEffect (n old : Nat) (s : State) : State :=
  if n = 0x02000100 then { s with mat := { s.mat with pendSrc := if obj s n = s.mat.source then none else some (obj s n, s.clk.now) } }
  else if n / 256 = 0x040060 then candidateSet old (obj s n) s
  else if n / 256 = 0x040061 then candidateHold (obj s (0x04006000 + objSub n)) s
  else if (n = 0x05002200 ∨ n = 0x05002600) ∧ old ≠ obj s n then configChange (objPut n old s) s
  else if n = 0x09000100 then auditSpan s
  else if n / 65536 = 0x0B10 ∧ objSub n = 0 then regPutF (uplCfg (objIdx n % 256 / 2) (objIdx n % 2)) 0 0 (obj s n) s
  else s

/-- A SET of a kept object: its commit, then its fields and its effect; UNREACHABLE where a field cannot be reached. -/
def setKept (d : ObjDef) (n : Nat) (val : Bytes) (s : State) : Nat × Bytes × State :=
  let old := obj s n
  let s1 := commitOne (objKeep d n val s)
  let r := fieldsWrite (obj s1 n) (objFields s1 n) s1
  if r.1 then (stDONE, [], setEffect n old r.2) else (stUNREACHABLE, [], r.2)

/-- R44, R62: a SET of a Timetable word writes it; one of a control word with GO or STOP answers the entry's STATE and WHY. -/
def setEntry (n : Nat) (val : Bytes) (s : State) : Nat × Bytes × State :=
  let w := objIdx n / 256 % 16
  if !pathUp s 0 w then (stUNREACHABLE, [], s)
  else
    let s1 := ttWrite w (objIdx n % 256) (objSub n) (BitVec.ofNat 64 (beNat val)) s
    let x := ttGet s1 w (objIdx n % 256)
    (stDONE, if objSub n = 1 ∧ bits (beNat val) 13 12 ≠ 0 then toBe 1 (entState x) ++ toBe 1 (entWhy x) else [], s1)

/-- The Option Word copies with word `ww` changed: the other copy than the newest good one is written, one generation on.
(DEDUCED, log 193) -/
def optWrite (ww : Nat) (v : Word) (s : State) : State :=
  let src := optPick s
  let base : List Word := match src with
    | some c => (s.power.optCopies.getD c []).take 16
    | none => (List.range 16).map optFused
  let gen := match src with
    | some c => (optGen (s.power.optCopies.getD c []) + 1) % 2 ^ 32
    | none => 1
  let words := base.set ww v
  let crc := crc32c (words.flatMap (fun w => toLe 8 w.toNat) ++ toLe 4 gen)
  let copy := words ++ [BitVec.ofNat 64 (gen * 2 ^ 32 + crc)]
  let a := s.power.optCopies.getD 0 []
  let b := s.power.optCopies.getD 1 []
  let two := if src = some 0 then [a, copy] else [copy, b]
  commitPush { tick := nextTick s, at_ := tickCycle s, cls := 3, sub := 0, words := 17, extents := 1, records := [], payload := payloadNone } { s with power := { s.power with optCopies := two } }

/-- R390: an Option Word's SET once its energy check is made: refused, or written and committed. -/
def optAfter (ww : Nat) (v : Word) (hold : Bool) (c : Bool × State) : Nat × Bytes × State :=
  if !c.1 ∨ hold then (stNOPOWER, [], c.2)
  else checked [(srOpen c.2, stUNREACHABLE), (!noPower c.2, stNOPOWER)]
    (fun s => (stDONE, [], optWrite ww v s)) c.2

/-- R390: a SET of an Option Word is a store operation of declared cost 0C.0041.00 (mJ). -/
def optSet (ww : Nat) (v : Word) (s : State) : Nat × Bytes × State :=
  optAfter ww v (noNewOps s) (energyCheck 0 4 (obj s 0x0C004100 * 1000000000) s)

/-- The SET of an object whose chapter gives it rules of its own, or of any other. -/
def setBody (d : ObjDef) (n : Nat) (val : Bytes) (s : State) : Nat × Bytes × State :=
  if n / 1048576 = 0x021 then setEntry n val s
  else if n / 256 = 0x040020 then keyMaterialSet (objSub n) val s
  else if n / 256 = 0x040021 then keyStateTo (objSub n) (beNat val) s
  else if n = 0x04002200 then armedKeySet val s
  else if n / 65536 = 0x0C02 ∧ objIdx n < 0x210 then optSet (objIdx n % 16) (BitVec.ofNat 64 (beNat val)) s
  else checked [(srOpen s, stUNREACHABLE), (!noPower s, stNOPOWER)]
    (fun s =>
      let r := setKept d n val s
      if n = 0x01000100 ∧ r.1 = stDONE then (r.1, r.2.1, applyMode (beNat val) (fireUpTo 2048 r.2.2)) else r) s

end Sys2Proof.Machine
end

