-- ==== Sys2Proof/Machine/Emp.lean ====
section
/-! DEFINITION. Sessions and the Concierge's service of GET, SET and subscriptions (R353 to R363). -/

namespace Sys2Proof.Machine

/-! ### Sessions (R353 to R355) -/

/-- The lowest session number not open, of 16. -/
def freeSession (s : State) : Option Nat := (List.range 16).find? (fun n => !(sessGet s n).isOpen)

/-- R354: an enrolment session is open. -/
def enrolling (s : State) : Bool := (List.range 16).any (fun n => (sessGet s n).isOpen && (sessGet s n).iface == 8)

/-- R353, R354: a chain's sizes keep their limits, and its validity dates hold, which are checked only while PTIME is locked. -/
def chainFits (s : State) (c : ClientChain) : Bool :=
  decide (c.certs ≤ 4 ∧ c.longest ≤ 2048) && (c.datesOk || !ptimeLocked s)

/-- R354: what a handshake is refused for (Table 12-16), if it is. -/
def handshakeWhy (s : State) (iface : Nat) (c : ClientChain) : Nat :=
  if (freeSession s).isNone ∨ (s.upd.shut ∧ (List.range 16).any (fun n => (sessGet s n).isOpen)) then 3
  else if c.certs = 0 then 1
  else if !chainFits s c then 2
  else if !anchorNow s then (if iface = 8 ∧ c.selfSigned ∧ !enrolling s then 0 else 2)
  else if c.sigsOk ∧ c.anchor < 16 ∧ !(oct s (0x0D020000 + c.anchor)).isEmpty then 0 else 2

/-- R353 to R355: a client's handshake ends: a session opens at its anchor's level, or event 0x0012 says why not. While
PTIME is not locked, validity dates are not checked, and the same event says so. -/
def execDtlsHandshake (t iface source : Nat) (chain : ClientChain) (s : State) : Host.Outcome State Fault Refusal :=
  let s := atTime t s
  let why := handshakeWhy s iface chain
  if (s.upd.shut ∧ iface ≠ 8) ∨ !(iface < s.part.wings ∨ iface = 8) then .next s
  else if why ≠ 0 then .next (raise 0 0x0012 0 (source % two64) why s)
  else
    let n := (freeSession s).getD 0
    let enrol := !anchorNow s
    let level := if enrol then 1 else obj s (0x0D020100 + chain.anchor)
    let s1 := if ptimeLocked s then s else raise 0 0x0012 0 (source % two64) 4 s
    let s2 := raise 0 0x0010 0 n (level * 256 + iface)
      (sessSet n { sessionDefault with isOpen := true, level := level, iface := iface, last := s.clk.now } s1)
    .next (if enrol then raise 0 0x0015 0 n 0 s2 else s2)

/-- R355: a session's subscriptions, its stored responses and its messages that the Concierge has not served are discarded.
(DESIGN CHOICE, log 273) -/
def sessionDrop (n : Nat) (s : State) : State :=
  sessSet n sessionDefault { s with emp := { s.emp with queue := s.emp.queue.filter (fun m => m.via != .session n) } }

/-- R355: a session ends on close_notify (1), after its idle time (2), or by a reset of wing 0 (3); event 0x0011; its
subscriptions and responses are discarded. -/
def execSessionEnd (t n why : Nat) (s : State) : Host.Outcome State Fault Refusal :=
  let s := atTime t s
  let x := sessGet s n
  if x.isOpen ∧ (why = 1 ∨ why = 3 ∨ (why = 2 ∧ x.last + obj s 0x0D020200 * 1000000000 ≤ s.clk.now)) then
    .next (raise 0 0x0011 0 n why (sessionDrop n s))
  else .next s

/-! ### GET and SET (R358, R363) -/

/-- R358: the object's row for a path that reaches it, or the status its existence check answers. -/
def objChecked (s : State) (n : Nat) : Nat × Option ObjDef :=
  if loaderHides s n true then (stNO_OBJECT, none)
  else match objLookup s.part.wings n with
  | (.noObject, _) => (stNO_OBJECT, none)
  | (.range, _) => (stRANGE, none)
  | (.yes, none) => (stNO_OBJECT, none)
  | (.yes, some d) => (stDONE, some d)

/-- R358: a GET of an object: readable, reachable, and its value. -/
def getBody (d : ObjDef) (n : Nat) (s : State) : Nat × Bytes × State :=
  checked [(decide (d.acc = .ro ∨ d.acc = .rw), stACCESS)]
    (fun s => if readFails s n then (stUNREACHABLE, [], count 0 191 s) else let r := objBytes d n s; (stDONE, r.1, r.2)) s

/-- R358, R363: the Concierge serves a GET. -/
def execGetObj (t : Nat) (via : Via) (obj : Nat) (s : State) : Host.Outcome State Fault Refusal :=
  let s := atTime t s
  if !viaOpen s via || !viaFits s obj via then .next s
  else match objChecked s obj with
  | (st, none) => .next (answer via obj st [] s)
  | (_, some d) => let r := getBody d obj s; .next (answer via obj r.1 r.2.1 r.2.2)

/-- R358: a SET's checks in order, then its own rule: access, level, width, range, and for LEGAL the authorisation, which
a plain SET does not carry. -/
def setServe (via : Via) (d : ObjDef) (n : Nat) (val : Bytes) (s : State) : Nat × Bytes × State :=
  checked [(decide (d.acc = .rw ∨ d.acc = .wo), stACCESS),
    (decide (d.lev ≠ .factory) && (decide (d.lev ≠ .engineer) || viaLevel s via == 1), stLEVEL),
    (widthOk d val, stTYPE), (objInRange d val && setRange n val s, stRANGE), (decide (d.lev ≠ .legal), stAUTH)]
    (setBody d n val) s

/-- R358, R363: the Concierge serves a SET. -/
def execSetObj (t : Nat) (via : Via) (obj : Nat) (val : Bytes) (s : State) : Host.Outcome State Fault Refusal :=
  let s := atTime t s
  if !viaOpen s via || !viaFits s obj via then .next s
  else if loaderHides s obj false then .next (answer via obj stNO_OBJECT [] s)
  else match objChecked s obj with
  | (st, none) => .next (answer via obj st [] s)
  | (_, some d) => let r := setServe via d obj val s; .next (answer via obj r.1 r.2.1 r.2.2)

/-- R363: an access made to serve a message completes with a bus error: a GET returns no value; a SET's commit and the
fields already written stand; the message is answered UNREACHABLE. -/
def execUnreachable (t : Nat) (via : Via) (obj : Nat) (s : State) : Host.Outcome State Fault Refusal :=
  let s := atTime t s
  if !viaOpen s via then .next s
  else match (takeMsg via s.emp.queue).1, (objLookup s.part.wings obj).2 with
  | some m, some d =>
    if m.obj = obj ∧ m.kind = 2 then .next (answer via obj stUNREACHABLE [] (setServe via d obj m.body s).2.2)
    else .next (answer via obj stUNREACHABLE [] s)
  | _, _ => .next (answer via obj stUNREACHABLE [] s)

/-! ### Subscriptions (R359, R360) -/

/-- A value as a subscription remembers it. -/
def seenValue (d : ObjDef) (n : Nat) (s : State) : Nat := beNat (1 :: (objBytes d n s).1)

/-- The newest sequence of every wing, as an event subscription remembers them. (DEDUCED, log 42) -/
def seenEvents (s : State) : Nat := (List.range s.part.wings).foldl (fun v w => v + (logGet s w).last * 2 ^ (32 * w)) 0

/-- An RO object that hardware changes continuously (R359). -/
def changing (d : ObjDef) : Bool := d.acc == .ro && d.pers == .none

/-- R359: what a SUBSCRIBE body is refused for. (DEDUCED, log 40) -/
def subChecks (n obj : Nat) (d : Option ObjDef) (b : Bytes) (s : State) : List (Bool × Nat) :=
  let ty := beAt b 0 1
  let least := beAt b 8 4
  [(b.length == 12, stTYPE), (decide ((ty = 1 ∨ ty = 2) ∧ least ≤ 3600000 ∧ beAt b 1 1 = 0 ∧ beAt b 6 2 = 0), stRANGE),
   (ty == 2 || d.isSome, if (objChecked s obj).1 = stDONE then stNO_OBJECT else (objChecked s obj).1),
   (ty == 2 || (d.map (fun d => d.acc == .ro || d.acc == .rw)).getD false, stACCESS),
   (ty == 2 || !((d.map changing).getD false && decide (least < 100)), stRANGE),
   (decide ((sessGet s n).subs.length < 64), stSUB_LIMIT)]

/-- R359: the subscription is made; the reply is its ID. -/
def subMake (n obj : Nat) (d : Option ObjDef) (b : Bytes) (s : State) : Nat × Bytes × State :=
  let x := sessGet s n
  let ev := beAt b 0 1 == 2
  let sub : Sub := { id := x.nextSub % 65536, event := ev, obj := if ev then 0 else obj, code := beAt b 2 2, mask := beAt b 4 2
                     least := beAt b 8 4, last := none
                     seen := if ev then seenEvents s else (d.map (fun d => seenValue d obj s)).getD 0 }
  (stDONE, toBe 2 sub.id, sessSet n { x with subs := x.subs ++ [sub], nextSub := x.nextSub + 1 } s)

/-- R359: a SUBSCRIBE is served. -/
def execSubscribe (t n obj : Nat) (body : Bytes) (s : State) : Host.Outcome State Fault Refusal :=
  let s := atTime t s
  if viaOpen s (.session n) then
    let d := (objChecked s obj).2
    let r := checked (subChecks n obj d body s) (subMake n obj d body) s
    .next (answer (.session n) obj r.1 r.2.1 r.2.2)
  else .next s

/-- R359: an UNSUBSCRIBE is served; an ID that names none is out of range. -/
def execUnsubscribe (t n sub : Nat) (s : State) : Host.Outcome State Fault Refusal :=
  let s := atTime t s
  let x := sessGet s n
  if viaOpen s (.session n) then
    if x.subs.any (fun y => y.id == sub) then
      .next (answer (.session n) 0 stDONE [] (sessSet n { x with subs := x.subs.filter (fun y => y.id != sub) } s))
    else .next (answer (.session n) 0 stRANGE [] s)
  else .next s

/-- R360: a NOTIFY lost: counted; event 0x0014 at most once per minute per session. -/
def notifyLost (n k : Nat) (s : State) : State :=
  if k = 0 then s
  else
    let x := sessGet s n
    raiseRate (8000 + n) 60000000000 0 0x0014 0 n k (sessSet n { x with lost := x.lost + k } s)

/-- R360: NOTIFYs join a session's queue of 256; the oldest unsent are dropped and counted lost. -/
def notifyQueue (n : Nat) (l : List Notif) (s : State) : State :=
  let x := sessGet s n
  let q := x.queue ++ l
  notifyLost n (q.length - 256) (sessSet n { x with queue := q.drop (q.length - 256) } s)

/-- Body of a NOTIFY (R360): subscription, losses before it, PTIME, the value or the record. -/
def notifyBody (sub lost : Nat) (val : Bytes) (s : State) : Bytes :=
  toBe 2 sub ++ [0, 0] ++ toBe 4 lost ++ toBe 8 (ptimeNs s) ++ val

/-- The value a waiting NOTIFY carries at its sending: an object's present value, or the event's record. -/
def notifyValue (x : Session) (y : Notif) (s : State) : Bytes :=
  match x.subs.find? (fun z => z.id == y.sub) with
  | some z => if z.event then y.body else
      (match (objLookup s.part.wings z.obj).2 with
       | some d => (objBytes d z.obj s).1
       | none => [])
  | none => y.body

/-- R360: the first waiting NOTIFY is sent, while fewer than 16 are unacknowledged. (DESIGN CHOICE, log 41) -/
def notifySend (n : Nat) (s : State) : State :=
  let x := sessGet s n
  match x.queue with
  | [] => s
  | y :: ys =>
    if 16 ≤ x.unacked.length then s
    else
      let z := { y with seq := x.seq + 1, lost := x.lost, sentAt := s.clk.now, tries := 0
                        body := notifyBody y.sub x.lost (notifyValue x y s) s }
      sessSet n { x with queue := ys, unacked := x.unacked ++ [z], seq := x.seq + 1 } s

/-- A subscription's NOTIFYs due now, and the subscription after them. -/
def subDue (s : State) (y : Sub) : List Notif × Sub :=
  let blank : Notif := { seq := 0, sub := y.id, lost := 0, body := [], sentAt := 0, tries := 0 }
  if y.event then
    let rs := (List.range s.part.wings).flatMap (fun w => ((logGet s w).recs.filter (fun r =>
      laterW 32 r.seq (y.seen / 2 ^ (32 * w) % 2 ^ 32) && r.code &&& y.mask == y.code &&& y.mask)).reverse)
    (rs.map (fun r => { blank with body := recBytes r }), { y with seen := seenEvents s })
  else
    match (objLookup s.part.wings y.obj).2 with
    | none => ([], y)
    | some d =>
      let v := seenValue d y.obj s
      let free : Bool := match y.last with
        | none => true
        | some a => decide (a + y.least * 1000000 ≤ s.clk.now)
      if v ≠ y.seen ∧ free then ([blank], { y with seen := v, last := some s.clk.now }) else ([], y)

/-- R360: the session's due NOTIFYs are queued and sent. -/
def execNotify (t n : Nat) (s : State) : Host.Outcome State Fault Refusal :=
  let s := atTime t s
  let x := sessGet s n
  if x.isOpen then
    let l := x.subs.map (subDue s)
    let s1 := notifyQueue n (l.flatMap (·.1)) (sessSet n { x with subs := l.map (·.2) } s)
    .next ((List.range 16).foldl (fun s _ => notifySend n s) s1)
  else .next s

/-- R360: an ACK is received; a waiting NOTIFY takes its place. -/
def execAck (t n seq : Nat) (s : State) : Host.Outcome State Fault Refusal :=
  let s := atTime t s
  if (sessGet s n).isOpen then .next (notifySend n (ackApply n seq s)) else .next s

/-- R360: a NOTIFY unacknowledged for 1,000 ms is sent again, up to 3 times, and is then counted lost. -/
def execNotifyRetransmit (t n seq : Nat) (s : State) : Host.Outcome State Fault Refusal :=
  let s := atTime t s
  let x := sessGet s n
  match x.unacked.find? (fun y => y.seq == seq && decide (y.sentAt + 1000000000 ≤ s.clk.now)) with
  | none => .next s
  | some y =>
    if y.tries < 3 then
      .next (sessSet n { x with unacked := x.unacked.map (fun z => if z.seq = seq then { z with tries := z.tries + 1, sentAt := s.clk.now } else z) } s)
    else .next (notifySend n (notifyLost n 1 (sessSet n { x with unacked := x.unacked.filter (fun z => z.seq != seq) } s)))

end Sys2Proof.Machine
end

