-- ==== Sys2Proof/Machine/Pins.lean ====
section
/-! DEFINITION. The pins (R394, R395, R462): what Table 13-11 says each group shows, from the reset domains, the held groups and
the blocks that drive it. -/

namespace Sys2Proof.Machine

/-- Pin groups of a wing (Table 13-11): by Air Port or LAN where there are two; `gpio` by number and the board's reset pins on
wing 0. -/
inductive PinGroup where
  | airTxen (p : Nat)
  | airLvds (p : Nat)
  | airSpi (p : Nat)
  | uplink (l : Nat)
  | ddr
  | nandCe
  | nandWp
  | rgmii
  | txCtl
  | xspiCs
  | gpio (n : Nat)
  | rstn
  | rstoutn
  deriving DecidableEq, Repr

/-- What a pin shows: high impedance, a driven level, driven by its function, a held level, off, DRAM reset, DRAM in self-refresh. -/
inductive PinState where
  | highZ
  | low
  | high
  | driven
  | held
  | off
  | resetLow
  | selfRefresh
  deriving DecidableEq, Repr

/-- The wing is in the warm reset of its last start (Table 13-14). -/
def pinWarm (s : State) (w : Nat) : Bool := regF s (porStat w) 24 24 == 1

/-- A group that a warm reset holds: high impedance in a cold reset, held until released, then driven (R395). -/
def pinHeld (s : State) (w b : Nat) : PinState :=
  if !released s w 6 && !pinWarm s w then .highZ else if regF s (porPinhold w) b b = 1 then .held else .driven

/-- A GPIO after its release: an output of Option Words 4 and 5, or an input. -/
def pinGpio (s : State) (n : Nat) : PinState :=
  if bit (optWord s 4).toNat n then (if bit (optWord s 5).toNat n then .high else .low) else .highZ

/-- R394: what a pin group of a wing shows. (DEDUCED, log 281) -/
def pinState (s : State) (w : Nat) : PinGroup → PinState
  | .airTxen p => if released s w 6 && (portGet s (2 * w + p)).txen then .high else .low
  | .airLvds p => if released s w 6 && regF s (airCfg w p) 0 0 == 1 then .driven else .highZ
  | .airSpi _ => pinHeld s w 0
  | .uplink l => if released s w 6 && regRF s (uplCfg w l) 0 0 == 1 then .driven else .off
  | .ddr => if released s w 3 then .driven else if pinWarm s w then .selfRefresh
      else if bit s.power.trained w then .driven else .resetLow
  | .nandCe => if released s w 6 then .driven else .high
  | .nandWp => if released s w 6 && !decide (w < s.power.quiet) then .driven else .low
  | .rgmii => pinHeld s w 1
  | .txCtl => if pinHeld s w 1 = .held then .low else pinHeld s w 1
  | .xspiCs => if released s w 6 then .driven else .high
  | .gpio n => if pinHeld s w 2 = .driven then pinGpio s n else pinHeld s w 2
  | .rstn => if s.power.driven then .low else .highZ
  | .rstoutn => if s.power.driven then .low else .high

end Sys2Proof.Machine
end

