-- ==== Sys2Proof/Machine/Power.lean ====
section
/-! DEFINITION. Supplies, power-fail, resets and the release of the reset domains (chapter 13). -/

namespace Sys2Proof.Machine

/-! ### Rails (R369, R370) -/

/-- A wing's unflushed records are lost and counted, and the wing is named (R377). -/
def loseLog (w : Nat) (s : State) : State :=
  let l := logGet s w
  if l.unflushed = 0 then s
  else logSet w { l with unflushed := 0 } { s with power := { s.power with
    lost := s.power.lost + l.unflushed, lostMask := s.power.lostMask ||| 2 ^ w } }

/-- 0C.0050.00: the records lost at the last power-fail. -/
def keepLost (s : State) : State := objPut 0x0C005000 s.power.lost s

/-- R369, R478: a wing rail (0 VDD_W, 1 VDD_F, 2 VDDQ, 3 VCCQ, 4 VIO, 5 VIO33, 6 VSS_SD) trips: a cold reset of every wing;
records not flushed are lost. Supplies 7 to 9 have effects of their own. -/
def execRailTrip (t rail : Nat) (s : State) : Host.Outcome State Fault Refusal :=
  let s := atTime t s
  if rail < 7 then
    let s1 := if s.power.fail.isSome then s else { s with power := { s.power with lost := 0, lostMask := 0 } }
    let s2 := (List.range s1.part.wings).foldl (fun s w => if s.power.quiet ≤ w then loseLog w s else s) s1
    let s3 := resetPart { cause := 0, cold := true, wing := 0 } (keepLost s2)
    .next { s3 with power := { s3.power with railsOut := true } }
  else .next s

/-- R370: every wing rail is in range: the wings leave power-on reset. -/
def execWingRailsInRange (t : Nat) (s : State) : Host.Outcome State Fault Refusal :=
  let s := atTime t s
  if s.power.railsOut then .next { s with power := { s.power with railsOut := false, resetAt := s.clk.now } } else .next s

/-- R369: VANA trips: metrology off, as on VBAK. -/
def execVanaTrip (t : Nat) (s : State) : Host.Outcome State Fault Refusal :=
  let s := atTime t s
  .next (metroStop s)

/-- R369, R177: VANA is back: the converters restart, while the strongroom runs on VSR. -/
def execVanaReturn (t : Nat) (s : State) : Host.Outcome State Fault Refusal :=
  let s := atTime t s
  if s.sr.onVbak ∨ s.sr.metro then .next s else .next (metroStart s)

/-- R478: VSR below 2.9 V while VBAK is below 2.0 V: the strongroom stops; the wings see both links go down. -/
def execStrongroomPowerLost (t : Nat) (s : State) : Host.Outcome State Fault Refusal :=
  let s := atTime t s
  let down := fun k s => if srUp s k then srLinkDown k s else s
  let s1 := down 1 (down 0 s)
  .next (matDrop (metroStop { s1 with sr := { s1.sr with onVbak := true, vsr := 0, vbak := 0, vbakAt := s1.clk.now, lowAt := s1.clk.now } }))

/-! ### Power-fail (R372 to R378) -/

/-- R372: PFSENSE has been low since a cycle for the filter time: power-fail is declared at the first multiple of 64 FCLK at or
after its end. -/
def execPowerFailDeclared (t since : Nat) (s : State) : Host.Outcome State Fault Refusal :=
  let s := atTime t s
  let s1 := { s with power := { s.power with pfLow := true, pfAt := since } }
  if since + obj s 0x0C001000 * 1000 ≤ s.clk.now then .next (powerFail (atTime (nextMultiple s.clk.now 64) s1)) else .next s1

/-- R376: the grace ends: cores parked, Night Audit jobs abandoned, uplinks, receive paths and SMPCLK stopped. -/
def execGraceEnd (t : Nat) (s : State) : Host.Outcome State Fault Refusal :=
  let s := atTime t s
  match s.power.fail with
  | none => .next s
  | some d =>
    if s.power.graced ∨ s.clk.now < d + obj s 0x0C001200 * 1000 then .next s
    else
      let s1 := (List.range (2 * s.part.wings)).foldl (fun s pn =>
        idleWatchers pn (abortLanes pn 8 (fun _ => true) (portSet pn { portGet s pn with smpclk := false, smpOff := s.clk.now } s))) (auditAbandon s)
      .next { s1 with mode := { s1.mode with parked := 2 ^ s1.part.wings - 1 }, power := { s1.power with graced := true } }

/-- What follows the last wing's quiet: a reset held meanwhile is applied in place of the recovery (R396), or a thermal
trip's cold reset (Table 13-6). -/
def quietDone (s : State) : State :=
  if s.power.quiet < s.part.wings then s
  else
    let s1 := keepLost s
    match s1.power.held with
    | some r => resetPart r s1
    | none => if s1.power.thermal then resetPart { cause := 4, cold := true, wing := 0 } s1 else s1

/-- R376: a wing goes quiet: DRAM in self-refresh, D3 to D6 in reset. -/
def wingQuiet (w : Nat) (s : State) : State :=
  quietDone (regPutF (porStat w) 6 3 0 { s with power := { s.power with quiet := w + 1, flush := none } })

/-- R377: the turn of wing `w`: nothing to flush before its D4; refused once a wing's check has failed, with no link, or for
want of energy; else the flush runs. (DEDUCED, log 189) -/
def failFlushStart (w : Nat) (s : State) : State :=
  if !released s w 4 then wingQuiet w s
  else if s.power.noFlush ∨ s.sr.carrying.isNone then wingQuiet w (loseLog w s)
  else
    let run := fun (s : State) => { s with power := { s.power with flush := some (w, s.clk.now + flushTime (logGet s w).unflushed) } }
    if obj s 0x0C003500 * flushTime (logGet s w).unflushed ≤ usableEnergy s w * 1000000 then run s
    else if energyWaived s w then run (raise w 0x0C04 w 3 (usableEnergy s w) s)
    else wingQuiet w (loseLog w { s with power := { s.power with noFlush := true } })

/-- R377: a wing's power-fail flush starts, in its turn and once every operation begun has completed, or ends. -/
def execPowerFailFlush (t w : Nat) (s : State) : Host.Outcome State Fault Refusal :=
  let s := atTime t s
  match s.power.flush with
  | some (v, e) =>
    if v = w ∧ e ≤ s.clk.now then
      .next (wingQuiet w (if s.sr.carrying.isSome then flushWrite w (logGet s w).unflushed s else loseLog w s))
    else .next s
  | none =>
    if s.power.graced ∧ w = s.power.quiet ∧ w < s.part.wings ∧ opsBegun s = 0 then .next (failFlushStart w s) else .next s

/-- R378: the part is quiet and PFSENSE has been high since a cycle for 0C.0011.00: a warm start with cause 7. A monitor's trip
meanwhile has reset the wings already (R478). -/
def execPowerFailRecovery (t since : Nat) (s : State) : Host.Outcome State Fault Refusal :=
  let s := atTime t s
  let s1 := { s with power := { s.power with pfLow := false, pfAt := since } }
  if s.power.fail.isSome ∧ s.part.wings ≤ s.power.quiet ∧ since + obj s 0x0C001100 * 1000000 ≤ s.clk.now then
    .next (resetPart { cause := 7, cold := false, wing := 0 } s1)
  else .next s1

/-- R373: usable energy in uJ for HOLDSENSE in mV. (DEDUCED, log 190) -/
def energyOfBank (s : State) (mv : Nat) : Nat :=
  let v := mv * obj s 0x0C003100
  let f := obj s 0x0C003200 * 4294967296
  if v ≤ f then 0
  else obj s 0x0C003300 * obj s 0x0C003000 * (v * v - f * f) / (4294967296 * 2 * 2 ^ 64 * 1000000)

/-- R373: the strongroom publishes U to every wing it reaches, while a link carries; waiting flushes are checked again (Table 13-2).
(DEDUCED, log 191) -/
def execHoldupPublish (t mv : Nat) (s : State) : Host.Outcome State Fault Refusal :=
  let s := atTime t s
  match srReach s with
  | some k =>
    let u := energyOfBank s mv
    .next (flushStart (eachWing (fun w s => if !pathUp s (k % 2) w then s else
      regPutF (porHoldup w) 55 0 u { s with power := { s.power with heldAt := tabPut 0 w (s.clk.now + 1) s.power.heldAt } }) s))
  | none => .next s

/-! ### Resets asked for (R380 to R386) -/

/-- R397: POR_CTL.WARM. -/
def execWarm (t w : Nat) (s : State) : Host.Outcome State Fault Refusal :=
  let s := atTime t s
  if w < s.part.wings then .next (porCtlWrite w 1 s) else .next s

/-- R397: POR_CTL.COLD. -/
def execCold (t w : Nat) (s : State) : Host.Outcome State Fault Refusal :=
  let s := atTime t s
  if w < s.part.wings then .next (porCtlWrite w 2 s) else .next s

/-- R380: 0C.0100.00: 1 warm, 2 cold; the reset follows the answer. -/
def execResetThePart (t : Nat) (via : Via) (kind : Nat) (s : State) : Host.Outcome State Fault Refusal :=
  let s := atTime t s
  let ok := decide (kind = 1 ∨ kind = 2)
  let s1 := serve via 0x0C010000 (fun s => (if ok then stDONE else stRANGE, [], s)) s
  if ok && viaOpen s via && viaFits s 0x0C010000 via && viaLevel s via == 1 then
    .next (resetAsk { cause := 2, cold := kind == 2, wing := 0 } s1)
  else .next s1

/-- R380, R384: RSTn has been held low by the board for 1 us, and will be until a cycle: a warm reset, or a cold one if RSTNKIND
is 1. -/
def execRstnLow (t release : Nat) (s : State) : Host.Outcome State Fault Refusal :=
  let s := atTime t s
  .next (resetAsk { cause := 1, cold := regF s (porOpt 0 0) 24 24 == 1, wing := 0 }
    { s with power := { s.power with rstn := max s.power.rstn release } })

/-- R380: a Porter watchdog expires: a warm reset with cause 3. WDOG 0 is off; power-fail stops it (R376). -/
def execPorterWatchdog (t w : Nat) (s : State) : Host.Outcome State Fault Refusal :=
  let s := atTime t s
  if w < s.part.wings ∧ regF s (porOpt w 1) 15 0 ≠ 0 ∧ s.power.fail.isNone then
    .next (resetAsk { cause := 3, cold := false, wing := w } s)
  else .next s

/-- R380: the junction passes TRIP: the power-fail sequence, then a cold reset held until below RECOVER. -/
def execThermalTrip (t : Nat) (s : State) : Host.Outcome State Fault Refusal :=
  let s := atTime t s
  .next (powerFail { s with power := { s.power with thermal := true } })

/-- Table 13-6: the junction falls below RECOVER: the held cold reset is released. -/
def execJunctionBelowRecover (t : Nat) (s : State) : Host.Outcome State Fault Refusal :=
  let s := atTime t s
  if s.power.thermal then
    .next { s with power := { s.power with
      thermal := false, resetAt := s.clk.now
      held := if s.power.fail.isSome then some { cause := 4, cold := true, wing := 0 } else s.power.held } }
  else .next s

/-- R381: 1,000 REFCLK after the last operation begun completes, or after the request: the domains are reset. -/
def execQuiesceEnd (t : Nat) (s : State) : Host.Outcome State Fault Refusal :=
  let s := atTime t s
  match s.power.quiesce with
  | some (r, at_) => if opsBegun s = 0 ∧ at_ + 10000 ≤ s.clk.now then .next (resetPart r s) else .next s
  | none => .next s

/-- R478: a PLL loses lock in a power-fail: a flush of the wing ends there, and its remaining records are lost. -/
def failLockLost (w : Nat) (s : State) : State :=
  match s.power.flush with
  | some (v, _) => if v = w then wingQuiet w (loseLog w (failFlushHalt s)) else if s.power.quiet ≤ w then loseLog w s else s
  | none => if s.power.quiet ≤ w then loseLog w s else s

/-- R386: a wing's PLL (0 system, 1 DDR, 2 fabric, 3 core) loses lock: after its domain's release the wing restarts from
D1; event 0x0C20. (DEDUCED, log 186) -/
def execPllLockLost (t w pll : Nat) (s : State) : Host.Outcome State Fault Refusal :=
  let s := atTime t s
  if w < s.part.wings ∧ pll < 4 then
    let was := regF s (porStat w) (16 + pll) (16 + pll)
    let s1 := regPutF (porStat w) (16 + pll) (16 + pll) 0
      { s with power := { s.power with lossAt := tabPut 0 (w * 4 + pll) s.clk.now s.power.lossAt } }
    if was = 1 ∧ s.power.fail.isNone then
      .next (porCause { cause := 8, cold := false, wing := w } w (restartAlone w (raise w 0x0C20 w w pll s1)))
    else .next (if s.power.fail.isSome then failLockLost w s1 else s1)
  else .next s

/-! ### Start (R383, R385, R391, R393) -/

/-- GAP of Option Word 0 in FCLK. -/
def gapTime (s : State) (w : Nat) : Nat :=
  let g := regF s (porOpt w 0) 12 0
  (if 64 ≤ g ∧ g ≤ 4096 then g else 256) * 10

/-- When a domain of a wing was released. -/
def relAt (s : State) (w k : Nat) : Nat := tabGet 0 s.power.relAt (w * 8 + k) - 1

/-- R391: a wing's DRAM scrub has ended: the whole fitted DRAM at 32 bytes per FCLK from the end of its training. -/
def scrubbed (s : State) (w : Nat) : Bool :=
  bit s.power.untrained w ||
    (bit s.power.trained w && decide (tabGet 0 s.power.trainAt w + ceilDiv (dramSize s w) 32 ≤ s.clk.now + 1))

/-- R383: what Table 13-9 puts before a domain: DRAM training before D3 and the scrub before D4 in a cold start, the Option load
before D4, the image before D5. -/
def stepsDone (s : State) (w k : Nat) : Bool :=
  let warm := regF s (porStat w) 24 24 == 1
  bit s.power.alone w ||
  ((k != 3 || warm || bit s.power.trained w) && (k != 4 || (s.power.optDone && (warm || scrubbed s w))) &&
    (k != 5 || (s.power.image.isSome && decide (s.upd.imageAt ≤ s.clk.now))))

/-- The PLL whose lock a domain waits for (Table 13-7). -/
def domainPll (k : Nat) : Option Nat :=
  if k = 1 then some 0 else if k = 2 then some 1 else if k = 3 ∨ k = 4 then some 2 else if k = 5 then some 3 else none

/-- R383: a domain's PLL, which has shown lock since a cycle, has done so for 4,096 REFCLK without a break. -/
def lockHeld (s : State) (w k locked : Nat) : Bool :=
  match domainPll k with
  | none => true
  | some p => decide (tabGet 0 s.power.lossAt (w * 4 + p) ≤ locked ∧ locked + 40960 ≤ s.clk.now)

/-- R383, R384: the domain may be released. (DEDUCED, log 274) -/
def releaseReady (s : State) (w k locked : Nat) : Bool :=
  decide (w < s.part.wings ∧ k < 7 ∧ s.power.rstn ≤ s.clk.now) && !released s w k && !s.power.railsOut && !s.power.thermal &&
  s.power.fail.isNone && !(s.upd.shut && decide ((if w = 0 then 4 else 3) < k)) && (k == 0 || released s w (k - 1)) &&
  (decide (k ≤ 1) || decide (relAt s w (k - 1) + gapTime s w ≤ s.clk.now)) && lockHeld s w k locked && stepsDone s w k

/-- R429: after a cold start a wing's sequence resumes at the newest held in MRAM plus 4,097; its first record says so.
(DEDUCED, log 182) -/
def logResume (w : Nat) (s : State) : State :=
  match (mramLog s w).head? with
  | some r =>
    let n := r.seq
    raise w 0x0E02 w (seqNext n) 4096 (logSet w { logDefault with last := seqAdd n 4096, flushed := n } s)
  | none => s

/-- R393, R348, R381: D4 of a wing is released: replicas loaded, kept fields written, the staged records not confirmed offered
again, air ticks from 0. -/
def enginesStart (w : Nat) (s : State) : State :=
  let first := !bit s.power.alone w && !(List.range s.part.wings).any (fun v => v != w && released s v 4)
  let warm := regF s (porStat w) 24 24 == 1
  let s1 := if first then { s with clk := { s.clk with ptime := s.clk.ltime, rate := 0, q := 0, qLimit := 0, pend := [] } } else s
  let s2 := if first ∧ !warm then auditMod (fun a => { a with cold := ptimeNs s1 }) s1 else s1
  let s3 := modReplica w (fun r => { r with epoch := s2.mat.epoch }) { s2 with
    clk := { s2.clk with tick0 := tabPut 0 w s2.clk.now s2.clk.tick0 }
    prepay := { s2.prepay with charges := tabDrop (fun k => k == w) s2.prepay.charges }
    audit := { s2.audit with taken := tabDrop (fun k => k == w) s2.audit.taken, lastB := tabDrop (fun k => k == w) s2.audit.lastB } }
  let s4 := if w = 0 ∧ !bit s.power.alone 0 ∧ (copyPick s).isNone then raise 0 0x0D42 0 0 0 s3 else s3
  if s.upd.shut then s4 else restoreFields w s4

/-- R391: D6 is released on every wing: the start is complete, counted and reported, with the records lost before it.
(DEDUCED, log 187) -/
def startComplete (s : State) : State :=
  if s.power.started ∨ !(List.range s.part.wings).all (fun w => released s w 6) then s
  else
    let warm := regF s (porStat 0) 24 24 == 1
    let s1 := raise 0 0x0C10 0 (if warm then 2 else 1) (regF s (porStat 0) 31 28)
      (objPut 0x0C000300 (obj s 0x0C000300 + 1) { s with
        power := { s.power with started := true }
        upd := { s.upd with trial := if ptrConfirmed (ptr s) then none else some s.clk.now } })
    if s.power.lostMask = 0 then s1
    else raise 0 0x0C03 0 s.power.lostMask s.power.lost { s1 with power := { s1.power with lostMask := 0 } }

/-- What the release of a domain does. (DEDUCED, log 188) -/
def domainStart (w k : Nat) (s : State) : State :=
  let alone := bit s.power.alone w
  if k = 1 then regPutF (porStat w) 16 16 1 s
  else if k = 2 then
    let s1 := regPutF (porStat w) 17 17 1 s
    if regF s (porStat w) 24 24 = 1 ∨ alone then s1 else logResume w s1
  else if k = 3 then regPutF (porStat w) 18 18 1 s
  else if k = 4 then enginesStart w s
  else if k = 5 then
    let s1 := regPutF (porStat w) 19 19 1 s
    if w = 0 ∧ !alone then
      (List.range s1.part.wings).foldl (fun s v => (List.range 4).foldl (fun s slot =>
        if regF s (mbxCtl v) slot slot = 1 then mailboxGo v slot s else s) s) (applyMode (obj s1 0x01000100) s1)
    else s1
  else if k = 6 then
    let s1 := if regF s (porOpt w 0) 26 26 = 1 then pinsRelease w 7 2 s else s
    startComplete { s1 with power := { s1.power with alone := if alone then s1.power.alone - 2 ^ w else s1.power.alone } }
  else s

/-- R383: a reset domain of a wing is released; `locked`: the cycle since which its PLL shows lock.
(DEDUCED, log 176) -/
def execDomainRelease (t w k locked : Nat) (s : State) : Host.Outcome State Fault Refusal :=
  let s := atTime t s
  if releaseReady s w k locked then
    .next (domainStart w k (regPutF (porStat w) k k 1
      { s with power := { s.power with relAt := tabPut 0 (w * 8 + k) (s.clk.now + 1) s.power.relAt } }))
  else .next s

/-- R385: RSTOUTn and RSTn are let go at the later of D6's release and STRETCH ms after the reset's source ended. -/
def execStretchEnd (t : Nat) (s : State) : Host.Outcome State Fault Refusal :=
  let s := atTime t s
  let ms := max 1 (regF s (porOpt 0 0) 23 16)
  if s.power.driven ∧ (List.range s.part.wings).all (fun w => released s w 6) ∧ max s.power.resetAt s.power.rstn + ms * 1000000 ≤ s.clk.now then
    .next { s with power := { s.power with driven := false } }
  else .next s

/-- The rate in MT/s that DDRRATE selects. -/
def ddrRate (s : State) (w : Nat) : Nat := 4800 - 400 * min 2 (regF s (porOpt w 2) 1 0)

/-- R449: L_D of a device whose tRCD and tAA are given in ps. -/
def ddrLd (s : State) (w trcd taa : Nat) : Nat := 96 + ceilDiv trcd 1000 + ceilDiv taa 1000 + ceilDiv 16000 (ddrRate s w)

/-- R450: W of a device whose tRFCsb is given in ps. -/
def ddrWin (trfc : Nat) : Nat := 64 * ceilDiv (trfc + 8000) 64000

/-- R391, R449, R452: a wing's DRAM training ends, on a device of the given timings in ps: L_D, W and tRC set, or, where it fails or
the device lies outside the limits, no backed DRAM and event 0x0C23. -/
def execDramTrainingDone (t w : Nat) (ok : Bool) (trcd taa trfc trc : Nat) (s : State) : Host.Outcome State Fault Refusal :=
  let s := atTime t s
  if w < s.part.wings ∧ released s w 2 ∧ !bit s.power.trained w ∧ regF s (porStat w) 24 24 = 0 then
    let s1 := { s with power := { s.power with
      trained := s.power.trained ||| 2 ^ w, trainAt := tabPut 0 w (s.clk.now + 1) s.power.trainAt } }
    if ok ∧ ddrWin trfc ≤ 192 ∧ ddrLd s w trcd taa ≤ 208 then
      .next (regPutF (ddrTiming w) 23 16 (ddrWin trfc) (regPutF (ddrTiming w) 8 0 (ddrLd s w trcd taa)
        (ddrSet w { ddrGet s1 w with trc := ceilDiv trc 1000 } s1)))
    else .next (raise w 0x0C23 w w (regF s (porOpt w 2) 11 8)
      { s1 with power := { s1.power with untrained := s1.power.untrained ||| 2 ^ w } })
  else .next s

/-! ### Option Words (R388 to R390) -/

/-- Fields of Table 13-8: word, high bit, low bit. -/
def optFields : List (Nat × Nat × Nat) :=
  [(0, 12, 0), (0, 23, 16), (0, 24, 24), (0, 25, 25), (0, 26, 26), (1, 15, 0), (1, 23, 16), (1, 31, 24), (2, 1, 0),
   (2, 11, 8), (3, 7, 0), (3, 8, 8), (4, 23, 0), (5, 23, 0)]

/-- A field's value is in its range; RECOVER's bound is TRIP - 10. -/
def optFieldOk (w lo v trip : Nat) : Bool :=
  if w = 0 ∧ lo = 0 then decide (64 ≤ v ∧ v ≤ 4096)
  else if w = 0 ∧ lo = 16 then decide (1 ≤ v)
  else if w = 1 ∧ lo = 0 then decide (v = 0 ∨ (10 ≤ v ∧ v ≤ 60000))
  else if w = 1 ∧ lo = 16 then decide (100 ≤ v ∧ v ≤ 125)
  else if w = 1 ∧ lo = 24 then decide (80 ≤ v ∧ v ≤ trip - 10)
  else if w = 2 ∧ lo = 0 then decide (v ≤ 2)
  else if w = 2 ∧ lo = 8 then decide (1 ≤ v)
  else if w = 3 ∧ lo = 0 then decide (25 ≤ v ∧ v ≤ 200)
  else true

/-- Mask of bits `hi` to `lo`. -/
def maskOf (hi lo : Nat) : Nat := 2 ^ (hi + 1) - 2 ^ lo

/-- R389: an Option Word with every field out of range and every reserved bit at its fused default, and the masks of
those. -/
def optSane (i v : Nat) : Nat × List Nat :=
  let fs := optFields.filter (fun f => f.1 == i)
  let dflt := (optFused i).toNat
  let trip := if i = 1 then (let x := bits v 23 16; if 100 ≤ x ∧ x ≤ 125 then x else 120) else 120
  let bad := fs.filter (fun f => !optFieldOk i f.2.2 (bits v f.2.1 f.2.2) trip)
  let known := (fs.map (fun f => maskOf f.2.1 f.2.2)).sum
  let resv := v &&& ((2 ^ 64 - 1) - known)
  let v1 := bad.foldl (fun v f => setBits v f.2.1 f.2.2 (bits dflt f.2.1 f.2.2)) (v - resv)
  (v1, bad.map (fun f => maskOf f.2.1 f.2.2) ++ (if resv = 0 then [] else [resv]))

/-- The words written to every wing's shadows in one commit (R389). -/
def shadowsWrite (words : List Nat) (s : State) : State :=
  eachWing (fun w s => (List.range 16).foldl (fun s i => regSet (porOpt w i) (BitVec.ofNat 64 (words.getD i 0)) s) s) s

/-- R389: the copy taken, field by field, or the fused defaults. (DEDUCED, log 192) -/
def optApply (s : State) : State :=
  match optPick s with
  | some c =>
    let copy := s.power.optCopies.getD c []
    let sane := (List.range 16).map (fun i => optSane i (copy.getD i 0).toNat)
    let s1 := objPut 0x0C021000 (optGen copy) (objPut 0x0C021100 c (shadowsWrite (sane.map (·.1)) s))
    let s2 := sane.zipIdx.foldl (fun s e => e.1.2.foldl (fun s m => raise 0 0x0C13 0 e.2 m s) s) s1
    raise 0 0x0C11 0 c (optGen copy) s2
  | none =>
    raise 0 0x0C12 0 1 0 (objPut 0x0C021000 0 (objPut 0x0C021100 2 (shadowsWrite ((List.range 16).map (fun i => (optFused i).toNat)) s)))

/-- R389: both links have trained, or one has and 1 ms has passed since D3. -/
def optReady (s : State) : Bool :=
  released s 0 3 && !s.power.optDone && srOpen s &&
  ((srUp s 0 && srUp s 1) || decide (relAt s 0 3 + 1000000 ≤ s.clk.now))

/-- R166: an Option Word copy in which the Keeper finds an uncorrectable word is not good: it is held as no words. -/
def optLost (bad : List Nat) (s : State) : State :=
  let s1 := badAmong 0x50000 0x50200 bad s
  let keep := fun (i : Nat) => if badIn (0x50000 + 256 * i) (0x50100 + 256 * i) bad then [] else s1.power.optCopies.getD i []
  if badIn 0x50000 0x50200 bad then { s1 with power := { s1.power with optCopies := [keep 0, keep 1] } } else s1

/-- R389: wing 0's Porter loads the Option Words, by request kind 0x0C02. `bad`: the words found uncorrectable (R166). -/
def execOptionLoad (t : Nat) (bad : List Nat) (s : State) : Host.Outcome State Fault Refusal :=
  let s := atTime t s
  if optReady s ∧ keeperFree 0 0x0C02 s then
    let copies := (List.range 2).flatMap (fun i => (s.power.optCopies.getD i []).flatMap (fun w => toLe 8 w.toNat))
    let s1 := optApply (reqServed 0 0x0C02 0 copies (optLost bad s))
    .next { s1 with power := { s1.power with optDone := true, optAt := some s1.clk.now } }
  else .next s

/-- R389: no link has trained 100 ms after D3: fused defaults, event 0x0C12 reason 2; D4 waits for a link. -/
def execOptionLoadNoLink (t : Nat) (s : State) : Host.Outcome State Fault Refusal :=
  let s := atTime t s
  if released s 0 3 ∧ !s.power.optDone ∧ s.power.optAt.isNone ∧ s.sr.carrying.isNone ∧ relAt s 0 3 + 100000000 ≤ s.clk.now then
    let s1 := raise 0 0x0C12 0 2 0 (objPut 0x0C021000 0 (objPut 0x0C021100 2
      (shadowsWrite ((List.range 16).map (fun i => (optFused i).toNat)) s)))
    .next { s1 with power := { s1.power with optAt := some s1.clk.now } }
  else .next s

/-- R390: a SET of 0C.02ww.00. -/
def execOptionWordSet (t : Nat) (via : Via) (ww : Nat) (v : Word) (s : State) : Host.Outcome State Fault Refusal :=
  let s := atTime t s
  .next (serve via (0x0C020000 + ww % 16 * 256) (optSet (ww % 16) v) s)

/-- R395: 0C.0101.00, or a write of POR_PINHOLD: held pin groups are released. -/
def execReleaseHeldPinGroups (t : Nat) (via : Option Via) (w mask : Nat) (s : State) : Host.Outcome State Fault Refusal :=
  let s := atTime t s
  match via with
  | some v => .next (serve v 0x0C010100 (fun s =>
      if mask < 8 then
        let r := wingsReached porPinhold (fun w s => pinsRelease w mask 1 s) s
        (r.1, [], r.2)
      else (stRANGE, [], s)) s)
  | none => if w < s.part.wings then .next (pinsRelease w (mask % 8) 1 s) else .next s

/-- The bytes of the image in DRAM: the Ledger runtime of the active slot, from its manifest. (DEDUCED, log 275) -/
def imageBytes (s : State) : Nat := manLen (slice (slotOctets s (ptrActive (ptr s))) 512 256) 3

/-- R392: wing 0's hash unit has hashed the image in DRAM, 2,000 + b / 16 FCLK after the release of D2 in a warm start. -/
def execImageHashDone (t : Nat) (hash : Nat) (s : State) : Host.Outcome State Fault Refusal :=
  let s := atTime t s
  if released s 0 2 ∧ regF s (porStat 0) 24 24 = 1 ∧ s.power.image.isNone ∧
      relAt s 0 2 + 2000 + ceilDiv (imageBytes s) 16 ≤ s.clk.now then
    .next { s with power := { s.power with hash := some (toBe 48 hash) } }
  else .next s

end Sys2Proof.Machine
end

