-- ==== Sys2Proof/Machine/Update.lean ====
section
/-! DEFINITION. Firmware update and keys (chapter 14): download, verification, the slot write, activation, trials,
confirmation, Shuttered, and the Keeper's requests for them; and the warm token (R392). -/

namespace Sys2Proof.Machine

/-! ### The way in (R401, R414, R422) -/

/-- R401: a path by which bundles may enter: a session on the Service Port (interface 8). -/
def servicePath (s : State) : Via → Bool
  | .session n => (sessGet s n).iface == 8
  | .mailbox _ _ | .slot _ => false

/-- R357, Table 14-10: a message on the update objects waits while a chunk write before it is served. -/
def updWaits (s : State) : Bool := s.upd.chunks.any (fun _ => true)

/-- An update EXEC: ACCESS off the Service Port, BUSY while a slot write runs (R414), UNREACHABLE with no link to the
Keeper that commits or checks for it (`keeper`). (DEDUCED, log 201) -/
def updServe (via : Via) (n : Nat) (keeper : Bool) (f : State → Nat × Bytes × State) (s : State) : State :=
  if !viaOpen s via || !viaFits s n via || updWaits s then s
  else if !servicePath s via then answer via n stACCESS [] s
  else serve via n (checked [(s.upd.writing.isNone, stBUSY), (!keeper || srOpen s, stUNREACHABLE)] f) s

/-- R169: what commits is refused with NOPOWER, and changes nothing, where the Keeper makes no commit. -/
def powered (f : State → Nat × Bytes × State) : State → Nat × Bytes × State := fun s => checked [(!noPower s, stNOPOWER)] f s

/-! ### Root keys (R403 to R406) -/

/-- A fused root-key hash matches some key: it is not all zero (R404). LMS indices follow the four of ECDSA. -/
def keyFused (s : State) (k : Nat) : Bool := (oct s (0x0D016000 + k)).any (· != 0)

/-- The highest fused index of a kind (0 ECDSA, 1 LMS). -/
def keyHighest (s : State) (kind : Nat) : Option Nat := ((List.range 4).filter (fun i => keyFused s (4 * kind + i))).getLast?

/-- The record is not intact: the fall-back applies (R408). -/
def fallBack (s : State) : Bool := (copyPick s).isNone

/-- An index may sign: fused, and not revoked, or in the fall-back the highest of its kind. -/
def keyMaySign (s : State) (kind i : Nat) : Bool :=
  decide (i < 4) && keyFused s (4 * kind + i) &&
  (if fallBack s then keyHighest s kind == some i else !bit (maskNow s) (4 * kind + i))

/-- R403: a public key's SHA-384 is the fused hash of its kind at its index. -/
def keyMatches (s : State) (kind i : Nat) (key : Bytes) : Bool :=
  keyMaySign s kind i && Config.sha384 key == oct s (0x0D016000 + (4 * kind + i))

/-- R406: a bundle's mask names no index of its own or above, and leaves each kind a fused, unrevoked key. -/
def maskOk (s : State) (h : Bytes) : Bool :=
  let m := bunMask h
  let left := fun kind => (List.range 4).any (fun i => keyFused s (4 * kind + i) && !bit (m ||| maskNow s) (4 * kind + i))
  decide (bits m 3 0 < 2 ^ bunEcdsa h) && decide (bits m 7 4 < 2 ^ bunLms h) && left 0 && left 1

/-! ### The checks of R412 -/

/-- Step 2: L disagrees with the lengths. -/
def lengthsAgree (h : Bytes) : Bool := decide (bunLen h = 2476 + bunPayload h)

/-- Step 2: every other limit of Table 14-1. (DEDUCED, log 199) -/
def headerLimits (s : State) (h : Bytes) : Bool :=
  decide (h.length = 512) && decide (beAt h 0 4 = 0x58414A52) && decide (beAt h 4 2 = 1) && decide (beAt h 6 2 = 0) &&
  decide (beAt h 12 1 < 2) && decide (bunEcdsa h < 4) && decide (bunLms h < 4) &&
  (bunBound h || (slice h 16 16).all (· == 0)) && decide (bunLen h ≤ slotSize s ∧ bunLen h ≤ 536870912) &&
  decide (bunPayload h % 4096 = 0) && decide (beAt h 160 4 = 7 ∧ beAt h 164 4 = 4) && (slice h 216 296).all (· == 0)

/-- R408, R422: the bundle must be bound to this part, and is or is not; the loader takes only bound bundles. -/
def unitOk (s : State) (h : Bytes) : Bool :=
  if bunBound h then slice h 16 16 == padTo 16 (oct s 0x00000300) else !(fallBack s || s.upd.shut)

/-- Steps 2 to 4 of a header, each with its number (R410). -/
def headChecks (s : State) (h : Bytes) : List (Bool × Nat × Nat) :=
  [(lengthsAgree h, 2, stLENGTH), (headerLimits s h, 2, stRANGE), (decide (beAt h 8 4 = obj s 0x00000400), 3, stWRONG_UNIT),
   (unitOk s h, 4, stWRONG_UNIT)]

/-- Checks 6 to 9, the Keeper's (R412): over the signed octets and the two signatures. -/
def keeperChecks (s : State) (signed ecdsa lms : Bytes) : List (Bool × Nat × Nat) :=
  let h := signed.take 512
  [(keyMatches s 0 (bunEcdsa h) (bunEcdsaKey h) && keyMatches s 1 (bunLms h) (bunLmsKey h), 6, stSIGNATURE),
   (Config.ecdsaVerify (bunEcdsaKey h) signed ecdsa, 7, stSIGNATURE), (Config.lmsVerify (bunLmsKey h) signed lms, 8, stSIGNATURE),
   (fallBack s || decide (counterNow s ≤ bunVer h), 9, stSTALE)]

/-- Steps 2 to 10 of a bundle (R412), the header's before the manifest's in each; `lost`: a page of it is uncorrectable.
(DESIGN CHOICE, log 198) -/
def bundleChecks (s : State) (lost : Bool) (b : Bytes) : List (Bool × Nat × Nat) :=
  let h := b.take 512
  [(lengthsAgree h, 2, stLENGTH), (headerLimits s h && manifestOk (bunManifest b) (bunPayload h), 2, stRANGE),
   (decide (beAt h 8 4 = obj s 0x00000400), 3, stWRONG_UNIT), (unitOk s h, 4, stWRONG_UNIT), (maskOk s h, 5, stRANGE)] ++
  keeperChecks s (bunSigned b) (bunEcdsaSig b) (bunLmsSig b) ++
  [(!lost, 10, stLOST), (decide (badComponent b = 0), 10, stSIGNATURE)]

/-- The first check that fails: its number and status. -/
def firstCheck : List (Bool × Nat × Nat) → Option (Nat × Nat)
  | [] => none
  | (ok, n, st) :: cs => if ok then firstCheck cs else some (n, st)

/-- What a bundle's checks come to: check (0 none), component, status. -/
def judge (s : State) (lost : Bool) (b : Bytes) : Nat × Nat × Nat :=
  match firstCheck (bundleChecks s lost b) with
  | none => (0, 0, stDONE)
  | some (n, st) => (n, if n = 10 ∧ st = stSIGNATURE then badComponent b else 0, st)

/-! ### Download (R410, R411) -/

/-- The IMAGE blocks a bundle of `n` chunks needs are erased, and so is any block R295 moved pages to.
(DEDUCED, log 205) -/
def imageErase (n : Nat) (s : State) : State :=
  let dp := max 1 (dataPages s 0 (obj s 0x0A002100 == 1))
  let need := (List.range (ceilDiv (4 * n) dp)).map (fun i => imageBlock s 0 i)
  let x := storeGet s 0
  let busy := fun (b : Nat) => x.ops.any (fun o => o.blk == some b && o.start.isSome)
  (x.blocks.filter (fun e => e.2.stream == 4 && (e.2.st == 1 || e.2.st == 2) && !busy e.1 &&
    (need.contains e.1 || !isImage s 0 e.1))).foldl (fun s e => eraseQueue 0 e.1 s) s

/-- R411: the download record is cleared, with the mark and the chunk writes that wait. -/
def dropDownload (s : State) : State :=
  { s with
    upd := { s.upd with verified := false, chunks := [] }
    store := tabMod storeDefault 0 (fun x => { x with ops := x.ops.filter (fun o => !(o.kind == 0 && o.stream == 4 && o.start.isNone)) }) s.store }

/-- R410: a header that keeps steps 2 to 4 begins a download. In Shuttered slot A itself is erased (R422).
(DEDUCED, log 203) -/
def beginBody (h : Bytes) (s : State) : Nat × Bytes × State :=
  match firstCheck (headChecks s h) with
  | some (_, st) => (st, [], s)
  | none =>
    let s1 := dropDownload s
    let n := ceilDiv (bunLen h) 65536
    let s2 := if s1.upd.shut then slotPut 1 [] s1 else storeRun 0 (imageErase n s1)
    (stDONE, [], raise 0 0x0D01 0 (bunBuild h) (bunLen h) (recordSet h s2))

/-- R410: 0D.0100.00. -/
def execBeginDownload (t : Nat) (via : Via) (header : Bytes) (s : State) : Host.Outcome State Fault Refusal :=
  let s := atTime t s
  if !keeperFree 0 0x0D06 s then .next s else .next (updServe via 0x0D010000 true (powered (beginBody header)) s)

/-- The four IMAGE pages of chunk `c` (Table 10-5); a page's Count is its place in the chunk, from 1 (DESIGN CHOICE).
(DESIGN CHOICE, log 204) -/
def chunkPages (c : Nat) (data : Bytes) : List NandPage :=
  (List.range 4).map (fun j => newPage c 0 (j + 1) (padTo 16384 (data.drop (16384 * j))))

/-- R411: the four pages are queued for program, in one block or in the two that share them. -/
def chunkQueue (via : Via) (c : Nat) (data : Bytes) (s : State) : State :=
  let dp := max 4 (dataPages s 0 (obj s 0x0A002100 == 1))
  let n := s.upd.serial + 1
  let first := min 4 (dp - 4 * c % dp)
  let pages := chunkPages c data
  let o := programOp s 4 n (pages.take first) [] 0
  let s1 := opQueue 0 { o with page := 4 * c } { s with upd := { s.upd with
    verified := false, serial := n
    chunks := s.upd.chunks ++ [{ c := c, via := via, serial := n, left := if first < 4 then 2 else 1 }] } }
  storeRun 0 (if first < 4 then opQueue 0 { programOp s 4 n (pages.drop first) [] 0 with page := 4 * c + first } s1 else s1)

/-- R411: what a chunk write is refused for. -/
def chunkStatus (c : Nat) (data : Bytes) (s : State) : Nat :=
  if dlHeader s = [] then stSTATE
  else if dlChunks s ≤ c ∨ data.length ≠ chunkLen s c then stRANGE else stDONE

/-- A chunk write is taken for the store: every check before its programs passes, its bit is clear, and the part is not in
Shuttered. -/
def chunkTaken (via : Via) (st c : Nat) (s : State) : Bool :=
  servicePath s via && viaOpen s via && viaFits s 0x0D010100 via && viaLevel s via == 1 && s.upd.writing.isNone && srOpen s &&
  st == stDONE && !chunkHeld s c && !s.upd.shut

/-- A chunk write that needs no program: refused, its bit already set, or, in Shuttered, put straight into slot A (R422). -/
def chunkBody (st c : Nat) (data : Bytes) (s : State) : Nat × Bytes × State :=
  if st = stDONE ∧ !chunkHeld s c then
    powered (fun s => (stDONE, [], chunkCommit c { s with upd := { s.upd with
      verified := false, norKnown := s.upd.norKnown ||| 1, nor := tabPut [] c data s.upd.nor } })) s
  else (st, [], s)

/-- R411: 0D.0101.00: a chunk already held is answered DONE at once; one being written waits for that write; else it is
programmed, and answered once its bit is committed. (DEDUCED, log 202) -/
def execWriteChunk (t : Nat) (via : Via) (c : Nat) (data : Bytes) (s : State) : Host.Outcome State Fault Refusal :=
  let s := atTime t s
  let st := chunkStatus c data s
  if s.upd.chunks.any (fun y => y.via == via) then .next s
  else if chunkTaken via st c s then
    if s.upd.chunks.any (fun y => y.c == c) then
      .next { s with upd := { s.upd with chunks := s.upd.chunks ++ [{ c := c, via := via, serial := 0, left := 0 }] } }
    else .next (chunkQueue via c data s)
  else .next (updServe via 0x0D010100 true (chunkBody st c data) s)

/-- R411: 0D.0103.00. -/
def execAbandonDownload (t : Nat) (via : Via) (s : State) : Host.Outcome State Fault Refusal :=
  let s := atTime t s
  if !keeperFree 0 0x0D06 s then .next s
  else .next (updServe via 0x0D010300 true (powered (fun s => (stDONE, [], recordSet [] (dropDownload s)))) s)

/-! ### Verification (R412) -/

/-- The pages of a staged chunk in IMAGE, in their order. -/
def stagedPages (s : State) (c : Nat) : List NandPage :=
  let pages := (storeGet s 0).blocks.flatMap (fun e => if e.2.stream = 4 then
    e.2.pages.filter (fun p => p.valid && p.typ == 0 && p.logical == c) else [])
  (List.range 4).filterMap (fun j => pages.find? (fun p => p.count == j + 1))

/-- The staged chunk's octets: its pages in IMAGE, or slot A's in Shuttered. -/
def stagedChunk (s : State) (c : Nat) : Bytes :=
  if s.upd.shut then tabGet [] s.upd.nor c else ((stagedPages s c).flatMap (·.data)).take (chunkLen s c)

/-- The staged bundle, by chunk. -/
def staged (s : State) : List Bytes := (List.range (dlChunks s)).map (stagedChunk s)

/-- R412, 10: a staging page is uncorrectable. -/
def stagedLost (s : State) : Bool :=
  !s.upd.shut && (List.range (dlChunks s)).any (fun c => (stagedPages s c).any (·.lost))

/-- Verification of the staged bundle: step 1, then the rest; its length is the one downloaded. -/
def verifyStaged (s : State) : Nat × Nat × Nat :=
  let b := (staged s).flatten
  if dlHeader s = [] ∨ chunksHeld s ≠ dlChunks s then (1, 0, stSTATE)
  else if bunLen (b.take 512) ≠ bunLen (dlHeader s) then (2, 0, stLENGTH)
  else judge s (stagedLost s) b

/-- The report (Table 14-5). (DEDUCED, log 200) -/
def reportOf (s : State) (h : Bytes) (r : Nat × Nat × Nat) : Bytes :=
  toBe 2 r.2.2 ++ toBe 1 r.1 ++ toBe 1 r.2.1 ++ toBe 4 0 ++ toBe 8 (bunVer h) ++ toBe 8 (counterNow s) ++ toBe 8 (bunBuild h)

/-- R412: the Keeper makes checks 6 to 9 by request kinds 0x0D01 and 0x0D02, where the checks before them pass. -/
def keeperAsked (r : Nat × Nat × Nat) (s : State) : State :=
  if r.1 = 0 ∨ 6 ≤ r.1 then
    reqServed 0 0x0D02 (reqStatus 0x0D02 (if 6 ≤ r.1 ∧ r.1 ≤ 9 then r.2.2 else stDONE)) [] (reqServed 0 0x0D01 0 [] s)
  else s

/-- R412: the report is kept, the mark set or not, and the event raised. -/
def verifyBody (s : State) : Nat × Bytes × State :=
  let r := verifyStaged s
  let h := (staged s).flatten.take 512
  let rep := reportOf s h r
  let s1 := keeperAsked r { s with upd := { s.upd with report := rep, verified := r.1 == 0 } }
  (r.2.2, rep, if r.1 = 0 then raise 0 0x0D10 0 (bunBuild h) (bunVer h) s1
    else raise 0 0x0D11 0 (r.1 * 256 + r.2.1) r.2.2 s1)

/-- R412: 0D.0110.00. -/
def execVerify (t : Nat) (via : Via) (s : State) : Host.Outcome State Fault Refusal :=
  let s := atTime t s
  if !keeperFree 0 0x0D01 s then .next s else .next (updServe via 0x0D011000 true verifyBody s)

/-- R424: request kind 0x0D01: the Keeper holds octets 0 to 767 and the ECDSA signature for the request that follows.
(DEDUCED, log 213) -/
def execVerifyHead (t : Nat) (head sig : Bytes) (s : State) : Host.Outcome State Fault Refusal :=
  let s := atTime t s
  if srOpen s ∧ keeperFree 0 0x0D01 s then
    .next (reqServed 0 0x0D01 0 [] { s with upd := { s.upd with head := some (head, sig) } })
  else .next s

/-- The verdict of checks 6 to 9 over the head and its signature, and the LMS signature (R412, R424); STATE with no head. -/
def headVerdict (s : State) (lms : Bytes) : Nat :=
  match s.upd.head with
  | none => stSTATE
  | some h => ((firstCheck (keeperChecks s h.1 h.2 lms)).map (·.2)).getD stDONE

/-- R424: request kind 0x0D02: the verdict of checks 6 to 9. -/
def execVerifyLms (t : Nat) (sig : Bytes) (s : State) : Host.Outcome State Fault Refusal :=
  let s := atTime t s
  if srOpen s ∧ keeperFree 0 0x0D02 s then
    .next (reqServed 0 0x0D02 (reqStatus 0x0D02 (headVerdict s sig)) [] { s with upd := { s.upd with head := none } })
  else .next s

/-- R424: request kind 0x0D06: the download record is committed. -/
def execDownloadRecord (t : Nat) (header : Bytes) (s : State) : Host.Outcome State Fault Refusal :=
  let s := atTime t s
  if srOpen s ∧ keeperFree 0 0x0D06 s then
    .next (if noPower s then reqServed 0 0x0D06 (reqStatus 0x0D06 stNOPOWER) [] s else recordSet header s)
  else .next s

/-- R424: request kind 0x0D07: the counter in force (all ones in the fall-back) and the mask, little-endian. -/
def execCounterRead (t : Nat) (s : State) : Host.Outcome State Fault Refusal :=
  let s := atTime t s
  if srOpen s ∧ keeperFree 0 0x0D07 s then
    .next (reqServed 0 0x0D07 0 (toLe 8 (counterNow s) ++ toLe 8 (maskNow s)) s)
  else .next s

/-! ### The slot write (R414) -/

/-- The slot not in use: 1 A, 2 B; in Shuttered slot A (R422). (DEDUCED, log 207) -/
def spareSlot (s : State) : Nat := if s.upd.shut ∨ ptrActive (ptr s) ≠ 1 then 1 else 2

/-- R414: 0D.0120.00. -/
def execStartTheSlotWrite (t : Nat) (via : Via) (s : State) : Host.Outcome State Fault Refusal :=
  let s := atTime t s
  .next (updServe via 0x0D012000 false (checked [(s.upd.verified, stSTATE), (ptrConfirmed (ptr s), stSTATE)] (fun s =>
    (stDONE, [], { s with upd := { s.upd with writing := some (spareSlot s, s.clk.now) } }))) s)

/-- R413: R_N(b), reading `b` octets from the NOR device. -/
def norRead (s : State) (b : Nat) : Nat :=
  let mhz := regF s (porOpt 0 3) 7 0
  20000 + ceilDiv (1000 * b) ((if 25 ≤ mhz ∧ mhz ≤ 200 then mhz else 50) * (if regF s (porOpt 0 3) 8 8 = 1 then 2 else 1))

/-- R413: a verification from the slot: the reads, with the Keeper's part beside them. -/
def slotCheckTime (s : State) (len : Nat) : Nat := max (norRead s len) (norRead s 768 + norRead s 1708 + 46001920)

/-- A slot holds what is staged (R414). -/
def slotHolds (s : State) (slot : Nat) : Bool := slotOctets s slot == (staged s).flatten

/-- R413: the least time a slot write takes; the device's own erase and program times come on top. -/
def slotWriteLeast (s : State) (slot : Nat) : Nat :=
  let len := bunLen (dlHeader s)
  let p := max 1 s.upd.norPage
  if s.upd.shut ∨ slotHolds s slot then slotCheckTime s len
  else ceilDiv len p * (norRead s p - 20000 + 200) + slotCheckTime s len

/-- R414: the slot write's outcome: what the slot, as the device gives it, verifies to; LOST, and a slot whose contents are a
free value, where the staging area could not be read. -/
def slotWritten (slot : Nat) (s : State) : Nat × State :=
  if stagedLost s && !slotHolds s slot then (stLOST, slotTorn s)
  else
    let s1 := if s.upd.shut then s else slotPut slot (staged s) s
    ((judge s1 false (slotOctets s1 slot)).2.2, s1)

/-- R414: the slot write ends: the slot holds the bundle, verified again from the device, and the outcome stands in
0D.0125.00. The Keeper checks the signatures, so it must be reached. -/
def execSlotWriteDone (t : Nat) (s : State) : Host.Outcome State Fault Refusal :=
  let s := atTime t s
  match s.upd.writing with
  | some (slot, a) =>
    if a + slotWriteLeast s slot ≤ s.clk.now ∧ srOpen s then
      let r := slotWritten slot s
      .next { r.2 with upd := { r.2.upd with writing := none, outcome := r.1, done := if r.1 = stDONE then some slot else none } }
    else .next s
  | none => .next s

/-! ### Activation (R415, R416) -/

/-- R416, R422: the pointer word an activation of `slot` commits. -/
def activated (s : State) (slot : Nat) : Nat :=
  let p := ptr s
  ptrMake (ptrGen p + 1) 0 false false (if s.upd.shut then 0 else ptrActive p) slot

/-- R416: once the hold-up check is made: refused, or the commit of kind 0x0D03, event 0x0D20, and a reset 100 ms later. -/
def activateAfter (slot : Nat) (c : Bool × State) : Nat × Bytes × State :=
  if c.1 then
    let p := activated c.2 slot
    let s1 := reqServed 0 0x0D03 0 [] (ptrCommit p c.2)
    (stDONE, [], raise 0 0x0D20 0 slot (ptrGen p) { s1 with upd := { s1.upd with actAt := some (s1.clk.now + 100000000) } })
  else (stNOPOWER, [], c.2)

/-- R416: activation is a store operation of declared cost 0C.0040.00 (mJ): refused where it may not start (R376). -/
def activateBody (slot : Nat) (s : State) : Nat × Bytes × State :=
  if noNewOps s then (stNOPOWER, [], s) else activateAfter slot (energyCheck 0 2 (obj s 0x0C004000 * 1000000000) s)

/-- R416: 0D.0121.00. -/
def execCommitTheActivation (t : Nat) (via : Via) (s : State) : Host.Outcome State Fault Refusal :=
  let s := atTime t s
  if !keeperFree 0 0x0D03 s then .next s else
  .next (updServe via 0x0D012100 true (checked [(s.upd.done.isSome, stSTATE)] (powered (activateBody (s.upd.done.getD 1)))) s)

/-- R416: 100 ms after the activation reply: a warm reset with cause 5. -/
def execActivationReset (t : Nat) (s : State) : Host.Outcome State Fault Refusal :=
  let s := atTime t s
  match s.upd.actAt with
  | some a =>
    if a ≤ s.clk.now then
      .next (resetAsk { cause := 5, cold := false, wing := 0 } { s with upd := { s.upd with actAt := none } })
    else .next s
  | none => .next s

/-! ### The warm token and the image step (R392, R417) -/

/-- R392: the Keeper's answer: the hash in hand and the slot equal the token's, and the token's GEN is the pointer's. -/
def tokenMatches (s : State) : Bool :=
  match s.power.token, s.power.hash with
  | some k, some h => k.hash == h && k.slot == ptrActive (ptr s) && k.gen == ptrGen (ptr s) && !s.upd.ptrBad
  | _, _ => false

/-- R392: the answer kept for this start; event 0x0C21 for any other than MATCH. -/
def tokenCheck (s : State) : State :=
  let ok := tokenMatches s
  let s1 := { s with upd := { s.upd with verdict := some ok } }
  if ok then s1 else raise 0 0x0C21 0 (ptrActive (ptr s)) 0 s1

/-- The image step of a start can be made: after D4, with a link, before an image runs. (DEDUCED, log 214) -/
def imageStepDue (s : State) : Bool :=
  released s 0 4 && srOpen s && s.power.image.isNone && !s.upd.shut && s.upd.noSlot.isNone

/-- R392: request kind 0x0C01: the hash of the image in DRAM against the warm token. -/
def execWarmTokenCheck (t : Nat) (s : State) : Host.Outcome State Fault Refusal :=
  let s := atTime t s
  if srOpen s ∧ keeperFree 0 0x0C01 s ∧ s.power.hash.isSome ∧ s.power.image.isNone ∧ s.upd.verdict.isNone then
    .next (reqServed 0 0x0C01 (if tokenMatches s then 0 else stSTATE) [] (tokenCheck s))
  else .next s

/-- R392: the token that a successful verification seals: SHA-384 of the image as loaded, its slot and GEN. -/
def tokenSeal (slot : Nat) (s : State) : State :=
  commitOne { s with power := { s.power with
    token := some { hash := Config.sha384 (component (slotOctets s slot) 3), slot := slot, gen := ptrGen (ptr s) } } }

/-- R413: the time of an image step that verifies a slot: the reads, with the Keeper's part beside them, and 2,000. -/
def imageTime (s : State) (slot : Nat) : Nat := slotCheckTime s (bunLen ((slotOctets s slot).take 512)) + 2000

/-- A slot's bundle runs after a time `d`; its header is at hand (0D.0124.00). -/
def imageTake (slot d : Nat) (s : State) : State :=
  { s with
    upd := { s.upd with run := (slotOctets s slot).take 512, imageAt := s.clk.now + d }
    power := { s.power with image := some slot } }

/-- R417, 1: trials counted, or the image reverted. -/
def trialStep (s : State) : State :=
  let p := ptr s
  if ptrActive p = 0 ∨ ptrConfirmed p then s
  else if ptrTrials p < 3 then
    raise 0 0x0D30 0 (ptrActive p) (ptrTrials p + 1)
      (ptrCommit (ptrMake (ptrGen p) (ptrTrials p + 1) (ptrPrevFailed p) false (ptrPrev p) (ptrActive p)) s)
  else
    raise 0 0x0D31 0 (ptrPrev p) (ptrActive p)
      (ptrCommit (ptrMake (ptrGen p + 1) 0 true true (ptrActive p) (ptrPrev p)) s)

/-- The check a slot fails (0 passes); a slot that is none fails with no check. -/
def slotCheck (s : State) (slot : Nat) : Bool × Nat :=
  let r := (judge s false (slotOctets s slot)).1
  if slot = 1 ∨ slot = 2 then (r == 0, r) else (false, 0)

/-- R417, 3 and 4: PREV is tried; with no slot loaded, the checks that failed are kept for Shuttered (R421).
(DEDUCED, log 209) -/
def tryPrev (failed : Nat) (s : State) : State :=
  let p := ptr s
  let prev := ptrPrev p
  if prev ≠ 0 ∧ !ptrPrevFailed p ∧ (slotCheck s prev).1 then
    let s1 := ptrCommit (ptrMake (ptrGen p + 1) 0 (!ptrConfirmed p) true (ptrActive p) prev) s
    imageTake prev (imageTime s (ptrActive p) + imageTime s prev) (raise 0 0x0D40 0 (ptrActive p) failed (tokenSeal prev s1))
  else { s with upd := { s.upd with noSlot := some ((slotCheck s 1).2, (slotCheck s 2).2) } }

/-- R417, 2: ACTIVE is taken by the warm token, or loaded and verified; a pointer found uncorrectable is committed anew. -/
def loadActive (s : State) : State :=
  let p := ptr s
  let slot := ptrActive p
  if s.upd.verdict = some true ∧ tokenMatches s then imageTake slot 0 s
  else
    let r := slotCheck s slot
    if r.1 then
      let s1 := if s.upd.ptrBad then ptrCommit (ptrMake (ptrGen p + 1) 0 false true (ptrPrev p) slot) s else s
      imageTake slot (imageTime s slot) (tokenSeal slot s1)
    else tryPrev r.2 s

/-- R166, R407, R417: words that the Keeper finds uncorrectable at start: the pointer word, or a copy of the counter record,
which is held as no words. -/
def startRead (bad : List Nat) (s : State) : State :=
  let s1 := badAmong 0x40000 0x400A0 bad s
  let keep := fun (i : Nat) => if badIn (0x40040 + 64 * i) (0x40060 + 64 * i) bad then [] else s1.upd.copies.getD i []
  { s1 with upd := { s1.upd with
    ptrBad := s1.upd.ptrBad || badIn 0x40000 0x40008 bad
    copies := if badIn 0x40040 0x400A0 bad then [keep 0, keep 1] else s1.upd.copies } }

/-- The image step of a start, from the Keeper's choice on: trials, the warm token, the slot loaded. -/
def imageStep (s : State) : State :=
  let warm := regF s (porStat 0) 24 24 == 1
  let s2 := reqServed 0 0x0D04 0 [] (trialStep s)
  loadActive (if warm ∧ (s2.upd.verdict.isNone ∨ (s2.upd.verdict = some true ∧ !tokenMatches s2)) then tokenCheck s2 else s2)

/-- R417, R424: request kind 0x0D04, at every start; a warm start first has the hash of the image in hand (R392). `slotA` and
`slotB`: what the NOR device's slots hold, where the model has not written them; `bad`: words of MRAM found uncorrectable.
A choice that would commit is answered NOPOWER where no commit can be made (R169), and is made again.
(DEDUCED, log 215) -/
def execStart (t : Nat) (slotA slotB : Bytes) (bad : List Nat) (s : State) : Host.Outcome State Fault Refusal :=
  let s := atTime t s
  let warm := regF s (porStat 0) 24 24 == 1
  if imageStepDue s ∧ keeperFree 0 0x0D04 s ∧ (!warm ∨ s.power.hash.isSome) then
    let s1 := startRead bad (slotGiven 2 slotB (slotGiven 1 slotA s))
    let s2 := imageStep s1
    .next (if noPower s1 && decide (mramOf s2 ≠ mramOf s1) then reqServed 0 0x0D04 (reqStatus 0x0D04 stNOPOWER) [] s1 else s2)
  else .next s

/-! ### Trials and confirmation (R418, R419) -/

/-- R418: the trial time ends without confirmation: a warm reset with cause 5. -/
def execTrialTimeEnd (t : Nat) (s : State) : Host.Outcome State Fault Refusal :=
  let s := atTime t s
  match s.upd.trial with
  | some d =>
    if d + obj s 0x0D013100 * 1000000000 ≤ s.clk.now then
      .next (resetAsk { cause := 5, cold := false, wing := 0 } { s with upd := { s.upd with trial := none } })
    else .next s
  | none => .next s

/-- R409, R419: the counter and mask a confirmation with a raise leaves. -/
def raised (s : State) : Nat × Nat :=
  let h := s.upd.run
  if fallBack s then (bunVer h, (2 ^ bunEcdsa h - 1) + (2 ^ bunLms h - 1) * 16)
  else (max (counterNow s) (bunVer h), maskNow s ||| bunMask h)

/-- R419: one commit of request kind 0x0D05. (DEDUCED, log 208) -/
def confirmBody (arg : Nat) (s : State) : Nat × Bytes × State :=
  let p := ptr s
  let r := raised s
  let repair := fallBack s
  let change : Bool := arg == 1 && (repair || r != (counterNow s, maskNow s))
  let s1 := objPut 0x0D012300 (ptrMake (ptrGen p) 0 (ptrPrevFailed p) true (ptrPrev p) (ptrActive p)) s
  let s2 := if change then counterWrite r.1 r.2 s1 else s1
  let s3 := commitPush { tick := nextTick s, at_ := tickCycle s, cls := 3, sub := 0, words := if change then 5 else 1
                         extents := if change then 2 else 1, records := [], payload := payloadNone } s2
  let s4 := reqServed 0 0x0D05 0 [] { s3 with upd := { s3.upd with trial := none, ptrBad := false } }
  let s5 := raise 0 0x0D32 0 (ptrActive p) arg s4
  let s6 := if change then raise 0 0x0D33 0 r.1 r.2 s5 else s5
  (stDONE, [], if change ∧ repair then raise 0 0x0D43 0 r.1 r.2 s6 else s6)

/-- R401, R419: 0D.0130.00, from any ENGINEER session but not through a mailbox. -/
def execConfirm (t : Nat) (via : Via) (arg : Nat) (s : State) : Host.Outcome State Fault Refusal :=
  let s := atTime t s
  match via with
  | .session _ =>
    if !keeperFree 0 0x0D05 s ∨ updWaits s then .next s
    else .next (serve via 0x0D013000 (checked [(decide (arg ≤ 1), stRANGE), (s.upd.writing.isNone, stBUSY),
      (!ptrConfirmed (ptr s), stSTATE), (s.power.started, stSTATE), (!(fallBack s && arg == 0), stSTATE),
      (srOpen s, stUNREACHABLE), (!noPower s, stNOPOWER)] (confirmBody arg)) s)
  | _ => .next (if viaOpen s via && viaFits s 0x0D013000 via then answer via 0x0D013000 stACCESS [] s else s)

/-! ### Shuttered (R421, R422) -/

/-- R421: a cold reset with cause 6, and event 0x0D41. (DEDUCED, log 217) -/
def shutEnter (a b : Nat) (s : State) : State :=
  raise 0 0x0D41 0 (a * 256 + b) 0 (resetAsk { cause := 6, cold := true, wing := 0 } s)

/-- R421: the image step found no slot to load. -/
def execShuttered (t : Nat) (s : State) : Host.Outcome State Fault Refusal :=
  let s := atTime t s
  match s.upd.noSlot with
  | some c => .next (shutEnter c.1 c.2 { s with upd := { s.upd with noSlot := none } })
  | none => .next s

/-- The loader may be entered: every check of 0D.0140.00 passes, and the part is not in it. -/
def loaderOpen (via : Via) (s : State) : Bool :=
  servicePath s via && viaOpen s via && viaFits s 0x0D014000 via && !updWaits s && viaLevel s via == 1 && s.upd.writing.isNone &&
  !s.upd.shut

/-- R421: 0D.0140.00 from a Service Port session: the part enters Shuttered; no slot changes. -/
def execEnterTheRecoveryLoader (t : Nat) (via : Via) (s : State) : Host.Outcome State Fault Refusal :=
  let s := atTime t s
  let s1 := updServe via 0x0D014000 false (fun s => (stDONE, [], s)) s
  .next (if loaderOpen via s then shutEnter 0 0 s1 else s1)

end Sys2Proof.Machine
end

