-- ==== Sys2Proof/Machine/Mram.lean ====
section
/-! DEFINITION. The strongroom window as a wing reads it (R160, R162, R166): the readable partitions of MRAM and the
status register, word by word. A word whose place the spec lays nothing out in is a free value. -/

namespace Sys2Proof.Machine

/-- The word at byte `i` of some bytes, little-endian; none where they end. -/
def wordIn (b : Bytes) (i : Nat) : Option Nat := if i + 8 ≤ b.length then some (leAt b i 8) else none

/-- The word at byte `i` of a record found, or nothing. -/
def wordOf (r : Option Bytes) (i : Nat) : Option Nat := r.bind (fun b => wordIn b i)

/-- R388: the Option Word copies, A at 0 and B at 0x100. -/
def optPart (s : State) (o : Nat) : Option Nat := ((s.power.optCopies.getD (o / 256) [])[o % 256 / 8]?).map (·.toNat)

/-- Table 7-11: word `i` of the clock and calendar line at 0x900. -/
def clockLine (s : State) : Nat → Option Nat
  | 0 => some (obj s 0x07007900)
  | 1 => some (obj s 0x07007A00)
  | 2 => some s.bill.tLast
  | 3 => some (obj s 0x07006100)
  | 4 => some (rateNow s)
  | 5 => some (obj s 0x07003100)
  | 6 => some (obj s 0x07003200)
  | 7 => some (obj s 0x07003300)
  | _ => none

/-- Table 7-11: the billing partition. -/
def billPart (s : State) (o : Nat) : Option Nat :=
  if o < 0x400 then wordIn (regsBytes toLe s (o / 0x200)) (o % 0x200)
  else if o < 0x800 then wordIn (maxBytes toLe s ((o - 0x400) / 0x200)) (o % 0x200)
  else if o < 0x880 then
    let n := lastNum ((o - 0x800) / 64) ((o - 0x800) / 32 % 2)
    let k := o % 32 / 8
    if k < 3 then some (obj s (n + k)) else none
  else if o < 0x900 then none
  else if o < 0x940 then clockLine s ((o - 0x900) / 8)
  else if o < 0x1000 then none
  else if o < 0xD000 then
    wordOf (s.bill.snaps.find? (fun b => leAt b 0 8 % 24 == (o - 0x1000) / 2048)) ((o - 0x1000) % 2048)
  else if o < 0xE000 then wordIn (oct s 0x07004100) (o - 0xD000)
  else if o < 0xF000 then wordIn (oct s 0x07004300) (o - 0xE000)
  else if o < 0x10000 then wordIn (oct s 0x07004200) (o - 0xF000)
  else none

/-- R183: the Register Book: record of sequence n at 64 * (n mod 32,768). -/
def bookPart (s : State) (o : Nat) : Option Nat :=
  wordOf ((s.sr.book.find? (fun r => r.seq % 32768 == o / 64)).map bookBytes) (o % 64)

/-- A ring of records newest first, of which the newest has a sequence: the record at a place. -/
def ringAt (rs : List Bytes) (newest size place : Nat) : Option Bytes :=
  let back := (newest + size - place) % size
  if back < newest then rs[back]? else none

/-- R213: quarter-hour profiles. -/
def profPart (s : State) (o : Nat) : Option Nat :=
  wordOf (ringAt s.bill.recs (obj s 0x07008100) 57344 (o / 128)) (o % 128)

/-- R231: the voucher replay store. -/
def voucherPart (s : State) (o : Nat) : Option Nat :=
  let e := tabGet (0, 0) s.prepay.store (o / 16)
  some (if o % 16 = 0 then e.1 else e.2)

/-- R433: the Logbook: wings' regions of 12,288 records, then the Keeper's of 32,768. -/
def logPart (s : State) (o : Nat) : Option Nat :=
  let w := min 8 (o / 0x60000)
  let p := (o - w * 0x60000) / 32
  let n := if w = 8 then 32768 else 12288
  wordOf (((mramLog s w).find? (fun r => r.seq % n == p)).map recBytes) (o % 32)

/-- R251: published feeder results: intervals, then minutes. -/
def pubPart (s : State) (o : Nat) : Option Nat :=
  if o < 0x180000 then wordOf (ringAt s.bill.pubs (obj s 0x07008100) 12288 (o / 128)) (o % 128)
  else wordIn (tabGet [] s.bill.mins ((o - 0x180000) / 64)) (o % 64)

/-- Table 6-16: SRS_STAT. (DESIGN CHOICE, log 103) -/
def srsStat (s : State) : Nat :=
  s.sr.vbak % 2 ^ 32 * 2 ^ 32 + s.sr.vsr % 65536 * 65536 + ((List.range 14).map (fun k => obj s (0x06004000 + k) % 2 * 2 ^ k)).sum

/-- What a readable word holds; none where the spec lays nothing out. (DESIGN CHOICE, log 219) -/
def mramWord (s : State) (off : Nat) : Option Nat :=
  if off < 0x60000 then optPart s (off - 0x50000)
  else if off < 0x180000 then none
  else if off < 0x200000 then billPart s (off - 0x180000)
  else if off < 0x400000 then bookPart s (off - 0x200000)
  else if off < 0xB00000 then profPart s (off - 0x400000)
  else if off < 0x1700000 then wordIn (accGet s ((off - 0xB00000) / 48)) ((off - 0xB00000) % 48)
  else if off < 0x1900000 then voucherPart s (off - 0x1700000)
  else if off < 0x1D00000 then logPart s (off - 0x1900000)
  else if off < 0x1F00000 then pubPart s (off - 0x1D00000) else none

/-- A readable word of the window: of MRAM as it stands after the commits made (R167, R218), or SRS_STAT. -/
def windowWord (s : State) (off : Nat) : Option Nat :=
  if off = 0x2020000 then some (srsStat s) else mramWord (mramLoad s.sr.home s) off

/-- R166: a read that finds an uncorrectable word: event 0x0621, in the Register Book, and the word, marked bad, to its reader;
its value is a free one. (DESIGN CHOICE, log 254) -/
def wordBad (rq off : Nat) (s : State) : State :=
  let r := freeWord (badFound off s)
  { r.2 with fab := { r.2.fab with done := ({ rq := rq, addr := 0xFF0000000000 + off, write := false
                                              done := guardReply r.2 rq, value := some r.1, bad := true } :: r.2.fab.done).take 64 } }

/-- R160, R162: a READ of one word of the window reaches the guard: served 480 FCLK later at the requester, or refused; with
no carrying link that is up it ends in a bus error. `ok`: the word's SECDED finds nothing uncorrectable (R166). -/
def execGuardRead (t rq off : Nat) (ok : Bool) (s : State) : Host.Outcome State Fault Refusal :=
  let s := atTime t s
  match srReach s with
  | none => .next (guardNoLink rq off false s)
  | some g =>
    let s1 := count (gateOf g) (tallySrg 0) (frameIn s)
    if !mayRead off then .next (guardRefuse rq off false s1)
    else if !ok ∧ off < 0x2000000 then .next (wordBad rq off (frameOut s1))
    else
      let r : Word × State := match windowWord s1 off with
        | some v => (BitVec.ofNat 64 v, s1)
        | none => freeWord s1
      .next (completeAccess rq (0xFF0000000000 + off) false (guardReply s rq) (some r.1) (frameOut r.2))

/-- R164: a requester with no reply writes its request to the slot again, word by word, and rings the doorbell again.
(DEDUCED, log 221) -/
def execRequestResubmit (t w slot : Nat) (s : State) : Host.Outcome State Fault Refusal :=
  let s := atTime t s
  if w < s.part.wings ∧ slot < 4 then
    let base := 0x2000000 + 2048 * (4 * w + slot)
    let b := padTo 2048 (reqSlot s (4 * w + slot)).words
    let put := fun (s : State) (i : Nat) (v : Word) => nextOf (execGuardWrite t w (base + 8 * i) v s) s
    let s1 := (List.range (ceilDiv (leAt b 10 2) 8)).foldl (fun s i => put s i (BitVec.ofNat 64 (leAt b (8 * i) 8))) s
    .next (put s1 255 1)
  else .next s

end Sys2Proof.Machine
end

