-- ==== Sys2Proof/Machine/Dispatch.lean ====
section
/-! DEFINITION. One arm per command. -/

namespace Sys2Proof.Machine

/-- What a command does to everything but the queue. -/
def exec (i : Instr) (s : State) : Host.Outcome State Fault Refusal :=
  match i with
  | .registerWrite t rq addr t0 v => Sys2Proof.Machine.execRegisterWrite t rq addr t0 v s
  | .busError t rq addr write => Sys2Proof.Machine.execBusError t rq addr write s
  | .fabricMessageArrival t m => Sys2Proof.Machine.execFabricMessageArrival t m s
  | .remoteRegisterReadDone t rq addr t0 => Sys2Proof.Machine.execRemoteRegisterReadDone t rq addr t0 s
  | .corridorLinkLost t w port => Sys2Proof.Machine.execCorridorLinkLost t w port s
  | .corridorRetrainStart t w port => Sys2Proof.Machine.execCorridorRetrainStart t w port s
  | .corridorLinkRetrained t w port => Sys2Proof.Machine.execCorridorLinkRetrained t w port s
  | .corridorRetrainFailed t w port => Sys2Proof.Machine.execCorridorRetrainFailed t w port s
  | .modeRequest t via mode => Sys2Proof.Machine.execModeRequest t via mode s
  | .cclkDividerChange t => Sys2Proof.Machine.execCclkDividerChange t s
  | .nightAuditLaneChange t => Sys2Proof.Machine.execNightAuditLaneChange t s
  | .corePark t w => Sys2Proof.Machine.execCorePark t w s
  | .coreResume t => Sys2Proof.Machine.execCoreResume t s
  | .zeroCrossing t ch up tc rms => Sys2Proof.Machine.execZeroCrossing t ch up tc rms s
  | .matLoss t => Sys2Proof.Machine.execMatLoss t s
  | .sourceChannelChange t => Sys2Proof.Machine.execSourceChannelChange t s
  | .matUpdateApply t => Sys2Proof.Machine.execMatUpdateApply t s
  | .replicaStale t w => Sys2Proof.Machine.execReplicaStale t w s
  | .timetableGo t w e => Sys2Proof.Machine.execTimetableGo t w e s
  | .timetableStop t w e => Sys2Proof.Machine.execTimetableStop t w e s
  | .timetableFire t w e => Sys2Proof.Machine.execTimetableFire t w e s
  | .airLaunchLead t w e => Sys2Proof.Machine.execAirLaunchLead t w e s
  | .captureEnd t => Sys2Proof.Machine.execCaptureEnd t s
  | .metrologySample t codes => Sys2Proof.Machine.execMetrologySample t codes s
  | .armResponse t via rec sigOk => Sys2Proof.Machine.execArmResponse t via rec sigOk s
  | .disarmSlot t via slot => Sys2Proof.Machine.execDisarmSlot t via slot s
  | .armedResponseExpiry t slot => Sys2Proof.Machine.execArmedResponseExpiry t slot s
  | .armedTriggerDecision t slot => Sys2Proof.Machine.execArmedTriggerDecision t slot s
  | .fireCycle t slot => Sys2Proof.Machine.execFireCycle t slot s
  | .armedFrameStart t slot pn => Sys2Proof.Machine.execArmedFrameStart t slot pn s
  | .armedUplinkCopy t slot pn => Sys2Proof.Machine.execArmedUplinkCopy t slot pn s
  | .portEnable t w p => Sys2Proof.Machine.execPortEnable t w p s
  | .portDisable t w p => Sys2Proof.Machine.execPortDisable t w p s
  | .train t w p => Sys2Proof.Machine.execTrain t w p s
  | .alignmentGained t w p => Sys2Proof.Machine.execAlignmentGained t w p s
  | .alignmentLost t w p => Sys2Proof.Machine.execAlignmentLost t w p s
  | .preambleDetect t w p bin pwr => Sys2Proof.Machine.execPreambleDetect t w p bin pwr s
  | .laneGrant t w => Sys2Proof.Machine.execLaneGrant t w s
  | .watcherWithdraw t w p bin matched pwr => Sys2Proof.Machine.execWatcherWithdraw t w p bin matched pwr s
  | .laneAcquired t w lane => Sys2Proof.Machine.execLaneAcquired t w lane s
  | .sfdTimeout t w lane matched pwr => Sys2Proof.Machine.execSfdTimeout t w lane matched pwr s
  | .sfdFound t w lane phr => Sys2Proof.Machine.execSfdFound t w lane phr s
  | .frameEnd t w lane fcsOk rssi foff frame => Sys2Proof.Machine.execFrameEnd t w lane fcsOk rssi foff frame s
  | .sourceAddressLookup t w lane src ftype => Sys2Proof.Machine.execSourceAddressLookup t w lane src ftype s
  | .ownerCommit t w lane => Sys2Proof.Machine.execOwnerCommit t w lane s
  | .macVerdict t w lane => Sys2Proof.Machine.execMacVerdict t w lane s
  | .ackTxen t w p => Sys2Proof.Machine.execAckTxen t w p s
  | .txDescriptorPost t w p addr => Sys2Proof.Machine.execTxDescriptorPost t w p addr s
  | .transmissionEnd t w p => Sys2Proof.Machine.execTransmissionEnd t w p s
  | .txenRelease t w p => Sys2Proof.Machine.execTxenRelease t w p s
  | .blankingEnd t w p => Sys2Proof.Machine.execBlankingEnd t w p s
  | .spiGo t w p v => Sys2Proof.Machine.execSpiGo t w p v s
  | .spiComplete t w p miso => Sys2Proof.Machine.execSpiComplete t w p miso s
  | .clipReport t w p n => Sys2Proof.Machine.execClipReport t w p n s
  | .keyMaterialWrite t via kk key => Sys2Proof.Machine.execKeyMaterialWrite t via kk key s
  | .keyStateWrite t via kk st => Sys2Proof.Machine.execKeyStateWrite t via kk st s
  | .armedKeyWrite t via key => Sys2Proof.Machine.execArmedKeyWrite t via key s
  | .counterRequest t w p assertion kk => Sys2Proof.Machine.execCounterRequest t w p assertion kk s
  | .counterAssign t => Sys2Proof.Machine.execCounterAssign t s
  | .counterBlockReserve t kk => Sys2Proof.Machine.execCounterBlockReserve t kk s
  | .ackWaitTimeout t pn => Sys2Proof.Machine.execAckWaitTimeout t pn s
  | .sendRequestTake t w => Sys2Proof.Machine.execSendRequestTake t w s
  | .csmaBackoffEnd t pn => Sys2Proof.Machine.execCsmaBackoffEnd t pn s
  | .ccaEnd t pn pwr preamble => Sys2Proof.Machine.execCcaEnd t pn pwr preamble s
  | .enhancedBeaconInterval t => Sys2Proof.Machine.execEnhancedBeaconInterval t s
  | .parentWindowClose t => Sys2Proof.Machine.execParentWindowClose t s
  | .scanEnd t => Sys2Proof.Machine.execScanEnd t s
  | .takeParent t via pp => Sys2Proof.Machine.execTakeParent t via pp s
  | .floodAtWing0 t => Sys2Proof.Machine.execFloodAtWing0 t s
  | .relayHoldEnd t => Sys2Proof.Machine.execRelayHoldEnd t s
  | .floodRequest t via rec => Sys2Proof.Machine.execFloodRequest t via rec s
  | .floodRepetition t n => Sys2Proof.Machine.execFloodRepetition t n s
  | .floodExpired t idx => Sys2Proof.Machine.execFloodExpired t idx s
  | .seenCacheExpiry t w => Sys2Proof.Machine.execSeenCacheExpiry t w s
  | .nbrRead t w idx => Sys2Proof.Machine.execNbrRead t w idx s
  | .nbrPin t w idx => Sys2Proof.Machine.execNbrPin t w idx s
  | .nbrUnpin t w idx => Sys2Proof.Machine.execNbrUnpin t w idx s
  | .lookUpEntryByAddress t via addr => Sys2Proof.Machine.execLookUpEntryByAddress t via addr s
  | .pinEntryByAddress t via addr => Sys2Proof.Machine.execPinEntryByAddress t via addr s
  | .unpinEntryByAddress t via addr => Sys2Proof.Machine.execUnpinEntryByAddress t via addr s
  | .provision t via rec => Sys2Proof.Machine.execProvision t via rec s
  | .deprovision t via idx => Sys2Proof.Machine.execDeprovision t via idx s
  | .suspend t via idx => Sys2Proof.Machine.execSuspend t via idx s
  | .resume t via idx => Sys2Proof.Machine.execResume t via idx s
  | .setDed t via idx key => Sys2Proof.Machine.execSetDed t via idx key s
  | .clearDed t via idx => Sys2Proof.Machine.execClearDed t via idx s
  | .rekey t via idx keys => Sys2Proof.Machine.execRekey t via idx keys s
  | .pinEndpoint t via idx => Sys2Proof.Machine.execPinEndpoint t via idx s
  | .unpinEndpoint t via idx => Sys2Proof.Machine.execUnpinEndpoint t via idx s
  | .exportSession t via idx => Sys2Proof.Machine.execExportSession t via idx s
  | .importSession t via idx sealed tagOk entry => Sys2Proof.Machine.execImportSession t via idx sealed tagOk entry s
  | .lookUpEndpointByIndex t via idx => Sys2Proof.Machine.execLookUpEndpointByIndex t via idx s
  | .carriedFrame t w opened => Sys2Proof.Machine.execCarriedFrame t w opened s
  | .admission t w => Sys2Proof.Machine.execAdmission t w s
  | .batchClose t w => Sys2Proof.Machine.execBatchClose t w s
  | .fill t w dramOk => Sys2Proof.Machine.execFill t w dramOk s
  | .signatureVerifyStart t w => Sys2Proof.Machine.execSignatureVerifyStart t w s
  | .checkinOutcome t w => Sys2Proof.Machine.execCheckinOutcome t w s
  | .gbRead t w idx => Sys2Proof.Machine.execGbRead t w idx s
  | .gbPin t w idx => Sys2Proof.Machine.execGbPin t w idx s
  | .gbUnpin t w idx => Sys2Proof.Machine.execGbUnpin t w idx s
  | .writeback t w idx => Sys2Proof.Machine.execWriteback t w idx s
  | .holdReply t w idx => Sys2Proof.Machine.execHoldReply t w idx s
  | .flushGuestBook t w => Sys2Proof.Machine.execFlushGuestBook t w s
  | .stagingConfirm t w v => Sys2Proof.Machine.execStagingConfirm t w v s
  | .directorySweep t w => Sys2Proof.Machine.execDirectorySweep t w s
  | .linkFrameReceive t link toStrongroom ctr tagOk => Sys2Proof.Machine.execLinkFrameReceive t link toStrongroom ctr tagOk s
  | .guardRead t rq off ok => Sys2Proof.Machine.execGuardRead t rq off ok s
  | .guardWrite t rq off v => Sys2Proof.Machine.execGuardWrite t rq off v s
  | .logAppend t w seq rec => Sys2Proof.Machine.execLogAppend t w seq rec s
  | .linkIdle t link fromStrongroom => Sys2Proof.Machine.execLinkIdle t link fromStrongroom s
  | .strongroomLinkDown t link => Sys2Proof.Machine.execStrongroomLinkDown t link s
  | .strongroomLinkTrained t link nonceS nonceG => Sys2Proof.Machine.execStrongroomLinkTrained t link nonceS nonceG s
  | .strongroomTrainingRetry t link => Sys2Proof.Machine.execStrongroomTrainingRetry t link s
  | .carryingChange t => Sys2Proof.Machine.execCarryingChange t s
  | .strongroomReset t watchdog crcOk => Sys2Proof.Machine.execStrongroomReset t watchdog crcOk s
  | .commit t => Sys2Proof.Machine.execCommit t s
  | .legalSet t via obj val auth => Sys2Proof.Machine.execLegalSet t via obj val auth s
  | .legalExec t via obj arg auth => Sys2Proof.Machine.execLegalExec t via obj arg auth s
  | .switchToVbak t vsr vbak => Sys2Proof.Machine.execSwitchToVbak t vsr vbak s
  | .returnToVsr t vsr vbak => Sys2Proof.Machine.execReturnToVsr t vsr vbak s
  | .metrologyRestart t mask => Sys2Proof.Machine.execMetrologyRestart t mask s
  | .metrologyCycleEnd t f => Sys2Proof.Machine.execMetrologyCycleEnd t f s
  | .tamperInputChange t k level since => Sys2Proof.Machine.execTamperInputChange t k level since s
  | .readTheRegisterBook t via seq => Sys2Proof.Machine.execReadTheRegisterBook t via seq s
  | .acknowledgeTheRegisterBook t via seq => Sys2Proof.Machine.execAcknowledgeTheRegisterBook t via seq s
  | .keeperTick t => Sys2Proof.Machine.execKeeperTick t s
  | .disciplineComparison t => Sys2Proof.Machine.execDisciplineComparison t s
  | .clockStep t => Sys2Proof.Machine.execClockStep t s
  | .setLtime t via target auth => Sys2Proof.Machine.execSetLtime t via target auth s
  | .profileIntervalEnd t => Sys2Proof.Machine.execProfileIntervalEnd t s
  | .demandSubperiodEnd t => Sys2Proof.Machine.execDemandSubperiodEnd t s
  | .billingPeriodEnd t => Sys2Proof.Machine.execBillingPeriodEnd t s
  | .endTheBillingPeriodNow t via auth => Sys2Proof.Machine.execEndTheBillingPeriodNow t via auth s
  | .taiUtcChange t => Sys2Proof.Machine.execTaiUtcChange t s
  | .calendarActivation t => Sys2Proof.Machine.execCalendarActivation t s
  | .tariffSwitch t => Sys2Proof.Machine.execTariffSwitch t s
  | .repeatGenerationReset t => Sys2Proof.Machine.execRepeatGenerationReset t s
  | .powerFailCapture t => Sys2Proof.Machine.execPowerFailCapture t s
  | .powerUpCapture t => Sys2Proof.Machine.execPowerUpCapture t s
  | .calendarImageWrite t via img auth => Sys2Proof.Machine.execCalendarImageWrite t via img auth s
  | .withdrawThePassiveCalendar t via auth => Sys2Proof.Machine.execWithdrawThePassiveCalendar t via auth s
  | .rateAndPriceAtAnLtime t via l => Sys2Proof.Machine.execRateAndPriceAtAnLtime t via l s
  | .readSnapshotByAge t via age => Sys2Proof.Machine.execReadSnapshotByAge t via age s
  | .readProfileRecords t via seq => Sys2Proof.Machine.execReadProfileRecords t via seq s
  | .consistentRegisterSet t via f => Sys2Proof.Machine.execConsistentRegisterSet t via f s
  | .minutePublish t => Sys2Proof.Machine.execMinutePublish t s
  | .chargeSend t w => Sys2Proof.Machine.execChargeSend t w s
  | .charge t w => Sys2Proof.Machine.execCharge t w s
  | .voucher t via rec sigOk => Sys2Proof.Machine.execVoucher t via rec sigOk s
  | .dueScan t start => Sys2Proof.Machine.execDueScan t start s
  | .supplyAuth t0 t w account action leaseSigOk => Sys2Proof.Machine.execSupplyAuth t0 t w account action leaseSigOk s
  | .supplyConfirm t w account number result => Sys2Proof.Machine.execSupplyConfirm t w account number result s
  | .authorisationLapse t account => Sys2Proof.Machine.execAuthorisationLapse t account s
  | .openAccount t via rec auth => Sys2Proof.Machine.execOpenAccount t via rec auth s
  | .closeAccount t via rec auth => Sys2Proof.Machine.execCloseAccount t via rec auth s
  | .setPlan t via rec auth => Sys2Proof.Machine.execSetPlan t via rec auth s
  | .readAccount t via account => Sys2Proof.Machine.execReadAccount t via account s
  | .friendlyHoursWrite t via img auth => Sys2Proof.Machine.execFriendlyHoursWrite t via img auth s
  | .intervalFold t w => Sys2Proof.Machine.execIntervalFold t w s
  | .voltageFold t w => Sys2Proof.Machine.execVoltageFold t w s
  | .assignEndpoint t via rec => Sys2Proof.Machine.execAssignEndpoint t via rec s
  | .assignmentEffect t idx => Sys2Proof.Machine.execAssignmentEffect t idx s
  | .commitThePendingSegmentTable t via g => Sys2Proof.Machine.execCommitThePendingSegmentTable t via g s
  | .auditJobReady t => Sys2Proof.Machine.execAuditJobReady t s
  | .closeJobStart t => Sys2Proof.Machine.execCloseJobStart t s
  | .closeJobEnd t => Sys2Proof.Machine.execCloseJobEnd t s
  | .identificationJobStart t w => Sys2Proof.Machine.execIdentificationJobStart t w s
  | .identificationJobEnd t w => Sys2Proof.Machine.execIdentificationJobEnd t w s
  | .identificationSkipped t w => Sys2Proof.Machine.execIdentificationSkipped t w s
  | .readEndpointAuditState t via idx => Sys2Proof.Machine.execReadEndpointAuditState t via idx s
  | .readResults t via seq => Sys2Proof.Machine.execReadResults t via seq s
  | .readLocalisationRecords t via age => Sys2Proof.Machine.execReadLocalisationRecords t via age s
  | .profileDecision t w => Sys2Proof.Machine.execProfileDecision t w s
  | .intakeUnitClose t w => Sys2Proof.Machine.execIntakeUnitClose t w s
  | .programComplete t w ok => Sys2Proof.Machine.execProgramComplete t w ok s
  | .pageReadComplete t w page decoded corrections => Sys2Proof.Machine.execPageReadComplete t w page decoded corrections s
  | .eraseComplete t w block ok => Sys2Proof.Machine.execEraseComplete t w block ok s
  | .spanSeal t w => Sys2Proof.Machine.execSpanSeal t w s
  | .sealDone t w => Sys2Proof.Machine.execSealDone t w s
  | .latePath t w => Sys2Proof.Machine.execLatePath t w s
  | .patchMerge t w => Sys2Proof.Machine.execPatchMerge t w s
  | .dayExpiry t w => Sys2Proof.Machine.execDayExpiry t w s
  | .garbageCollection t w => Sys2Proof.Machine.execGarbageCollection t w s
  | .wearMove t w => Sys2Proof.Machine.execWearMove t w s
  | .bakeHours t w minuteTemps => Sys2Proof.Machine.execBakeHours t w minuteTemps s
  | .refresh t w block => Sys2Proof.Machine.execRefresh t w block s
  | .checkpoint t w => Sys2Proof.Machine.execCheckpoint t w s
  | .ckpt t w => Sys2Proof.Machine.execCkpt t w s
  | .stop t w => Sys2Proof.Machine.execStop t w s
  | .storeStart t w mapOk => Sys2Proof.Machine.execStoreStart t w mapOk s
  | .readASpan t via rec => Sys2Proof.Machine.execReadASpan t via rec s
  | .prpReceive t pn f => Sys2Proof.Machine.execPrpReceive t pn f s
  | .supervisionSend t w => Sys2Proof.Machine.execSupervisionSend t w s
  | .portSilent t pn => Sys2Proof.Machine.execPortSilent t pn s
  | .uplinkLinkUp t pn => Sys2Proof.Machine.execUplinkLinkUp t pn s
  | .uplinkLinkDown t pn => Sys2Proof.Machine.execUplinkLinkDown t pn s
  | .uplinkTransmitDescriptor t pn => Sys2Proof.Machine.execUplinkTransmitDescriptor t pn s
  | .timedLaunchLead t pn e => Sys2Proof.Machine.execTimedLaunchLead t pn e s
  | .timedLaunchSend t pn e => Sys2Proof.Machine.execTimedLaunchSend t pn e s
  | .syncReceive t dn pn t1 corr => Sys2Proof.Machine.execSyncReceive t dn pn t1 corr s
  | .announceReceive t dn pn a => Sys2Proof.Machine.execAnnounceReceive t dn pn a s
  | .pdelayReq t pn resp => Sys2Proof.Machine.execPdelayReq t pn resp s
  | .peerDelayMeasurement t pn treq turn => Sys2Proof.Machine.execPeerDelayMeasurement t pn treq turn s
  | .syncTimeout t d => Sys2Proof.Machine.execSyncTimeout t d s
  | .announceReceiptTimeout t d pn => Sys2Proof.Machine.execAnnounceReceiptTimeout t d pn s
  | .holdoverLimit t d => Sys2Proof.Machine.execHoldoverLimit t d s
  | .domainRevert t => Sys2Proof.Machine.execDomainRevert t s
  | .ptimeApply t => Sys2Proof.Machine.execPtimeApply t s
  | .installALease t via rec sigOk => Sys2Proof.Machine.execInstallALease t via rec sigOk s
  | .leaseFloor t => Sys2Proof.Machine.execLeaseFloor t s
  | .leaseFloorFree t group => Sys2Proof.Machine.execLeaseFloorFree t group s
  | .releaseTheLeases t via group => Sys2Proof.Machine.execReleaseTheLeases t via group s
  | .readTheLeases t via group => Sys2Proof.Machine.execReadTheLeases t via group s
  | .leaseRollover t group => Sys2Proof.Machine.execLeaseRollover t group s
  | .leaseUnusable t group => Sys2Proof.Machine.execLeaseUnusable t group s
  | .runADrill t via group leaseSigOk => Sys2Proof.Machine.execRunADrill t via group leaseSigOk s
  | .lastExportNumberImported t via src => Sys2Proof.Machine.execLastExportNumberImported t via src s
  | .dtlsHandshake t iface source chain => Sys2Proof.Machine.execDtlsHandshake t iface source chain s
  | .sessionEnd t n why => Sys2Proof.Machine.execSessionEnd t n why s
  | .segmentReceive t n seg => Sys2Proof.Machine.execSegmentReceive t n seg s
  | .incomplete t n reqId => Sys2Proof.Machine.execIncomplete t n reqId s
  | .getObj t via obj => Sys2Proof.Machine.execGetObj t via obj s
  | .setObj t via obj val => Sys2Proof.Machine.execSetObj t via obj val s
  | .subscribe t n obj body => Sys2Proof.Machine.execSubscribe t n obj body s
  | .unsubscribe t n sub => Sys2Proof.Machine.execUnsubscribe t n sub s
  | .ack t n seq => Sys2Proof.Machine.execAck t n seq s
  | .notify t n => Sys2Proof.Machine.execNotify t n s
  | .notifyRetransmit t n seq => Sys2Proof.Machine.execNotifyRetransmit t n seq s
  | .mailboxGo t w slot => Sys2Proof.Machine.execMailboxGo t w slot s
  | .unreachable t via obj => Sys2Proof.Machine.execUnreachable t via obj s
  | .railTrip t rail => Sys2Proof.Machine.execRailTrip t rail s
  | .wingRailsInRange t => Sys2Proof.Machine.execWingRailsInRange t s
  | .vanaTrip t => Sys2Proof.Machine.execVanaTrip t s
  | .vanaReturn t => Sys2Proof.Machine.execVanaReturn t s
  | .strongroomPowerLost t => Sys2Proof.Machine.execStrongroomPowerLost t s
  | .powerFailDeclared t since => Sys2Proof.Machine.execPowerFailDeclared t since s
  | .graceEnd t => Sys2Proof.Machine.execGraceEnd t s
  | .powerFailFlush t w => Sys2Proof.Machine.execPowerFailFlush t w s
  | .powerFailRecovery t since => Sys2Proof.Machine.execPowerFailRecovery t since s
  | .holdupPublish t mv => Sys2Proof.Machine.execHoldupPublish t mv s
  | .warm t w => Sys2Proof.Machine.execWarm t w s
  | .cold t w => Sys2Proof.Machine.execCold t w s
  | .resetThePart t via kind => Sys2Proof.Machine.execResetThePart t via kind s
  | .rstnLow t release => Sys2Proof.Machine.execRstnLow t release s
  | .porterWatchdog t w => Sys2Proof.Machine.execPorterWatchdog t w s
  | .thermalTrip t => Sys2Proof.Machine.execThermalTrip t s
  | .junctionBelowRecover t => Sys2Proof.Machine.execJunctionBelowRecover t s
  | .quiesceEnd t => Sys2Proof.Machine.execQuiesceEnd t s
  | .domainRelease t w k locked => Sys2Proof.Machine.execDomainRelease t w k locked s
  | .pllLockLost t w pll => Sys2Proof.Machine.execPllLockLost t w pll s
  | .stretchEnd t => Sys2Proof.Machine.execStretchEnd t s
  | .optionLoad t bad => Sys2Proof.Machine.execOptionLoad t bad s
  | .optionLoadNoLink t => Sys2Proof.Machine.execOptionLoadNoLink t s
  | .optionWordSet t via ww v => Sys2Proof.Machine.execOptionWordSet t via ww v s
  | .warmTokenCheck t => Sys2Proof.Machine.execWarmTokenCheck t s
  | .imageHashDone t hash => Sys2Proof.Machine.execImageHashDone t hash s
  | .dramTrainingDone t w ok trcd taa trfc trc => Sys2Proof.Machine.execDramTrainingDone t w ok trcd taa trfc trc s
  | .releaseHeldPinGroups t via w mask => Sys2Proof.Machine.execReleaseHeldPinGroups t via w mask s
  | .beginDownload t via header => Sys2Proof.Machine.execBeginDownload t via header s
  | .writeChunk t via c data => Sys2Proof.Machine.execWriteChunk t via c data s
  | .abandonDownload t via => Sys2Proof.Machine.execAbandonDownload t via s
  | .verify t via => Sys2Proof.Machine.execVerify t via s
  | .verifyHead t head sig => Sys2Proof.Machine.execVerifyHead t head sig s
  | .verifyLms t sig => Sys2Proof.Machine.execVerifyLms t sig s
  | .downloadRecord t header => Sys2Proof.Machine.execDownloadRecord t header s
  | .counterRead t => Sys2Proof.Machine.execCounterRead t s
  | .startTheSlotWrite t via => Sys2Proof.Machine.execStartTheSlotWrite t via s
  | .slotWriteDone t => Sys2Proof.Machine.execSlotWriteDone t s
  | .commitTheActivation t via => Sys2Proof.Machine.execCommitTheActivation t via s
  | .activationReset t => Sys2Proof.Machine.execActivationReset t s
  | .start t slotA slotB bad => Sys2Proof.Machine.execStart t slotA slotB bad s
  | .trialTimeEnd t => Sys2Proof.Machine.execTrialTimeEnd t s
  | .confirm t via arg => Sys2Proof.Machine.execConfirm t via arg s
  | .shuttered t => Sys2Proof.Machine.execShuttered t s
  | .enterTheRecoveryLoader t via => Sys2Proof.Machine.execEnterTheRecoveryLoader t via s
  | .eventRaise t w code src p0 p1 => Sys2Proof.Machine.execEventRaise t w code src p0 p1 s
  | .logSwraise t w v => Sys2Proof.Machine.execLogSwraise t w v s
  | .logbookFlush t w => Sys2Proof.Machine.execLogbookFlush t w s
  | .flushComplete t => Sys2Proof.Machine.execFlushComplete t s
  | .flushEveryWingNow t via => Sys2Proof.Machine.execFlushEveryWingNow t via s
  | .readRecordsFromMram t via arg => Sys2Proof.Machine.execReadRecordsFromMram t via arg s
  | .bellBoardDelivery t w source => Sys2Proof.Machine.execBellBoardDelivery t w source s
  | .bbSwset t w v => Sys2Proof.Machine.execBbSwset t w v s
  | .bbRouteWrite t w source v => Sys2Proof.Machine.execBbRouteWrite t w source v s
  | .bbFlagClear t w bank v hwSet => Sys2Proof.Machine.execBbFlagClear t w bank v hwSet s
  | .strongroomSourceArrival t source => Sys2Proof.Machine.execStrongroomSourceArrival t source s
  | .pathReturnDelivery t w => Sys2Proof.Machine.execPathReturnDelivery t w s
  | .talFrzAtWrite t w v => Sys2Proof.Machine.execTalFrzAtWrite t w v s
  | .armAFreezeOnEveryWing t via p => Sys2Proof.Machine.execArmAFreezeOnEveryWing t via p s
  | .freezeLatch t => Sys2Proof.Machine.execFreezeLatch t s
  | .talSwinc t w v => Sys2Proof.Machine.execTalSwinc t w v s
  | .refreshWindow t w b => Sys2Proof.Machine.execRefreshWindow t w b s
  | .refreshScheduleChange t w hot => Sys2Proof.Machine.execRefreshScheduleChange t w hot s
  | .dramAccessIssue t w rq addr arrived write => Sys2Proof.Machine.execDramAccessIssue t w rq addr arrived write s
  | .dramReadData t w => Sys2Proof.Machine.execDramReadData t w s
  | .engineDramAccess t w addr write => Sys2Proof.Machine.execEngineDramAccess t w addr write s
  | .requestResubmit t w slot => Sys2Proof.Machine.execRequestResubmit t w slot s

end Sys2Proof.Machine
end

