-- ==== Sys2Proof/Safety.lean ====
section
/-! DEFINITION. What a run keeps, in the terms the statements use: the sparse tables that hold registers, counters and
DRAM stay in their canonical form, the part's variant and the waiting commands are nobody's to change, and the cycle
counter never goes back. -/

namespace Sys2Proof

open Machine

/-- Registers, counters and DRAM are in canonical form: keys rising, no entry equal to what an unlisted one reads as. -/
def Canonical (s : State) : Prop :=
  Memory.wf s.dram = true ∧ tabWf regReset s.regs = true ∧ tabWf (fun _ => (0 : Nat)) s.cnt = true

/-- What a command leaves as it was, and where it may only go forward: the variant (R12), the queue's rest, the cycle
counter (R17), canonical form. -/
structure Follows (s u : State) : Prop where
  part    : u.part = s.part
  pending : u.pending = s.pending
  now     : s.clk.now ≤ u.clk.now
  dram    : Memory.wf s.dram = true → Memory.wf u.dram = true
  regs    : tabWf regReset s.regs = true → tabWf regReset u.regs = true
  cnt     : tabWf (fun _ => (0 : Nat)) s.cnt = true → tabWf (fun _ => (0 : Nat)) u.cnt = true

/-- The pieces of the state, for saying what a command leaves as it was. -/
inductive Part where
  | clk | regs | cnt | dram | objs | octs | fab | mode | log | bell | tally | mat | tt | cap | armed | emp | sr | air | mac
  | ptp | lease | ing | bill | prepay | audit | nand | store | power | ddr | lans | pairs | upd | free | clash
  deriving DecidableEq, Repr

/-- Address `a` lies in wing `w`'s event ring, where the Logbook writes a record as it is raised and, 200 FCLK later, the
record's sequence (R431). -/
abbrev inEventRing (s : State) (w a : Nat) : Prop :=
  regF s (logRingCfg w) 5 5 = 1 ∧ regF s (logRingCfg w) 63 12 * 4096 ≤ a ∧
  a < regF s (logRingCfg w) 63 12 * 4096 + 2 ^ ringLog2 (regF s (logRingCfg w) 4 0) 12 16 12 * 32

/-- A piece of the state is the same in two states. DRAM: the event rings stand where they stood, and every byte outside
them reads as before. -/
def Part.same : Part → State → State → Prop
  | .clk, s, u => u.clk = s.clk
  | .regs, s, u => u.regs = s.regs
  | .cnt, s, u => u.cnt = s.cnt
  | .dram, s, u => (∀ w, regGet u (logRingCfg w) = regGet s (logRingCfg w)) ∧
      ∀ a, (∀ w, ¬inEventRing s w a) → dramByte u a = dramByte s a
  | .objs, s, u => u.objs = s.objs
  | .octs, s, u => u.octs = s.octs
  | .fab, s, u => u.fab = s.fab
  | .mode, s, u => u.mode = s.mode
  | .log, s, u => u.log = s.log
  | .bell, s, u => u.bell = s.bell
  | .tally, s, u => u.tally = s.tally
  | .mat, s, u => u.mat = s.mat
  | .tt, s, u => u.tt = s.tt
  | .cap, s, u => u.cap = s.cap
  | .armed, s, u => u.armed = s.armed
  | .emp, s, u => u.emp = s.emp
  | .sr, s, u => u.sr = s.sr
  | .air, s, u => u.air = s.air
  | .mac, s, u => u.mac = s.mac
  | .ptp, s, u => u.ptp = s.ptp
  | .lease, s, u => u.lease = s.lease
  | .ing, s, u => u.ing = s.ing
  | .bill, s, u => u.bill = s.bill
  | .prepay, s, u => u.prepay = s.prepay
  | .audit, s, u => u.audit = s.audit
  | .nand, s, u => u.nand = s.nand
  | .store, s, u => u.store = s.store
  | .power, s, u => u.power = s.power
  | .ddr, s, u => u.ddr = s.ddr
  | .lans, s, u => u.lans = s.lans
  | .pairs, s, u => u.pairs = s.pairs
  | .upd, s, u => u.upd = s.upd
  | .free, s, u => u.free = s.free
  | .clash, s, u => u.clash = s.clash

/-- Every piece of the state outside a list is as it was. -/
def Keeps (l : List Part) (s u : State) : Prop := ∀ p, p ∉ l → p.same s u

/-- The fabric cycle a command takes place at: the one it carries. -/
def Instr.cycle : Instr → Nat
  | .supplyAuth t _ _ _ _ _
  | .registerWrite t _ _ _ _ | .busError t _ _ _ | .fabricMessageArrival t _ | .remoteRegisterReadDone t _ _ _
  | .corridorLinkLost t _ _ | .corridorRetrainStart t _ _ | .corridorLinkRetrained t _ _
  | .corridorRetrainFailed t _ _ | .modeRequest t _ _ | .cclkDividerChange t | .nightAuditLaneChange t | .corePark t _
  | .coreResume t | .zeroCrossing t _ _ _ _ | .matLoss t | .sourceChannelChange t | .matUpdateApply t
  | .replicaStale t _ | .timetableGo t _ _ | .timetableStop t _ _ | .timetableFire t _ _ | .airLaunchLead t _ _
  | .captureEnd t | .metrologySample t _ | .armResponse t _ _ _ | .disarmSlot t _ _ | .armedResponseExpiry t _
  | .armedTriggerDecision t _ | .fireCycle t _ | .armedFrameStart t _ _ | .armedUplinkCopy t _ _ | .portEnable t _ _
  | .portDisable t _ _ | .train t _ _ | .alignmentGained t _ _ | .alignmentLost t _ _ | .preambleDetect t _ _ _ _
  | .laneGrant t _ | .watcherWithdraw t _ _ _ _ _ | .laneAcquired t _ _ | .sfdTimeout t _ _ _ _ | .sfdFound t _ _ _
  | .frameEnd t _ _ _ _ _ _ | .sourceAddressLookup t _ _ _ _ | .ownerCommit t _ _ | .macVerdict t _ _ | .ackTxen t _ _
  | .txDescriptorPost t _ _ _ | .transmissionEnd t _ _ | .txenRelease t _ _ | .blankingEnd t _ _ | .spiGo t _ _ _
  | .spiComplete t _ _ _ | .clipReport t _ _ _ | .keyMaterialWrite t _ _ _ | .keyStateWrite t _ _ _
  | .armedKeyWrite t _ _ | .counterRequest t _ _ _ _ | .counterAssign t | .counterBlockReserve t _
  | .ackWaitTimeout t _ | .sendRequestTake t _ | .csmaBackoffEnd t _ | .ccaEnd t _ _ _ | .enhancedBeaconInterval t
  | .parentWindowClose t | .scanEnd t | .takeParent t _ _ | .floodAtWing0 t | .relayHoldEnd t | .floodRequest t _ _
  | .floodRepetition t _ | .floodExpired t _ | .seenCacheExpiry t _ | .nbrRead t _ _ | .nbrPin t _ _ | .nbrUnpin t _ _
  | .lookUpEntryByAddress t _ _ | .pinEntryByAddress t _ _ | .unpinEntryByAddress t _ _ | .provision t _ _
  | .deprovision t _ _ | .suspend t _ _ | .resume t _ _ | .setDed t _ _ _ | .clearDed t _ _ | .rekey t _ _ _
  | .pinEndpoint t _ _ | .unpinEndpoint t _ _ | .exportSession t _ _ | .importSession t _ _ _ _ _
  | .lookUpEndpointByIndex t _ _ | .carriedFrame t _ _ | .admission t _ | .batchClose t _ | .fill t _ _
  | .signatureVerifyStart t _ | .checkinOutcome t _ | .gbRead t _ _ | .gbPin t _ _ | .gbUnpin t _ _ | .writeback t _ _
  | .holdReply t _ _ | .flushGuestBook t _ | .stagingConfirm t _ _ | .directorySweep t _ | .linkFrameReceive t _ _ _ _
  | .guardRead t _ _ _ | .guardWrite t _ _ _ | .logAppend t _ _ _ | .linkIdle t _ _ | .strongroomLinkDown t _
  | .strongroomLinkTrained t _ _ _ | .strongroomTrainingRetry t _ | .carryingChange t | .strongroomReset t _ _
  | .commit t | .legalSet t _ _ _ _ | .legalExec t _ _ _ _ | .switchToVbak t _ _ | .returnToVsr t _ _
  | .metrologyRestart t _ | .metrologyCycleEnd t _ | .tamperInputChange t _ _ _ | .readTheRegisterBook t _ _
  | .acknowledgeTheRegisterBook t _ _ | .keeperTick t | .disciplineComparison t | .clockStep t | .setLtime t _ _ _
  | .profileIntervalEnd t | .demandSubperiodEnd t | .billingPeriodEnd t | .endTheBillingPeriodNow t _ _
  | .taiUtcChange t | .calendarActivation t | .tariffSwitch t | .repeatGenerationReset t | .powerFailCapture t
  | .powerUpCapture t | .calendarImageWrite t _ _ _ | .withdrawThePassiveCalendar t _ _ | .rateAndPriceAtAnLtime t _ _
  | .readSnapshotByAge t _ _ | .readProfileRecords t _ _ | .consistentRegisterSet t _ _ | .minutePublish t
  | .chargeSend t _ | .charge t _ | .voucher t _ _ _ | .dueScan t _ | .supplyConfirm t _ _ _ _
  | .authorisationLapse t _ | .openAccount t _ _ _ | .closeAccount t _ _ _ | .setPlan t _ _ _ | .readAccount t _ _
  | .friendlyHoursWrite t _ _ _ | .intervalFold t _ | .voltageFold t _ | .assignEndpoint t _ _ | .assignmentEffect t _
  | .commitThePendingSegmentTable t _ _ | .auditJobReady t | .closeJobStart t | .closeJobEnd t
  | .identificationJobStart t _ | .identificationJobEnd t _ | .identificationSkipped t _
  | .readEndpointAuditState t _ _ | .readResults t _ _ | .readLocalisationRecords t _ _ | .profileDecision t _
  | .intakeUnitClose t _ | .programComplete t _ _ | .pageReadComplete t _ _ _ _ | .eraseComplete t _ _ _
  | .spanSeal t _ | .sealDone t _ | .latePath t _ | .patchMerge t _ | .dayExpiry t _ | .garbageCollection t _
  | .wearMove t _ | .bakeHours t _ _ | .refresh t _ _ | .checkpoint t _ | .ckpt t _ | .stop t _ | .storeStart t _ _
  | .readASpan t _ _ | .prpReceive t _ _ | .supervisionSend t _ | .portSilent t _ | .uplinkLinkUp t _
  | .uplinkLinkDown t _ | .uplinkTransmitDescriptor t _ | .timedLaunchLead t _ _ | .timedLaunchSend t _ _
  | .syncReceive t _ _ _ _ | .announceReceive t _ _ _ | .pdelayReq t _ _ | .peerDelayMeasurement t _ _ _
  | .syncTimeout t _ | .announceReceiptTimeout t _ _ | .holdoverLimit t _ | .domainRevert t | .ptimeApply t
  | .installALease t _ _ _ | .leaseFloor t | .leaseFloorFree t _ | .releaseTheLeases t _ _ | .readTheLeases t _ _
  | .leaseRollover t _ | .leaseUnusable t _ | .runADrill t _ _ _ | .lastExportNumberImported t _ _
  | .dtlsHandshake t _ _ _ | .sessionEnd t _ _ | .segmentReceive t _ _ | .incomplete t _ _ | .getObj t _ _
  | .setObj t _ _ _ | .subscribe t _ _ _ | .unsubscribe t _ _ | .ack t _ _ | .notify t _ | .notifyRetransmit t _ _
  | .mailboxGo t _ _ | .unreachable t _ _ | .railTrip t _ | .wingRailsInRange t | .vanaTrip t | .vanaReturn t
  | .strongroomPowerLost t | .powerFailDeclared t _ | .graceEnd t | .powerFailFlush t _ | .powerFailRecovery t _
  | .holdupPublish t _ | .warm t _ | .cold t _ | .resetThePart t _ _ | .rstnLow t _ | .porterWatchdog t _
  | .thermalTrip t | .junctionBelowRecover t | .quiesceEnd t | .domainRelease t _ _ _ | .pllLockLost t _ _
  | .stretchEnd t | .optionLoad t _ | .optionLoadNoLink t | .optionWordSet t _ _ _ | .warmTokenCheck t
  | .imageHashDone t _ | .dramTrainingDone t _ _ _ _ _ _ | .releaseHeldPinGroups t _ _ _ | .beginDownload t _ _
  | .writeChunk t _ _ _ | .abandonDownload t _ | .verify t _ | .verifyHead t _ _ | .verifyLms t _
  | .downloadRecord t _ | .counterRead t | .startTheSlotWrite t _ | .slotWriteDone t | .commitTheActivation t _
  | .activationReset t | .start t _ _ _ | .trialTimeEnd t | .confirm t _ _ | .shuttered t
  | .enterTheRecoveryLoader t _ | .eventRaise t _ _ _ _ _ | .logSwraise t _ _ | .logbookFlush t _ | .flushComplete t
  | .flushEveryWingNow t _ | .readRecordsFromMram t _ _ | .bellBoardDelivery t _ _ | .bbSwset t _ _
  | .bbRouteWrite t _ _ _ | .bbFlagClear t _ _ _ _ | .strongroomSourceArrival t _ | .pathReturnDelivery t _
  | .talFrzAtWrite t _ _ | .armAFreezeOnEveryWing t _ _ | .freezeLatch t | .talSwinc t _ _ | .refreshWindow t _ _
  | .refreshScheduleChange t _ _ | .dramAccessIssue t _ _ _ _ _ | .dramReadData t _ | .engineDramAccess t _ _ _
  | .requestResubmit t _ _ => t

/-- The pieces of the state that a command may change once its cycle has come (time itself moves `clk` and `mat`). Every
other one it leaves as it was; DRAM that it does not name, it leaves but for the event rings. -/
def Instr.touches : Instr → List Part
  | .registerWrite _ _ _ _ _ =>
    [.clk, .regs, .cnt, .dram, .objs, .fab, .mode, .log, .bell, .tally, .mat, .tt, .cap, .armed, .emp, .sr, .air,
     .mac, .ptp, .lease, .ing, .audit, .store, .power, .ddr, .lans, .pairs, .upd, .free, .clash]
  | .busError _ _ _ _ | .fabricMessageArrival _ _ =>
    [.cnt, .fab]
  | .remoteRegisterReadDone _ _ _ _ =>
    [.cnt, .fab, .free]
  | .corridorLinkLost _ _ _ | .corridorLinkRetrained _ _ _ | .corridorRetrainFailed _ _ _ =>
    [.regs, .cnt, .objs, .fab, .log, .bell, .clash]
  | .corridorRetrainStart _ _ _ =>
    [.fab]
  | .modeRequest _ _ _ =>
    [.regs, .cnt, .dram, .objs, .mode, .log, .bell, .tt, .cap, .emp, .sr, .ptp, .ing, .audit, .lans, .pairs, .clash]
  | .cclkDividerChange _ | .nightAuditLaneChange _ =>
    [.regs, .mode]
  | .corePark _ _ | .coreResume _ =>
    [.mode]
  | .zeroCrossing _ _ _ _ _ =>
    [.regs, .cnt, .log, .bell, .mat, .armed, .sr, .clash]
  | .matLoss _ =>
    [.regs, .cnt, .log, .bell, .mat, .sr, .clash]
  | .sourceChannelChange _ =>
    [.regs, .cnt, .log, .bell, .mat, .clash]
  | .matUpdateApply _ =>
    [.mat]
  | .replicaStale _ _ =>
    [.regs, .cnt, .objs, .log, .bell, .mat, .clash]
  | .timetableGo _ _ _ =>
    [.regs, .cnt, .objs, .log, .bell, .tt, .clash]
  | .timetableStop _ _ _ =>
    [.regs, .cnt, .dram, .objs, .mode, .log, .bell, .tt, .cap, .air, .mac, .ptp, .ing, .audit, .lans, .pairs, .clash]
  | .timetableFire _ _ _ =>
    [.regs, .cnt, .dram, .objs, .mode, .log, .bell, .tt, .cap, .ptp, .ing, .audit, .lans, .pairs, .clash]
  | .airLaunchLead _ _ _ | .portDisable _ _ _ =>
    [.regs, .cnt, .dram, .objs, .log, .bell, .tt, .air, .mac, .clash]
  | .captureEnd _ =>
    [.dram, .bell, .cap]
  | .metrologySample _ _ =>
    [.dram, .bell, .cap, .sr]
  | .armResponse _ _ _ _ =>
    [.regs, .cnt, .dram, .objs, .log, .bell, .armed, .emp, .sr, .air, .lease, .free, .clash]
  | .disarmSlot _ _ _ =>
    [.regs, .cnt, .dram, .objs, .log, .bell, .armed, .emp, .sr, .air, .clash]
  | .armedResponseExpiry _ _ =>
    [.regs, .cnt, .objs, .log, .bell, .armed, .air, .clash]
  | .armedTriggerDecision _ _ =>
    [.log, .bell, .armed, .sr]
  | .fireCycle _ _ =>
    [.regs, .cnt, .dram, .objs, .log, .bell, .tt, .armed, .air, .mac, .clash]
  | .armedFrameStart _ _ _ | .preambleDetect _ _ _ _ _ | .laneGrant _ _ | .laneAcquired _ _ _
  | .sourceAddressLookup _ _ _ _ _ | .blankingEnd _ _ _ =>
    [.air]
  | .armedUplinkCopy _ _ _ =>
    [.cnt, .armed, .lans, .pairs]
  | .portEnable _ _ _ | .spiComplete _ _ _ _ =>
    [.regs, .air]
  | .train _ _ _ =>
    [.regs, .cnt, .air, .clash]
  | .alignmentGained _ _ _ | .alignmentLost _ _ _ | .spiGo _ _ _ _ | .clipReport _ _ _ _ =>
    [.regs, .cnt, .objs, .log, .bell, .air, .clash]
  | .watcherWithdraw _ _ _ _ _ _ =>
    [.regs, .cnt, .bell, .air, .clash]
  | .sfdTimeout _ _ _ _ _ =>
    [.cnt, .air]
  | .sfdFound _ _ _ _ | .carriedFrame _ _ _ =>
    [.regs, .cnt, .dram, .objs, .log, .bell, .air, .ing, .clash]
  | .frameEnd _ _ _ _ _ _ _ =>
    [.cnt, .air, .ing]
  | .ownerCommit _ _ _ | .counterRequest _ _ _ _ _ | .ccaEnd _ _ _ _ =>
    [.regs, .cnt, .dram, .objs, .log, .bell, .air, .mac, .clash]
  | .macVerdict _ _ _ =>
    [.regs, .cnt, .dram, .objs, .log, .bell, .air, .mac, .ing, .clash]
  | .ackTxen _ _ _ =>
    [.regs, .cnt, .air]
  | .txDescriptorPost _ _ _ _ | .transmissionEnd _ _ _ | .txenRelease _ _ _ =>
    [.regs, .cnt, .dram, .bell, .air, .mac, .clash]
  | .keyMaterialWrite _ _ _ _ =>
    [.regs, .cnt, .dram, .objs, .octs, .bell, .emp, .sr, .mac, .clash]
  | .keyStateWrite _ _ _ _ =>
    [.regs, .cnt, .dram, .objs, .bell, .emp, .sr, .clash]
  | .armedKeyWrite _ _ _ =>
    [.regs, .cnt, .dram, .objs, .octs, .bell, .emp, .sr, .clash]
  | .counterAssign _ =>
    [.regs, .cnt, .dram, .objs, .log, .bell, .sr, .air, .mac, .clash]
  | .counterBlockReserve _ _ =>
    [.dram, .sr, .mac]
  | .ackWaitTimeout _ _ | .floodAtWing0 _ =>
    [.regs, .cnt, .dram, .objs, .log, .bell, .mac, .clash]
  | .sendRequestTake _ _ =>
    [.regs, .cnt, .dram, .objs, .log, .bell, .mac, .lease, .clash]
  | .csmaBackoffEnd _ _ | .floodRepetition _ _ | .seenCacheExpiry _ _ =>
    [.mac]
  | .enhancedBeaconInterval _ | .parentWindowClose _ | .scanEnd _ | .relayHoldEnd _ | .floodExpired _ _ =>
    [.regs, .cnt, .objs, .log, .bell, .mac, .clash]
  | .takeParent _ _ _ | .provision _ _ _ =>
    [.regs, .cnt, .dram, .objs, .log, .bell, .emp, .sr, .mac, .clash]
  | .floodRequest _ _ _ =>
    [.regs, .cnt, .dram, .objs, .log, .bell, .emp, .sr, .mac, .lease, .clash]
  | .nbrRead _ _ _ | .ckpt _ _ =>
    [.regs]
  | .nbrPin _ _ _ | .nbrUnpin _ _ _ =>
    [.regs, .mac]
  | .lookUpEntryByAddress _ _ _ | .readTheRegisterBook _ _ _ | .acknowledgeTheRegisterBook _ _ _
  | .rateAndPriceAtAnLtime _ _ _ | .readSnapshotByAge _ _ _ | .readProfileRecords _ _ _ | .consistentRegisterSet _ _ _
  | .readAccount _ _ _ | .readEndpointAuditState _ _ _ | .readResults _ _ _ | .readLocalisationRecords _ _ _
  | .readASpan _ _ _ | .readTheLeases _ _ _ | .lastExportNumberImported _ _ _ | .segmentReceive _ _ _
  | .subscribe _ _ _ _ | .unsubscribe _ _ _ | .readRecordsFromMram _ _ _ =>
    [.regs, .cnt, .dram, .bell, .emp, .sr, .clash]
  | .pinEntryByAddress _ _ _ | .unpinEntryByAddress _ _ _ =>
    [.regs, .cnt, .dram, .bell, .emp, .sr, .mac, .clash]
  | .deprovision _ _ _ | .suspend _ _ _ | .exportSession _ _ _ =>
    [.regs, .cnt, .dram, .objs, .log, .bell, .emp, .sr, .mac, .ing, .clash]
  | .resume _ _ _ | .setDed _ _ _ _ | .clearDed _ _ _ | .rekey _ _ _ _ | .pinEndpoint _ _ _ | .unpinEndpoint _ _ _
  | .lookUpEndpointByIndex _ _ _ =>
    [.regs, .cnt, .dram, .objs, .log, .bell, .emp, .sr, .ing, .clash]
  | .importSession _ _ _ _ _ _ =>
    [.regs, .cnt, .dram, .objs, .log, .bell, .emp, .sr, .lease, .ing, .clash]
  | .admission _ _ =>
    [.regs, .cnt, .objs, .log, .bell, .ing, .clash]
  | .batchClose _ _ | .signatureVerifyStart _ _ =>
    [.ing]
  | .fill _ _ _ =>
    [.regs, .cnt, .dram, .objs, .log, .bell, .ing, .clash]
  | .checkinOutcome _ _ =>
    [.regs, .cnt, .dram, .objs, .log, .bell, .emp, .sr, .air, .mac, .ing, .clash]
  | .gbRead _ _ _ | .gbUnpin _ _ _ =>
    [.regs, .dram, .ing]
  | .gbPin _ _ _ | .writeback _ _ _ | .flushGuestBook _ _ =>
    [.regs, .cnt, .dram, .ing]
  | .holdReply _ _ _ =>
    [.regs, .dram, .mac, .ing]
  | .stagingConfirm _ _ _ =>
    [.regs, .cnt, .dram, .bell, .ing, .clash]
  | .directorySweep _ _ | .profileDecision _ _ =>
    [.regs, .cnt, .dram, .objs, .log, .bell, .ing, .store, .clash]
  | .linkFrameReceive _ _ _ _ _ | .logAppend _ _ _ _ | .strongroomLinkDown _ _ =>
    [.regs, .cnt, .objs, .fab, .log, .bell, .sr, .clash]
  | .guardRead _ _ _ _ =>
    [.regs, .cnt, .objs, .fab, .log, .bell, .sr, .free, .clash]
  | .guardWrite _ _ _ _ =>
    [.regs, .cnt, .dram, .objs, .fab, .log, .bell, .sr, .clash]
  | .linkIdle _ _ _ | .strongroomLinkTrained _ _ _ _ | .strongroomTrainingRetry _ _ | .vanaReturn _ =>
    [.sr]
  | .carryingChange _ =>
    [.regs, .cnt, .objs, .log, .bell, .armed, .sr, .air, .clash]
  | .strongroomReset _ _ _ =>
    [.clk, .regs, .cnt, .dram, .objs, .octs, .log, .bell, .mat, .tt, .cap, .sr, .mac, .lease, .bill, .prepay, .power,
     .upd, .clash]
  | .commit _ =>
    [.objs, .log, .bell, .sr]
  | .legalSet _ _ _ _ _ =>
    [.regs, .cnt, .dram, .objs, .octs, .bell, .emp, .sr, .bill, .clash]
  | .legalExec _ _ _ _ _ =>
    [.clk, .regs, .cnt, .dram, .objs, .octs, .log, .bell, .emp, .sr, .bill, .prepay, .clash]
  | .switchToVbak _ _ _ =>
    [.clk, .regs, .cnt, .dram, .objs, .log, .bell, .mat, .cap, .armed, .sr, .bill, .clash]
  | .returnToVsr _ _ _ =>
    [.regs, .cnt, .dram, .objs, .log, .bell, .mat, .tt, .cap, .sr, .bill, .clash]
  | .metrologyRestart _ _ | .repeatGenerationReset _ =>
    [.objs, .sr]
  | .metrologyCycleEnd _ _ =>
    [.objs, .bell, .sr, .bill]
  | .tamperInputChange _ _ _ _ =>
    [.objs, .bell, .sr]
  | .keeperTick _ =>
    [.objs, .sr, .bill]
  | .disciplineComparison _ =>
    [.clk, .objs, .log, .bill]
  | .clockStep _ | .profileIntervalEnd _ | .demandSubperiodEnd _ | .billingPeriodEnd _ | .taiUtcChange _ =>
    [.clk, .objs, .log, .bell, .sr, .bill]
  | .setLtime _ _ _ _ =>
    [.clk, .regs, .cnt, .dram, .objs, .log, .bell, .emp, .sr, .bill, .clash]
  | .endTheBillingPeriodNow _ _ _ =>
    [.regs, .cnt, .dram, .bell, .emp, .sr, .bill, .clash]
  | .calendarActivation _ | .tariffSwitch _ | .powerFailCapture _ =>
    [.clk, .objs, .octs, .log, .bell, .sr, .bill]
  | .powerUpCapture _ | .minutePublish _ =>
    [.sr, .bill]
  | .calendarImageWrite _ _ _ _ | .withdrawThePassiveCalendar _ _ _ | .friendlyHoursWrite _ _ _ _ =>
    [.regs, .cnt, .dram, .octs, .bell, .emp, .sr, .clash]
  | .chargeSend _ _ =>
    [.sr, .prepay]
  | .charge _ _ =>
    [.regs, .cnt, .dram, .objs, .log, .bell, .emp, .sr, .ing, .prepay, .free, .clash]
  | .voucher _ _ _ _ =>
    [.regs, .cnt, .dram, .objs, .log, .bell, .emp, .sr, .prepay, .clash]
  | .dueScan _ _ | .supplyConfirm _ _ _ _ _ =>
    [.dram, .sr, .prepay]
  | .supplyAuth _ _ _ _ _ _ =>
    [.clk, .regs, .cnt, .dram, .objs, .log, .bell, .mat, .sr, .lease, .prepay, .clash]
  | .authorisationLapse _ _ =>
    [.objs, .sr, .prepay]
  | .openAccount _ _ _ _ | .closeAccount _ _ _ _ =>
    [.regs, .cnt, .dram, .objs, .bell, .emp, .sr, .prepay, .clash]
  | .setPlan _ _ _ _ =>
    [.regs, .cnt, .dram, .bell, .emp, .sr, .prepay, .clash]
  | .intervalFold _ _ =>
    [.regs, .cnt, .dram, .objs, .log, .bell, .ing, .audit, .clash]
  | .voltageFold _ _ =>
    [.regs, .cnt, .dram, .bell, .ing, .audit, .clash]
  | .assignEndpoint _ _ _ =>
    [.regs, .cnt, .dram, .bell, .emp, .sr, .audit, .store, .clash]
  | .assignmentEffect _ _ =>
    [.dram, .audit]
  | .commitThePendingSegmentTable _ _ _ =>
    [.regs, .cnt, .dram, .objs, .log, .bell, .emp, .sr, .audit, .clash]
  | .auditJobReady _ =>
    [.cnt, .audit]
  | .closeJobStart _ | .identificationJobStart _ _ =>
    [.regs, .audit]
  | .closeJobEnd _ =>
    [.regs, .cnt, .dram, .objs, .log, .bell, .audit, .free, .clash]
  | .identificationJobEnd _ _ =>
    [.regs, .cnt, .dram, .objs, .log, .bell, .audit, .store, .clash]
  | .identificationSkipped _ _ =>
    [.regs, .cnt, .dram, .objs, .log, .bell, .audit, .clash]
  | .intakeUnitClose _ _ | .spanSeal _ _ | .patchMerge _ _ | .dayExpiry _ _ | .garbageCollection _ _ | .wearMove _ _
  | .refresh _ _ _ | .checkpoint _ _ | .stop _ _ =>
    [.regs, .cnt, .objs, .log, .bell, .store, .clash]
  | .programComplete _ _ _ =>
    [.regs, .cnt, .dram, .objs, .octs, .log, .bell, .emp, .sr, .ing, .store, .power, .upd, .clash]
  | .pageReadComplete _ _ _ _ _ =>
    [.regs, .cnt, .dram, .objs, .log, .bell, .ing, .store, .power, .clash]
  | .eraseComplete _ _ _ _ =>
    [.regs, .cnt, .objs, .log, .bell, .store, .power, .clash]
  | .sealDone _ _ | .storeStart _ _ _ =>
    [.regs, .cnt, .dram, .objs, .log, .bell, .store, .clash]
  | .latePath _ _ =>
    [.regs, .cnt, .dram, .bell, .ing, .store, .clash]
  | .bakeHours _ _ _ =>
    [.store]
  | .prpReceive _ _ _ =>
    [.regs, .cnt, .dram, .objs, .log, .bell, .lans, .pairs, .clash]
  | .supervisionSend _ _ =>
    [.cnt, .lans, .pairs]
  | .portSilent _ _ | .uplinkLinkUp _ _ | .eventRaise _ _ _ _ _ _ | .logSwraise _ _ _ | .logbookFlush _ _ =>
    [.regs, .cnt, .objs, .log, .bell, .clash]
  | .uplinkLinkDown _ _ =>
    [.regs, .cnt, .dram, .objs, .log, .bell, .ptp, .lans, .clash]
  | .uplinkTransmitDescriptor _ _ =>
    [.regs, .cnt, .dram, .bell, .lans, .pairs, .clash]
  | .timedLaunchLead _ _ _ =>
    [.regs, .cnt, .dram, .objs, .log, .bell, .tt, .lans, .clash]
  | .timedLaunchSend _ _ _ =>
    [.regs, .cnt, .dram, .objs, .log, .bell, .tt, .lans, .pairs, .clash]
  | .syncReceive _ _ _ _ _ =>
    [.clk, .regs, .cnt, .objs, .log, .bell, .ptp, .lans, .clash]
  | .announceReceive _ _ _ _ | .peerDelayMeasurement _ _ _ _ =>
    [.regs, .cnt, .objs, .log, .bell, .ptp, .lans, .clash]
  | .pdelayReq _ _ _ =>
    [.regs, .cnt, .objs, .log, .bell, .lans, .clash]
  | .syncTimeout _ _ | .announceReceiptTimeout _ _ _ | .holdoverLimit _ _ =>
    [.clk, .regs, .cnt, .objs, .log, .bell, .ptp, .clash]
  | .domainRevert _ =>
    [.ptp]
  | .ptimeApply _ =>
    [.clk]
  | .installALease _ _ _ _ | .leaseFloor _ =>
    [.regs, .cnt, .dram, .objs, .log, .bell, .emp, .sr, .lease, .clash]
  | .leaseFloorFree _ _ =>
    [.sr, .lease]
  | .releaseTheLeases _ _ _ =>
    [.regs, .cnt, .dram, .objs, .log, .bell, .armed, .emp, .sr, .air, .lease, .clash]
  | .leaseRollover _ _ =>
    [.lease]
  | .leaseUnusable _ _ =>
    [.regs, .cnt, .objs, .log, .bell, .armed, .air, .lease, .clash]
  | .runADrill _ _ _ _ =>
    [.regs, .cnt, .dram, .objs, .log, .bell, .emp, .sr, .clash]
  | .dtlsHandshake _ _ _ _ | .sessionEnd _ _ _ | .incomplete _ _ _ | .notify _ _ | .notifyRetransmit _ _ _ =>
    [.regs, .cnt, .objs, .log, .bell, .emp, .clash]
  | .getObj _ _ _ =>
    [.regs, .cnt, .dram, .bell, .emp, .sr, .free, .clash]
  | .setObj _ _ _ _ | .unreachable _ _ _ =>
    [.clk, .regs, .cnt, .dram, .objs, .octs, .fab, .mode, .log, .bell, .tally, .mat, .tt, .cap, .armed, .emp, .sr,
     .air, .mac, .ptp, .lease, .ing, .audit, .store, .power, .ddr, .lans, .pairs, .upd, .free, .clash]
  | .ack _ _ _ =>
    [.emp]
  | .mailboxGo _ _ _ =>
    [.regs, .cnt, .dram, .bell, .emp, .clash]
  | .railTrip _ _ | .powerFailFlush _ _ | .powerFailRecovery _ _ | .warm _ _ | .cold _ _ | .resetThePart _ _ _
  | .rstnLow _ _ | .porterWatchdog _ _ | .quiesceEnd _ | .pllLockLost _ _ _ | .activationReset _ | .trialTimeEnd _
  | .shuttered _ | .enterTheRecoveryLoader _ _ =>
    [.regs, .cnt, .dram, .objs, .fab, .mode, .log, .bell, .tally, .mat, .tt, .cap, .armed, .emp, .sr, .air, .mac,
     .ptp, .lease, .ing, .audit, .store, .power, .ddr, .lans, .pairs, .upd, .free, .clash]
  | .wingRailsInRange _ | .junctionBelowRecover _ | .stretchEnd _ | .imageHashDone _ _ =>
    [.power]
  | .vanaTrip _ =>
    [.dram, .objs, .bell, .mat, .cap, .sr]
  | .strongroomPowerLost _ =>
    [.regs, .cnt, .dram, .objs, .fab, .log, .bell, .mat, .cap, .sr, .clash]
  | .powerFailDeclared _ _ =>
    [.clk, .regs, .cnt, .dram, .objs, .log, .bell, .mat, .tt, .air, .mac, .ing, .power, .clash]
  | .graceEnd _ =>
    [.regs, .cnt, .mode, .air, .audit, .power]
  | .holdupPublish _ _ | .optionLoadNoLink _ | .flushComplete _ =>
    [.regs, .cnt, .objs, .log, .bell, .power, .clash]
  | .thermalTrip _ =>
    [.regs, .cnt, .dram, .objs, .log, .bell, .tt, .air, .mac, .ing, .power, .clash]
  | .domainRelease _ _ _ _ =>
    [.clk, .regs, .cnt, .dram, .objs, .fab, .mode, .log, .bell, .tally, .mat, .tt, .cap, .armed, .emp, .sr, .air,
     .mac, .ptp, .lease, .ing, .prepay, .audit, .store, .power, .ddr, .lans, .pairs, .upd, .free, .clash]
  | .optionLoad _ _ =>
    [.regs, .cnt, .dram, .objs, .log, .bell, .sr, .power, .clash]
  | .optionWordSet _ _ _ _ =>
    [.regs, .cnt, .dram, .objs, .log, .bell, .emp, .sr, .power, .clash]
  | .warmTokenCheck _ =>
    [.regs, .cnt, .dram, .objs, .log, .bell, .sr, .upd, .clash]
  | .dramTrainingDone _ _ _ _ _ _ _ =>
    [.regs, .cnt, .objs, .log, .bell, .power, .ddr, .clash]
  | .releaseHeldPinGroups _ _ _ _ | .flushEveryWingNow _ _ =>
    [.regs, .cnt, .dram, .objs, .fab, .log, .bell, .emp, .sr, .clash]
  | .beginDownload _ _ _ | .writeChunk _ _ _ _ =>
    [.regs, .cnt, .dram, .objs, .octs, .log, .bell, .emp, .sr, .store, .upd, .clash]
  | .abandonDownload _ _ =>
    [.regs, .cnt, .dram, .octs, .bell, .emp, .sr, .store, .upd, .clash]
  | .verify _ _ | .commitTheActivation _ _ | .confirm _ _ _ =>
    [.regs, .cnt, .dram, .objs, .log, .bell, .emp, .sr, .upd, .clash]
  | .verifyHead _ _ _ | .verifyLms _ _ =>
    [.dram, .sr, .upd]
  | .downloadRecord _ _ =>
    [.dram, .octs, .sr]
  | .counterRead _ =>
    [.dram, .sr]
  | .startTheSlotWrite _ _ =>
    [.regs, .cnt, .dram, .bell, .emp, .sr, .upd, .clash]
  | .slotWriteDone _ =>
    [.upd, .free]
  | .start _ _ _ _ =>
    [.regs, .cnt, .dram, .objs, .log, .bell, .sr, .power, .upd, .clash]
  | .bellBoardDelivery _ _ _ | .bbSwset _ _ _ | .strongroomSourceArrival _ _ =>
    [.regs, .cnt, .bell, .clash]
  | .bbRouteWrite _ _ _ _ | .bbFlagClear _ _ _ _ _ =>
    [.regs, .cnt, .bell]
  | .pathReturnDelivery _ _ =>
    [.cnt, .bell]
  | .talFrzAtWrite _ _ _ | .freezeLatch _ =>
    [.regs, .cnt, .objs, .log, .bell, .tally, .free, .clash]
  | .armAFreezeOnEveryWing _ _ _ =>
    [.regs, .cnt, .dram, .objs, .fab, .log, .bell, .tally, .emp, .sr, .free, .clash]
  | .talSwinc _ _ _ =>
    [.cnt]
  | .refreshWindow _ _ _ | .refreshScheduleChange _ _ _ =>
    [.regs, .ddr]
  | .dramAccessIssue _ _ _ _ _ _ =>
    [.regs, .dram, .fab, .ddr]
  | .dramReadData _ _ =>
    [.regs, .fab, .ddr]
  | .engineDramAccess _ _ _ _ =>
    [.dram, .fab, .ddr]
  | .requestResubmit _ _ _ =>
    [.clk, .regs, .cnt, .dram, .objs, .fab, .log, .bell, .mat, .sr, .clash]

/-- An outcome that is a next state with a property. -/
def Goes (o : Host.Outcome State Fault Refusal) (p : State → Prop) : Prop := ∃ u, o = .next u ∧ p u

/-- In every state that meets `pre` when the command's cycle has come, the command answers a next state, related to that one
by `post`. -/
def Does (c : Instr) (pre : State → Prop) (post : State → State → Prop) : Prop :=
  ∀ s, pre (atTime c.cycle s) → Goes (exec c s) (post (atTime c.cycle s))

/-- `Does`, over the state that `g` leaves at the command's cycle: what falls due in that FCLK before the command. -/
def DoesFrom (g : State → State) (c : Instr) (pre : State → Prop) (post : State → State → Prop) : Prop :=
  ∀ s, pre (g (atTime c.cycle s)) → Goes (exec c s) (post (g (atTime c.cycle s)))

/-- R358, R363: the front message of a path is for an object and passes the checks of existence and level. -/
def reaches (s : State) (via : Via) (n : Nat) : Bool :=
  viaOpen s via && viaFits s n via && !loaderHides s n false && match objLookup s.part.wings n with
    | (.yes, some d) => d.lev != .factory && (d.lev != .engineer || viaLevel s via != 0)
    | _ => false

/-- R164, R350: a request that the Keeper serves by its kind is taken now: a doorbell's in its turn, the Concierge's over an
open link with no doorbell before it. -/
def keeperTakes (s : State) (via : Via) (kind : Nat) : Bool :=
  match via with
  | .slot k => keeperFree (k / 4) kind s
  | _ => s.sr.doors.isEmpty && srOpen s

/-- R237: the state in which the Keeper decides on a supply request: after the gate's check for a group, at the request's cycle. -/
def supplyAt (t w g : Nat) (s : State) : State := atTime t (gate w g s).2

/-- R361: the last answer of the Concierge: to this path, for this object, with this status. -/
def Answered (u : State) (via : Via) (n st : Nat) : Prop :=
  ∃ r, u.emp.reply = some r ∧ r.via = some via ∧ r.obj = n ∧ r.status = st

/-- R361: the last answer, with its body. -/
def AnsweredBody (u : State) (via : Via) (n st : Nat) (body : Bytes) : Prop :=
  ∃ r, u.emp.reply = some r ∧ r.via = some via ∧ r.obj = n ∧ r.status = st ∧ r.body = body

/-- A wing's Logbook holds a record of an event (R427). -/
def Logged (u : State) (w code src p0 p1 : Nat) : Prop :=
  ∃ r ∈ (logGet u w).recs, r.code = code ∧ r.src = src ∧ r.p0 = p0 ∧ r.p1 = p1

/-- A wing's Logbook has room for `k` more records before one is overwritten (R430). -/
abbrev LogRoom (s : State) (w k : Nat) : Prop := (logGet s w).recs.length + k ≤ 4096 ∧ (logGet s w).unflushed + k ≤ 4096

/-- R380 to R385: what a reset of the part leaves: nothing under way, no session open, STEADY, every wing's POR_STAT naming the
cause, the kind and the wing that asked; D0 alone released after a warm reset, no domain after a cold one, which drives
RSTn and RSTOUTn and loses DRAM. -/
structure AfterReset (r : ResetReq) (u : State) : Prop where
  idle   : u.power.fail = none ∧ u.power.quiesce = none ∧ u.power.held = none ∧ u.power.started = false ∧ u.log.active = none
  driven : u.power.driven = r.cold
  mode   : u.mode.cur = 0
  closed : ∀ n, n < 16 → (sessGet u n).isOpen = false
  cause  : ∀ w, w < u.part.wings → regF u (porStat w) 31 28 = r.cause % 16 ∧ regF u (porStat w) 24 24 = b2n (!r.cold) ∧
    regF u (porStat w) 39 32 = r.wing % 256 ∧ regF u (porStat w) 6 0 = if r.cold then 0 else 1
  dram   : r.cold = true → u.dram = []

/-- R381: a warm reset has been asked for and quiesces from now: nothing else of the power state has changed. -/
def Quiesces (r : ResetReq) (s u : State) : Prop := u.power.quiesce = some (r, s.clk.now) ∧ u.power.started = s.power.started

/-- R357, R401, R414: an update EXEC of an object may be served: on the Service Port, with no chunk write before it and no slot write
under way, and with a way to the strongroom where the Keeper is asked. -/
def mayUpdate (s : State) (via : Via) (n : Nat) (keeper : Bool) : Bool :=
  servicePath s via && reaches s via n && !updWaits s && s.upd.writing.isNone && (!keeper || srOpen s)

/-- R164: the request slot of a wing whose request the Keeper serves: the front doorbell's, or its hardware's. -/
def keeperSlot (s : State) (w : Nat) : Nat :=
  match s.sr.doors with
  | d :: _ => d.slot
  | [] => 4 * w + 2

/-- The sequence under which it is answered. -/
def keeperSeq (s : State) (w : Nat) : Nat :=
  match s.sr.doors with
  | d :: _ => leAt (reqSlot s d.slot).words 0 8
  | [] => (reqSlot s (4 * w + 2)).served + 1

/-- R164, R424: the Keeper's stored reply to a request of a wing. -/
def Replied (s u : State) (w st : Nat) (body : Bytes) : Prop :=
  (reqSlot u (keeperSlot s w)).reply = replyBytes (keeperSeq s w) st body

/-- R411: a chunk write waits to be programmed, the last of its parts under `serial`. -/
def chunkEnding (s : State) (serial : Nat) (y : ChunkWait) : Prop :=
  s.upd.chunks.find? (fun x => x.serial == serial) = some y ∧ y.left ≤ 1 ∧ y.c / 8 < (oct s 0x0D010500).length

/-- R9: a register whose write only stores: none of its bits is a request, an enable with conditions or a command's own. -/
def storesOnly (b o : Nat) : Bool :=
  !(((b == 0 || b == 2) && (o == 0 || o == 0x10)) || (b == 1 && (decide (o ≤ 0x18) || decide (0x100 ≤ o ∧ o < 0x600))) ||
    ((b == 4 || b == 5) && (o == 0 || o == 0x40)) || (b == 6 && (o == 0 || o == 0x20)) ||
    (b == 8 && (o == 0 || o == 0x28 || o == 0x50)) || ((b == 0xA || b == 0xC || b == 0xD || b == 0xE || b == 0x13) && o == 0) ||
    (b == 0xF && decide (0x1000 ≤ o ∧ o < 0x3000)) || (b == 0x10 && (o == 0 || o == 0x20 || o == 0x38)))

/-- A register that reads what it holds: no counter, and no field that reads another part of the state. -/
def readsStored (b o : Nat) : Bool :=
  (counterAt b o).isNone && !((b == 0 && o == 0x18) || (b == 2 && decide (0x1000 ≤ o ∧ o < 0x3000)) ||
    (b == 3 && decide (o ≤ 0x10)) || ((b == 4 || b == 5) && (o == 0x48 || o == 0x400)) || (b == 6 && o == 0x18) ||
    (b == 8 && (o == 8 || o == 0x10 || o == 0x20)) || (b == 0xA && o == 8) || (b == 0xB && o == 0x20) ||
    ((b == 0xD || b == 0xE) && (o == 0 || o == 8 || o == 0x8000 || o == 0x8008)) ||
    (b == 0xF && (decide (o ≤ 0x10) || decide (0x1000 ≤ o ∧ o < 0x3000))) || (b == 0x10 && (o == 0x10 || o == 0x18)) ||
    (b == 0x12 && o == 0))

/-- R96: no other lane's commit is due at or before a lane's own place. -/
def OnlyCommit (s : State) (w l : Nat) : Prop :=
  ∀ e ∈ s.air.lanes, e.2.st = 3 → e.2.frame.isSome = true → e.2.outcome = none → e.2.ends + 700 ≤ s.clk.now →
    commitKey e.1 e.2 ≤ commitKey (w * 24 + l) (laneGet s w l) → e.1 = w * 24 + l

/-- R276: an operation of a kind whose least time has passed since it started. -/
def opEnds (s : State) (w kind : Nat) (o : NandOp) : Bool :=
  o.kind == kind && (match o.start, o.blk with
    | some a, some b => decide (a + opLeast s w o (chanOf s w b) ≤ s.clk.now)
    | _, _ => false)

/-- R294: the read of a page that may end now: the one queued for it, begun and through its least time, or one that was never
queued. -/
def readEnds (s : State) (w b p : Nat) (o : NandOp) : Prop :=
  match opIndex (fun o => o.kind == 1 && o.blk == some b && o.page == p) (storeGet s w).ops with
  | some n => (storeGet s w).ops[n]? = some o ∧
      ∃ a, o.start = some a ∧ (a = 0 ∨ a + opLeast s w o (chanOf s w b) ≤ s.clk.now)
  | none => o = { programOp s (blockGet (storeGet s w) b).stream 0 [] [] 0 with
      kind := 1, blk := some b, page := p, start := some 0 }

/-- R46, R47: an entry is due to fire, and no other. -/
def OnlyDue (s : State) (w e : Nat) : Prop :=
  entState (ttGet s w e) = 1 ∧ matReached s w (ttGet s w e).tgt = true ∧
  ∀ w' e', w' * 256 + e' ≠ w * 256 + e → fireDue s w' (ttGet s w' e') = false

end Sys2Proof
end

