-- ==== Sys2Proof/WellFormed.lean ====
section
/-! DEFINITION. Well-formed commands: every operand within the range the spec gives it: wings (R14), ports, lanes, slots,
sessions, links, feeders, object numbers (R344), register addresses (R24), and bodies an EMP message can carry (R356). -/

namespace Sys2Proof

/-- A number below a bound. -/
def below (n k : Nat) : Bool := decide (k < n)

/-- A session of 16 (R355), one of four mailbox slots of a wing (R362), or a request slot of the strongroom window (R164). -/
def viaOk : Via → Bool
  | .session n => below 16 n
  | .mailbox w slot => below 8 w && below 4 slot
  | .slot k => below 32 k

/-- A path, where there is one. -/
def viaOpt : Option Via → Bool
  | none => true
  | some v => viaOk v

/-- Octets an EMP message can carry (R356). -/
def bodyOk (b : Bytes) : Bool := decide (b.length ≤ 65600)

/-- A DRAM line of 64 bytes, where one is written (R449). -/
def lineOk : Option Bytes → Bool
  | none => true
  | some b => decide (b.length ≤ 64)

/-- A command's operands are in range. (DESIGN CHOICE, log 8) -/
def Instr.wellFormed : Instr → Bool
  | .registerWrite _ rq addr _ _ => below 8 rq && below (2 ^ 48) addr
  | .busError _ rq addr _ => below 8 rq && below (2 ^ 48) addr
  | .fabricMessageArrival _ _ => true
  | .remoteRegisterReadDone _ rq addr _ => below 8 rq && below (2 ^ 48) addr
  | .corridorLinkLost _ w port => below 8 w && below 3 port
  | .corridorRetrainStart _ w port => below 8 w && below 3 port
  | .corridorLinkRetrained _ w port => below 8 w && below 3 port
  | .corridorRetrainFailed _ w port => below 8 w && below 3 port
  | .modeRequest _ via mode => viaOk via && below 256 mode
  | .cclkDividerChange _ => true
  | .nightAuditLaneChange _ => true
  | .corePark _ w => below 8 w
  | .coreResume _ => true
  | .zeroCrossing _ ch _ _ _ => below 16 ch
  | .matLoss _ => true
  | .sourceChannelChange _ => true
  | .matUpdateApply _ => true
  | .replicaStale _ w => below 8 w
  | .timetableGo _ w e => below 8 w && below 256 e
  | .timetableStop _ w e => below 8 w && below 256 e
  | .timetableFire _ w e => below 8 w && below 256 e
  | .airLaunchLead _ w e => below 8 w && below 256 e
  | .captureEnd _ => true
  | .metrologySample _ _ => true
  | .armResponse _ via rec _ => viaOk via && bodyOk rec
  | .disarmSlot _ via slot => viaOk via && below 64 slot
  | .armedResponseExpiry _ slot => below 64 slot
  | .armedTriggerDecision _ slot => below 64 slot
  | .fireCycle _ slot => below 64 slot
  | .armedFrameStart _ slot pn => below 64 slot && below 16 pn
  | .armedUplinkCopy _ slot pn => below 64 slot && below 16 pn
  | .portEnable _ w p => below 8 w && below 2 p
  | .portDisable _ w p => below 8 w && below 2 p
  | .train _ w p => below 8 w && below 2 p
  | .alignmentGained _ w p => below 8 w && below 2 p
  | .alignmentLost _ w p => below 8 w && below 2 p
  | .preambleDetect _ w p bin _ => below 8 w && below 2 p && below 64 bin
  | .laneGrant _ w => below 8 w
  | .watcherWithdraw _ w p bin _ _ => below 8 w && below 2 p && below 64 bin
  | .laneAcquired _ w lane => below 8 w && below 24 lane
  | .sfdTimeout _ w lane _ _ => below 8 w && below 24 lane
  | .sfdFound _ w lane _ => below 8 w && below 24 lane
  | .frameEnd _ w lane _ _ _ _ => below 8 w && below 24 lane
  | .sourceAddressLookup _ w lane _ _ => below 8 w && below 24 lane
  | .ownerCommit _ w lane => below 8 w && below 24 lane
  | .macVerdict _ w lane => below 8 w && below 24 lane
  | .ackTxen _ w p => below 8 w && below 2 p
  | .txDescriptorPost _ w p addr => below 8 w && below 2 p && below (2 ^ 48) addr
  | .transmissionEnd _ w p => below 8 w && below 2 p
  | .txenRelease _ w p => below 8 w && below 2 p
  | .blankingEnd _ w p => below 8 w && below 2 p
  | .spiGo _ w p _ => below 8 w && below 2 p
  | .spiComplete _ w p _ => below 8 w && below 2 p
  | .clipReport _ w p _ => below 8 w && below 2 p
  | .keyMaterialWrite _ via kk key => viaOk via && below 192 kk && bodyOk key
  | .keyStateWrite _ via kk st => viaOk via && below 192 kk && below 256 st
  | .armedKeyWrite _ via key => viaOk via && bodyOk key
  | .counterRequest _ w p _ kk => below 8 w && below 2 p && below 192 kk
  | .counterAssign _ => true
  | .counterBlockReserve _ kk => below 192 kk
  | .ackWaitTimeout _ pn => below 16 pn
  | .sendRequestTake _ w => below 8 w
  | .csmaBackoffEnd _ pn => below 16 pn
  | .ccaEnd _ pn _ _ => below 16 pn
  | .enhancedBeaconInterval _ => true
  | .parentWindowClose _ => true
  | .scanEnd _ => true
  | .takeParent _ via pp => viaOk via && below 256 pp
  | .floodAtWing0 _ => true
  | .relayHoldEnd _ => true
  | .floodRequest _ via rec => viaOk via && bodyOk rec
  | .floodRepetition _ _ => true
  | .floodExpired _ _ => true
  | .seenCacheExpiry _ w => below 8 w
  | .nbrRead _ w _ => below 8 w
  | .nbrPin _ w _ => below 8 w
  | .nbrUnpin _ w _ => below 8 w
  | .lookUpEntryByAddress _ via addr => viaOk via && below (2 ^ 64) addr
  | .pinEntryByAddress _ via addr => viaOk via && below (2 ^ 64) addr
  | .unpinEntryByAddress _ via addr => viaOk via && below (2 ^ 64) addr
  | .provision _ via rec => viaOk via && bodyOk rec
  | .deprovision _ via _ => viaOk via
  | .suspend _ via _ => viaOk via
  | .resume _ via _ => viaOk via
  | .setDed _ via _ key => viaOk via && bodyOk key
  | .clearDed _ via _ => viaOk via
  | .rekey _ via _ keys => viaOk via && bodyOk keys
  | .pinEndpoint _ via _ => viaOk via
  | .unpinEndpoint _ via _ => viaOk via
  | .exportSession _ via _ => viaOk via
  | .importSession _ via _ sealed _ entry => viaOk via && bodyOk sealed && bodyOk entry
  | .lookUpEndpointByIndex _ via _ => viaOk via
  | .carriedFrame _ w _ => below 8 w
  | .admission _ w => below 8 w
  | .batchClose _ w => below 8 w
  | .fill _ w _ => below 8 w
  | .signatureVerifyStart _ w => below 8 w
  | .checkinOutcome _ w => below 8 w
  | .gbRead _ w _ => below 8 w
  | .gbPin _ w _ => below 8 w
  | .gbUnpin _ w _ => below 8 w
  | .writeback _ w _ => below 8 w
  | .holdReply _ w _ => below 8 w
  | .flushGuestBook _ w => below 8 w
  | .stagingConfirm _ w _ => below 8 w
  | .directorySweep _ w => below 8 w
  | .linkFrameReceive _ link _ _ _ => below 2 link
  | .guardRead _ rq off _ => below 8 rq && below (2 ^ 26) off
  | .guardWrite _ rq off _ => below 8 rq && below (2 ^ 26) off
  | .logAppend _ w seq rec => below 8 w && below (2 ^ 64) seq && bodyOk rec
  | .linkIdle _ link _ => below 2 link
  | .strongroomLinkDown _ link => below 2 link
  | .strongroomLinkTrained _ link _ _ => below 2 link
  | .strongroomTrainingRetry _ link => below 2 link
  | .carryingChange _ => true
  | .strongroomReset _ _ _ => true
  | .commit _ => true
  | .legalSet _ via obj val _ => viaOk via && below (2 ^ 32) obj && bodyOk val
  | .legalExec _ via obj arg _ => viaOk via && below (2 ^ 32) obj && bodyOk arg
  | .switchToVbak _ _ _ => true
  | .returnToVsr _ _ _ => true
  | .metrologyRestart _ _ => true
  | .metrologyCycleEnd _ f => below 2 f
  | .tamperInputChange _ k _ _ => below 4 k
  | .readTheRegisterBook _ via seq => viaOk via && below (2 ^ 64) seq
  | .acknowledgeTheRegisterBook _ via seq => viaOk via && below (2 ^ 64) seq
  | .keeperTick _ => true
  | .disciplineComparison _ => true
  | .clockStep _ => true
  | .setLtime _ via _ _ => viaOk via
  | .profileIntervalEnd _ => true
  | .demandSubperiodEnd _ => true
  | .billingPeriodEnd _ => true
  | .endTheBillingPeriodNow _ via _ => viaOk via
  | .taiUtcChange _ => true
  | .calendarActivation _ => true
  | .tariffSwitch _ => true
  | .repeatGenerationReset _ => true
  | .powerFailCapture _ => true
  | .powerUpCapture _ => true
  | .calendarImageWrite _ via img _ => viaOk via && bodyOk img
  | .withdrawThePassiveCalendar _ via _ => viaOk via
  | .rateAndPriceAtAnLtime _ via _ => viaOk via
  | .readSnapshotByAge _ via age => viaOk via && below 256 age
  | .readProfileRecords _ via seq => viaOk via && below (2 ^ 64) seq
  | .consistentRegisterSet _ via f => viaOk via && below 2 f
  | .minutePublish _ => true
  | .chargeSend _ w => below 8 w
  | .charge _ w => below 8 w
  | .voucher _ via rec _ => viaOk via && bodyOk rec
  | .dueScan _ _ => true
  | .supplyAuth _ _ w account _ _ => below 8 w && below 262144 account
  | .supplyConfirm _ w account _ _ => below 8 w && below 262144 account
  | .authorisationLapse _ account => below 262144 account
  | .openAccount _ via rec _ => viaOk via && bodyOk rec
  | .closeAccount _ via rec _ => viaOk via && bodyOk rec
  | .setPlan _ via rec _ => viaOk via && bodyOk rec
  | .readAccount _ via account => viaOk via && below 262144 account
  | .friendlyHoursWrite _ via img _ => viaOk via && bodyOk img
  | .intervalFold _ w => below 8 w
  | .voltageFold _ w => below 8 w
  | .assignEndpoint _ via rec => viaOk via && bodyOk rec
  | .assignmentEffect _ _ => true
  | .commitThePendingSegmentTable _ via g => viaOk via && below 16 g
  | .auditJobReady _ => true
  | .closeJobStart _ => true
  | .closeJobEnd _ => true
  | .identificationJobStart _ w => below 8 w
  | .identificationJobEnd _ w => below 8 w
  | .identificationSkipped _ w => below 8 w
  | .readEndpointAuditState _ via _ => viaOk via
  | .readResults _ via seq => viaOk via && below (2 ^ 64) seq
  | .readLocalisationRecords _ via age => viaOk via && below 256 age
  | .profileDecision _ w => below 8 w
  | .intakeUnitClose _ w => below 8 w
  | .programComplete _ w _ => below 8 w
  | .pageReadComplete _ w _ _ _ => below 8 w
  | .eraseComplete _ w _ _ => below 8 w
  | .spanSeal _ w => below 8 w
  | .sealDone _ w => below 8 w
  | .latePath _ w => below 8 w
  | .patchMerge _ w => below 8 w
  | .dayExpiry _ w => below 8 w
  | .garbageCollection _ w => below 8 w
  | .wearMove _ w => below 8 w
  | .bakeHours _ w _ => below 8 w
  | .refresh _ w _ => below 8 w
  | .checkpoint _ w => below 8 w
  | .ckpt _ w => below 8 w
  | .stop _ w => below 8 w
  | .storeStart _ w _ => below 8 w
  | .readASpan _ via rec => viaOk via && bodyOk rec
  | .prpReceive _ pn _ => below 16 pn
  | .supervisionSend _ w => below 8 w
  | .portSilent _ pn => below 16 pn
  | .uplinkLinkUp _ pn => below 16 pn
  | .uplinkLinkDown _ pn => below 16 pn
  | .uplinkTransmitDescriptor _ pn => below 16 pn
  | .timedLaunchLead _ pn e => below 16 pn && below 257 e
  | .timedLaunchSend _ pn e => below 16 pn && below 256 e
  | .syncReceive _ _ pn _ _ => below 16 pn
  | .announceReceive _ _ pn _ => below 16 pn
  | .pdelayReq _ pn _ => below 16 pn
  | .peerDelayMeasurement _ pn _ _ => below 16 pn
  | .syncTimeout _ d => below 2 d
  | .announceReceiptTimeout _ d pn => below 2 d && below 16 pn
  | .holdoverLimit _ d => below 2 d
  | .domainRevert _ => true
  | .ptimeApply _ => true
  | .installALease _ via rec _ => viaOk via && bodyOk rec
  | .leaseFloor _ => true
  | .leaseFloorFree _ _ => true
  | .releaseTheLeases _ via _ => viaOk via
  | .readTheLeases _ via _ => viaOk via
  | .leaseRollover _ _ => true
  | .leaseUnusable _ _ => true
  | .runADrill _ via _ _ => viaOk via
  | .lastExportNumberImported _ via _ => viaOk via
  | .dtlsHandshake _ _ _ _ => true
  | .sessionEnd _ n _ => below 16 n
  | .segmentReceive _ n _ => below 16 n
  | .incomplete _ n _ => below 16 n
  | .getObj _ via obj => viaOk via && below (2 ^ 32) obj
  | .setObj _ via obj val => viaOk via && below (2 ^ 32) obj && bodyOk val
  | .subscribe _ n obj body => below 16 n && below (2 ^ 32) obj && bodyOk body
  | .unsubscribe _ n _ => below 16 n
  | .ack _ n seq => below 16 n && below (2 ^ 64) seq
  | .notify _ n => below 16 n
  | .notifyRetransmit _ n seq => below 16 n && below (2 ^ 64) seq
  | .mailboxGo _ w slot => below 8 w && below 4 slot
  | .unreachable _ via obj => viaOk via && below (2 ^ 32) obj
  | .railTrip _ rail => below 10 rail
  | .wingRailsInRange _ => true
  | .vanaTrip _ => true
  | .vanaReturn _ => true
  | .strongroomPowerLost _ => true
  | .powerFailDeclared _ _ => true
  | .graceEnd _ => true
  | .powerFailFlush _ w => below 8 w
  | .powerFailRecovery _ _ => true
  | .holdupPublish _ _ => true
  | .warm _ w => below 8 w
  | .cold _ w => below 8 w
  | .resetThePart _ via kind => viaOk via && below 256 kind
  | .rstnLow _ _ => true
  | .porterWatchdog _ w => below 8 w
  | .thermalTrip _ => true
  | .junctionBelowRecover _ => true
  | .quiesceEnd _ => true
  | .domainRelease _ w k _ => below 8 w && below 7 k
  | .pllLockLost _ w pll => below 8 w && below 4 pll
  | .stretchEnd _ => true
  | .optionLoad _ _ => true
  | .optionLoadNoLink _ => true
  | .optionWordSet _ via ww _ => viaOk via && below 16 ww
  | .warmTokenCheck _ => true
  | .imageHashDone _ _ => true
  | .dramTrainingDone _ w _ _ _ _ _ => below 8 w
  | .releaseHeldPinGroups _ via w _ => viaOpt via && below 8 w
  | .beginDownload _ via header => viaOk via && bodyOk header
  | .writeChunk _ via c data => viaOk via && below (2 ^ 64) c && bodyOk data
  | .abandonDownload _ via => viaOk via
  | .verify _ via => viaOk via
  | .verifyHead _ head sig => bodyOk head && bodyOk sig
  | .verifyLms _ sig => bodyOk sig
  | .downloadRecord _ header => bodyOk header
  | .counterRead _ => true
  | .startTheSlotWrite _ via => viaOk via
  | .slotWriteDone _ => true
  | .commitTheActivation _ via => viaOk via
  | .activationReset _ => true
  | .start _ _ _ _ => true
  | .trialTimeEnd _ => true
  | .confirm _ via arg => viaOk via && below 256 arg
  | .shuttered _ => true
  | .enterTheRecoveryLoader _ via => viaOk via
  | .eventRaise _ w _ _ _ _ => below 8 w
  | .logSwraise _ w _ => below 8 w
  | .logbookFlush _ w => below 8 w
  | .flushComplete _ => true
  | .flushEveryWingNow _ via => viaOk via
  | .readRecordsFromMram _ via _ => viaOk via
  | .bellBoardDelivery _ w source => below 8 w && below 128 source
  | .bbSwset _ w _ => below 8 w
  | .bbRouteWrite _ w source _ => below 8 w && below 160 source
  | .bbFlagClear _ w bank _ _ => below 8 w && below 3 bank
  | .strongroomSourceArrival _ source => below 14 source
  | .pathReturnDelivery _ w => below 8 w
  | .talFrzAtWrite _ w _ => below 8 w
  | .armAFreezeOnEveryWing _ via p => viaOk via && below (2 ^ 64) p
  | .freezeLatch _ => true
  | .talSwinc _ w _ => below 8 w
  | .refreshWindow _ w b => below 8 w && below 4 b
  | .refreshScheduleChange _ w _ => below 8 w
  | .dramAccessIssue _ w rq addr _ write => below 8 w && below 8 rq && below (2 ^ 48) addr && lineOk write
  | .dramReadData _ w => below 8 w
  | .engineDramAccess _ w addr write => below 8 w && below (2 ^ 48) addr && lineOk write
  | .requestResubmit _ w slot => below 8 w && below 4 slot

/-- The path a command came by, where it is a request of the Energy Management Protocol (R345, R362). -/
def Instr.path : Instr → Option Via
  | .modeRequest _ via _ | .armResponse _ via _ _ | .disarmSlot _ via _ | .keyMaterialWrite _ via _ _
  | .keyStateWrite _ via _ _ | .armedKeyWrite _ via _ | .takeParent _ via _ | .floodRequest _ via _
  | .lookUpEntryByAddress _ via _ | .pinEntryByAddress _ via _ | .unpinEntryByAddress _ via _ | .provision _ via _
  | .deprovision _ via _ | .suspend _ via _ | .resume _ via _ | .setDed _ via _ _ | .clearDed _ via _
  | .rekey _ via _ _ | .pinEndpoint _ via _ | .unpinEndpoint _ via _ | .exportSession _ via _
  | .importSession _ via _ _ _ _ | .lookUpEndpointByIndex _ via _ | .legalSet _ via _ _ _ | .legalExec _ via _ _ _
  | .readTheRegisterBook _ via _ | .acknowledgeTheRegisterBook _ via _ | .setLtime _ via _ _
  | .endTheBillingPeriodNow _ via _ | .calendarImageWrite _ via _ _ | .withdrawThePassiveCalendar _ via _
  | .rateAndPriceAtAnLtime _ via _ | .readSnapshotByAge _ via _ | .readProfileRecords _ via _
  | .consistentRegisterSet _ via _ | .voucher _ via _ _ | .openAccount _ via _ _ | .closeAccount _ via _ _
  | .setPlan _ via _ _ | .readAccount _ via _ | .friendlyHoursWrite _ via _ _ | .assignEndpoint _ via _
  | .commitThePendingSegmentTable _ via _ | .readEndpointAuditState _ via _ | .readResults _ via _
  | .readLocalisationRecords _ via _ | .readASpan _ via _ | .installALease _ via _ _ | .releaseTheLeases _ via _
  | .readTheLeases _ via _ | .runADrill _ via _ _ | .lastExportNumberImported _ via _ | .getObj _ via _
  | .setObj _ via _ _ | .unreachable _ via _ | .resetThePart _ via _ | .optionWordSet _ via _ _
  | .beginDownload _ via _ | .writeChunk _ via _ _ | .abandonDownload _ via | .verify _ via | .startTheSlotWrite _ via
  | .commitTheActivation _ via | .confirm _ via _ | .enterTheRecoveryLoader _ via | .flushEveryWingNow _ via
  | .readRecordsFromMram _ via _ | .armAFreezeOnEveryWing _ via _ => some via
  | .releaseHeldPinGroups _ via _ _ => via
  | .registerWrite _ _ _ _ _ | .busError _ _ _ _ | .fabricMessageArrival _ _ | .remoteRegisterReadDone _ _ _ _
  | .corridorLinkLost _ _ _ | .corridorRetrainStart _ _ _ | .corridorLinkRetrained _ _ _
  | .corridorRetrainFailed _ _ _ | .cclkDividerChange _ | .nightAuditLaneChange _ | .corePark _ _ | .coreResume _
  | .zeroCrossing _ _ _ _ _ | .matLoss _ | .sourceChannelChange _ | .matUpdateApply _ | .replicaStale _ _
  | .timetableGo _ _ _ | .timetableStop _ _ _ | .timetableFire _ _ _ | .airLaunchLead _ _ _ | .captureEnd _
  | .metrologySample _ _ | .armedResponseExpiry _ _ | .armedTriggerDecision _ _ | .fireCycle _ _
  | .armedFrameStart _ _ _ | .armedUplinkCopy _ _ _ | .portEnable _ _ _ | .portDisable _ _ _ | .train _ _ _
  | .alignmentGained _ _ _ | .alignmentLost _ _ _ | .preambleDetect _ _ _ _ _ | .laneGrant _ _
  | .watcherWithdraw _ _ _ _ _ _ | .laneAcquired _ _ _ | .sfdTimeout _ _ _ _ _ | .sfdFound _ _ _ _
  | .frameEnd _ _ _ _ _ _ _ | .sourceAddressLookup _ _ _ _ _ | .ownerCommit _ _ _ | .macVerdict _ _ _ | .ackTxen _ _ _
  | .txDescriptorPost _ _ _ _ | .transmissionEnd _ _ _ | .txenRelease _ _ _ | .blankingEnd _ _ _ | .spiGo _ _ _ _
  | .spiComplete _ _ _ _ | .clipReport _ _ _ _ | .counterRequest _ _ _ _ _ | .counterAssign _
  | .counterBlockReserve _ _ | .ackWaitTimeout _ _ | .sendRequestTake _ _ | .csmaBackoffEnd _ _ | .ccaEnd _ _ _ _
  | .enhancedBeaconInterval _ | .parentWindowClose _ | .scanEnd _ | .floodAtWing0 _ | .relayHoldEnd _
  | .floodRepetition _ _ | .floodExpired _ _ | .seenCacheExpiry _ _ | .nbrRead _ _ _ | .nbrPin _ _ _ | .nbrUnpin _ _ _
  | .carriedFrame _ _ _ | .admission _ _ | .batchClose _ _ | .fill _ _ _ | .signatureVerifyStart _ _
  | .checkinOutcome _ _ | .gbRead _ _ _ | .gbPin _ _ _ | .gbUnpin _ _ _ | .writeback _ _ _ | .holdReply _ _ _
  | .flushGuestBook _ _ | .stagingConfirm _ _ _ | .directorySweep _ _ | .linkFrameReceive _ _ _ _ _
  | .guardRead _ _ _ _ | .guardWrite _ _ _ _ | .logAppend _ _ _ _ | .linkIdle _ _ _ | .strongroomLinkDown _ _
  | .strongroomLinkTrained _ _ _ _ | .strongroomTrainingRetry _ _ | .carryingChange _ | .strongroomReset _ _ _
  | .commit _ | .switchToVbak _ _ _ | .returnToVsr _ _ _ | .metrologyRestart _ _ | .metrologyCycleEnd _ _
  | .tamperInputChange _ _ _ _ | .keeperTick _ | .disciplineComparison _ | .clockStep _ | .profileIntervalEnd _
  | .demandSubperiodEnd _ | .billingPeriodEnd _ | .taiUtcChange _ | .calendarActivation _ | .tariffSwitch _
  | .repeatGenerationReset _ | .powerFailCapture _ | .powerUpCapture _ | .minutePublish _ | .chargeSend _ _
  | .charge _ _ | .dueScan _ _ | .supplyAuth _ _ _ _ _ _ | .supplyConfirm _ _ _ _ _ | .authorisationLapse _ _
  | .intervalFold _ _ | .voltageFold _ _ | .assignmentEffect _ _ | .auditJobReady _ | .closeJobStart _
  | .closeJobEnd _ | .identificationJobStart _ _ | .identificationJobEnd _ _ | .identificationSkipped _ _
  | .profileDecision _ _ | .intakeUnitClose _ _ | .programComplete _ _ _ | .pageReadComplete _ _ _ _ _
  | .eraseComplete _ _ _ _ | .spanSeal _ _ | .sealDone _ _ | .latePath _ _ | .patchMerge _ _ | .dayExpiry _ _
  | .garbageCollection _ _ | .wearMove _ _ | .bakeHours _ _ _ | .refresh _ _ _ | .checkpoint _ _ | .ckpt _ _
  | .stop _ _ | .storeStart _ _ _ | .prpReceive _ _ _ | .supervisionSend _ _ | .portSilent _ _ | .uplinkLinkUp _ _
  | .uplinkLinkDown _ _ | .uplinkTransmitDescriptor _ _ | .timedLaunchLead _ _ _ | .timedLaunchSend _ _ _
  | .syncReceive _ _ _ _ _ | .announceReceive _ _ _ _ | .pdelayReq _ _ _ | .peerDelayMeasurement _ _ _ _
  | .syncTimeout _ _ | .announceReceiptTimeout _ _ _ | .holdoverLimit _ _ | .domainRevert _ | .ptimeApply _
  | .leaseFloor _ | .leaseFloorFree _ _ | .leaseRollover _ _ | .leaseUnusable _ _ | .dtlsHandshake _ _ _ _
  | .sessionEnd _ _ _ | .segmentReceive _ _ _ | .incomplete _ _ _ | .subscribe _ _ _ _ | .unsubscribe _ _ _
  | .ack _ _ _ | .notify _ _ | .notifyRetransmit _ _ _ | .mailboxGo _ _ _ | .railTrip _ _ | .wingRailsInRange _
  | .vanaTrip _ | .vanaReturn _ | .strongroomPowerLost _ | .powerFailDeclared _ _ | .graceEnd _ | .powerFailFlush _ _
  | .powerFailRecovery _ _ | .holdupPublish _ _ | .warm _ _ | .cold _ _ | .rstnLow _ _ | .porterWatchdog _ _
  | .thermalTrip _ | .junctionBelowRecover _ | .quiesceEnd _ | .domainRelease _ _ _ _ | .pllLockLost _ _ _
  | .stretchEnd _ | .optionLoad _ _ | .optionLoadNoLink _ | .warmTokenCheck _ | .imageHashDone _ _
  | .dramTrainingDone _ _ _ _ _ _ _ | .verifyHead _ _ _ | .verifyLms _ _ | .downloadRecord _ _ | .counterRead _
  | .slotWriteDone _ | .activationReset _ | .start _ _ _ _ | .trialTimeEnd _ | .shuttered _ | .eventRaise _ _ _ _ _ _
  | .logSwraise _ _ _ | .logbookFlush _ _ | .flushComplete _ | .bellBoardDelivery _ _ _ | .bbSwset _ _ _
  | .bbRouteWrite _ _ _ _ | .bbFlagClear _ _ _ _ _ | .strongroomSourceArrival _ _ | .pathReturnDelivery _ _
  | .talFrzAtWrite _ _ _ | .freezeLatch _ | .talSwinc _ _ _ | .refreshWindow _ _ _ | .refreshScheduleChange _ _ _
  | .dramAccessIssue _ _ _ _ _ _ | .dramReadData _ _ | .engineDramAccess _ _ _ _ | .requestResubmit _ _ _ => none

end Sys2Proof
end

