-- ==== Sys2Proof/Certificates/Slice0/Obligations.lean ====
section
/-! DEFINITION. The statements for the provers. `Does c pre post` says that command `c` answers a next state from every
state that meets `pre` at the command's cycle, and what that state holds. -/

open Sys2Proof Sys2Proof.Machine

/-! ### The block as a whole -/

/-- A step takes the command at the front of the queue and runs it on the queue's rest. -/
def Obligations.StepRunsTheFrontCommand : Prop :=
  ∀ (c : Instr) (s : State), step { s with pending := c :: s.pending } = exec c s

/-- With no command waiting, one fabric cycle passes and nothing else happens: DRAM and the Logbook change only where a
record on its way to a DRAM ring (R431) becomes complete, the timebases and MAT as `TimePasses` says (a choice of this model:
log entry 1). -/
def Obligations.EmptyQueueIsOneCycle : Prop :=
  ∀ s : State, s.pending = [] → ∃ u, step s = .next u ∧ u = atTime (s.clk.now + 1) s ∧ u.clk.now = s.clk.now + 1 ∧
    u.pending = [] ∧ u.part = s.part ∧ Keeps [.clk, .mat, .dram, .log] s u ∧
    u.log.wing = s.log.wing ∧ u.log.ring = s.log.ring.filter (fun r => decide (s.clk.now + 1 < r.due))

/-- Every command answers a next state; it keeps the variant and the queue, never takes the cycle counter back, keeps the
canonical form of registers, counters and DRAM, and changes no part of the state outside its list. The model's own choices
in it: log entries 8. -/
def Obligations.EveryCommandKeepsItsFrame : Prop :=
  ∀ (c : Instr) (s : State), Goes (exec c s) fun u =>
    Follows (atTime c.cycle s) u ∧ Keeps c.touches (atTime c.cycle s) u

/-- The canonical form is an invariant of every step, whatever command is in front. -/
def Obligations.StepKeepsCanonicalForm : Prop :=
  ∀ s : State, Canonical s → ∃ u, step s = .next u ∧ Canonical u ∧ u.part = s.part ∧ s.clk.now ≤ u.clk.now ∧
    u.pending = s.pending.tail

/-- The state after reset is canonical, with no command waiting, at cycle 0, every register at its reset value, every
counter 0, no session open. The model's own choices in it: log entries 12. -/
def Obligations.ResetIsCanonical : Prop :=
  Canonical State.reset ∧ State.reset.pending = [] ∧ State.reset.clk.now = 0 ∧
  (∀ a, regGet State.reset a = regReset a) ∧ (∀ w n, cntGet State.reset w n = 0) ∧
  ∀ n, (sessGet State.reset n).isOpen = false

/-- From R353, R362, R363: a request by a session that is not open, or by a path whose message is not the one to be served,
changes nothing beyond the passing of time. The model's own choices in it: log entries 50. -/
def Obligations.ClosedSessionChangesNothing : Prop :=
  ∀ (c : Instr) (via : Via) (s : State), c.path = some via → viaOpen (atTime c.cycle s) via = false →
    exec c s = .next (atTime c.cycle s)

/-- A command whose cycle has passed takes place at once: time does not go back. Time alone changes the timebases and MAT, by
the state's own rates, and completes the records on their way to a DRAM ring whose cycles have come (R431): every byte of
DRAM outside their places reads as before. The model's own choices in it: log entries 2, 16, 17. -/
def Obligations.TimePasses : Prop :=
  ∀ (t : Nat) (s : State), (t ≤ s.clk.now → atTime t s = s) ∧
    (s.clk.now ≤ t → (atTime t s).clk.now = t ∧ Keeps [.clk, .mat, .dram, .log] s (atTime t s) ∧
      (atTime t s).log = { s.log with ring := if s.clk.now = t then s.log.ring else s.log.ring.filter (fun r => decide (t < r.due)) } ∧
      (∀ a, (∀ r ∈ s.log.ring, r.due ≤ t → a < r.place ∨ r.place + r.bytes.length ≤ a) →
        dramByte (atTime t s) a = dramByte s a) ∧
      (s.clk.q = 0 → 0 ≤ s.clk.qLimit → (atTime t s).clk.ptime = s.clk.ptime + (nsFine + s.clk.rate) * ((t - s.clk.now : Nat) : Int)))

/-! ### Memory, registers, counters -/

/-- DRAM: bytes written read back, every other byte reads as before, and the canonical form is kept. -/
def Obligations.DramReadAfterWrite : Prop :=
  ∀ (a : Nat) (bs : Bytes) (s : State),
    dramRead (dramWrite a bs s) a bs.length = bs ∧
    (∀ x, (x < a ∨ a + bs.length ≤ x) → dramByte (dramWrite a bs s) x = dramByte s x) ∧
    (Memory.wf s.dram = true → Memory.wf (dramWrite a bs s).dram = true)

/-- Dictionary values, OCTETS values and register fields: what is kept reads back, and every other value, every other
field of that register and every other register reads as before. -/
def Obligations.StoredValuesReadBack : Prop :=
  (∀ (n v : Nat) (b : Bytes) (s : State),
    obj (objPut n v s) n = v ∧ (∀ k, k ≠ n → obj (objPut n v s) k = obj s k) ∧
    oct (octPut n b s) n = b ∧ ∀ k, k ≠ n → oct (octPut n b s) k = oct s k) ∧
  ∀ (a hi lo v : Nat) (s : State), lo ≤ hi → hi < 64 →
    regF (regPutF a hi lo v s) a hi lo = v % 2 ^ (hi + 1 - lo) ∧
    (∀ h l, l ≤ h → (hi < l ∨ h < lo) → regF (regPutF a hi lo v s) a h l = regF s a h l) ∧
    ∀ b, b ≠ a → regGet (regPutF a hi lo v s) b = regGet s b

/-- From R6: a counter advances by what it counts, modulo 2^64, and no other counter moves. -/
def Obligations.CountersWrap : Prop :=
  ∀ (w n k : Nat) (s : State), n < 512 →
    cntGet (countBy w n k s) w n = (cntGet s w n + k) % two64 ∧
    ∀ w' n', n' < 512 → (w', n') ≠ (w, n) → cntGet (countBy w n k s) w' n' = cntGet s w' n'

/-- R6: of two values of a counter of width `w`, `a` is later than `b` exactly when (a - b) modulo 2^w, read as a two's
complement number of width `w`, is greater than zero; a difference of exactly 2^(w-1) is not. -/
def Obligations.LaterIsBySignedDifference : Prop :=
  ∀ (w a b : Nat), 0 < w → (laterW w a b = true ↔ 0 < (BitVec.ofNat w a - BitVec.ofNat w b).toInt)

/-- From R427, R429, R430: an event raised on a wing whose Logbook has room is there, with the next sequence number; the
newest sequence moves on by one (after 0xFFFF_FFFF comes 1), one more record is not yet flushed, and the event is counted. -/
def Obligations.RaiseLogsAnEvent : Prop :=
  ∀ (w code src p0 p1 : Nat) (s : State), LogRoom s w 1 →
    Logged (raise w code src p0 p1 s) w (code % 65536) (src % 65536) (p0 % two64) (p1 % two64) ∧
    (logGet (raise w code src p0 p1 s) w).last = seqNext (logGet s w).last ∧
    (logGet (raise w code src p0 p1 s) w).unflushed = (logGet s w).unflushed + 1 ∧
    (logGet (raise w code src p0 p1 s) w).recs.length = (logGet s w).recs.length + 1 ∧
    cntGet (raise w code src p0 p1 s) w 194 = (cntGet s w 194 + 1) % two64

/-- From R436, R438: a source that occurs sets its flag; raising it again while the flag is 1 changes nothing. -/
def Obligations.BellFlagSetsOnce : Prop :=
  ∀ (w src : Nat) (s : State), src < 160 →
    regF (bell w src s) (flagOf w src).1 (flagOf w src).2 (flagOf w src).2 = 1 ∧
    bell w src (bell w src s) = bell w src s

/-- R16: a route crosses port 0 if bit 0 of the exclusive or of the wings' numbers is set, then port 1 for bit 1, then
port 2 for bit 2; the hop count is the number of set bits; each link leaves the wing the last one reached, and the last
reaches the other wing. A route depends on the two wings alone. -/
def Obligations.RouteIsDimensionOrder : Prop :=
  ∀ a b, a < 8 → b < 8 →
    (route 3 a b).map (·.2) = (List.range 3).filter (fun p => (a ^^^ b).testBit p) ∧
    hops a b = ((List.range 3).filter (fun p => (a ^^^ b).testBit p)).length ∧
    (route 3 a b).foldl (fun w l => w ^^^ 2 ^ l.2) a = b ∧
    ∀ i l, (route 3 a b)[i]? = some l →
      l.1 = min (((route 3 a b).take i).foldl (fun w l => w ^^^ 2 ^ l.2) a)
        (((route 3 a b).take i).foldl (fun w l => w ^^^ 2 ^ l.2) a ^^^ 2 ^ l.2)

/-- R18: of a message of b beats ready at t, the first wait is (o - t) mod s, so that it leaves in its class's first owned
phase at or after t; a wing that forwards a beat waits (-24) mod s, which is 0 for spacings 2 and 8 and 8 for spacings 16
and 32; the message is delivered over h hops after w + (b - 1) s + 24 + (h - 1)(24 + ((-24) mod s)). -/
def Obligations.MessageTimeFormula : Prop :=
  ∀ (c : FabClass) (b h t : Nat), 1 ≤ b → 1 ≤ h →
    (t + slotWait c t) % slotSpacing c = slotOffset c ∧ slotWait c t < slotSpacing c ∧
    (24 + forwardWait c) % slotSpacing c = 0 ∧ forwardWait c < slotSpacing c ∧
    (slotSpacing c = 2 ∨ slotSpacing c = 8 → forwardWait c = 0) ∧
    (slotSpacing c = 16 ∨ slotSpacing c = 32 → forwardWait c = 8) ∧
    messageTime c b h t = slotWait c t + (b - 1) * slotSpacing c + 24 + (h - 1) * (24 + forwardWait c)

/-- From R20: a local register read completes after 24 FCLK; one over h hops issued at t0 after (11 - t0) mod 16 + 72 + 64
(h - 1), and a write is applied after (11 - t0) mod 16 + 24 + 32 (h - 1). -/
def Obligations.RegisterAccessTimes : Prop :=
  ∀ (a b t0 : Nat),
    (hops a b = 0 → readTime a b t0 = 24 ∧ writeTime a b t0 = 24) ∧
    (0 < hops a b → ∃ x, x < 16 ∧ (t0 + x) % 16 = 11 ∧
      readTime a b t0 = x + 72 + 64 * (hops a b - 1) ∧ writeTime a b t0 = x + 24 + 32 * (hops a b - 1))

/-! ### Chapter 1: the Corridor, registers, modes -/

/-- From R9, R10, R11, R20: a register write that has crossed to its target is applied there, and what the register read
before is remembered. A register that only stores, with no flag set by hardware in this FCLK: RW bits take the value written,
W1C bits written 1 clear, W1S bits written 1 set, every other bit and every other register keep their values. A write of a
register of the Bell Board, Tally, Logbook or staging area that asks for something does what that command does. From R20 to
R22: an access that nothing backs, or whose path is down, ends in a bus error: recorded without a value at the cycle at which
a register read issued with it would complete, counted, and no register, no byte of DRAM changes. The same for a strongroom
access that the link guard refuses or whose path to the gate is down. The model's own choices in it: log entries 7, 14, 15,
225. -/
def Obligations.RegisterWriteAndBusError : Prop :=
  (∀ t rq w b o t0 v, Does (.registerWrite t rq (regA w b o) t0 v)
      (fun s => w < 8 ∧ b < 0x14 ∧ o < 0x10000 ∧ errs s rq (regA w b o) true = false ∧ t0 + appliedAfter s rq w t0 ≤ s.clk.now)
      fun s u => u = applyWrite rq (regA w b o) t0 v s) ∧
  (∀ t rq w b o t0 v d, storesOnly b o = true → regFind b o = some d →
    Does (.registerWrite t rq (regA w b o) t0 v)
      (fun s => w < 8 ∧ b < 0x14 ∧ o < 0x10000 ∧ errs s rq (regA w b o) true = false ∧ t0 + appliedAfter s rq w t0 ≤ s.clk.now ∧
        setNow s (regA w b o) = 0)
      fun s u => regGet u (regA w b o) = regMerge d (regGet s (regA w b o)) v ∧
        (∀ a, a ≠ regA w b o → regGet u a = regGet s a) ∧ u.dram = s.dram ∧ u.cnt = s.cnt ∧
        (u.fab.past.head?).map (fun p => (p.addr, p.rq, p.t0, p.old)) = some (regA w b o, rq, t0, (regRead (regA w b o) s).1)) ∧
  (∀ t rq w t0 v, w < 8 → ∀ x ∈ [(regA w 1 0x10, Instr.bbSwset t w v), (regA w 2 0x10, .talSwinc t w v),
      (regA w 0x10 0x38, .logSwraise t w v), (regA w 8 0x28, .stagingConfirm t w v)],
    Does (.registerWrite t rq x.1 t0 v)
      (fun s => errs s rq x.1 true = false ∧ t0 + appliedAfter s rq w t0 ≤ s.clk.now)
      fun s u => ∃ p, exec x.2 { s with fab := { s.fab with past := (p :: s.fab.past).take 64 } } = .next u) ∧
  (∀ t rq a t0 v, Does (.registerWrite t rq a t0 v) (fun s => errs s rq a true = true)
      fun s u => cntGet u rq 191 = (cntGet s rq 191 + 1) % two64 ∧ u.regs = s.regs ∧ u.dram = s.dram ∧
        u.fab.done.head? = some { rq := rq, addr := a, write := true, done := t0 + busErrorTime s rq a t0, value := none, bad := false }) ∧
  (∀ t rq a t0, Does (.remoteRegisterReadDone t rq a t0)
      (fun s => errs s rq a false = true ∧ t0 + busErrorTime s rq a t0 ≤ s.clk.now)
      fun s u => cntGet u rq 191 = (cntGet s rq 191 + 1) % two64 ∧ u.regs = s.regs ∧ u.dram = s.dram ∧
        u.fab.done.head? = some { rq := rq, addr := a, write := false, done := t0 + busErrorTime s rq a t0, value := none, bad := false }) ∧
  (∀ t rq a wr, Does (.busError t rq a wr)
      (fun s => errs s rq a wr = true ∨
        (inWindow a = true ∧ (windowRefuses s rq (a - 0xFF0000000000) wr = true ∨ gatePath s rq = false)))
      fun s u => cntGet u rq 191 = (cntGet s rq 191 + 1) % two64 ∧ u.regs = s.regs ∧ u.dram = s.dram ∧
        u.fab.done.head? = some { rq := rq, addr := a, write := wr, done := s.clk.now + busErrorTime s rq a s.clk.now
                                  value := none, bad := false }) ∧
  (∀ (s : State) (rq a t : Nat), backing s a = none → inWindow a = false → busErrorTime s rq a t = 24)

/-- From R18, R19, R21: a Corridor message takes its place among those of its class on its first link direction, and nothing
else changes; with no message waiting and no phase taken it has arrived on its wing once its time has passed, at its stated
cycle; a message on its own wing is there when it is ready; over a link that is down it carries nothing and its access ends in
a bus error after the time the path would have taken. From R20: a register read issued at t0 completes, once the time of its
way there and back has passed, with the value that its target served: what the register read when it was served; with every
register message's way free, no write of that register since its issue and no time between its service and the command, what
the register reads. The model's own choices in it: log entries 19, 31, 226. -/
def Obligations.CorridorMessages : Prop :=
  (∀ t m, m.src < 8 → m.dst < 8 → Does (.fabricMessageArrival t m) (fun s => pathUp s m.src m.dst = true)
      fun s u => u.fab.done = s.fab.done ∧ u.fab.links = s.fab.links ∧ u.fab.past = s.fab.past ∧ Keeps [.fab] s u) ∧
  (∀ t m p, m.src < 8 → m.dst < 8 → firstPort m.src m.dst = some p → Does (.fabricMessageArrival t m)
      (fun s => pathUp s m.src m.dst = true ∧ s.fab.queues = [] ∧
        s.clk.now < leaveAt (tabGet 0 s.fab.taken (queueKey m.src p m.cls)) { msg := m, here := m.src, at_ := m.ready, fwd := false })
      fun s u => queueGet u (queueKey m.src p m.cls) = [{ msg := m, here := m.src, at_ := m.ready, fwd := false }] ∧
        u.fab.flights = s.fab.flights) ∧
  (∀ t m, m.src < 8 → m.dst < 8 → m.src ≠ m.dst → 1 ≤ m.beats →
    Does (.fabricMessageArrival t m)
      (fun s => pathUp s m.src m.dst = true ∧ s.fab.queues = [] ∧ s.fab.taken = [] ∧
        m.ready + messageTime m.cls m.beats (hops m.src m.dst) m.ready ≤ s.clk.now)
      fun _ u => u.fab.flights.head? = some { cls := m.cls, beats := m.beats, src := m.src, dst := m.dst, here := m.dst
                                              arrive := m.ready + messageTime m.cls m.beats (hops m.src m.dst) m.ready } ∧
        u.fab.queues = []) ∧
  (∀ t m, m.src < 8 → m.src = m.dst → Does (.fabricMessageArrival t m) (fun s => s.fab.queues = [])
      fun _ u => u.fab.flights.head? = some { cls := m.cls, beats := m.beats, src := m.src, dst := m.dst, here := m.src
                                              arrive := m.ready }) ∧
  (∀ t m, Does (.fabricMessageArrival t m) (fun s => pathUp s m.src m.dst = false)
      fun s u => cntGet u m.src 191 = (cntGet s m.src 191 + 1) % two64 ∧ u.regs = s.regs ∧ u.dram = s.dram ∧
        u.fab.flights = s.fab.flights ∧ u.fab.queues = s.fab.queues ∧
        u.fab.done.head? = some { rq := m.src, addr := m.addr, write := false, value := none, bad := false
                                  done := m.ready + messageTime m.cls m.beats (hops m.src m.dst) m.ready }) ∧
  (∀ t rq w b o t0, Does (.remoteRegisterReadDone t rq (regA w b o) t0)
      (fun s => w < 8 ∧ b < 0x14 ∧ o < 0x10000 ∧ errs s rq (regA w b o) false = false ∧ t0 + readAfter s rq w t0 ≤ s.clk.now)
      fun s u => u.fab.done.head? = some { rq := rq, addr := regA w b o, write := false, done := t0 + readAfter s rq w t0, bad := false
                                           value := some (servedValue s rq (regA w b o) t0
                                             (s.clk.now - (t0 + appliedAfter s rq w t0 + if rq = w then 0 else 24))).1 } ∧
        u.regs = s.regs ∧ u.dram = s.dram ∧ u.cnt = s.cnt) ∧
  (∀ t rq w b o t0 d, readsStored b o = true → regFind b o = some d → d.wo = 0 →
    Does (.remoteRegisterReadDone t rq (regA w b o) t0)
      (fun s => w < 8 ∧ b < 0x14 ∧ o < 0x10000 ∧ errs s rq (regA w b o) false = false ∧ s.fab.queues = [] ∧ s.fab.taken = [] ∧ s.fab.past = [] ∧
        t0 + readTime rq w t0 ≤ s.clk.now)
      fun s u => u.fab.done.head? = some { rq := rq, addr := regA w b o, write := false, done := t0 + readTime rq w t0, bad := false
                                           value := some (regGet s (regA w b o)) })

/-- From R21, R387: a link that loses training is down at both ends, with its event; its Porters try again 1,024 REFCLK later,
an attempt fails after 3,000 REFCLK, the next begins 10 ms after, the eighth failure gives the link up; a trained link is up.
The model's own choices in it: log entries 30. -/
def Obligations.CorridorLinksRetrain : Prop :=
  (∀ t w p, w < 8 → Does (.corridorLinkLost t w p)
      (fun s => portUsed s w p = true ∧ LogRoom s (min w (w ^^^ 2 ^ p)) 1)
      fun s u => linkOn u w p = { linkDefault with down := true, due := s.clk.now + 10240, lostAt := s.clk.now } ∧
        Logged u (min w (w ^^^ 2 ^ p)) 0x0C31 (min w (w ^^^ 2 ^ p)) (min w (w ^^^ 2 ^ p)) p ∧
        ∀ a ∈ linkEnds w p, regF u (corLink a) p p = 0 ∧ regF u (corLink a) (16 + p) (16 + p) = 1) ∧
  (∀ t w p, w < 8 → Does (.corridorRetrainStart t w p)
      (fun s => portUsed s w p = true ∧ (linkOn s w p).down = true ∧ (linkOn s w p).training = false ∧
        (linkOn s w p).given = false ∧ (linkOn s w p).due ≤ s.clk.now)
      fun s u => linkOn u w p = { linkOn s w p with training := true, due := s.clk.now + 30000 }) ∧
  (∀ t w p, w < 8 → Does (.corridorLinkRetrained t w p)
      (fun s => portUsed s w p = true ∧ (linkOn s w p).down = true ∧ (linkOn s w p).training = true ∧
        s.clk.now % 64 = 0 ∧ s.clk.now < (linkOn s w p).due + 64 ∧ LogRoom s (min w (w ^^^ 2 ^ p)) 1)
      fun _ u => linkOn u w p = linkDefault ∧ (∀ a ∈ linkEnds w p, regF u (corLink a) p p = 1) ∧
        Logged u (min w (w ^^^ 2 ^ p)) 0x0C32 (min w (w ^^^ 2 ^ p)) (min w (w ^^^ 2 ^ p)) p) ∧
  (∀ t w p, w < 8 → Does (.corridorRetrainFailed t w p)
      (fun s => portUsed s w p = true ∧ (linkOn s w p).down = true ∧ (linkOn s w p).training = true ∧
        (linkOn s w p).due ≤ s.clk.now)
      fun s u => (linkOn u w p).attempts = (linkOn s w p).attempts + 1 ∧ (linkOn u w p).training = false ∧
        (linkOn u w p).down = true ∧
        (if 7 ≤ (linkOn s w p).attempts then (linkOn u w p).given = true
         else (linkOn u w p).given = (linkOn s w p).given ∧ (linkOn u w p).due = s.clk.now + 10000000))

/-- From R31, R33: a mode request is kept and in force at once, after the Timetable entries due in its FCLK; with no entry
armed it is one more change, with event 0x0101, and a change from another mode sets the cycles of Table 1-14: the divider at
the first multiple of 64 FCLK from now, the Night Audit lanes 64 FCLK after it, cores of the other wings to park in QUIET
HOURS, parked cores to resume 40,960 FCLK after the divider. A value that is no mode is refused and changes no mode. From R33:
the CCLK divider of the mode in force takes effect at its cycle; the Night Audit lanes at the first interval boundary of Night
Audit's schedule at or after theirs, in NA_STAT of every wing; a wing's cores set to park are parked; parked cores resume
together at their cycle. The model's own choices in it: log entries 33, 38, 228. -/
def Obligations.ModeChange : Prop :=
  (∀ t via m, m < 3 → Does (.modeRequest t via m)
      (fun s => reaches s via 0x01000100 = true ∧ srOpen s = true ∧ noPower s = false)
      fun _ u => Answered u via 0x01000100 stDONE ∧ u.mode.cur = m ∧ obj u 0x01000100 = m) ∧
  (∀ t via m, m < 2 → Does (.modeRequest t via m)
      (fun s => reaches s via 0x01000100 = true ∧ srOpen s = true ∧ noPower s = false ∧ LogRoom s 0 1 ∧
        ∀ w e, entState (ttGet s w e) ≠ 1)
      fun s u => u.mode.changes = s.mode.changes + 1 ∧ Logged u 0 0x0101 0 (s.mode.cur % two64) m ∧
        (if m = s.mode.cur then u.mode = { s.mode with changes := s.mode.changes + 1 }
         else u.mode.divAt = some (nextMultiple s.clk.now 64) ∧ u.mode.lanesAt = some (nextMultiple s.clk.now 64 + 64) ∧
           u.mode.toPark = 0 ∧ (s.mode.cur = 2 → u.mode.resumeAt = some (nextMultiple s.clk.now 64 + 40960)))) ∧
  (∀ t via, Does (.modeRequest t via 2)
      (fun s => reaches s via 0x01000100 = true ∧ srOpen s = true ∧ noPower s = false ∧ s.mode.cur ≠ 2 ∧
        ∀ w e, entState (ttGet s w e) ≠ 1)
      fun s u => u.mode.changes = s.mode.changes + 1 ∧ u.mode.divAt = some (nextMultiple s.clk.now 64) ∧
        u.mode.lanesAt = some (nextMultiple s.clk.now 64 + 64) ∧ u.mode.toPark = otherWings s ∧ u.mode.resumeAt = none) ∧
  (∀ t via m, 3 ≤ m → Does (.modeRequest t via m) (fun s => reaches s via 0x01000100 = true)
      fun s u => Answered u via 0x01000100 stRANGE ∧ u.mode = s.mode ∧ u.objs = s.objs) ∧
  (∀ t d, Does (.cclkDividerChange t) (fun s => s.mode.divAt = some d ∧ d ≤ s.clk.now)
      fun s u => u.mode = { s.mode with divider := modeDivider s.mode.cur, divAt := none }) ∧
  (∀ t d, Does (.nightAuditLaneChange t) (fun s => s.mode.lanesAt = some d ∧ d ≤ s.clk.now ∧ boundarySince s d = true)
      fun s u => u.mode = { s.mode with lanes := modeLanes s.mode.cur, lanesAt := none } ∧
        ∀ w, w < s.part.wings → regF u (naStat w) 40 32 = modeLanes s.mode.cur) ∧
  (∀ t w, Does (.corePark t w) (fun s => bit s.mode.toPark w = true)
      fun s u => u.mode.parked = s.mode.parked ||| 2 ^ w ∧ bit u.mode.parked w = true ∧ bit u.mode.toPark w = false ∧
        u.mode.cur = s.mode.cur) ∧
  (∀ t d, Does (.coreResume t) (fun s => s.mode.resumeAt = some d ∧ d ≤ s.clk.now)
      fun s u => u.mode = { s.mode with parked := 0, resumeAt := none })

/-! ### Chapter 2: the mains angle timebase and the Timetable -/

/-- From R35, R38 to R42: a crossing is kept by its channel with its half-cycle frequency and validity; with metrology off the
channel loses its crossings and keeps its latest frequency. A loss takes MAT to COASTING on one update of the nominal
increment, or, in ACQUIRING without an origin, to UNLOCKED; a source asked for takes over at its channel's next valid crossing
and takes LOCKED and COASTING to ACQUIRING; updates apply at their cycle to the reference and to the wings they reach; a
replica without updates is STALE, with its event, and goes on counting. The model's own choices in it: log entries 23 to 26.
-/
def Obligations.MainsAngleTimebase : Prop :=
  (∀ t ch up tc rms, isPhaseVoltage ch = true → Does (.zeroCrossing t ch up tc rms) (fun s => s.sr.metro = true)
      fun s u => (chanGet u ch).lastUp = (if up then some tc else (chanGet s ch).lastUp) ∧
        (chanGet u ch).lastDn = (if up then (chanGet s ch).lastDn else some tc) ∧
        (chanGet u ch).freq = ((halfCycle s (chanGet s ch) up tc).map halfFreq).getD (chanGet s ch).freq ∧
        (chanGet u ch).half = halfValid s ch rms ((halfCycle s (chanGet s ch) up tc).map halfFreq)) ∧
  (∀ t ch up tc rms, isPhaseVoltage ch = true → Does (.zeroCrossing t ch up tc rms) (fun s => s.sr.metro = false)
      fun s u => chanGet u ch = { chanDefault with freq := (chanGet s ch).freq } ∧ u.mat.state = s.mat.state) ∧
  (∀ t ch up tc rms, isPhaseVoltage ch = false → Does (.zeroCrossing t ch up tc rms) (fun _ => True) fun s u => u = s) ∧
  (∀ t ch a up tc rms, isPhaseVoltage ch = true → Does (.zeroCrossing t ch up tc rms)
      (fun s => s.sr.metro = true ∧ s.mat.pendSrc = some (ch, a) ∧
        halfValid s ch rms ((halfCycle s (chanGet s ch) up tc).map halfFreq) = true)
      fun _ u => u.mat.source = ch ∧ u.mat.pendSrc = none) ∧
  (∀ t d, Does (.matLoss t)
      (fun s => s.mat.lossAt = some d ∧ d ≤ s.clk.now ∧ (s.mat.state = 2 ∨ (s.mat.state = 1 ∧ s.mat.origin = true)))
      fun s u => u.mat.state = 3 ∧ u.mat.lossAt = none ∧ u.mat.refPend = s.mat.refPend ++ [(s.clk.now + 4096, nominalInc s)]) ∧
  (∀ t d, Does (.matLoss t) (fun s => s.mat.lossAt = some d ∧ d ≤ s.clk.now ∧ s.mat.state = 1 ∧ s.mat.origin = false)
      fun _ u => u.mat.state = 0 ∧ u.mat.refInc = 0 ∧ u.mat.refPend = []) ∧
  (∀ t ch a, Does (.sourceChannelChange t) (fun s => s.mat.pendSrc = some (ch, a) ∧ a < (chanGet s ch).validAt)
      fun s u => u.mat.source = ch ∧ u.mat.pendSrc = none ∧
        u.mat.state = (if s.mat.state = 2 ∨ s.mat.state = 3 then 1 else s.mat.state)) ∧
  (∀ t ch a, Does (.sourceChannelChange t) (fun s => s.mat.pendSrc = some (ch, a) ∧ (chanGet s ch).validAt ≤ a) fun s u => u = s) ∧
  (∀ t a inc l, Does (.matUpdateApply t) (fun s => s.mat.refPend = (a, inc) :: l ∧ a ≤ s.clk.now)
      fun _ u => u.mat.refInc = inc ∧ u.mat.refPend = l) ∧
  (∀ t x xs, Does (.matUpdateApply t) (fun s => s.mat.pend = x :: xs ∧ x.at_ ≤ s.clk.now)
      fun s u => u.mat.pend = xs ∧
        ∀ i, i < s.mat.reps.length → bit x.mask i = true → (replica u i).inc = x.inc ∧ (replica u i).stale = false) ∧
  (∀ t w, w < 8 → Does (.replicaStale t w)
      (fun s => w < s.part.wings ∧ w < s.mat.reps.length ∧ s.mat.origin = true ∧ ((replica s w).given = 1 ∨ (replica s w).given = 2) ∧
        (replica s w).stale = false ∧ (replica s w).upd + staleTime s ≤ s.clk.now ∧ LogRoom s w 1)
      fun s u => (replica u w).stale = true ∧ (replica u w).acc = (replica s w).acc ∧ (replica u w).inc = (replica s w).inc ∧
        Logged u w 0x0205 w w (matNow s w))

/-- From R44, R45: GO takes an entry's held words and arms it, or skips it with why and event 0x0210; STOP cancels an ARMED
entry that is not due in this FCLK, with event 0x0213, and leaves one that is not ARMED. The model's own choices in it: log
entries 28. -/
def Obligations.TimetableGoAndStop : Prop :=
  (∀ t w e, e < 256 → Does (.timetableGo t w e)
      (fun s => w < s.part.wings ∧ goWhy s w (unhold (ttGet s w e)) = 0)
      fun s u => entState (ttGet u w e) = 1 ∧ entWhy (ttGet u w e) = entWhy (ttGet s w e) ∧ (ttGet u w e).tgt = (unhold (ttGet s w e)).tgt ∧
        (ttGet u w e).arg = (unhold (ttGet s w e)).arg ∧ (ttGet u w e).leadAt = none ∧
        ∀ e', e' < 256 → e' ≠ e → ttGet u w e' = ttGet s w e') ∧
  (∀ t w e, w < 8 → e < 256 → Does (.timetableGo t w e)
      (fun s => w < s.part.wings ∧ goWhy s w (unhold (ttGet s w e)) ≠ 0 ∧ LogRoom s w 1)
      fun s u => entState (ttGet u w e) = 3 ∧ entWhy (ttGet u w e) = goWhy s w (unhold (ttGet s w e)) ∧
        Logged u w 0x0210 w (w * 256 + e) (goWhy s w (unhold (ttGet s w e)))) ∧
  (∀ t w e, w < 8 → e < 256 → Does (.timetableStop t w e)
      (fun s => w < s.part.wings ∧ entState (ttGet s w e) = 1 ∧ fireDue s w (ttGet s w e) = false ∧
        leadDue s w (ttGet s w e) = false ∧ LogRoom s w 1)
      fun s u => entState (ttGet u w e) = 4 ∧ entWhy (ttGet u w e) = 8 ∧ Logged u w 0x0213 w (w * 256 + e) (matNow s w) ∧
        ∀ e', e' < 256 → e' ≠ e → ttGet u w e' = ttGet s w e') ∧
  (∀ t w e, Does (.timetableStop t w e) (fun s => entState (ttGet s w e) ≠ 1) fun s u => u = s)

/-- From R46 to R49, R52: an ARMED entry whose target MAT has reached fires, no other entry being due in its FCLK: a mode
request, a Bell Board source, a capture; without lock it is skipped with NOLOCK when it needs lock, with its event; a capture
while one runs is skipped. A firing without an interval is DONE; with one, the target and the count of firings left advance
and the entry stays ARMED until the last. A capture ends at its target, when its buffer is full or when metrology stops, and
writes its sample count. From R48, R50: a launch's lead is taken 35,200 FCLK before its target, no other lead being due: its
port's TXEN is asserted and its frame is on its way; 35,200 FCLK after its lead it has fired, with event 0x0212, and is DONE.
From R69: clearing AIR_CFG.EN stops the port: nothing is on air, TXEN and SMPCLK are released. The model's own choices in it:
log entries 27, 29, 232. -/
def Obligations.TimetableFires : Prop :=
  (∀ t w e, w < 8 → e < 256 → Does (.timetableFire t w e)
      (fun s => w < s.part.wings ∧ (ttGet s w e).leadAt = none ∧ OnlyDue s w e ∧ entAction (ttGet s w e) = 5 ∧
        entNeed (ttGet s w e) = false ∧ entInterval (ttGet s w e) = 0)
      fun _ u => entState (ttGet u w e) = 2 ∧ regF u (bbStat w 0) 20 20 = 1 ∧ regF u (ttStat w) 15 8 = e) ∧
  (∀ t w e, w < 8 → e < 256 → Does (.timetableFire t w e)
      (fun s => w < s.part.wings ∧ (ttGet s w e).leadAt = none ∧ OnlyDue s w e ∧ entAction (ttGet s w e) = 5 ∧
        entNeed (ttGet s w e) = false ∧ entInterval (ttGet s w e) ≠ 0 ∧ entCount (ttGet s w e) ≠ 1)
      fun s u => entState (ttGet u w e) = 1 ∧ regF u (ttStat w) 15 8 = e ∧
        (ttGet u w e).tgt = ((ttGet s w e).tgt + entInterval (ttGet s w e) * 2 ^ 24) % 2 ^ 64 ∧
        entCount (ttGet u w e) = entCount (ttGet s w e) - 1) ∧
  (∀ t w e, w < 8 → e < 256 → Does (.timetableFire t w e)
      (fun s => w < s.part.wings ∧ (ttGet s w e).leadAt = none ∧ OnlyDue s w e ∧ entAction (ttGet s w e) = 1 ∧
        entNeed (ttGet s w e) = false ∧ entInterval (ttGet s w e) = 0)
      fun s u => entState (ttGet u w e) = 2 ∧ u.mode.cur = (ttGet s w e).arg % 4) ∧
  (∀ t w e, w < 8 → e < 256 → Does (.timetableFire t w e)
      (fun s => w < s.part.wings ∧ (ttGet s w e).leadAt = none ∧ OnlyDue s w e ∧ entAction (ttGet s w e) = 2 ∧
        entNeed (ttGet s w e) = false ∧ entInterval (ttGet s w e) = 0 ∧ s.cap = none)
      fun s u => entState (ttGet u w e) = 2 ∧
        u.cap.map (fun c => (c.wing, c.entry, c.base, c.n)) = some (w, e, (ttGet s w e).arg, 0)) ∧
  (∀ t w e, w < 8 → e < 256 → Does (.timetableFire t w e)
      (fun s => w < s.part.wings ∧ (ttGet s w e).leadAt = none ∧ OnlyDue s w e ∧ entAction (ttGet s w e) = 2 ∧
        entNeed (ttGet s w e) = false ∧ entInterval (ttGet s w e) = 0 ∧ s.cap.isSome = true ∧ LogRoom s w 1)
      fun s u => entState (ttGet u w e) = 3 ∧ entWhy (ttGet u w e) = 5 ∧ u.cap = s.cap ∧ Logged u w 0x0210 w (w * 256 + e) 5) ∧
  (∀ t w e, w < 8 → e < 256 → Does (.timetableFire t w e)
      (fun s => w < s.part.wings ∧ (ttGet s w e).leadAt = none ∧ OnlyDue s w e ∧ entNeed (ttGet s w e) = true ∧
        lockOk s w = false ∧ entInterval (ttGet s w e) = 0 ∧ LogRoom s w 1)
      fun s u => entState (ttGet u w e) = 3 ∧ entWhy (ttGet u w e) = 3 ∧ u.mode = s.mode ∧ u.cap = s.cap ∧
        Logged u w 0x0210 w (w * 256 + e) 3) ∧
  (∀ t c, Does (.captureEnd t)
      (fun s => s.cap = some c ∧ (c.limit ≤ c.n ∨ s.sr.metro = false ∨ matReached s c.wing c.endAt = true))
      fun s u => u.cap = none ∧ dramRead u (c.base + 8) 8 = toLe 8 c.n ∧
        ∀ x, (x < c.base + 8 ∨ c.base + 16 ≤ x) → dramByte u x = dramByte s x) ∧
  (∀ t w e, w < 8 → e < 256 → Does (.airLaunchLead t w e)
      (fun s => w < s.part.wings ∧ leadDue s w (ttGet s w e) = true ∧ entNeed (ttGet s w e) = false ∧
        (∀ w' e', w' * 256 + e' ≠ w * 256 + e → leadDue s w' (ttGet s w' e') = false) ∧
        (portGet s (2 * w + entPort (ttGet s w e))).cur = none ∧ airEn s (2 * w + entPort (ttGet s w e)) = true ∧
        descBad s w (dramRead s (ttGet s w e).arg 32) = false)
      fun s u => ttGet u w e = { ttGet s w e with leadAt := some s.clk.now } ∧
        (portGet u (2 * w + entPort (ttGet s w e))).txen = true ∧
        (portGet u (2 * w + entPort (ttGet s w e))).cur.map (fun c => (c.rank, c.ident)) = some (2, w * 256 + e)) ∧
  (∀ t w e l, w < 8 → e < 256 → Does (.timetableFire t w e)
      (fun s => w < s.part.wings ∧ (ttGet s w e).leadAt = some l ∧ l + 35200 ≤ s.clk.now ∧ entAction (ttGet s w e) = 3 ∧
        entState (ttGet s w e) = 1 ∧ entInterval (ttGet s w e) = 0 ∧ LogRoom s w 1)
      fun s u => entState (ttGet u w e) = 2 ∧ (ttGet u w e).leadAt = none ∧ Logged u w 0x0212 w (w * 256 + e) (matNow s w)) ∧
  (∀ t w p, p < 2 → Does (.portDisable t w p) (fun s => w < s.part.wings)
      fun s u => regF u (airCfg w p) 0 0 = 0 ∧ regF u (airStat w p) 0 0 = 0 ∧ (portGet u (2 * w + p)).smpclk = false ∧
        (portGet u (2 * w + p)).smpOff = s.clk.now + 1000 ∧ (portGet u (2 * w + p)).txen = false ∧
        (portGet u (2 * w + p)).cur = none ∧ (portGet u (2 * w + p)).resv = [])

/-! ### Chapter 2, continued: the Room Key's leases and armed responses -/

/-- From R330 to R334, R343, R481: a lease that passes the Concierge's checks waits for the floor; the floor rises in one
commit and the lease is on its way to every wing, which hold it after the first multiple of 64 FCLK; or the request is refused
STALE; a refusal is counted with event 0x0B22; release, reading, rollover and loss. The model's own choices in it: log entries
55, 56. -/
def Obligations.RoomKeyLeases : Prop :=
  (∀ t via rec sig, Does (.installALease t via rec sig)
      (fun s => reaches s via 0x0B030000 = true ∧ firstFail (leaseChecks rec sig s) = none)
      fun s u => u.lease = { s.lease with wait := s.lease.wait ++ [(via, rec)] }) ∧
  (∀ t via rec sig st, Does (.installALease t via rec sig)
      (fun s => firstFail (leaseChecks rec sig s) = some st ∧ reaches s via 0x0B030000 = true ∧ LogRoom s 0 1)
      fun s u => Answered u via 0x0B030000 st ∧ u.lease = s.lease ∧ Logged u 0 0x0B22 0 (beAt rec 0 8 % two64) (st % two64) ∧
        cntGet u 0 (tallyCg 5) = (cntGet s 0 (tallyCg 5) + 1) % two64) ∧
  (∀ t via b rest, Does (.leaseFloor t)
      (fun s => s.lease.wait = (via, b) :: rest ∧ keeperFree 0 0x0B01 s = true ∧ srOpen s = true ∧ noPower s = false ∧
        LogRoom s 0 1 ∧
        ((floorGet s (beAt b 0 8) = floorDefault ∧ s.lease.floors.length < 16384) ∨
         (floorGet s (beAt b 0 8) ≠ floorDefault ∧ ((floorGet s (beAt b 0 8)).number < beAt b 8 8 ∨
           ((floorGet s (beAt b 0 8)).number = beAt b 8 8 ∧ (floorGet s (beAt b 0 8)).digest = (Config.sha256 b).take 16)))))
      fun s u => Answered u via 0x0B030000 stDONE ∧ u.lease.wait = rest ∧ (floorGet u (beAt b 0 8)).number = beAt b 8 8 ∧
        (floorGet u (beAt b 0 8)).digest = (Config.sha256 b).take 16 ∧
        (floorGet s (beAt b 0 8) = floorDefault → (floorGet u (beAt b 0 8)).latest = beAt b 48 8) ∧
        (∀ g, g ≠ beAt b 0 8 → floorGet u g = floorGet s g) ∧
        Logged u 0 0x0B20 0 (beAt b 0 8 % two64) ((beAt b 8 8 * 4 + leasePlace (groupGet (leaseSettle s) (beAt b 0 8)) b) % two64) ∧
        ∀ t', (s.clk.now / 64 + 1) * 64 < t' → groupGet (atTime t' u) (beAt b 0 8) =
          leasePut (groupGet (leaseSettle s) (beAt b 0 8)) (leasePlace (groupGet (leaseSettle s) (beAt b 0 8)) b) (leaseOf b)) ∧
  (∀ t via b rest, Does (.leaseFloor t)
      (fun s => s.lease.wait = (via, b) :: rest ∧ keeperFree 0 0x0B01 s = true ∧ srOpen s = true ∧ noPower s = false ∧
        LogRoom s 0 1 ∧ floorGet s (beAt b 0 8) ≠ floorDefault ∧ (beAt b 8 8 < (floorGet s (beAt b 0 8)).number ∨
          (beAt b 8 8 = (floorGet s (beAt b 0 8)).number ∧ (Config.sha256 b).take 16 ≠ (floorGet s (beAt b 0 8)).digest)))
      fun s u => Answered u via 0x0B030000 stSTALE ∧ u.lease = { (leaseSettle s).lease with wait := rest } ∧
        Logged u 0 0x0B22 0 (beAt b 0 8 % two64) stSTALE ∧
        cntGet u 0 (tallyCg 5) = (cntGet s 0 (tallyCg 5) + 1) % two64) ∧
  (∀ t g x, Does (.leaseFloorFree t g)
      (fun s => uncertainty s = some x ∧ floorGet s g ≠ floorDefault ∧ ptimeLocked s = true ∧
        laterW 64 ((ptimeNs s + 2 ^ 64 - x % 2 ^ 64) % 2 ^ 64) (floorGet s g).latest = true)
      fun s u => floorGet u g = floorDefault ∧ ∀ g', g' ≠ g → floorGet u g' = floorGet s g') ∧
  (∀ t via g, Does (.releaseTheLeases t via g) (fun s => reaches s via 0x0B030100 = true ∧ LogRoom s 0 66)
      fun s u => Answered u via 0x0B030100 stDONE ∧ (groupGet u g).cur = none ∧ (groupGet u g).next = none ∧
        (groupGet u g).drill = (groupGet s g).drill ∧
        Logged u 0 0x0B23 0 (g % two64) ((((groupGet s g).cur.map (·.number)).getD 0) % two64)) ∧
  (∀ t via g, Does (.readTheLeases t via g) (fun s => reaches s via 0x0B030200 = true)
      fun s u => AnsweredBody u via 0x0B030200 stDONE (leasesReply g (groupGet s g)) ∧ u.lease = s.lease) ∧
  (∀ t g c n, Does (.leaseRollover t g)
      (fun s => (groupGet s g).cur = some c ∧ (groupGet s g).next = some n ∧ notBeforeW 64 (ptimeNs s) c.expiry = true)
      fun _ u => (groupGet u g).next = none ∧ (groupGet u g).cur =
        some { n with span := if notBeforeW 64 c.expiry n.start = true then c.span else n.start }) ∧
  (∀ t g, Does (.leaseUnusable t g)
      (fun s => leaseJudge s g ≠ 0 ∧ leaseJudge s g ≠ 4 ∧ (groupGet s g).was = false ∧ LogRoom s 0 66)
      fun s u => (groupGet u g).was = true ∧
        Logged u 0 0x0B21 0 (g % two64) ((((groupGet s g).cur.map (·.number)).getD 0) % two64) ∧
        (∀ i, i < 64 → (slotGet s i).state = 1 → armGroup (slotGet s i) = g →
          (slotGet u i).state = 3 ∧ (slotGet u i).why = 2) ∧
        ∀ i, (slotGet s i).state ≠ 1 ∨ armGroup (slotGet s i) ≠ g → slotGet u i = slotGet s i) ∧
  (∀ t g, Does (.leaseUnusable t g) (fun s => leaseJudge s g = 0)
      fun s u => (groupGet u g).was = false ∧ u.armed = s.armed) ∧
  (∀ t via src, src < 512 → Does (.lastExportNumberImported t via src) (fun s => reaches s via 0x0B040300 = true)
      fun s u => AnsweredBody u via 0x0B040300 stDONE (toBe 8 (tabGet 0 s.lease.seen src)) ∧ u.lease = s.lease) ∧
  (∀ t via src, 512 ≤ src → Does (.lastExportNumberImported t via src) (fun s => reaches s via 0x0B040300 = true)
      fun s u => Answered u via 0x0B040300 stRANGE ∧ u.lease = s.lease)

/-- From R53 to R60, R83, R92: arming builds the frame, loads it to a buffer of every port and takes one counter value; a
refused arming is counted and changes nothing of the slots; disarming and expiry free the slot with event 0x0222; 1,600
cycles after the triggering sample the firing is announced, or, with neither link up, recorded as lost; at 6,000 the armed
frame takes its ports, or is spaced 1,000 cycles behind another's, and leaves. The model's own choices in it: log entries 52,
53, 54, 57, 236. -/
def Obligations.ArmedResponses : Prop :=
  (∀ t via rec sig, Does (.armResponse t via rec sig)
      (fun s => reaches s via 0x02020000 = true ∧ firstFail (armChecks rec sig s) = none ∧
        leaseJudge s (beAt rec 12 8) = 0 ∧ bufsFree s (beAt rec 28 2) = true ∧ LogRoom s 0 1)
      fun s u => Answered u via 0x02020000 stDONE ∧ (slotGet u (beAt rec 0 1)).state = 1 ∧
        (slotGet u (beAt rec 0 1)).record = rec ∧ (slotGet u (beAt rec 0 1)).ctr = obj s (0x04002400 + beAt rec 0 1) ∧
        (∃ seq, seq < 256 ∧ (slotGet u (beAt rec 0 1)).frame =
          armFrame s rec ((slotGet s (beAt rec 0 1)).frames + 1) (obj s (0x04002400 + beAt rec 0 1)) seq) ∧
        (∀ pn, pn < 16 → bit (beAt rec 28 2) pn = true →
          (portGet u pn).bufs = (portGet s pn).bufs ++ [(beAt rec 0 1, (slotGet u (beAt rec 0 1)).frame)]) ∧
        obj u (0x04002400 + beAt rec 0 1) = obj s (0x04002400 + beAt rec 0 1) + 1 ∧
        Logged u 0 0x0220 0 (beAt rec 0 1) ((slotGet u (beAt rec 0 1)).air % two64) ∧
        cntGet u 0 (tallyCg 0) = (cntGet s 0 (tallyCg 0) + 1) % two64) ∧
  (∀ t via rec sig st, Does (.armResponse t via rec sig)
      (fun s => reaches s via 0x02020000 = true ∧ firstFail (armChecks rec sig s) = some st)
      fun s u => Answered u via 0x02020000 st ∧ u.armed = s.armed ∧ u.objs = s.objs ∧ u.air = s.air ∧
        tabGet 0 u.emp.refused (0x02020000 * 64 + st) = tabGet 0 s.emp.refused (0x02020000 * 64 + st) + 1) ∧
  (∀ t via rec sig, Does (.armResponse t via rec sig)
      (fun s => reaches s via 0x02020000 = true ∧ firstFail (armChecks rec sig s) = none ∧ leaseJudge s (beAt rec 12 8) ≠ 0 ∧
        LogRoom s 0 1)
      fun s u => Answered u via 0x02020000 stLEASE ∧ u.armed = s.armed ∧ u.objs = s.objs ∧ u.air = s.air ∧
        cntGet u 0 (tallyCg (gateCounter (leaseJudge s (beAt rec 12 8)))) =
          (cntGet s 0 (tallyCg (gateCounter (leaseJudge s (beAt rec 12 8)))) + 1) % two64) ∧
  (∀ t via rec sig, Does (.armResponse t via rec sig)
      (fun s => reaches s via 0x02020000 = true ∧ firstFail (armChecks rec sig s) = none ∧
        leaseJudge s (beAt rec 12 8) = 0 ∧ bufsFree s (beAt rec 28 2) = false)
      fun s u => Answered u via 0x02020000 stPORT_FULL ∧ u.armed = s.armed ∧ u.objs = s.objs ∧ u.air = s.air ∧
        cntGet u 0 (tallyCg 0) = cntGet s 0 (tallyCg 0)) ∧
  (∀ t via i, i < 64 → Does (.disarmSlot t via i)
      (fun s => reaches s via 0x02020100 = true ∧ (slotGet s i).state = 1 ∧ LogRoom s 0 1)
      fun s u => Answered u via 0x02020100 stDONE ∧ (slotGet u i).state = 3 ∧ (slotGet u i).why = 1 ∧
        Logged u 0 0x0222 0 i 1 ∧ ∀ j, j ≠ i → slotGet u j = slotGet s j) ∧
  (∀ t via i, i < 64 → Does (.disarmSlot t via i)
      (fun s => reaches s via 0x02020100 = true ∧ (slotGet s i).state ≠ 1)
      fun s u => Answered u via 0x02020100 stSTATE ∧ u.armed = s.armed) ∧
  (∀ t i, Does (.armedResponseExpiry t i)
      (fun s => (slotGet s i).state = 1 ∧ laterW 64 (ptimeNs s) (armUntil (slotGet s i)) = true ∧ LogRoom s 0 1 ∧ i < 64)
      fun s u => (slotGet u i).state = 3 ∧ (slotGet u i).why = 3 ∧ Logged u 0 0x0222 0 i 3 ∧
        ∀ j, j ≠ i → slotGet u j = slotGet s j) ∧
  (∀ t i d, Does (.armedTriggerDecision t i)
      (fun s => (slotGet s i).decide = some d ∧ d ≤ s.clk.now ∧ (srUp s 0 || srUp s 1) = true)
      fun s u => slotGet u i = { slotGet s i with decide := none
                                                  gate := if srUp s (s.sr.carrying.getD 0) = true then s.sr.carrying.getD 0 else 1 - s.sr.carrying.getD 0
                                                  reach := fireReach s (if srUp s (s.sr.carrying.getD 0) = true then s.sr.carrying.getD 0 else 1 - s.sr.carrying.getD 0) } ∧
        (∀ c, s.sr.carrying = some c → u.bell.srGoing = s.bell.srGoing ++ [(11, s.clk.now + 480)]) ∧
        (s.sr.carrying = none → u.bell.srHeld = s.bell.srHeld ++ [11]) ∧
        ∃ r, (mramLog u 8).head? = some r ∧ r.code = 0x0221 ∧ r.p0 = i % two64 ∧ r.p1 = (slotGet s i).tsPtime % two64) ∧
  (∀ t i d, Does (.armedTriggerDecision t i)
      (fun s => (slotGet s i).decide = some d ∧ d ≤ s.clk.now ∧ srUp s 0 = false ∧ srUp s 1 = false)
      fun s u => slotGet u i = { slotGet s i with decide := none, fireAt := none, lost := true } ∧ u.bell = s.bell) ∧
  (∀ t i, i < 64 → Does (.fireCycle t i)
      (fun s => firesNow s (slotGet s i) = true ∧ ∀ j, j < i → firesNow s (slotGet s j) = false)
      fun s u => (slotGet u i).fireAt = none ∧ (slotGet u i).matFire = matNow s 0 ∧
        (∀ pn, pn < 16 → bit (slotGet s i).ports pn = true → fireHeld s (slotGet s i) (pn / 2) = true → airEn s pn = true →
          bit (slotGet u i).usedAir pn = true ∧
          (armedEnd s pn = none → (portGet u pn).txen = true ∧
            (portGet u pn).cur.map (fun c => (c.rank, c.ident, c.first)) = some (1, i, (slotGet s i).ts + 41200)) ∧
          ∀ e, armedEnd s pn = some e → ∃ r ∈ (portGet u pn).resv, r.rank = 1 ∧ r.ident = i ∧
            r.first = max ((slotGet s i).ts + 41200) (e + 1000)) ∧
        (∀ pn, pn < 16 → bit (slotGet s i).ports pn = true → (fireHeld s (slotGet s i) (pn / 2) = false ∨ airEn s pn = false) →
          portGet u pn = { portGet s pn with bufs := (portGet s pn).bufs.eraseP (fun b => b.1 == i) })) ∧
  (∀ t i pn c, Does (.armedFrameStart t i pn)
      (fun s => (portGet s pn).cur = some c ∧ c.rank = 1 ∧ c.ident = i ∧ (portGet s pn).ended = false ∧ c.first ≤ s.clk.now)
      fun s u => portGet u pn = { portGet s pn with onAir := true } ∧ ∀ q, q ≠ pn → portGet u q = portGet s q) ∧
  (∀ t i pn c r, Does (.armedFrameStart t i pn)
      (fun s => (portGet s pn).cur = some c ∧ c.rank = 1 ∧ (portGet s pn).ended = true ∧
        (portGet s pn).resv.find? (fun r => r.rank == 1 && r.ident == i && decide (r.first ≤ s.clk.now)) = some r)
      fun s u => (portGet u pn).cur = some r ∧ (portGet u pn).onAir = true ∧ (portGet u pn).ended = false ∧
        r ∉ (portGet u pn).resv ∧ ∀ q, q ≠ pn → portGet u q = portGet s q)

/-! ### Chapter 3: the Air Ports -/

/-- From R65 to R67, R85, R87: enabling, training, gaining and losing alignment, the front end's SPI, clipping; after alignment
a time is that of the last sample placed at floor(625 n / 8) after c0, and a port that transmits nothing sends zero samples.
The model's own choices in it: log entries 234. -/
def Obligations.AirInterface : Prop :=
  (∀ t w p, p < 2 → Does (.portEnable t w p) (fun s => w < s.part.wings)
      fun s u => regF u (airCfg w p) 0 0 = 1 ∧ (portGet u (2 * w + p)).smpclk = true ∧
        (portGet u (2 * w + p)).tries = (portGet s (2 * w + p)).tries + 1) ∧
  (∀ t w p, p < 2 → Does (.train t w p) (fun s => w < s.part.wings)
      fun s u => regF u (airCfg w p) 1 1 = 1 ∧ regF u (airStat w p) 0 0 = 0 ∧ lanesOn u (2 * w + p) (fun _ => true) = [] ∧
        (∀ k ∈ (arbGet u w).waiting, k / 64 ≠ p) ∧
        cntGet u w (tallyAir p 8) = (cntGet s w (tallyAir p 8) + (lanesOn s (2 * w + p) (fun _ => true)).length) % two64) ∧
  (∀ t w p, p < 2 → Does (.alignmentGained t w p)
      (fun s => w < s.part.wings ∧ w < 8 ∧ airEn s (2 * w + p) = true ∧ airLock s (2 * w + p) = false ∧
        bit (setNow s (airCfg w p)).toNat 1 = false ∧ LogRoom s w 1)
      fun s u => regF u (airStat w p) 0 0 = 1 ∧ regF u (airCfg w p) 1 1 = 0 ∧ (portGet u (2 * w + p)).origin = s.clk.now ∧
        (portGet u (2 * w + p)).tries = 0 ∧
        Logged u w 0x0302 (2 * w + p) (2 * w + p) ((portGet s (2 * w + p)).tries % two64)) ∧
  (∀ t w p, Does (.alignmentGained t w p) (fun s => bit (setNow s (airCfg w p)).toNat 1 = true) fun s u => u = s) ∧
  (∀ t w p, p < 2 → Does (.alignmentLost t w p)
      (fun s => w < s.part.wings ∧ w < 8 ∧ airLock s (2 * w + p) = true ∧ LogRoom s w 1)
      fun s u => regF u (airStat w p) 0 0 = 0 ∧ regF u (airStat w p) 4 4 = 1 ∧ regF u (bbStat w 0) (2 + p) (2 + p) = 1 ∧
        lanesOn u (2 * w + p) (fun _ => true) = [] ∧ (∀ k ∈ (arbGet u w).waiting, k / 64 ≠ p) ∧
        cntGet u w (tallyAir p 17) = (cntGet s w (tallyAir p 17) + 1) % two64 ∧
        Logged u w 0x0301 (2 * w + p) (2 * w + p) (lanesOn s (2 * w + p) (fun _ => true)).length) ∧
  (∀ s pn c, (portGet s pn).origin ≤ c → ∃ n, placedAt s pn c = (portGet s pn).origin + n * 625 / 8 ∧
      placedAt s pn c ≤ c ∧ c < (portGet s pn).origin + (n + 1) * 625 / 8) ∧
  (∀ s pn, (portGet s pn).cur = none → txSample s pn = (0, 0)) ∧
  (∀ t w p v, p < 2 → Does (.spiGo t w p v)
      (fun s => w < s.part.wings ∧ regF s (airSpi w p) 62 62 = 0 ∧ 8 ≤ bits v.toNat 53 48 ∧ bits v.toNat 53 48 ≤ 32)
      fun s u => regF u (airSpi w p) 62 62 = 1 ∧ regF u (airSpi w p) 53 48 = bits v.toNat 53 48 ∧
        regF u (airSpi w p) 31 0 = bits v.toNat 31 0 ∧ regF u (airSpi w p) 63 63 = regF s (airSpi w p) 63 63 ∧
        (portGet u (2 * w + p)).spi = some (s.clk.now + (bits v.toNat 53 48 + 2) * sckPeriod s w p, bits v.toNat 53 48)) ∧
  (∀ t w p v, p < 2 → Does (.spiGo t w p v)
      (fun s => w < s.part.wings ∧ w < 8 ∧ LogRoom s w 1 ∧
        (regF s (airSpi w p) 62 62 = 1 ∨ bits v.toNat 53 48 < 8 ∨ 32 < bits v.toNat 53 48))
      fun s u => regF u (airStat w p) 7 7 = 1 ∧ regGet u (airSpi w p) = regGet s (airSpi w p) ∧ u.air = s.air ∧
        Logged u w 0x0304 (2 * w + p) (2 * w + p) (v ||| 0x8000000000000000).toNat) ∧
  (∀ t w p miso e len, p < 2 → len ≤ 32 → Does (.spiComplete t w p miso)
      (fun s => (portGet s (2 * w + p)).spi = some (e, len) ∧ e ≤ s.clk.now)
      fun _ u => regF u (airSpi w p) 62 62 = 0 ∧ regF u (airSpi w p) 31 0 = miso % 2 ^ len ∧
        (portGet u (2 * w + p)).spi = none) ∧
  (∀ t w p n, p < 2 → 0 < n → Does (.clipReport t w p n)
      (fun s => w < s.part.wings ∧ w < 8 ∧ LogRoom s w 1)
      fun s u => cntGet u w (tallyAir p 16) = (cntGet s w (tallyAir p 16) + n) % two64 ∧ regF u (airStat w p) 6 6 = 1 ∧
        (onceDue s (1000 + (2 * w + p)) 1000000000 = true → Logged u w 0x0305 (2 * w + p) (2 * w + p)
          (recentCount (noteRecent 1000000000 s.clk.now n (portGet s (2 * w + p)).clips) % two64)))

/-- From R66, R67, R73 to R78, R84: watchers whose bin power reaches MINPWR ask, and the arbiter grants the next that listens
in circular order the lowest-numbered free lane, one in an FCLK; a lane acquires, finds the SFD that began since, at the time
of its sample, or is released with the outcome counted and its places returned. The model's own choices in it: log entries
58. -/
def Obligations.AirLanes : Prop :=
  (∀ t w p b pwr, p < 2 → b < 64 → Does (.preambleDetect t w p b pwr)
      (fun s => minPower s w p ≤ pwr ∧ listening s (2 * w + p) b = true ∧ binHasLane s (2 * w + p) b = false ∧
        (arbGet s w).waiting.contains (p * 64 + b) = false)
      fun s u => (arbGet u w).waiting = (arbGet s w).waiting ++ [p * 64 + b] ∧ u.air.lanes = s.air.lanes) ∧
  (∀ t w p b pwr, Does (.preambleDetect t w p b pwr) (fun s => pwr < minPower s w p) fun s u => u = s) ∧
  (∀ t w k l, Does (.laneGrant t w)
      (fun s => (arbGet s w).lastAt ≠ s.clk.now + 1 ∧ nextWatcher s w (arbGet s w) = some k ∧ lowestLane s w = some l)
      fun s u => (laneGet u w l).st = 1 ∧ (laneGet u w l).port = k / 64 ∧ (laneGet u w l).bin = k % 64 ∧
        (laneGet u w l).mode = binMode s (2 * w + k / 64) (k % 64) % 8 ∧
        (laneGet u w l).grant = s.clk.now ∧ (arbGet u w).last = k ∧ k ∉ (arbGet u w).waiting ∧
        ∀ l', l' < 24 → l' ≠ l → laneGet u w l' = laneGet s w l') ∧
  (∀ t w, Does (.laneGrant t w) (fun s => (arbGet s w).lastAt = s.clk.now + 1 ∨ lowestLane s w = none ∨
        nextWatcher s w (arbGet s w) = none)
      fun s u => u = s) ∧
  (∀ t w p b m pwr, p < 2 → Does (.watcherWithdraw t w p b m pwr)
      (fun s => (arbGet s w).waiting.contains (p * 64 + b) = true ∧ (m = false ∨ pwr < minPower s w p))
      fun s u => (p * 64 + b) ∉ (arbGet u w).waiting ∧ regF u (airStat w p) 5 5 = 1 ∧
        cntGet u w (tallyAir p 1) = (cntGet s w (tallyAir p 1) + 1) % two64) ∧
  (∀ t w l, Does (.laneAcquired t w l)
      (fun s => (laneGet s w l).st = 1 ∧ (laneGet s w l).acq = false ∧
        (laneGet s w l).grant + symbols (laneGet s w l).mode 8 ≤ s.clk.now)
      fun s u => laneGet u w l = { laneGet s w l with acq := true }) ∧
  (∀ t w l m pwr, Does (.sfdTimeout t w l m pwr)
      (fun s => (laneGet s w l).st = 1 ∧ (laneGet s w l).port < 2 ∧
        (m = false ∨ pwr < minPower s w (laneGet s w l).port ∨
          (laneGet s w l).grant + symbols (laneGet s w l).mode (sfdWait s w (laneGet s w l).port) ≤ s.clk.now))
      fun s u => (laneGet u w l).st = 3 ∧ (laneGet u w l).freeAt = some (s.clk.now + 64) ∧
        cntGet u w (tallyAir (laneGet s w l).port 2) = (cntGet s w (tallyAir (laneGet s w l).port 2) + 1) % two64) ∧
  (∀ t w l phr, Does (.sfdFound t w l phr)
      (fun s => (laneGet s w l).st = 1 ∧ (laneGet s w l).acq = true ∧
        (laneGet s w l).grant + symbols (laneGet s w l).mode 8 + sfdTime (laneGet s w l).mode ≤ s.clk.now ∧
        phr.modeSwitch = false ∧ phr.length ≤ maxPsdu s w (laneGet s w l).port ∧ (if phr.fcsShort then 2 else 4) < phr.length)
      fun s u => (laneGet u w l).st = 2 ∧ (laneGet u w l).phr = some phr ∧ (laneGet u w l).places = (reservePlaces s).1 ∧
        (laneGet u w l).sfd = placedAt s (2 * w + (laneGet s w l).port) s.clk.now) ∧
  (∀ t w l phr k, Does (.sfdFound t w l phr)
      (fun s => (laneGet s w l).st = 1 ∧ (laneGet s w l).acq = true ∧ (laneGet s w l).port < 2 ∧
        (laneGet s w l).grant + symbols (laneGet s w l).mode 8 + sfdTime (laneGet s w l).mode ≤ s.clk.now ∧
        ((phr.modeSwitch = true ∧ k = 3) ∨
         (phr.modeSwitch = false ∧ maxPsdu s w (laneGet s w l).port < phr.length ∧ k = 4) ∨
         (phr.modeSwitch = false ∧ phr.length ≤ maxPsdu s w (laneGet s w l).port ∧
           phr.length ≤ (if phr.fcsShort then 2 else 4) ∧ k = 5)))
      fun s u => (laneGet u w l).st = 3 ∧ (laneGet u w l).freeAt = some (s.clk.now + 64) ∧
        cntGet u w (tallyAir (laneGet s w l).port k) = (cntGet s w (tallyAir (laneGet s w l).port k) + 1) % two64) ∧
  (∀ t w l phr, Does (.sfdFound t w l phr)
      (fun s => (laneGet s w l).acq = false ∨
        s.clk.now < (laneGet s w l).grant + symbols (laneGet s w l).mode 8 + sfdTime (laneGet s w l).mode)
      fun s u => u = s)

/-- From R68, R80 to R84: an acknowledgement takes the port at its reserved instant, or is lost and counted; a descriptor
starts, or completes NOLINK, BADDESC or DEFER; the last symbol is counted; TXEN is released after the tail, but for an armed
frame that waits for the port, and the descriptor's status and time are written; the watchers resume RXGUARD later. The
model's own choices in it: log entries 70, 235. -/
def Obligations.AirTransmission : Prop :=
  (∀ t w p r, p < 2 → Does (.ackTxen t w p)
      (fun s => (portGet s (2 * w + p)).resv.find? (fun r => r.rank == 3 && decide (r.on_ ≤ s.clk.now)) = some r ∧ r.desc ≠ 0 ∧
        (portGet s (2 * w + p)).txen = false ∧ airEn s (2 * w + p) = true ∧ r.on_ = s.clk.now)
      fun _ u => (portGet u (2 * w + p)).cur = some r ∧ (portGet u (2 * w + p)).txen = true ∧ r ∉ (portGet u (2 * w + p)).resv ∧
        regF u (airStat w p) 1 1 = 1) ∧
  (∀ t w p r, p < 2 → Does (.ackTxen t w p)
      (fun s => (portGet s (2 * w + p)).resv.find? (fun r => r.rank == 3 && decide (r.on_ ≤ s.clk.now)) = some r ∧ r.desc ≠ 0 ∧
        ((portGet s (2 * w + p)).txen = true ∨ airEn s (2 * w + p) = false ∨ r.on_ < s.clk.now))
      fun s u => portGet u (2 * w + p) = { portGet s (2 * w + p) with resv := (portGet s (2 * w + p)).resv.filter (· != r) } ∧
        cntGet u w (tallyAir p 14) = (cntGet s w (tallyAir p 14) + 1) % two64) ∧
  (∀ t w p a, p < 2 → a % 8 = 0 → a ≠ macDesc → Does (.txDescriptorPost t w p a)
      (fun s => dramIn s w a 32 = true ∧ airEn s (2 * w + p) = true ∧ descBad s w (dramRead s a 32) = false ∧
        (portGet s (2 * w + p)).txen = false ∧ (portGet s (2 * w + p)).cur = none ∧
        fits s (2 * w + p) (spanAt s (2 * w + p) 4 0 a s.clk.now (descAir (dramRead s a 32)) (leAt (dramRead s a 32) 3 1)
          (bit (leAt (dramRead s a 32) 6 1) 1) 0) false = true)
      fun s u => (portGet u (2 * w + p)).txen = true ∧ (portGet u (2 * w + p)).cur =
        some (spanAt s (2 * w + p) 4 0 a s.clk.now (descAir (dramRead s a 32)) (leAt (dramRead s a 32) 3 1)
          (bit (leAt (dramRead s a 32) 6 1) 1) 0)) ∧
  (∀ t w p a st, p < 2 → a % 8 = 0 → a ≠ macDesc → Does (.txDescriptorPost t w p a)
      (fun s => dramIn s w a 32 = true ∧
        ((airEn s (2 * w + p) = false ∧ st = 5) ∨
         (airEn s (2 * w + p) = true ∧ descBad s w (dramRead s a 32) = true ∧ st = 4) ∨
         (airEn s (2 * w + p) = true ∧ descBad s w (dramRead s a 32) = false ∧ st = 2 ∧
          ((portGet s (2 * w + p)).txen = true ∨ (portGet s (2 * w + p)).cur.isSome = true ∨
           fits s (2 * w + p) (spanAt s (2 * w + p) 4 0 a s.clk.now (descAir (dramRead s a 32)) (leAt (dramRead s a 32) 3 1)
            (bit (leAt (dramRead s a 32) 6 1) 1) 0) false = false))))
      fun s u => dramRead u (a + 16) 16 = toLe 1 st ++ toLe 7 0 ++ toLe 8 0 ∧ u.air = s.air ∧
        (st = 2 → cntGet u w (tallyAir p 13) = (cntGet s w (tallyAir p 13) + 1) % two64) ∧
        (st = 4 → cntGet u w (tallyAir p 15) = (cntGet s w (tallyAir p 15) + 1) % two64) ∧
        (bit (leAt (dramRead s a 32) 6 1) 1 = true → regF u (bbStat w 0) p p = 1) ∧
        ∀ x, (x < a + 16 ∨ a + 32 ≤ x) → dramByte u x = dramByte s x) ∧
  (∀ t w p c, p < 2 → Does (.transmissionEnd t w p)
      (fun s => (portGet s (2 * w + p)).cur = some c ∧ (portGet s (2 * w + p)).ended = false ∧ c.last ≤ s.clk.now ∧
        (c.rank ≠ 4 ∨ c.kind = 0))
      fun s u => (portGet u (2 * w + p)).ended = true ∧ (portGet u (2 * w + p)).onAir = false ∧
        (portGet u (2 * w + p)).cur = some c ∧ (portGet u (2 * w + p)).txen = (portGet s (2 * w + p)).txen ∧
        (c.rank = 1 → (portGet u (2 * w + p)).bufs = (portGet s (2 * w + p)).bufs.eraseP (fun b => b.1 == c.ident)) ∧
        cntGet u w (tallyAir p 11) = (cntGet s w (tallyAir p 11) + 1) % two64) ∧
  (∀ t w p c, p < 2 → Does (.txenRelease t w p)
      (fun s => (portGet s (2 * w + p)).cur = some c ∧ (portGet s (2 * w + p)).ended = true ∧ c.rel ≤ s.clk.now ∧
        (c.rank = 4 ∨ c.rank = 2) ∧ c.kind = 0 ∧ (portGet s (2 * w + p)).resv.find? (fun r => r.rank == 1) = none)
      fun s u => (portGet u (2 * w + p)).txen = false ∧ (portGet u (2 * w + p)).cur = none ∧ regF u (airStat w p) 1 1 = 0 ∧
        dramRead u (c.desc + 16) 16 = toLe 1 0 ++ toLe 7 0 ++ toLe 8 (ptimeAt s c.first) ∧
        (portGet u (2 * w + p)).blank = (portGet s (2 * w + p)).blank.map (fun b =>
          (b.1, some (b.2.getD (s.clk.now + regF s (airCfg w p) 47 32 * 1000)))) ∧
        ∀ x, (x < c.desc + 16 ∨ c.desc + 32 ≤ x) → dramByte u x = dramByte s x) ∧
  (∀ t w p c r, p < 2 → Does (.txenRelease t w p)
      (fun s => (portGet s (2 * w + p)).cur = some c ∧ (portGet s (2 * w + p)).ended = true ∧ c.rel ≤ s.clk.now ∧
        (portGet s (2 * w + p)).resv.find? (fun r => r.rank == 1) = some r)
      fun s u => portGet u (2 * w + p) = portGet s (2 * w + p)) ∧
  (∀ t w p, Does (.blankingEnd t w p) (fun _ => True)
      fun s u => portGet u (2 * w + p) = { portGet s (2 * w + p) with
        blank := (portGet s (2 * w + p)).blank.filter (fun e => e.2.all (fun g => decide (s.clk.now < g))) })

/-! ### Chapter 11: PTIME and its grandmasters -/

/-- From R320 to R327: Sync, Announce and peer-delay messages are counted, stamped at the medium and judged; an offset within
the step threshold drives the servo, one beyond it steps PTIME in a FREE domain; a tracked domain's estimate takes an eighth
of its error; a switch takes effect at the new domain's Sync; time-outs, holdover, reversion; a change of rate, a step or a
slew applies at its cycle. The model's own choices in it: log entries 20, 21, 22, 268, 270, 271. -/
def Obligations.PtimeDiscipline : Prop :=
  (∀ t dn d pn t1 c, Does (.syncReceive t dn pn t1 c)
      (fun s => domOf s dn = some d ∧ (domGet s d).sel = some pn ∧ ptpPort s pn = true ∧ s.ptp.switch ≠ some d ∧ s.ptp.disc ≠ d)
      fun s u => (domGet u d).offset = sgn 64 (stampIn s pn + 2 ^ 64 - t1 % 2 ^ 64) - c - (peerDelay s pn).getD 0 ∧
        (domGet u d).sync = some s.clk.now ∧
        (domGet u d).est = (domGet s d).est + ((domGet u d).offset * nsFine - (domGet s d).est) / 8 ∧ u.clk = s.clk ∧
        cntGet u (pn / 2) (tallyUpl (pn % 2) 11) = (cntGet s (pn / 2) (tallyUpl (pn % 2) 11) + 1) % two64) ∧
  (∀ t dn d pn t1 c o, Does (.syncReceive t dn pn t1 c)
      (fun s => domOf s dn = some d ∧ (domGet s d).sel = some pn ∧ ptpPort s pn = true ∧ s.ptp.switch ≠ some d ∧ s.ptp.disc = d ∧
        (domGet s d).state = 0 ∧
        o = sgn 64 (stampIn s pn + 2 ^ 64 - t1 % 2 ^ 64) - c - (peerDelay s pn).getD 0 - s.clk.q / nsFine ∧
        obj s 0x0B012600 < o.natAbs ∧ LogRoom s 0 3)
      fun s u => (domGet u d).state = 1 ∧ u.ptp.sum = 0 ∧ Logged u 0 0x0B12 0 (unsgn 64 (-o) % two64) 1 ∧
        u.clk.pend = s.clk.pend ++ [{ at_ := s.clk.now + 1024, rate := lastRate s, step := -o * nsFine, slew := none }]) ∧
  (∀ t dn d pn t1 c o, Does (.syncReceive t dn pn t1 c)
      (fun s => domOf s dn = some d ∧ (domGet s d).sel = some pn ∧ ptpPort s pn = true ∧ s.ptp.switch ≠ some d ∧ s.ptp.disc = d ∧
        o = sgn 64 (stampIn s pn + 2 ^ 64 - t1 % 2 ^ 64) - c - (peerDelay s pn).getD 0 - s.clk.q / nsFine ∧
        o.natAbs ≤ obj s 0x0B012600)
      fun s u => u.ptp.sum = (if lastRate s = rateBound ∨ lastRate s = -rateBound then s.ptp.sum else s.ptp.sum + o) ∧
        u.clk.pend = s.clk.pend ++ [{
          at_ := s.clk.now + 1024
          rate := max (-rateBound) (min rateBound (-((obj s 0x0B012400 : Int) * o + (obj s 0x0B012401 : Int) * u.ptp.sum)))
          step := 0, slew := none }]) ∧
  (∀ t dn d pn t1 c, Does (.syncReceive t dn pn t1 c)
      (fun s => domOf s dn = some d ∧ (domGet s d).sel = some pn ∧ ptpPort s pn = true ∧ s.ptp.switch = some d ∧
        s.ptp.disc ≠ d ∧ LogRoom s 0 5)
      fun s u => u.ptp.disc = d ∧ Logged u 0 0x0B11 0 d (unsgn 64 ((domGet s d).est / nsFine) % two64) ∧
        ∃ x ∈ u.clk.pend, x.at_ = s.clk.now + 1024 ∧ x.slew = some ((obj s 0x0B012B00 : Int) * 4294967296)) ∧
  (∀ t dn d pn a, Does (.announceReceive t dn pn a) (fun s => domOf s dn = some d ∧ ptpPort s pn = true)
      fun s u => annAt u d pn = (a, s.clk.now + 1) ∧
        (domGet u d).sel = bestPort (domSet d { domGet s d with
          ann := tabPut annNone pn (a, s.clk.now + 1) (domGet s d).ann } s) d (fun _ => true) ∧
        cntGet u (pn / 2) (tallyUpl (pn % 2) 11) = (cntGet s (pn / 2) (tallyUpl (pn % 2) 11) + 1) % two64) ∧
  (∀ t pn r, Does (.pdelayReq t pn r) (fun s => ptpPort s pn = true)
      fun s u => cntGet u (pn / 2) (tallyUpl (pn % 2) 11) = (cntGet s (pn / 2) (tallyUpl (pn % 2) 11) + 1) % two64 ∧
        cntGet u (pn / 2) (tallyUpl (pn % 2) 12) = (cntGet s (pn / 2) (tallyUpl (pn % 2) 12) + 2) % two64 ∧
        cntGet u (pn / 2) (tallyUpl (pn % 2) 1) = (cntGet s (pn / 2) (tallyUpl (pn % 2) 1) + 2) % two64 ∧
        (∃ y x l, (lanGet u pn).sent = y :: x :: l ∧ (lanGet u pn).pdelay = (stampIn s pn, stampOut s pn x.at_)) ∧
        u.ptp = s.ptp) ∧
  (∀ t pn q d, Does (.peerDelayMeasurement t pn q d) (fun s => ptpPort s pn = true)
      fun s u => tabGet [] u.ptp.pdelay pn =
          ((sgn 64 (stampIn s pn + 2 ^ 64 - stampOut s pn q) - d) / 2 :: tabGet [] s.ptp.pdelay pn).take 8 ∧
        u.ptp.dom = s.ptp.dom) ∧
  (∀ t d, d < 2 → Does (.syncTimeout t d)
      (fun s => (domGet s d).state = 2 ∧ (domGet s d).sync.getD 0 + threeIntervals ≤ s.clk.now ∧ LogRoom s 0 1)
      fun s u => (domGet u d).state = 3 ∧ (domGet u d).since = s.clk.now ∧ Logged u 0 0x0B10 0 d 35 ∧
        (d = s.ptp.disc → u.ptp.ue = lockedU s ∧ u.ptp.te = ptimeNs s)) ∧
  (∀ t d, d < 2 → Does (.syncTimeout t d)
      (fun s => (domGet s d).state = 1 ∧ (domGet s d).sync.getD 0 + threeIntervals ≤ s.clk.now ∧ LogRoom s 0 1)
      fun _ u => (domGet u d).state = 0 ∧ Logged u 0 0x0B10 0 d 16) ∧
  (∀ t d pn, d < 2 → Does (.announceReceiptTimeout t d pn)
      (fun s => (domGet s d).sel ≠ some pn ∧ (annAt s d pn).2 ≠ 0 ∧ (annAt s d pn).2 - 1 + threeIntervals ≤ s.clk.now)
      fun s u => annAt u d pn = annNone ∧ (domGet u d).sel = (domGet s d).sel ∧ (domGet u d).state = (domGet s d).state) ∧
  (∀ t d pn, d < 2 → Does (.announceReceiptTimeout t d pn)
      (fun s => (domGet s d).sel = some pn ∧ (annAt s d pn).2 ≠ 0 ∧ (annAt s d pn).2 - 1 + threeIntervals ≤ s.clk.now ∧
        (domGet s d).state = 2 ∧ bestPort (domSet d { domGet s d with ann := tabPut annNone pn annNone (domGet s d).ann } s) d
          (fun _ => true) = none)
      fun _ u => (domGet u d).sel = none ∧ (domGet u d).state = 3) ∧
  (∀ t d, d < 2 → Does (.holdoverLimit t d)
      (fun s => (domGet s d).state = 3 ∧ (domGet s d).since + obj s 0x0B012900 * 1000000000 ≤ s.clk.now ∧ LogRoom s 0 1)
      fun _ u => (domGet u d).state = 0 ∧ Logged u 0 0x0B10 0 d 48) ∧
  (∀ t, Does (.domainRevert t)
      (fun s => s.ptp.disc ≠ obj s 0x0B012000 ∧ (domGet s (obj s 0x0B012000)).state = 2 ∧
        (domGet s (obj s 0x0B012000)).since + obj s 0x0B012A00 * 1000000000 ≤ s.clk.now)
      fun s u => u.ptp = { s.ptp with switch := some (obj s 0x0B012000) }) ∧
  (∀ t c cs, Does (.ptimeApply t) (fun s => s.clk.pend = c :: cs ∧ c.at_ ≤ s.clk.now ∧ ∀ x ∈ cs, s.clk.now < x.at_)
      fun s u => u.clk.rate = c.rate ∧ u.clk.pend = cs ∧ u.clk.now = s.clk.now ∧
        (c.slew = none → u.clk.q = s.clk.q ∧
          u.clk.ptime = s.clk.ptime + (c.rate - s.clk.rate) * (s.clk.now - c.at_ : Nat) + c.step) ∧
        ∀ lim, c.slew = some lim → u.clk.qLimit = lim ∧ u.clk.q = s.clk.q - qStep s.clk.q lim (s.clk.now - c.at_) ∧
          u.clk.ptime = s.clk.ptime + (c.rate - s.clk.rate) * (s.clk.now - c.at_ : Nat) + c.step - (s.clk.q - u.clk.q))

/-! ### Chapter 16: the DDR5 controllers -/

/-- From R449 to R453: a refresh window is noted at its phase; a change of schedule takes effect at the next multiple of
26,880; a CORE access is issued at its cycle in the controller's order, its line stored or read, and a line read is delivered
once it has crossed; an engine's access completes 400 cycles later. The model's own choices in it: log entries 166, 167,
168. -/
def Obligations.DdrControllers : Prop :=
  (∀ t w b, b < 4 → Does (.refreshWindow t w b)
      (fun s => (∀ p, (ddrGet s w).pend = some p → s.clk.now < p.1) ∧ w < s.part.wings ∧ released s w 2 = true ∧
        s.clk.now % refreshPeriod s w = refreshPhase s w b)
      fun s u => tabGet 0 (ddrGet u w).refreshed b = s.clk.now + 1 ∧ (ddrGet u w).reads = (ddrGet s w).reads) ∧
  (∀ t w b a hot, Does (.refreshWindow t w b) (fun s => (ddrGet s w).pend = some (a, hot) ∧ a ≤ s.clk.now)
      fun _ u => (ddrGet u w).pend = none ∧ refreshPeriod u w = (if hot then 1792 else 3840)) ∧
  (∀ t w hot, Does (.refreshScheduleChange t w hot)
      (fun s => (∀ p, (ddrGet s w).pend = some p → s.clk.now < p.1) ∧ w < s.part.wings ∧ s.clk.now % 26880 ≠ 0)
      fun s u => (ddrGet u w).pend = some (nextMultiple s.clk.now 26880, hot) ∧ u.regs = s.regs) ∧
  (∀ t w hot, Does (.refreshScheduleChange t w hot) (fun s => w < s.part.wings ∧ s.clk.now % 26880 = 0)
      fun _ u => (ddrGet u w).pend = none ∧ refreshPeriod u w = (if hot then 1792 else 3840) ∧
        regF u (ddrTiming w) 43 32 = refreshPeriod u w) ∧
  (∀ t w rq a arr d, Does (.dramAccessIssue t w rq a arr (some d))
      (fun s => (∀ p, (ddrGet s w).pend = some p → s.clk.now < p.1) ∧ dramIn s w (a / 64 * 64) 64 = true ∧
        released s w 2 = true ∧ comesAfter (arr, cameBy w rq) (ddrGet s w).came = true ∧
        issueCycle s w a arr ≤ s.clk.now ∧ a % 64 + d.length ≤ 64)
      fun s u => dramRead u a d.length = d ∧ (∀ x, (x < a ∨ a + d.length ≤ x) → dramByte u x = dramByte s x) ∧
        (ddrGet u w).last = issueCycle s w a arr + 1 ∧
        u.fab.done.head?.map (fun x => (x.rq, x.addr, x.write, x.done)) = some (rq, a, true, issueCycle s w a arr)) ∧
  (∀ t w rq a arr, Does (.dramAccessIssue t w rq a arr none)
      (fun s => (∀ p, (ddrGet s w).pend = some p → s.clk.now < p.1) ∧ dramIn s w (a / 64 * 64) 64 = true ∧
        released s w 2 = true ∧ comesAfter (arr, cameBy w rq) (ddrGet s w).came = true ∧ issueCycle s w a arr ≤ s.clk.now)
      fun s u => (ddrGet u w).reads = (ddrGet s w).reads ++ [{
          rq := rq, addr := a / 64 * 64, at_ := issueCycle s w a arr + regF s (ddrTiming w) 8 0
          data := dramRead s (a / 64 * 64) 64 }] ∧
        (ddrGet u w).last = issueCycle s w a arr + 1 ∧ u.dram = s.dram) ∧
  (∀ t w r rs, Does (.dramReadData t w)
      (fun s => (∀ p, (ddrGet s w).pend = some p → s.clk.now < p.1) ∧ (ddrGet s w).reads = r :: rs ∧ r.at_ ≤ s.clk.now)
      fun s u => (ddrGet u w).reads = rs ∧ (ddrGet u w).lines.head? = some r ∧
        u.fab.done.head?.map (fun x => (x.rq, x.addr, x.write, x.done, x.value)) =
          some (r.rq, r.addr, false, lineDelivered s w r.rq r.at_, some (BitVec.ofNat 64 (leAt r.data 0 8)))) ∧
  (∀ t w a d, Does (.engineDramAccess t w a (some d))
      (fun s => dramIn s w (a / 64 * 64) 64 = true ∧ released s w 2 = true ∧ a % 64 + d.length ≤ 64)
      fun s u => dramRead u a d.length = d ∧ (∀ x, (x < a ∨ a + d.length ≤ x) → dramByte u x = dramByte s x) ∧ u.ddr = s.ddr ∧
        u.fab.done.head?.map (fun x => (x.rq, x.addr, x.write, x.done)) = some (w, a, true, s.clk.now + 400)) ∧
  (∀ t w a, Does (.engineDramAccess t w a none)
      (fun s => dramIn s w (a / 64 * 64) 64 = true ∧ released s w 2 = true)
      fun s u => (ddrGet u w).lines.head? = some { rq := w, addr := a / 64 * 64, at_ := s.clk.now + 400, data := dramRead s (a / 64 * 64) 64 } ∧ u.dram = s.dram)

/-! ### Chapter 11: the uplink ports -/

/-- From R311, R317, R319, R336: an enabled port's link comes up or goes down, a port silent for its time is SILENT, each
with its event; a port that goes down returns its queued descriptors, all of them where it is no PRP pair's; a drill reports its
checks. The model's own choices in it: log entries 173, 272. -/
def Obligations.UplinkLinksAndDrill : Prop :=
  (∀ t pn, pn < 16 → Does (.uplinkLinkUp t pn)
      (fun s => lanEn s pn = true ∧ lanRuns s pn = false ∧ LogRoom s (pn / 2) 1)
      fun s u => lanRuns u pn = true ∧ u.lans = s.lans ∧
        Logged u (pn / 2) 0x0B01 pn pn (regF s (uplCfg (pn / 2) (pn % 2)) 1 1) ∧ u.pairs = s.pairs) ∧
  (∀ t pn, pn < 16 → Does (.uplinkLinkDown t pn)
      (fun s => pn < 2 * s.part.wings ∧ regF s (uplStat (pn / 2) (pn % 2)) 0 0 = 1 ∧ LogRoom s (pn / 2) 3)
      fun s u => lanRuns u pn = false ∧
        cntGet u (pn / 2) (tallyUpl (pn % 2) 15) = (cntGet s (pn / 2) (tallyUpl (pn % 2) 15) + 1) % two64 ∧
        ∃ n, n ≤ tqQueued s pn ∧ (prpOn s (pn / 2) = false → n = tqQueued s pn) ∧ tqCons u pn = (tqCons s pn + n) % 4294967296 ∧
          (0 < n → (lanGet u pn).launch = none) ∧ Logged u (pn / 2) 0x0B02 pn pn n) ∧
  (∀ t pn, pn < 16 → Does (.portSilent t pn)
      (fun s => lanEn s pn = true ∧ regF s (uplStat (pn / 2) (pn % 2)) 1 1 = 0 ∧ LogRoom s (pn / 2) 1 ∧
        (lanGet s pn).good + obj s (0x0B200005 + pn / 2 * 4096) * 1000000 ≤ s.clk.now + 1)
      fun s u => regF u (uplStat (pn / 2) (pn % 2)) 1 1 = 1 ∧ regF u (uplStat (pn / 2) (pn % 2)) 5 5 = 1 ∧
        Logged u (pn / 2) 0x0B03 pn pn ((lanGet s pn).goodPt % two64) ∧ u.lans = s.lans) ∧
  (∀ t via g ok, Does (.runADrill t via g ok)
      (fun s => s.sr.doors = [] ∧ reaches s via 0x0B031000 = true ∧ LogRoom s 0 1)
      fun s u => AnsweredBody u via 0x0B031000 stDONE (drillReport g ok s).1 ∧
        Logged u 0 0x0B30 0 (g % two64) ((drillReport g ok s).2 % two64) ∧
        cntGet u 0 (tallyCg 6) = (cntGet s 0 (tallyCg 6) + 1) % two64 ∧ u.lease = s.lease) ∧
  (∀ t via g ok, Does (.runADrill t via g ok) (fun s => s.sr.doors ≠ []) fun s u => u = s)

/-- From R314 to R318: a frame refused at the port is only counted; a PTP frame goes to the time unit; a frame of a pair with a
trailer whose sequence its source's window marks is discarded as a duplicate; a new sequence is accepted and kept for
comparison; a frame without redundancy goes to the receive ring; a supervision frame goes out on each running port with one
sequence number, which the pair takes once. The model's own choices in it: log entries 169, 172, 267. -/
def Obligations.UplinkReceivesAndSupervises : Prop :=
  (∀ t pn f, Does (.prpReceive t pn f)
      (fun s => lanRuns s pn = true ∧ (f.fcsOk = false ∨ isPause f.bytes = true ∨ 1520 < f.bytes.length))
      fun s u => cntGet u (pn / 2) (tallyUpl (pn % 2) 2) = (cntGet s (pn / 2) (tallyUpl (pn % 2) 2) + 1) % two64 ∧
        u.lans = s.lans ∧ u.pairs = s.pairs ∧ u.dram = s.dram) ∧
  (∀ t pn f, Does (.prpReceive t pn f)
      (fun s => lanRuns s pn = true ∧ f.fcsOk = true ∧ isPause f.bytes = false ∧ f.bytes.length ≤ 1520 ∧ isPtp f.bytes = true)
      fun s u => cntGet u (pn / 2) (tallyUpl (pn % 2) 11) = (cntGet s (pn / 2) (tallyUpl (pn % 2) 11) + 1) % two64 ∧
        cntGet u (pn / 2) (tallyUpl (pn % 2) 0) = (cntGet s (pn / 2) (tallyUpl (pn % 2) 0) + 1) % two64 ∧
        (lanGet u pn).good = s.clk.now + 1 ∧ regF u (uplStat (pn / 2) (pn % 2)) 1 1 = 0 ∧ u.pairs = s.pairs) ∧
  (∀ t pn f e (k : Nat), Does (.prpReceive t pn f)
      (fun s => lanRuns s pn = true ∧ f.fcsOk = true ∧ isPause f.bytes = false ∧ f.bytes.length ≤ 1520 ∧ isPtp f.bytes = false ∧
        prpOn s (pn / 2) = true ∧ hasTrailer f.bytes = true ∧ onLan pn f.bytes = true ∧
        (pairGet s (pn / 2)).table.find? (fun x => x.mac == beAt f.bytes 6 6) = some e ∧ k < 32768 ∧
        sgn 16 ((trailerOf f.bytes).seq + 65536 - e.newest % 65536) = -(k : Int) ∧ bit e.window k = true)
      fun s u => cntGet u (pn / 2) (tallyUpl (pn % 2) 3) = (cntGet s (pn / 2) (tallyUpl (pn % 2) 3) + 1) % two64 ∧
        cntGet u (pn / 2) (tallyUpl (pn % 2) 0) = (cntGet s (pn / 2) (tallyUpl (pn % 2) 0) + 1) % two64 ∧
        (lanGet u pn).good = s.clk.now + 1 ∧
        (pairGet u (pn / 2)).table.find? (fun x => x.mac == beAt f.bytes 6 6) = some { e with heard := s.clk.now }) ∧
  (∀ t pn f e, Does (.prpReceive t pn f)
      (fun s => lanRuns s pn = true ∧ f.fcsOk = true ∧ isPause f.bytes = false ∧ f.bytes.length ≤ 1520 ∧ isPtp f.bytes = false ∧
        prpOn s (pn / 2) = true ∧ hasTrailer f.bytes = true ∧ onLan pn f.bytes = true ∧
        (pairGet s (pn / 2)).table.find? (fun x => x.mac == beAt f.bytes 6 6) = some e ∧
        0 < sgn 16 ((trailerOf f.bytes).seq + 65536 - e.newest % 65536))
      fun s u => cntGet u (pn / 2) (tallyUpl (pn % 2) 3) = cntGet s (pn / 2) (tallyUpl (pn % 2) 3) ∧
        ∃ x, (pairGet u (pn / 2)).table.find? (fun y => y.mac == beAt f.bytes 6 6) = some x ∧
          x.newest = (trailerOf f.bytes).seq ∧ x.heard = s.clk.now ∧
          x.kept.head? = some ((trailerOf f.bytes).seq, (lsdu f.bytes).length, crc32c (lsdu f.bytes))) ∧
  (∀ t pn f, Does (.prpReceive t pn f)
      (fun s => lanRuns s pn = true ∧ f.fcsOk = true ∧ isPause f.bytes = false ∧ f.bytes.length ≤ 1520 ∧ isPtp f.bytes = false ∧
        prpOn s (pn / 2) = false ∧ etherType f.bytes ≠ 0x88FB ∧ isEmp (oct s (0x0B200002 + pn / 2 * 4096)) f.bytes = false ∧
        ringFull s (uplRqPtr (pn / 2) (pn % 2)) (2 ^ ringLog2 (regF s (uplRqCfg (pn / 2) (pn % 2)) 4 0) 4 16 4) = false)
      fun s u => regF u (uplRqPtr (pn / 2) (pn % 2)) 31 0 = (regF s (uplRqPtr (pn / 2) (pn % 2)) 31 0 + 1) % 4294967296 ∧
        dramRead u (regF s (uplRqCfg (pn / 2) (pn % 2)) 63 12 * 4096 + regF s (uplRqPtr (pn / 2) (pn % 2)) 31 0 %
          2 ^ ringLog2 (regF s (uplRqCfg (pn / 2) (pn % 2)) 4 0) 4 16 4 * 2048 + 64) f.bytes.length = f.bytes) ∧
  (∀ t w, Does (.supervisionSend t w)
      (fun s => w < s.part.wings ∧ prpOn s w = true ∧ (lanRuns s (2 * w) = true ∨ lanRuns s (2 * w + 1) = true) ∧
        (pairGet s w).supAt + obj s (0x0B200006 + w * 4096) * 1000000 ≤ s.clk.now)
      fun s u => (pairGet u w).seq = ((pairGet s w).seq + 1) % 65536 ∧ (pairGet u w).supAt = s.clk.now ∧
        (pairGet u w).table = (pairGet s w).table ∧ ∀ pn ∈ [2 * w, 2 * w + 1], lanRuns s pn = true →
          ((lanGet u pn).sent.head?).map (fun x => (x.seq, x.frame)) =
            some (some ((pairGet s w).seq % 65536), Config.supervision (oct s (0x0B200001 + w * 4096))) ∧
          cntGet u (pn / 2) (tallyUpl (pn % 2) 1) = (cntGet s (pn / 2) (tallyUpl (pn % 2) 1) + 1) % two64)

/-- From R57, R59, R314, R319, R328, R329: a descriptor out of its limits is returned BADDESC, one whose ports do not run
NOLINK, one whose launch time is too near LATE; one with a launch time holds its port until its lead, when its frame is read,
and its launch is sent at its time when the wire is free and no armed copy is due, else it is returned PORT_BUSY; one without
is sent, on every port it names that runs, with one sequence number of a PRP pair, unless a launch led there would be in its way;
a Timetable's launch is kept at its lead; a fired slot's copy goes out on a selected port, its delimiter 8,000 FCLK after the
slot's time or when the wire is free then, both copies of a PRP pair under one sequence number. The model's own choices in it:
log entries 170, 171, 172, 174. -/
def Obligations.UplinkTransmits : Prop :=
  (∀ t pn a d, Does (.uplinkTransmitDescriptor t pn)
      (fun s => pn < 2 * s.part.wings ∧ 0 < tqQueued s pn ∧ (lanGet s pn).launch = none ∧ s.power.fail = none ∧
        a = tqAddr s pn (tqCons s pn) ∧ d = dramRead s a 32 ∧ lanDescOk s (pn / 2) d = false)
      fun s u => dramRead u (a + 11) 1 = [3] ∧ tqCons u pn = (tqCons s pn + 1) % 4294967296 ∧
        u.lans = s.lans ∧ u.pairs = s.pairs) ∧
  (∀ t pn a d, Does (.uplinkTransmitDescriptor t pn)
      (fun s => pn < 2 * s.part.wings ∧ 0 < tqQueued s pn ∧ (lanGet s pn).launch = none ∧ s.power.fail = none ∧
        a = tqAddr s pn (tqCons s pn) ∧ d = dramRead s a 32 ∧ lanDescOk s (pn / 2) d = true ∧
        (descPorts pn d).filter (fun p => lanRuns s p) = [])
      fun s u => dramRead u (a + 11) 1 = [4] ∧ tqCons u pn = (tqCons s pn + 1) % 4294967296 ∧
        u.lans = s.lans ∧ u.pairs = s.pairs) ∧
  (∀ t pn a d, Does (.uplinkTransmitDescriptor t pn)
      (fun s => pn < 2 * s.part.wings ∧ 0 < tqQueued s pn ∧ (lanGet s pn).launch = none ∧ s.power.fail = none ∧
        a = tqAddr s pn (tqCons s pn) ∧ d = dramRead s a 32 ∧ lanDescOk s (pn / 2) d = true ∧
        (descPorts pn d).filter (fun p => lanRuns s p) ≠ [] ∧ leAt d 16 8 ≠ 0 ∧
        laterW 64 (ptimeNs s + 2000) (leAt d 16 8) = true)
      fun s u => dramRead u (a + 11) 1 = [2] ∧ tqCons u pn = (tqCons s pn + 1) % 4294967296 ∧ u.lans = s.lans ∧
        cntGet u (pn / 2) (tallyUpl (pn % 2) 14) = (cntGet s (pn / 2) (tallyUpl (pn % 2) 14) + 1) % two64) ∧
  (∀ t pn a d, Does (.uplinkTransmitDescriptor t pn)
      (fun s => pn < 2 * s.part.wings ∧ 0 < tqQueued s pn ∧ (lanGet s pn).launch = none ∧ s.power.fail = none ∧
        a = tqAddr s pn (tqCons s pn) ∧ d = dramRead s a 32 ∧ lanDescOk s (pn / 2) d = true ∧
        (descPorts pn d).filter (fun p => lanRuns s p) ≠ [] ∧ leAt d 16 8 ≠ 0 ∧
        laterW 64 (ptimeNs s + 2000) (leAt d 16 8) = false)
      fun s u => (lanGet u pn).launch = some { entry := none, desc := a, due := leAt d 16 8
                                               lans := if bit (leAt d 10 1) 0 then 3 else 2 ^ (pn % 2)
                                               frame := [], led := false, back := false } ∧ u.dram = s.dram ∧ u.regs = s.regs) ∧
  (∀ t pn a d, Does (.uplinkTransmitDescriptor t pn)
      (fun s => pn < 2 * s.part.wings ∧ 0 < tqQueued s pn ∧ (lanGet s pn).launch = none ∧ s.power.fail = none ∧
        a = tqAddr s pn (tqCons s pn) ∧ d = dramRead s a 32 ∧ lanDescOk s (pn / 2) d = true ∧
        (descPorts pn d).filter (fun p => lanRuns s p) ≠ [] ∧ leAt d 16 8 = 0 ∧
        ∀ p ∈ (descPorts pn d).filter (fun p => lanRuns s p), (lanGet s p).wire ≤ s.clk.now ∧
          beforeLaunch s p (lanOctets s pn (leAt d 8 2)) = true)
      fun s u => dramRead u (a + 11) 1 = [0] ∧ tqCons u pn = (tqCons s pn + 1) % 4294967296 ∧
        ∀ p ∈ (descPorts pn d).filter (fun p => lanRuns s p),
          cntGet u (p / 2) (tallyUpl (p % 2) 1) = (cntGet s (p / 2) (tallyUpl (p % 2) 1) + 1) % two64 ∧
          ((lanGet u p).sent.head?).map (fun x => (x.at_, x.seq, x.frame)) = some (ptimeAt s (s.clk.now + octetsTime s p 7),
            (if prpOn s (pn / 2) = true then some ((pairGet s (pn / 2)).seq % 65536) else none),
            dramRead s (leAt d 0 8) (leAt d 8 2))) ∧
  (∀ t pn e l, 256 ≤ e → Does (.timedLaunchLead t pn e)
      (fun s => pn < 2 * s.part.wings ∧ s.power.fail = none ∧ (lanGet s pn).launch = some l ∧ l.led = false ∧
        notBeforeW 64 (ptimeNs s + 2000) l.due = true)
      fun s u => (lanGet u pn).launch = some { l with
          led := true, frame := dramRead s (leAt (dramRead s l.desc 8) 0 8) (leAt (dramRead s (l.desc + 8) 2) 0 2) } ∧
        (lanGet u pn).sent = (lanGet s pn).sent ∧ u.tt = s.tt ∧ u.dram = s.dram) ∧
  (∀ t w e x, e < 256 → Does (.timedLaunchLead t (launchHome w x) e)
      (fun s => launchHome w x < 2 * s.part.wings ∧ s.power.fail = none ∧ ttGet s w e = x ∧
        entState x = 1 ∧ entAction x = 4 ∧ x.leadAt = none ∧ leadReached s w x.tgt 2000 = true ∧
        (entNeed x = true → lockOk s w = true) ∧ lanDescOk s w (dramRead s x.arg 32) = true ∧
        ∃ p ∈ [2 * w, 2 * w + 1], bit (launchLans x) (p % 2) = true ∧ lanRuns s p = true)
      fun s u => (lanGet u (launchHome w x)).leads = (lanGet s (launchHome w x)).leads ++ [
          { entry := some e, desc := x.arg, due := s.clk.now + 2000, lans := launchLans x
            frame := dramRead s (leAt (dramRead s x.arg 32) 0 8) (leAt (dramRead s x.arg 32) 8 2), led := true, back := false }] ∧
        ttGet u w e = { x with leadAt := some s.clk.now } ∧ u.dram = s.dram) ∧
  (∀ t pn e l, 256 ≤ e → Does (.timedLaunchSend t pn e)
      (fun s => pn < 2 * s.part.wings ∧ (lanGet s pn).launch = some l ∧ l.led = true ∧ l.entry = none ∧
        notBeforeW 64 (ptimeNs s) l.due = true ∧ l.lans = 2 ^ (pn % 2) ∧ lanRuns s pn = true ∧
        (lanGet s pn).wire + octetsTime s pn 7 ≤ s.clk.now ∧ copyDue s pn = false)
      fun s u => (lanGet u pn).launch = none ∧ tqCons u pn = (tqCons s pn + 1) % 4294967296 ∧
        dramRead u (tqAddr s pn (tqCons s pn) + 11) 1 = [0] ∧
        dramRead u (tqAddr s pn (tqCons s pn) + 24) 8 = toLe 8 (ptimeNs s) ∧
        cntGet u (pn / 2) (tallyUpl (pn % 2) 13) = (cntGet s (pn / 2) (tallyUpl (pn % 2) 13) + 1) % two64 ∧
        ((lanGet u pn).sent.head?).map (fun x => (x.seq, x.frame)) =
          some ((if prpOn s (pn / 2) = true then some ((pairGet s (pn / 2)).seq % 65536) else none), l.frame)) ∧
  (∀ t pn e l, 256 ≤ e → Does (.timedLaunchSend t pn e)
      (fun s => pn < 2 * s.part.wings ∧ (lanGet s pn).launch = some l ∧ l.led = true ∧ l.entry = none ∧
        notBeforeW 64 (ptimeNs s) l.due = true ∧ l.lans = 2 ^ (pn % 2) ∧ lanRuns s pn = true ∧
        (s.clk.now < (lanGet s pn).wire + octetsTime s pn 7 ∨ copyDue s pn = true))
      fun s u => (lanGet u pn).launch = none ∧ tqCons u pn = (tqCons s pn + 1) % 4294967296 ∧
        dramRead u (tqAddr s pn (tqCons s pn) + 11) 1 = [1] ∧ (lanGet u pn).sent = (lanGet s pn).sent ∧
        cntGet u (pn / 2) (tallyUpl (pn % 2) 14) = (cntGet s (pn / 2) (tallyUpl (pn % 2) 14) + 1) % two64) ∧
  (∀ t slot pn, slot < 64 → Does (.armedUplinkCopy t slot pn)
      (fun s => (slotGet s slot).state = 2 ∧ bit (slotGet s slot).upls pn = true ∧ (slotGet s slot).fireAt = none ∧
        (slotGet s slot).lost = false ∧ copyDelimiter s (slotGet s slot) pn ≤ s.clk.now ∧
        lanRuns s pn = true ∧ fireHeld s (slotGet s slot) (pn / 2) = true)
      fun s u => (slotGet u slot).upls = (slotGet s slot).upls - 2 ^ pn ∧ bit (slotGet u slot).usedUpl pn = true ∧
        ((lanGet u pn).sent.head?).map (fun x => (x.at_, x.seq, x.frame)) =
          some (ptimeAt s (max ((slotGet s slot).ts + 8000) (lanGet s pn).wire),
            (if prpOn s (pn / 2) = false then none
             else if tabGet 0 (pairGet s (pn / 2)).armed slot ≠ 0 then some (tabGet 0 (pairGet s (pn / 2)).armed slot - 1)
             else some ((pairGet s (pn / 2)).seq % 65536)),
            fireFrame s (slotGet s slot) slot pn) ∧
        (prpOn s (pn / 2) = true → tabGet 0 (pairGet s (pn / 2)).armed slot = 0 →
          bit (slotGet s slot).upls (pn / 2 * 2 + (1 - pn % 2)) = true →
          tabGet 0 (pairGet u (pn / 2)).armed slot = (pairGet s (pn / 2)).seq % 65536 + 1) ∧
        cntGet u (pn / 2) (tallyUpl (pn % 2) 1) = (cntGet s (pn / 2) (tallyUpl (pn % 2) 1) + 1) % two64) ∧
  (∀ t slot pn, slot < 64 → Does (.armedUplinkCopy t slot pn)
      (fun s => (slotGet s slot).state = 2 ∧ bit (slotGet s slot).upls pn = true ∧ (slotGet s slot).fireAt = none ∧
        (slotGet s slot).lost = false ∧ copyDelimiter s (slotGet s slot) pn ≤ s.clk.now ∧
        (lanRuns s pn = false ∨ fireHeld s (slotGet s slot) (pn / 2) = false))
      fun s u => slotGet u slot = { slotGet s slot with upls := (slotGet s slot).upls - 2 ^ pn } ∧ u.lans = s.lans ∧
        u.pairs = s.pairs)


/-! ### Chapter 4: the radio MAC -/

/-- From R91 to R94, R164: new key material puts its index into RECEIVE under a new generation with its counter from 0; a key's
state is written; the armed-broadcast key restarts every slot's range; none of them without a link to the strongroom or without
power; a counter is requested 1,000 FCLK before its assertion, given in turn at the end of its hold, or the frame is not started;
with half a block used the next block is asked for, and reserved in slot 2's turn. The model's own choices in it: log entries
72. -/
def Obligations.MacKeysAndCounters : Prop :=
  (∀ t via kk key, 1 ≤ kk → kk ≤ 0xBF → key.length = 16 → Does (.keyMaterialWrite t via kk key)
      (fun s => reaches s via (0x04002000 + kk) = true ∧ (keyState s kk = 0 ∨ keyState s kk = 3) ∧ keyLimits s kk 1 = true ∧
        srOpen s = true ∧ noPower s = false)
      fun s u => Answered u via (0x04002000 + kk) stDONE ∧ keyState u kk = 1 ∧ oct u (0x04002000 + kk) = key ∧
        obj u (0x04002300 + kk) = (obj s (0x04002300 + kk) + 1) % 65536 ∧ obj u (0x04002500 + kk) = 0 ∧ keyResv u kk = 65536) ∧
  (∀ t via kk key, 1 ≤ kk → kk ≤ 0xBF → key.length = 16 → Does (.keyMaterialWrite t via kk key)
      (fun s => reaches s via (0x04002000 + kk) = true ∧ (keyState s kk = 0 ∨ keyState s kk = 3) ∧ keyLimits s kk 1 = true ∧
        (srOpen s = false ∨ noPower s = true))
      fun s u => Answered u via (0x04002000 + kk) (if srOpen s = true then stNOPOWER else stUNREACHABLE) ∧ u.octs = s.octs ∧
        u.objs = s.objs) ∧
  (∀ t via kk st, 1 ≤ kk → kk ≤ 0xBF → st ≤ 3 → Does (.keyStateWrite t via kk st)
      (fun s => reaches s via (0x04002100 + kk) = true ∧ keyLimits s kk st = true ∧ srOpen s = true ∧ noPower s = false)
      fun s u => Answered u via (0x04002100 + kk) stDONE ∧ keyState u kk = st ∧
        (∀ j, j ≠ kk → keyState u j = keyState s j) ∧ u.octs = s.octs ∧ u.mac = s.mac) ∧
  (∀ t via key, key.length = 16 → Does (.armedKeyWrite t via key)
      (fun s => reaches s via 0x04002200 = true ∧ anyArmed s = false ∧ srOpen s = true ∧ noPower s = false)
      fun s u => Answered u via 0x04002200 stDONE ∧ oct u 0x04002200 = key ∧
        (∀ i, i < 64 → obj u (0x04002400 + i) = i * 2 ^ 26) ∧ u.mac = s.mac ∧ u.armed = s.armed) ∧
  (∀ t via key, Does (.armedKeyWrite t via key)
      (fun s => reaches s via 0x04002200 = true ∧ (key.length ≠ 16 ∨ anyArmed s = true))
      fun s u => Answered u via 0x04002200 (if key.length = 16 then stRANGE else stTYPE) ∧ u.octs = s.octs ∧ u.objs = s.objs) ∧
  (∀ t w p a kk, p < 2 → Does (.counterRequest t w p a kk)
      (fun s => a = s.clk.now + 1000 ∧ (ackAt s (2 * w + p) a).any (fun r => r.kind == kk && r.desc == 0) = true ∧ keyUsable s kk = true)
      fun s u => u.mac.held = s.mac.held ++
        [{ wing := w, port := p, assert := a, key := kk, ends := s.clk.now + writeTime w 0 s.clk.now + 215 }] ∧ u.air = s.air) ∧
  (∀ t w p a kk, p < 2 → Does (.counterRequest t w p a kk)
      (fun s => a = s.clk.now + 1000 ∧ (ackAt s (2 * w + p) a).any (fun r => r.kind == kk && r.desc == 0) = true ∧ keyUsable s kk = false)
      fun s u => ackAt u (2 * w + p) a = none ∧ u.mac = s.mac) ∧
  (∀ t w p a kk j, p < 2 → Does (.counterRequest t w p a kk)
      (fun s => a = s.clk.now + 1000 ∧ (ackAt s (2 * w + p) a).any (fun r => r.kind == kk && r.desc == 0) = false ∧
        jobGet s (2 * w + p) = some j ∧ j.phase = 5 ∧ j.csl = true ∧ j.ctr = none ∧ j.start = a ∧ kk = activeKey s ∧ kk ≠ 0 ∧
        s.mac.held.any (fun r => r.wing == w && r.port == p && r.assert == a) = false)
      fun s u => u.mac.held = s.mac.held ++
        [{ wing := w, port := p, assert := a, key := kk, ends := s.clk.now + writeTime w 0 s.clk.now + 215 }] ∧ u.air = s.air) ∧
  (∀ t r, Does (.counterAssign t)
      (fun s => s.mac.held = [r] ∧ r.ends ≤ s.clk.now ∧ obj s (0x04002500 + r.key) < 0xFFFFFFFF ∧
        obj s (0x04002500 + r.key) < keyResv s r.key ∧ LogRoom s 0 1)
      fun s u => u.mac.held = [] ∧ obj u (0x04002500 + r.key) = obj s (0x04002500 + r.key) + 1 ∧
        (ackAt u (2 * r.wing + r.port) r.assert).map (·.desc) =
          (ackAt s (2 * r.wing + r.port) r.assert).map (fun _ => obj s (0x04002500 + r.key) + 1) ∧
        (keyResv s r.key ≤ obj s (0x04002500 + r.key) + 1 + 32768 → keyResv s r.key < 2 ^ 32 → r.key ∈ u.mac.block)) ∧
  (∀ t r q, Does (.counterAssign t)
      (fun s => (s.mac.held = [r, q] ∨ s.mac.held = [q, r]) ∧ ctrBefore r q = true ∧ ctrBefore q r = false ∧ q.ends ≤ s.clk.now ∧
        q.key = r.key ∧ 2 * r.wing + r.port ≠ 2 * q.wing + q.port ∧ obj s (0x04002500 + r.key) + 1 < 0xFFFFFFFF ∧
        obj s (0x04002500 + r.key) + 1 < keyResv s r.key ∧ LogRoom s 0 1)
      fun s u => u.mac.held = [] ∧ obj u (0x04002500 + r.key) = obj s (0x04002500 + r.key) + 2 ∧
        (ackAt u (2 * r.wing + r.port) r.assert).map (·.desc) =
          (ackAt s (2 * r.wing + r.port) r.assert).map (fun _ => obj s (0x04002500 + r.key) + 1) ∧
        (ackAt u (2 * q.wing + q.port) q.assert).map (·.desc) =
          (ackAt s (2 * q.wing + q.port) q.assert).map (fun _ => obj s (0x04002500 + r.key) + 2)) ∧
  (∀ t r, Does (.counterAssign t)
      (fun s => s.mac.held = [r] ∧ r.ends ≤ s.clk.now ∧ (ackAt s (2 * r.wing + r.port) r.assert).isSome = true ∧
        (0xFFFFFFFF ≤ obj s (0x04002500 + r.key) ∨ keyResv s r.key ≤ obj s (0x04002500 + r.key)))
      fun s u => u.mac.held = [] ∧ ackAt u (2 * r.wing + r.port) r.assert = none ∧ regF u (macStat r.wing) 5 5 = 1 ∧
        cntGet u r.wing (tallyMac 16) = (cntGet s r.wing (tallyMac 16) + 1) % two64) ∧
  (∀ t kk d ds, Does (.counterBlockReserve t kk)
      (fun s => s.sr.doors = d :: ds ∧ d.slot = 2 ∧ d.kind = 0x0401 ∧ d.at_ ≤ s.clk.now ∧ leAt (reqSlot s 2).words 32 8 = kk ∧
        noPower s = false)
      fun s u => keyResv u kk = keyResv s kk + 65536 ∧ u.mac.block.contains kk = false ∧ u.objs = s.objs) ∧
  (∀ t kk d ds, Does (.counterBlockReserve t kk)
      (fun s => s.sr.doors = d :: ds ∧ d.slot = 2 ∧ d.kind = 0x0401 ∧ d.at_ ≤ s.clk.now ∧ leAt (reqSlot s 2).words 32 8 = kk ∧
        noPower s = true)
      fun s u => u.mac = s.mac ∧ u.objs = s.objs)

/-- From R78, R95 to R102: a decoded source address is looked up at its owner wing; a frame's end with a bad FCS is
counted and its lane freed 1,200 FCLK later, a good one waits there for its verdict from the time of its last sample; the
owner wing judges it 700 FCLK after its end, behind the commits that come before its own; at the verdict it is delivered and
counted under its outcome, its acknowledgement reserved or withheld, its lane free, and an accepted frame goes to its home
wing's Check-in. The model's own choices in it: log entries 60 to 65. -/
def Obligations.MacReceives : Prop :=
  (∀ t w l src ft, Does (.sourceAddressLookup t w l src ft)
      (fun s => (laneGet s w l).st = 2 ∧ (laneGet s w l).looked = false)
      fun s u => (laneGet u w l).looked = true ∧ (laneGet u w l).src = src ∧ (laneGet u w l).ftype = ft ∧
        (laneGet u w l).owner = ((srcExt s src).map (ownerOf s)).getD w ∧
        (laneGet u w l).dir = ((srcExt s src).map (dirOf s)).getD 0xFFFFFFFF ∧
        (laneGet u w l).home = (if (laneGet u w l).dir = 0xFFFFFFFF then (laneGet u w l).owner
          else (laneGet u w l).dir % s.part.wings) ∧
        (laneGet u w l).places = (if noCheckin ft = true then 0 else (laneGet s w l).places &&& 2 ^ (laneGet u w l).home) ∧
        ((laneGet u w l).noplace = true ↔ noCheckin ft = false ∧ (laneGet u w l).places = 0) ∧ u.mac = s.mac ∧ u.cnt = s.cnt) ∧
  (∀ t w l rssi foff f, Does (.frameEnd t w l false rssi foff f) (fun s => (laneGet s w l).st = 2)
      fun s u => (laneGet u w l).frame = none ∧ (laneGet u w l).freeAt = some (s.clk.now + 1200) ∧
        cntGet u ((2 * w + (laneGet s w l).port) / 2) (tallyAir ((2 * w + (laneGet s w l).port) % 2) 6) =
          (cntGet s ((2 * w + (laneGet s w l).port) / 2) (tallyAir ((2 * w + (laneGet s w l).port) % 2) 6) + 1) % two64 ∧
        u.ing = s.ing) ∧
  (∀ t w l rssi foff f, Does (.frameEnd t w l true rssi foff f) (fun s => (laneGet s w l).st = 2)
      fun s u => (laneGet u w l).st = 3 ∧ (laneGet u w l).frame = some f ∧
        (laneGet u w l).ends = placedAt s (2 * w + (laneGet s w l).port) s.clk.now ∧
        (laneGet u w l).rssi = rssi ∧ (laneGet u w l).foff = foff ∧
        (laneGet u w l).freeAt = some (placedAt s (2 * w + (laneGet s w l).port) s.clk.now + 1200) ∧
        (laneGet u w l).looked = true ∧ u.mac = s.mac) ∧
  (∀ t w l f, l < 24 → Does (.ownerCommit t w l)
      (fun s => (laneGet s w l).st = 3 ∧ (laneGet s w l).ends + 700 ≤ s.clk.now ∧ (laneGet s w l).frame = some f ∧
        (laneGet s w l).outcome = none ∧ OnlyCommit s w l)
      fun s u => laneGet u w l = { laneGet s w l with outcome := some (macJudge w (laneGet s w l) f s).1 }) ∧
  (∀ t w l f o, l < 24 → Does (.ownerCommit t w l)
      (fun s => (laneGet s w l).st = 3 ∧ (laneGet s w l).ends + 700 ≤ s.clk.now ∧ (laneGet s w l).frame = some f ∧
        (laneGet s w l).outcome = none ∧ macEarly s (judgeWing s w (laneGet s w l) f) (laneGet s w l) f = some o ∧ OnlyCommit s w l)
      fun s u => (laneGet u w l).outcome = some o ∧ u.mac = s.mac ∧ u.dram = s.dram) ∧
  (∀ t w l, l < 24 → Does (.ownerCommit t w l)
      (fun s => (laneGet s w l).st = 3 ∧ (laneGet s w l).ends + 700 ≤ s.clk.now)
      fun s u => ∀ w' l', l' < 24 → (laneGet s w' l').st = 3 → (laneGet s w' l').frame.isSome = true →
        (laneGet s w' l').ends + 700 ≤ s.clk.now →
        commitKey (w' * 24 + l') (laneGet s w' l') ≤ commitKey (w * 24 + l) (laneGet s w l) →
        (laneGet u w' l').outcome.isSome = true) ∧
  (∀ t w l f o, l < 24 → 0 < o → o < 14 → f.ar = false → Does (.macVerdict t w l)
      (fun s => (laneGet s w l).st = 3 ∧ (laneGet s w l).ends + 1200 ≤ s.clk.now ∧ (laneGet s w l).frame = some f ∧
        (laneGet s w l).outcome = some o ∧ OnlyCommit s w l)
      fun s u => laneGet u w l = laneDefault ∧ cntGet u w (tallyMac o) = (cntGet s w (tallyMac o) + 1) % two64 ∧ u.mac = s.mac ∧
        u.air.ports = s.air.ports) ∧
  (∀ t w l f o k, l < 24 → o ≤ 2 → f.ar = true → Does (.macVerdict t w l)
      (fun s => (laneGet s w l).st = 3 ∧ (laneGet s w l).ends + 1200 ≤ s.clk.now ∧ (laneGet s w l).frame = some f ∧
        (laneGet s w l).outcome = some o ∧ OnlyCommit s w l ∧ ackWanted s w (laneGet s w l) f o = some k ∧
        (rank34 s (2 * w + (laneGet s w l).port)).any (fun y => spansClash y (ackSpan s w (laneGet s w l) f)) = false)
      fun s u => (portGet u (2 * w + (laneGet s w l).port)).resv = (portGet s (2 * w + (laneGet s w l).port)).resv ++
          [{ ackSpan s w (laneGet s w l) f with hdr := ackHeader s k f }] ∧
        cntGet u w (tallyMac 14) = (cntGet s w (tallyMac 14) + 1) % two64) ∧
  (∀ t w l f o, l < 24 → f.ar = true → Does (.macVerdict t w l)
      (fun s => (laneGet s w l).st = 3 ∧ (laneGet s w l).ends + 1200 ≤ s.clk.now ∧ (laneGet s w l).frame = some f ∧
        (laneGet s w l).outcome = some o ∧ o ≠ 15 ∧ OnlyCommit s w l ∧ ackWanted s w (laneGet s w l) f o = none)
      fun s u => u.air.ports = s.air.ports ∧ cntGet u w (tallyMac 15) = (cntGet s w (tallyMac 15) + 1) % two64) ∧
  (∀ t w l f, l < 24 → f.ar = false → f.ftype = .data → isFlood f = false → Does (.macVerdict t w l)
      (fun s => (laneGet s w l).st = 3 ∧ (laneGet s w l).ends + 1200 ≤ s.clk.now ∧ (laneGet s w l).frame = some f ∧
        (laneGet s w l).outcome = some 0 ∧ (laneGet s w l).dir ≠ 0xFFFFFFFF ∧ (laneGet s w l).home = w ∧ OnlyCommit s w l)
      fun s u => laneGet u w l = laneDefault ∧ cntGet u w (tallyMac 0) = (cntGet s w (tallyMac 0) + 1) % two64 ∧ u.mac = s.mac ∧
        ∀ x ∈ (ingGet u w).queue, x.air = true → x.lane = l → x.port = 2 * w + (laneGet s w l).port →
          x.t0 = (laneGet s w l).ends → x.verdict ≠ 0) ∧
  (∀ t w l f, l < 24 → f.ar = false → f.ftype = .data → isFlood f = false → Does (.macVerdict t w l)
      (fun s => (laneGet s w l).st = 3 ∧ (laneGet s w l).ends + 1200 ≤ s.clk.now ∧ (laneGet s w l).frame = some f ∧
        (laneGet s w l).outcome = some 0 ∧ (laneGet s w l).dir ≠ 0xFFFFFFFF ∧ (laneGet s w l).home ≠ w ∧ OnlyCommit s w l)
      fun s u => u.mac = s.mac ∧ ∃ x ∈ (ingGet u (laneGet s w l).home).queue, x.dir = (laneGet s w l).dir ∧ x.pay = f.payload ∧
        x.t0 = s.clk.now + messageTime .ingest (ceilDiv (32 + f.payload.length) 16) (hops w (laneGet s w l).home) s.clk.now ∧
        x.verdict = 1)

/-- From R105, R121, R125: MAC_NBR_CTL's READ lays the entry out in the eight data registers; PIN and UNPIN set and clear
PINSW of that entry and of no other; each shows its OP and INDEX and clears GO; the requests by address answer the entry, pin
or unpin it, or answer NONEIGHBOUR. The model's own choices in it: log entries 240. -/
def Obligations.NeighbourTableAccess : Prop :=
  (∀ t w k, k < 8192 → Does (.nbrRead t w k) (fun s => w < s.part.wings)
      fun s u => (∀ j, j < 8 → regGet u (macNbrData w j) = BitVec.ofNat 64 (leAt (nbrBytes (nbrGet s (w * 8192 + k))) (8 * j) 8)) ∧
        regF u (macNbrCtl w) 63 63 = 0 ∧ regF u (macNbrCtl w) 58 56 = 0 ∧ regF u (macNbrCtl w) 12 0 = k ∧ u.mac = s.mac) ∧
  (∀ t w k, k < 8192 → Does (.nbrPin t w k) (fun s => w < s.part.wings ∧ bit (nbrGet s (w * 8192 + k)).flags 0 = true)
      fun s u => nbrGet u (w * 8192 + k) = nbrFlag 1 true (nbrGet s (w * 8192 + k)) ∧
        regF u (macNbrCtl w) 63 63 = 0 ∧ regF u (macNbrCtl w) 58 56 = 1 ∧ regF u (macNbrCtl w) 12 0 = k ∧
        bit (nbrGet u (w * 8192 + k)).flags 1 = true ∧ ∀ j, j ≠ w * 8192 + k → nbrGet u j = nbrGet s j) ∧
  (∀ t w k, k < 8192 → Does (.nbrUnpin t w k) (fun s => w < s.part.wings ∧ bit (nbrGet s (w * 8192 + k)).flags 0 = true)
      fun s u => nbrGet u (w * 8192 + k) = nbrFlag 1 false (nbrGet s (w * 8192 + k)) ∧
        regF u (macNbrCtl w) 63 63 = 0 ∧ regF u (macNbrCtl w) 58 56 = 2 ∧ regF u (macNbrCtl w) 12 0 = k ∧
        bit (nbrGet u (w * 8192 + k)).flags 1 = false ∧ ∀ j, j ≠ w * 8192 + k → nbrGet u j = nbrGet s j) ∧
  (∀ t w k, k < 8192 → Does (.nbrPin t w k) (fun s => w < s.part.wings ∧ bit (nbrGet s (w * 8192 + k)).flags 0 = false)
      fun s u => u.mac = s.mac) ∧
  (∀ t via a k, Does (.lookUpEntryByAddress t via a) (fun s => reaches s via 0x04011000 = true ∧ nbrByAddr s a = some k)
      fun s u => AnsweredBody u via 0x04011000 stDONE (nbrBytes (nbrGet s k)) ∧ u.mac = s.mac) ∧
  (∀ t via a, Does (.lookUpEntryByAddress t via a) (fun s => reaches s via 0x04011000 = true ∧ nbrByAddr s a = none)
      fun s u => Answered u via 0x04011000 stNONEIGHBOUR ∧ u.mac = s.mac) ∧
  (∀ t via a k, Does (.pinEntryByAddress t via a)
      (fun s => reaches s via 0x04011100 = true ∧ nbrByAddr s a = some k ∧ bit (nbrGet s k).flags 0 = true)
      fun s u => Answered u via 0x04011100 stDONE ∧ nbrGet u k = nbrFlag 1 true (nbrGet s k) ∧ ∀ j, j ≠ k → nbrGet u j = nbrGet s j) ∧
  (∀ t via a k, Does (.unpinEntryByAddress t via a)
      (fun s => reaches s via 0x04011200 = true ∧ nbrByAddr s a = some k ∧ bit (nbrGet s k).flags 0 = true)
      fun s u => Answered u via 0x04011200 stDONE ∧ nbrGet u k = nbrFlag 1 false (nbrGet s k) ∧ ∀ j, j ≠ k → nbrGet u j = nbrGet s j) ∧
  (∀ t via a, Does (.pinEntryByAddress t via a) (fun s => reaches s via 0x04011100 = true ∧ nbrByAddr s a = none)
      fun s u => Answered u via 0x04011100 stNONEIGHBOUR ∧ u.mac = s.mac)


/-- From R106 to R112, R480: a malformed request of the ring returns BADREQ, any other begins on its entry's port once that is
free; a backoff of a whole number of unit periods ends in CCA; a busy channel backs off again with the next exponent or fails,
a clear one asks for its counter 1,000 FCLK before TXEN, and waits where it would overlap the parent's window; an unsecured
frame is posted at once; the frame is posted at its TXEN, and awaits its acknowledgement; without it, it is tried again up to
its limit, and an exchange with a CSL partner counts a miss; enhanced beacons go by their interval. The model's own choices in
it: log entries 69, 73, 74, 80. -/
def Obligations.MacSends : Prop :=
  (∀ t w a b, Does (.sendRequestTake t w)
      (fun s => s.mac.replies.find? (fun r => r.1 == w) = none ∧ regF s (macSqPtr w) 31 0 ≠ regF s (macSqPtr w) 63 32 ∧
        a = regF s (macSqCfg w) 63 12 * 4096 + regF s (macSqPtr w) 63 32 % 2 ^ ringLog2 (regF s (macSqCfg w) 4 0) 4 16 4 * 32 ∧
        b = dramRead s a 32 ∧ portBusy s (destPort s w (leAt b 0 8)) = false ∧ requestBad s w b = true)
      fun s u => regF u (macSqPtr w) 63 32 = (regF s (macSqPtr w) 63 32 + 1) % 4294967296 ∧
        dramRead u (a + 20) 12 = toLe 1 6 ++ toLe 1 0 ++ toLe 2 0 ++ toLe 8 0 ∧ u.mac = s.mac) ∧
  (∀ t w a b k, Does (.sendRequestTake t w)
      (fun s => s.mac.replies.find? (fun r => r.1 == w) = none ∧ regF s (macSqPtr w) 31 0 ≠ regF s (macSqPtr w) 63 32 ∧
        a = regF s (macSqCfg w) 63 12 * 4096 + regF s (macSqPtr w) 63 32 % 2 ^ ringLog2 (regF s (macSqCfg w) 4 0) 4 16 4 * 32 ∧
        b = dramRead s a 32 ∧ portBusy s (destPort s w (leAt b 0 8)) = false ∧ requestBad s w b = false ∧
        leaseJudge s (destGroup s (leAt b 0 8)) = 0 ∧ nbrFind s w (leAt b 0 8) = some k ∧ 0 < activeKey s ∧
        jobGet s (nbrGet s k).port = none ∧ (bit (leAt b 18 1) 1 && bit (nbrGet s k).flags 4) = false)
      fun s u => regF u (macSqPtr w) 63 32 = (regF s (macSqPtr w) 63 32 + 1) % 4294967296 ∧
        (nbrGet u k).pend = (nbrGet s k).pend + 1 ∧ bit (nbrGet u k).flags 2 = true ∧
        jobGet u (nbrGet s k).port = some { sendJob s 0 w a k (leAt b 8 8) (leAt b 16 2) (leAt b 18 1) (leAt b 19 1) with
          phase := 0, start := s.clk.now, nb := 0, be := obj s 0x04004000, ctr := none }) ∧
  (∀ t w r, Does (.sendRequestTake t w)
      (fun s => s.mac.replies.find? (fun r => r.1 == w) = some r ∧
        portBusy s (destPort s w (leAt (entryOf s r.2) 8 8)) = false)
      fun s u => u.mac.replies = s.mac.replies.erase (w, r.2) ∧ regF u (macSqPtr w) 63 32 = regF s (macSqPtr w) 63 32) ∧
  (∀ t pn j, Does (.csmaBackoffEnd t pn)
      (fun s => jobGet s pn = some j ∧ j.phase = 0 ∧ (s.clk.now - j.start) % j.unit = 0 ∧ (s.clk.now - j.start) / j.unit < 2 ^ j.be)
      fun s u => jobGet u pn = some { j with phase := 1, start := s.clk.now } ∧ u.air = s.air) ∧
  (∀ t pn j pwr pre, Does (.ccaEnd t pn pwr pre)
      (fun s => jobGet s pn = some j ∧ j.phase = 1 ∧ j.start + symbols j.mode 8 ≤ s.clk.now ∧ j.nb + 1 ≤ obj s 0x04004002 ∧
        (pre = true ∨ sgn 64 (obj s 0x04004100) ≤ pwr))
      fun s u => jobGet u pn = some { j with phase := 0, start := s.clk.now, nb := j.nb + 1, be := min (j.be + 1) (obj s 0x04004001) } ∧
        u.cnt = s.cnt) ∧
  (∀ t pn j pwr pre, Does (.ccaEnd t pn pwr pre)
      (fun s => jobGet s pn = some j ∧ j.phase = 1 ∧ j.start + symbols j.mode 8 ≤ s.clk.now ∧ obj s 0x04004002 < j.nb + 1 ∧
        (pre = true ∨ sgn 64 (obj s 0x04004100) ≤ pwr))
      fun s u => (j.kind ≤ 1 ∨ 4 ≤ j.kind → cntGet u j.wing (tallyMac 17) = (cntGet s j.wing (tallyMac 17) + 1) % two64) ∧
        (j.kind = 2 → cntGet u 0 (tallyTc 7) = (cntGet s 0 (tallyTc 7) + 1) % two64 ∧ (jobGet u pn).isSome = true) ∧
        (j.kind = 3 → cntGet u 0 (tallyTc 4) = (cntGet s 0 (tallyTc 4) + 1) % two64) ∧
        (j.kind ≠ 2 → s.mac.waits.find? (fun x => x.1 == pn) = none → jobGet u pn = none) ∧
        (j.kind = 0 → dramRead u (j.entry + 20) 1 = [3])) ∧
  (∀ t pn j pwr, Does (.ccaEnd t pn pwr false)
      (fun s => jobGet s pn = some j ∧ j.phase = 1 ∧ j.start + symbols j.mode 8 ≤ s.clk.now ∧ pwr < sgn 64 (obj s 0x04004100) ∧
        0 < j.level ∧ 0 < activeKey s ∧
        windowBlocks s pn (spanAt s pn 4 0 0 (s.clk.now + 1000) j.air j.bin false 1) = false)
      fun s u => jobGet u pn = some { j with phase := 5, start := s.clk.now + 1000, ctr := none } ∧
        u.mac.held = s.mac.held ++ [{ wing := pn / 2, port := pn % 2, assert := s.clk.now + 1000, key := activeKey s
                                      ends := s.clk.now + writeTime (pn / 2) 0 s.clk.now + 215 }]) ∧
  (∀ t pn j pwr, Does (.ccaEnd t pn pwr false)
      (fun s => jobGet s pn = some j ∧ j.phase = 1 ∧ j.start + symbols j.mode 8 ≤ s.clk.now ∧ pwr < sgn 64 (obj s 0x04004100) ∧
        0 < j.level ∧ activeKey s = 0 ∧ j.kind = 0 ∧
        windowBlocks s pn (spanAt s pn 4 0 0 (s.clk.now + 1000) j.air j.bin false 1) = false)
      fun s u => cntGet u j.wing (tallyMac 16) = (cntGet s j.wing (tallyMac 16) + 1) % two64 ∧
        dramRead u (j.entry + 20) 1 = [7] ∧ u.mac.held = s.mac.held) ∧
  (∀ t pn j pwr, Does (.ccaEnd t pn pwr false)
      (fun s => jobGet s pn = some j ∧ j.phase = 1 ∧ j.start + symbols j.mode 8 ≤ s.clk.now ∧ pwr < sgn 64 (obj s 0x04004100) ∧
        windowBlocks s pn (spanAt s pn 4 0 0 (if j.level = 0 then s.clk.now else s.clk.now + 1000) j.air j.bin false 1) = true)
      fun s u => jobGet u pn = some { j with phase := 4 } ∧ u.mac.held = s.mac.held ∧ u.air = s.air) ∧
  (∀ t pn j pwr, j.level = 0 → Does (.ccaEnd t pn pwr false)
      (fun s => jobGet s pn = some j ∧ j.phase = 1 ∧ j.start + symbols j.mode 8 ≤ s.clk.now ∧ pwr < sgn 64 (obj s 0x04004100) ∧
        windowBlocks s pn (spanAt s pn 4 0 0 s.clk.now j.air j.bin false 1) = false ∧ airEn s pn = true ∧
        (portGet s pn).txen = false ∧ (portGet s pn).cur = none ∧
        fits s pn (spanAt s pn 4 0 0 s.clk.now j.air j.bin false 1) true = true)
      fun s u => (portGet u pn).txen = true ∧ (portGet u pn).cur = some (spanAt s pn 4 0 0 s.clk.now j.air j.bin false 1) ∧
        jobGet u pn = some { j with phase := 2, start := s.clk.now }) ∧
  (∀ t w p j, p < 2 → Does (.txDescriptorPost t w p macDesc)
      (fun s => jobGet s (2 * w + p) = some j ∧ j.phase = 5 ∧ j.ctr.isSome = true ∧ j.start = s.clk.now ∧
        airEn s (2 * w + p) = true ∧ (portGet s (2 * w + p)).txen = false ∧ (portGet s (2 * w + p)).cur = none ∧
        fits s (2 * w + p) (spanAt s (2 * w + p) 4 0 0 s.clk.now j.air j.bin false 1) true = true)
      fun s u => (portGet u (2 * w + p)).txen = true ∧
        (portGet u (2 * w + p)).cur = some (spanAt s (2 * w + p) 4 0 0 s.clk.now j.air j.bin false 1) ∧
        jobGet u (2 * w + p) = some { j with phase := 2 }) ∧
  (∀ t w p c j, p < 2 → Does (.transmissionEnd t w p)
      (fun s => (portGet s (2 * w + p)).cur = some c ∧ (portGet s (2 * w + p)).ended = false ∧ c.last ≤ s.clk.now ∧
        c.rank = 4 ∧ c.kind ≠ 0 ∧ jobGet s (2 * w + p) = some j ∧ j.phase = 2 ∧ j.kind ≤ 1 ∧ bit j.flags 0 = true)
      fun s u => jobGet u (2 * w + p) = some { j with
          tries := j.tries + 1, firstAt := ptimeAt s c.first, phase := 3, start := c.last
          winEnd := c.last + 1000000 + obj s 0x04004200 * 1000 } ∧
        cntGet u w (tallyAir p 11) = (cntGet s w (tallyAir p 11) + 1) % two64) ∧
  (∀ t pn j, j.csl = false → Does (.ackWaitTimeout t pn)
      (fun s => jobGet s pn = some j ∧ j.phase = 3 ∧ j.winEnd ≤ s.clk.now ∧ windowHeld s pn j.start j.winEnd = false ∧
        j.tries < j.limit)
      fun s u => jobGet u pn = some { j with phase := 0, start := s.clk.now, nb := 0, be := obj s 0x04004000, ctr := none } ∧
        u.cnt = s.cnt) ∧
  (∀ t pn j, j.csl = true → Does (.ackWaitTimeout t pn)
      (fun s => jobGet s pn = some j ∧ j.phase = 3 ∧ j.winEnd ≤ s.clk.now ∧ windowHeld s pn j.start j.winEnd = false)
      fun s u => cntGet u (j.nbr / 8192) (tallyMac 21) = (cntGet s (j.nbr / 8192) (tallyMac 21) + 1) % two64 ∧
        bits (nbrGet u j.nbr).flags 10 8 = min 3 (bits (nbrGet s j.nbr).flags 10 8 + 1)) ∧
  (∀ t pn j, Does (.ackWaitTimeout t pn)
      (fun s => jobGet s pn = some j ∧ j.phase = 3 ∧ j.winEnd ≤ s.clk.now ∧ windowHeld s pn j.start j.winEnd = false ∧
        j.limit ≤ j.tries)
      fun s u => (s.mac.waits.find? (fun x => x.1 == pn) = none → jobGet u pn = none) ∧
        cntGet u j.wing (tallyMac 18) = (cntGet s j.wing (tallyMac 18) + 1) % two64 ∧
        (j.kind = 0 → dramRead u (j.entry + 20) 1 = [2])) ∧
  (∀ t, Does (.enhancedBeaconInterval t)
      (fun s => 0 < obj s 0x04007000 ∧ s.mac.ebNext.all (fun n => decide (n ≤ s.clk.now)) = true)
      fun s u => u.mac.ebNext = some (s.clk.now + obj s 0x04007000 * 1000000) ∧
        ∀ pn b, pn < 2 * s.part.wings → b < 64 → bit (obj s (0x04007100 + pn)) b = true → bit (binMode s pn b) 3 = true →
          binMode s pn b % 4 ≠ 3 → (obj s 0x04007300 ≠ 1 ∨ 0 < activeKey s) → (jobGet u pn).isSome = true)

/-- From R113, R114: a parent's window that closes without its beacon is a miss, and the next window is predicted; the third
loses the parent and begins a scan; a scan ends with the lowest candidate heard other than the lost one, else with that one if
it was heard, or scans again; software may take a parent that is configured. The model's own choices in it: log entries 75,
76. -/
def Obligations.ParentIsFollowed : Prop :=
  (∀ t a b, Does (.parentWindowClose t)
      (fun s => s.mac.window = some (a, b) ∧ notBeforeW 64 (ptimeNs s) b = true ∧ s.mac.misses < 2 ∧ s.mac.parent < 256 ∧ LogRoom s 0 1)
      fun s u => u.mac.misses = s.mac.misses + 1 ∧ u.mac.parent = s.mac.parent ∧ u.mac.scan = s.mac.scan ∧
        u.mac.window = parentWindow { s with mac := { s.mac with misses := s.mac.misses + 1 } } ∧
        Logged u 0 0x0405 0 s.mac.parent (s.mac.misses + 1)) ∧
  (∀ t a b, Does (.parentWindowClose t)
      (fun s => s.mac.window = some (a, b) ∧ notBeforeW 64 (ptimeNs s) b = true ∧ 2 ≤ s.mac.misses ∧ s.mac.parent < 256 ∧ LogRoom s 0 1)
      fun s u => u.mac.parent = 255 ∧ u.mac.lostP = s.mac.parent ∧ u.mac.window = none ∧
        u.mac.scan = some (s.clk.now + max (obj s 0x04006400) (2 * obj s 0x04006200) * 1000000) ∧
        regF u (macStat 0) 2 2 = 1 ∧ Logged u 0 0x0406 0 s.mac.parent (s.mac.beacon % two64)) ∧
  (∀ t e p, p < 4 → Does (.scanEnd t)
      (fun s => s.mac.scan = some e ∧ e ≤ s.clk.now ∧ bit s.mac.heard p = true ∧ LogRoom s 0 1 ∧
        ((p ≠ s.mac.lostP ∧ ∀ q, q < p → bit s.mac.heard q = false ∨ q = s.mac.lostP) ∨
         (p = s.mac.lostP ∧ ∀ q, q < 4 → q ≠ p → bit s.mac.heard q = false)))
      fun _ u => u.mac.parent = p ∧ u.mac.scan = none ∧ u.mac.misses = 0 ∧ u.mac.lostP = 255 ∧ regF u (macStat 0) 1 1 = 0 ∧
        Logged u 0 0x0407 0 p 1) ∧
  (∀ t e, Does (.scanEnd t)
      (fun s => s.mac.scan = some e ∧ e ≤ s.clk.now ∧ (∀ q, q < 4 → bit s.mac.heard q = false) ∧ LogRoom s 0 1)
      fun s u => u.mac.parent = s.mac.parent ∧ u.mac.scans = s.mac.scans + 1 ∧ regF u (macStat 0) 1 1 = 1 ∧
        u.mac.scan = some (s.clk.now + max (obj s 0x04006400) (2 * obj s 0x04006200) * 1000000) ∧
        Logged u 0 0x0408 0 ((s.mac.scans + 1) % two64) 0) ∧
  (∀ t via p, p < 4 → Does (.takeParent t via p)
      (fun s => reaches s via 0x04006600 = true ∧ obj s (0x04006000 + p) ≠ 0 ∧ LogRoom s 0 1)
      fun _ u => Answered u via 0x04006600 stDONE ∧ u.mac.parent = p ∧ u.mac.scan = none ∧ u.mac.misses = 0 ∧
        Logged u 0 0x0407 0 p 2) ∧
  (∀ t via p, Does (.takeParent t via p)
      (fun s => reaches s via 0x04006600 = true ∧ (4 ≤ p ∨ obj s (0x04006000 + p) = 0))
      fun s u => Answered u via 0x04006600 stRANGE ∧ u.mac = s.mac)

/-- From R116 to R120: a flood request is refused with the status of the first check that fails and counted, or queued as it
asks, its ID in every wing's seen-cache; a flood that wing 0 has seen is dropped, a new one delivered, and relayed as its TTL
allows; repetitions fall due by their spacing; what is not sent in time is abandoned; a relay's hold ends; seen-cache entries
expire. The model's own choices in it: log entries 77, 78, 242. -/
def Obligations.TownCrierFloods : Prop :=
  (∀ t via r, Does (.floodRequest t via r)
      (fun s => reaches s via 0x04010000 = true ∧ s.power.fail = none ∧ r.length = 24 + beAt r 22 2 ∧ 0 < beAt r 22 2 ∧
        beAt r 22 2 + 30 + micLen (txLevel s 0) + 4 ≤ 2047 ∧ floodRange s r = true ∧
        isSeen s 0 (obj s 0x04000200) (beAt r 8 4) = false ∧ leaseJudge s (beAt r 0 8) = 0 ∧ s.mac.floods.length < 256)
      fun s u => Answered u via 0x04010000 stDONE ∧ u.mac.floods.length = s.mac.floods.length + 1 ∧
        (u.mac.floods.getLast?).map (fun f => (f.ident, f.ttl, f.mask, f.reps, f.gap, f.data, f.since, f.nextRep)) =
          some (beAt r 8 4, beAt r 12 1, beAt r 14 2, beAt r 18 1, beAt r 20 2, r.drop 24, s.clk.now, 0) ∧
        ∀ w, w < s.part.wings → ((tabGet [] u.mac.seen w).head?).map (fun e => (e.origin, e.ident)) =
          some (obj s 0x04000200, beAt r 8 4)) ∧
  (∀ t via r st, Does (.floodRequest t via r)
      (fun s => reaches s via 0x04010000 = true ∧ s.power.fail = none ∧
        (((r.length ≠ 24 + beAt r 22 2 ∨ beAt r 22 2 = 0 ∨ 2047 < beAt r 22 2 + 30 + micLen (txLevel s 0) + 4) ∧ st = stLENGTH) ∨
         (r.length = 24 + beAt r 22 2 ∧ 0 < beAt r 22 2 ∧ beAt r 22 2 + 30 + micLen (txLevel s 0) + 4 ≤ 2047 ∧
          ((floodRange s r = false ∧ st = stRANGE) ∨
           (floodRange s r = true ∧ isSeen s 0 (obj s 0x04000200) (beAt r 8 4) = true ∧ st = stDUPLICATE_ID) ∨
           (floodRange s r = true ∧ isSeen s 0 (obj s 0x04000200) (beAt r 8 4) = false ∧
            ((leaseJudge s (beAt r 0 8) ≠ 0 ∧ st = stLEASE) ∨
             (leaseJudge s (beAt r 0 8) = 0 ∧ 256 ≤ s.mac.floods.length ∧ st = stBUSY)))))))
      fun s u => Answered u via 0x04010000 st ∧ cntGet u 0 (tallyTc 10) = (cntGet s 0 (tallyTc 10) + 1) % two64 ∧ u.mac = s.mac) ∧
  (∀ t via r, Does (.floodRequest t via r) (fun s => reaches s via 0x04010000 = true ∧ s.power.fail.isSome = true)
      fun s u => Answered u via 0x04010000 stNOPOWER ∧ u.mac = s.mac) ∧
  (∀ t x, Does (.floodAtWing0 t)
      (fun s => s.mac.accept.find? (fun y => decide (y.2.2 ≤ s.clk.now)) = some x ∧ isSeen s 0 x.1.origin x.1.ident = true)
      fun s u => cntGet u 0 (tallyTc 1) = (cntGet s 0 (tallyTc 1) + 1) % two64 ∧ u.mac.accept = s.mac.accept.erase x ∧ u.dram = s.dram) ∧
  (∀ t x, Does (.floodAtWing0 t)
      (fun s => s.mac.accept.find? (fun y => decide (y.2.2 ≤ s.clk.now)) = some x ∧ isSeen s 0 x.1.origin x.1.ident = false)
      fun s u => cntGet u 0 (tallyTc 0) = (cntGet s 0 (tallyTc 0) + 1) % two64 ∧ u.mac.accept = s.mac.accept.erase x ∧
        ((tabGet [] u.mac.seen 0).head?).map (fun e => (e.origin, e.ident)) = some (x.1.origin, x.1.ident) ∧
        (x.1.ttl = 0 → cntGet u 0 (tallyTc 5) = (cntGet s 0 (tallyTc 5) + 1) % two64) ∧
        (0 < x.1.ttl → obj s 0x04009100 = 1 → s.mac.parent < 4 → s.mac.scan = none → s.mac.relays.length < 64 →
          u.mac.relays = s.mac.relays ++ [{ x.1 with ttl := x.1.ttl - 1, since := s.clk.now + obj s 0x04009200 * 1000 }])) ∧
  (∀ t f, Does (.relayHoldEnd t)
      (fun s => s.mac.relays.find? (fun y => decide (y.since ≤ s.clk.now)) = some f ∧
        (activeKey s = 0 ∨ s.mac.scan.isSome = true))
      fun s u => u.mac.relays = s.mac.relays.erase f ∧ u.mac.jobs = s.mac.jobs ∧
        cntGet u 0 (tallyTc 4) = (cntGet s 0 (tallyTc 4) + 1) % two64) ∧
  (∀ t f, Does (.relayHoldEnd t)
      (fun s => s.mac.relays.find? (fun y => decide (y.since ≤ s.clk.now)) = some f ∧ 0 < activeKey s ∧ s.mac.scan = none)
      fun s u => u.mac.relays = s.mac.relays.erase f ∧ u.cnt = s.cnt ∧
        ∀ pn, bit (obj s 0x04009300 % 2 ^ (2 * s.part.wings)) pn = true → pn < 16 → (jobGet u pn).isSome = true) ∧
  (∀ t i f, Does (.floodRepetition t i)
      (fun s => s.mac.floods[i]? = some f ∧ f.nextRep < f.reps ∧ f.since + f.nextRep * f.gap * 1000000 ≤ s.clk.now)
      fun s u => u.mac.floods = s.mac.floods.set i { f with nextRep := f.nextRep + 1 } ∧
        ∀ pn, bit f.mask pn = true → pn < 16 → (jobGet u pn).isSome = true) ∧
  (∀ t i f, Does (.floodExpired t i)
      (fun s => s.mac.floods[i]? = some f ∧ f.since + obj s 0x04010100 * 1000000000 ≤ s.clk.now)
      fun s u => u.mac.floods = s.mac.floods.eraseIdx i ∧ cntGet u 0 (tallyTc 8) =
        (cntGet s 0 (tallyTc 8) + (f.reps - f.sent / max 1 (f.left / max 1 f.reps))) % two64 ∧
        (f.sent / max 1 (f.left / max 1 f.reps) < f.reps →
          LogRoom s 0 (f.reps - f.sent / max 1 (f.left / max 1 f.reps)) →
          Logged u 0 0x0410 0 (f.ident % two64) ((f.sent / max 1 (f.left / max 1 f.reps)) % two64))) ∧
  (∀ t w, Does (.seenCacheExpiry t w) (fun _ => True)
      fun s u => tabGet [] u.mac.seen w = (tabGet [] s.mac.seen w).filter (seenLive s) ∧
        ∀ v, v ≠ w → tabGet [] u.mac.seen v = tabGet [] s.mac.seen v)

/-! ### Chapter 5: Check-in -/

/-- From R130, R131, R153, R157, R338, R339: an admissible free index is provisioned into its directory slot, its address's
slot and entry; a refusal is counted and changes nothing else; the endpoint operations, after what falls due on the endpoint in
their FCLK, change the current entry (here a cached one, which becomes DIRTY) and raise their event; deprovisioning clears the
slot and the address's index; an operation on an endpoint with a frame in flight waits; an export is sealed under the next
number, an import applied or refused; a look-up shows the entry without its keys. The model's own choices in it: log entries
84, 85, 89, 229. -/
def Obligations.EndpointOperations : Prop :=
  (∀ t n r p i, r.length = 204 → Does (.provision t (.session n) r)
      (fun s => reaches s (.session n) 0x05010000 = true ∧ provRange r = true ∧
        (beAt r 0 4 = 0xFFFFFFFF ∧ freeIndex s 1048576 0 = some i ∨
          beAt r 0 4 = i ∧ i < 1048576 ∧ provisioned s i = false ∧ admissible s i = true) ∧
        dirOf s (beAt r 4 8) = 0xFFFFFFFF ∧ atGive s (ownerOf s (beAt r 4 8)) (beAt r 4 8) = some p ∧
        (p + 32 ≤ dirSlot s i ∨ dirSlot s i + 384 ≤ p) ∧
        regF s (logRingCfg (i % s.part.wings)) 5 5 = 0 ∧ LogRoom s (i % s.part.wings) 1)
      fun s u => AnsweredBody u (.session n) 0x05010000 stDONE (toBe 4 i) ∧
        dramRead u (dirSlot s i) 384 = provEntry i r ++ padTo 128 (slice r 108 96) ∧ dramRead u (p + 8) 4 = toLe 4 i ∧
        (∀ k, nbrFind s (ownerOf s (beAt r 4 8)) (beAt r 4 8) = some k → (nbrGet u k).dir = i) ∧
        Logged u (i % s.part.wings) 0x0506 (i % s.part.wings % 65536) (i % two64) (beAt r 4 8)) ∧
  (∀ t n r st, Does (.provision t (.session n) r)
      (fun s => reaches s (.session n) 0x05010000 = true ∧
        st = (if r.length ≠ 204 then stLENGTH else if provRange r = false then stRANGE
          else if beAt r 0 4 ≠ 0xFFFFFFFF ∧ provisioned s (beAt r 0 4) = true then stINDEX_USED else stADDRESS_USED) ∧
        (st ≠ stADDRESS_USED ∨ dirOf s (beAt r 4 8) ≠ 0xFFFFFFFF))
      fun s u => Answered u (.session n) 0x05010000 st ∧ u.dram = s.dram ∧ u.mac = s.mac ∧ u.ing = s.ing ∧ u.log = s.log ∧
        tabGet 0 u.emp.refused (0x05010000 * 64 + st) = tabGet 0 s.emp.refused (0x05010000 * 64 + st) + 1) ∧
  (∀ t via r, r.length = 204 → beAt r 0 4 < 1048576 → Does (.provision t via r)
      (fun s => reaches s via 0x05010000 = true ∧ provRange r = true ∧ provisioned s (beAt r 0 4) = false ∧
        dirOf s (beAt r 4 8) = 0xFFFFFFFF ∧ admissible s (beAt r 0 4) = false ∧ LogRoom s (beAt r 0 4 % s.part.wings) 1)
      fun s u => Answered u via 0x05010000 stDIRECTORY_FULL ∧ u.mac = s.mac ∧ u.ing = s.ing ∧
        tabGet 0 u.emp.refused (0x05010000 * 64 + stDIRECTORY_FULL) =
          tabGet 0 s.emp.refused (0x05010000 * 64 + stDIRECTORY_FULL) + 1 ∧
        Logged u (beAt r 0 4 % s.part.wings) 0x0505 (beAt r 0 4 % s.part.wings % 65536) (beAt r 0 4)
          (capacity s (beAt r 0 4 % s.part.wings) % two64)) ∧
  (∀ t via i k, DoesFrom (opReady via i) (.deprovision t via i)
      (fun s => reaches s via 0x05010100 = true ∧ provisioned s i = true ∧ inFlight s i = false ∧
        gbFind s (i % s.part.wings) i = some k ∧ LogRoom s (i % s.part.wings) 1)
      fun s u => Answered u via 0x05010100 stDONE ∧ tabGet [] (ingGet u (i % s.part.wings)).gb k = [] ∧
        u.mac.replies = s.mac.replies.filter (fun r => r.2 != i) ∧
        Logged u (i % s.part.wings) 0x0507 (i % s.part.wings % 65536) i 1) ∧
  (∀ t n i a p, DoesFrom (opReady (.session n) i) (.deprovision t (.session n) i)
      (fun s => reaches s (.session n) 0x05010100 = true ∧ provisioned s i = true ∧ inFlight s i = false ∧
        a = leAt (entryOf s i) 8 8 ∧ atFind s (ownerOf s a) a = some p ∧
        (p + 32 ≤ dirSlot s i ∨ dirSlot s i + 2048 ≤ p) ∧
        regF s (logRingCfg (i % s.part.wings)) 5 5 = 0 ∧ LogRoom s (i % s.part.wings) 1)
      fun s u => Answered u (.session n) 0x05010100 stDONE ∧ dramRead u (dirSlot s i) 2048 = List.replicate 2048 0 ∧
        dramRead u (p + 8) 4 = toLe 4 0xFFFFFFFF ∧
        (∀ k, nbrFind s (ownerOf s a) a = some k → (nbrGet u k).dir = 0xFFFFFFFF) ∧
        u.mac.replies = s.mac.replies.filter (fun r => r.2 != i)) ∧
  (∀ t via i, DoesFrom (opReady via i) (.deprovision t via i)
      (fun s => viaOpen s via = true ∧ viaLevel s via ≠ 0 ∧ provisioned s i = true ∧ inFlight s i = true)
      fun s u => (ingGet u (i % s.part.wings)).ops = (ingGet s (i % s.part.wings)).ops ++ [{ via := via, op := 1, dir := i }] ∧
        u.emp = s.emp ∧ u.dram = s.dram) ∧
  (∀ t via i k, DoesFrom (opReady via i) (.suspend t via i)
      (fun s => reaches s via 0x05010100 = true ∧ provisioned s i = true ∧ inFlight s i = false ∧
        gbFind s (i % s.part.wings) i = some k ∧ LogRoom s (i % s.part.wings) 1)
      fun s u => Answered u via 0x05010100 stDONE ∧
        tabGet [] (ingGet u (i % s.part.wings)).gb k = entFlag 2 true (entFlag 4 true (entryOf s i)) ∧
        Logged u (i % s.part.wings) 0x0507 (i % s.part.wings % 65536) i 2) ∧
  (∀ t via i, DoesFrom (opReady via i) (.suspend t via i)
      (fun s => viaOpen s via = true ∧ viaLevel s via ≠ 0 ∧ provisioned s i = true ∧ inFlight s i = true)
      fun s u => (ingGet u (i % s.part.wings)).ops = (ingGet s (i % s.part.wings)).ops ++ [{ via := via, op := 2, dir := i }] ∧
        u.emp = s.emp ∧ u.dram = s.dram) ∧
  (∀ t via i k, DoesFrom (opReady via i) (.resume t via i)
      (fun s => reaches s via 0x05010100 = true ∧ provisioned s i = true ∧ gbFind s (i % s.part.wings) i = some k ∧
        LogRoom s (i % s.part.wings) 1)
      fun s u => Answered u via 0x05010100 stDONE ∧
        tabGet [] (ingGet u (i % s.part.wings)).gb k = entFlag 2 true (entFlag 4 false (entryOf s i)) ∧
        Logged u (i % s.part.wings) 0x0507 (i % s.part.wings % 65536) i 3) ∧
  (∀ t via i k key, key.length = 32 → DoesFrom (opReady via i) (.setDed t via i key)
      (fun s => reaches s via 0x05010100 = true ∧ provisioned s i = true ∧ gbFind s (i % s.part.wings) i = some k ∧
        LogRoom s (i % s.part.wings) 1)
      fun s u => Answered u via 0x05010100 stDONE ∧ tabGet [] (ingGet u (i % s.part.wings)).gb k =
          entFlag 2 true (entFlag 8 true (putLe (putBytes (entryOf s i) 128 key) 28 4 0)) ∧
        Logged u (i % s.part.wings) 0x0507 (i % s.part.wings % 65536) i 4) ∧
  (∀ t via i k, DoesFrom (opReady via i) (.clearDed t via i)
      (fun s => reaches s via 0x05010100 = true ∧ provisioned s i = true ∧ gbFind s (i % s.part.wings) i = some k ∧
        LogRoom s (i % s.part.wings) 1)
      fun s u => Answered u via 0x05010100 stDONE ∧ tabGet [] (ingGet u (i % s.part.wings)).gb k =
          entFlag 2 true (entFlag 8 false (putBytes (entryOf s i) 128 (List.replicate 32 0))) ∧
        Logged u (i % s.part.wings) 0x0507 (i % s.part.wings % 65536) i 5) ∧
  (∀ t via i k keys, keys.length = 64 → DoesFrom (opReady via i) (.rekey t via i keys)
      (fun s => reaches s via 0x05010100 = true ∧ provisioned s i = true ∧ gbFind s (i % s.part.wings) i = some k ∧
        LogRoom s (i % s.part.wings) 1)
      fun s u => Answered u via 0x05010100 stDONE ∧ tabGet [] (ingGet u (i % s.part.wings)).gb k =
          entFlag 2 true (entFlag 3 false (putLe (putBytes (entryOf s i) 64 keys) 24 4 0)) ∧
        Logged u (i % s.part.wings) 0x0507 (i % s.part.wings % 65536) i 6) ∧
  (∀ t via i k, DoesFrom (opReady via i) (.exportSession t via i)
      (fun s => reaches s via 0x05010100 = true ∧ provisioned s i = true ∧ inFlight s i = false ∧ noPower s = false ∧
        gbFind s (i % s.part.wings) i = some k ∧ LogRoom s (i % s.part.wings) 2)
      fun s u => AnsweredBody u via 0x05010100 stDONE (sealEntry i s).1 ∧ obj u 0x0B040200 = obj s 0x0B040200 + 1 ∧
        tabGet [] (ingGet u (i % s.part.wings)).gb k = entFlag 2 true (entFlag 4 true (entryOf s i)) ∧
        Logged u (i % s.part.wings) 0x0B40 (i % s.part.wings % 65536) i (obj s 0x0B040200 % two64)) ∧
  (∀ t via i k sealed e, sealed.length = 304 → beAt sealed 0 2 = 1 → DoesFrom (opReady via i) (.importSession t via i sealed true e)
      (fun s => reaches s via 0x05010100 = true ∧ provisioned s i = true ∧ gbFind s (i % s.part.wings) i = some k ∧
        tabGet 0 s.lease.seen (beAt sealed 2 2) < beAt sealed 8 8 ∧ LogRoom s (i % s.part.wings) 2)
      fun s u => Answered u via 0x05010100 stDONE ∧ tabGet 0 u.lease.seen (beAt sealed 2 2) = beAt sealed 8 8 ∧
        tabGet [] (ingGet u (i % s.part.wings)).gb k = entFlag 2 true (importEntry (padTo 256 e) (entryOf s i)) ∧
        Logged u (i % s.part.wings) 0x0B41 (i % s.part.wings % 65536) i (beAt sealed 2 2 * 2 ^ 48 + beAt sealed 8 8 % 2 ^ 48)) ∧
  (∀ t via i sealed ok e st, DoesFrom (opReady via i) (.importSession t via i sealed ok e)
      (fun s => reaches s via 0x05010100 = true ∧ provisioned s i = true ∧
        st = (if sealed.length ≠ 304 ∨ beAt sealed 0 2 ≠ 1 then stLENGTH else if ok = false then stAUTH else stSTALE) ∧
        (st ≠ stSTALE ∨ beAt sealed 8 8 ≤ tabGet 0 s.lease.seen (beAt sealed 2 2)) ∧ LogRoom s (i % s.part.wings) 1)
      fun s u => Answered u via 0x05010100 st ∧ u.lease = s.lease ∧ u.ing = s.ing ∧
        cntGet u (i % s.part.wings) (tallyCg 7) = (cntGet s (i % s.part.wings) (tallyCg 7) + 1) % two64 ∧
        Logged u (i % s.part.wings) 0x0B42 (i % s.part.wings % 65536) i st) ∧
  (∀ t via i, DoesFrom (opReady via i) (.lookUpEndpointByIndex t via i)
      (fun s => reaches s via 0x05010200 = true ∧ provisioned s i = true)
      fun s u => AnsweredBody u via 0x05010200 stDONE (entryShown (entryOf s i)) ∧ u.ing = s.ing)

/-- From R131, R139 to R141, R146, R152 to R154: the Guest Book's PIN, UNPIN, READ, WRITEBACK, HOLDREPLY and FLUSH, after the
decisions that fall due in their FCLK, with OP, INDEX and the result in ING_GB_CTL; the two requests that pin and unpin, filling
an entry that is not cached; the sweep of the directory by its interval. The model's own choices in it: log entries 82, 83,
90, 247. -/
def Obligations.GuestBookAccess : Prop :=
  (∀ t via i k, DoesFrom (opReady via i) (.pinEndpoint t via i)
      (fun s => reaches s via 0x05010100 = true ∧ provisioned s i = true ∧ gbFind s (i % s.part.wings) i = some k ∧
        gbPins s (i % s.part.wings) < 16384 ∧ LogRoom s (i % s.part.wings) 1)
      fun s u => Answered u via 0x05010100 stDONE ∧
        tabGet [] (ingGet u (i % s.part.wings)).gb k = entFlag 2 true (entFlag 1 true (entryOf s i)) ∧
        Logged u (i % s.part.wings) 0x0507 (i % s.part.wings % 65536) i 7) ∧
  (∀ t via i k, DoesFrom (opReady via i) (.pinEndpoint t via i)
      (fun s => reaches s via 0x05010100 = true ∧ provisioned s i = true ∧ gbFind s (i % s.part.wings) i = none ∧
        leAt (entryOf s i) 0 4 = i ∧ tabGap 0 (ingGet s (i % s.part.wings)).gb = k ∧ k < 131072 ∧
        gbPins s (i % s.part.wings) < 16384)
      fun s u => Answered u via 0x05010100 stDONE ∧
        tabGet [] (ingGet u (i % s.part.wings)).gb k = entFlag 2 true (entFlag 1 true (entFlag 2 false (entryOf s i)))) ∧
  (∀ t via i, DoesFrom (opReady via i) (.pinEndpoint t via i)
      (fun s => reaches s via 0x05010100 = true ∧ provisioned s i = true ∧ bit (entFlags (entryOf s i)) 1 = false ∧
        16384 ≤ gbPins s (i % s.part.wings))
      fun s u => Answered u via 0x05010100 stPINLIMIT ∧ u.ing = s.ing) ∧
  (∀ t via i k, DoesFrom (opReady via i) (.unpinEndpoint t via i)
      (fun s => reaches s via 0x05010100 = true ∧ provisioned s i = true ∧ gbFind s (i % s.part.wings) i = some k ∧
        LogRoom s (i % s.part.wings) 1)
      fun s u => Answered u via 0x05010100 stDONE ∧
        tabGet [] (ingGet u (i % s.part.wings)).gb k = entFlag 2 true (entFlag 1 false (entryOf s i)) ∧
        Logged u (i % s.part.wings) 0x0507 (i % s.part.wings % 65536) i 8) ∧
  (∀ t w i, DoesFrom (judgeAll w) (.gbRead t w i)
      (fun s => gbHomed s w i = true ∧ dramIn s w (regF s (ingGbDst w) 63 6 * 64) 256 = true)
      fun s u => dramRead u (regF s (ingGbDst w) 63 6 * 64) (entryShown (entryOf s i)).length = entryShown (entryOf s i) ∧
        regF u (ingGbCtl w) 55 52 = (if (gbFind s w i).isSome then 0 else 1) ∧ regF u (ingGbCtl w) 63 63 = 0 ∧
        regF u (ingGbCtl w) 19 0 = i ∧ u.ing = s.ing) ∧
  (∀ t w i, DoesFrom (judgeAll w) (.gbRead t w i) (fun s => gbHomed s w i = false)
      fun s u => regF u (ingGbCtl w) 55 52 = 2 ∧ regF u (ingGbCtl w) 63 63 = 0 ∧ u.dram = s.dram ∧ u.ing = s.ing) ∧
  (∀ t w i k, Does (.gbPin t w i) (fun s => gbHomed s w i = true ∧ gbFind s w i = some k ∧ gbPins s w < 16384)
      fun s u => regF u (ingGbCtl w) 55 52 = 0 ∧ regF u (ingGbCtl w) 63 63 = 0 ∧ regF u (ingGbCtl w) 58 56 = 1 ∧
        tabGet [] (ingGet u w).gb k = entFlag 2 true (entFlag 1 true (entryOf s i)) ∧ u.dram = s.dram) ∧
  (∀ t w i, Does (.gbPin t w i)
      (fun s => gbHomed s w i = false ∨ bit (entFlags (entryOf s i)) 1 = false ∧ 16384 ≤ gbPins s w)
      fun s u => regF u (ingGbCtl w) 55 52 = (if gbHomed s w i = true then 3 else 2) ∧ regF u (ingGbCtl w) 63 63 = 0 ∧
        u.dram = s.dram ∧ u.ing = s.ing) ∧
  (∀ t w i k, Does (.gbUnpin t w i) (fun s => gbHomed s w i = true ∧ gbFind s w i = some k)
      fun s u => regF u (ingGbCtl w) 55 52 = 0 ∧ regF u (ingGbCtl w) 63 63 = 0 ∧ regF u (ingGbCtl w) 58 56 = 2 ∧
        tabGet [] (ingGet u w).gb k = entFlag 2 true (entFlag 1 false (entryOf s i)) ∧ u.dram = s.dram) ∧
  (∀ t w i k e, DoesFrom (judgeAll w) (.writeback t w i)
      (fun s => gbHomed s w i = true ∧ gbFind s w i = some k ∧ entFlag 2 false (tabGet [] (ingGet s w).gb k) = e)
      fun s u => regF u (ingGbCtl w) 55 52 = 0 ∧ regF u (ingGbCtl w) 63 63 = 0 ∧ regF u (ingGbCtl w) 58 56 = 3 ∧
        dramRead u (dirSlot s (leAt e 0 4)) e.length = e ∧ tabGet [] (ingGet u w).gb k = e ∧
        cntGet u w (tallyIng 30) = (cntGet s w (tallyIng 30) + 1) % two64) ∧
  (∀ t w i, DoesFrom (judgeAll w) (.writeback t w i) (fun s => gbHomed s w i = true ∧ gbFind s w i = none)
      fun s u => regF u (ingGbCtl w) 55 52 = 1 ∧ regF u (ingGbCtl w) 63 63 = 0 ∧ u.dram = s.dram ∧ u.ing = s.ing) ∧
  (∀ t w i k, DoesFrom (judgeAll w) (.holdReply t w i)
      (fun s => gbHomed s w i = true ∧ gbFind s w i = some k ∧ lastCommitted (entryOf s i) (regF s (ingGbArg w) 63 32) = true ∧
        0 < regF s (ingGbArg w) 10 0 ∧ regF s (ingGbArg w) 10 0 ≤ 1664)
      fun s u => regF u (ingGbCtl w) 55 52 = 0 ∧ regF u (ingGbCtl w) 63 63 = 0 ∧ regF u (ingGbCtl w) 58 56 = 4 ∧
        tabGet [] (ingGet u w).gb k = entFlag 2 true (entFlag 3 true
          (putLe (putLe (entryOf s i) 32 4 (regF s (ingGbArg w) 63 32)) 36 2 (regF s (ingGbArg w) 10 0))) ∧
        u.mac.replies = s.mac.replies ++ [(ownerOf s (leAt (entryOf u i) 8 8), i)] ∧ u.dram = s.dram) ∧
  (∀ t w i, DoesFrom (judgeAll w) (.holdReply t w i)
      (fun s => gbHomed s w i = true ∧ (lastCommitted (entryOf s i) (regF s (ingGbArg w) 63 32) = false ∨
        regF s (ingGbArg w) 10 0 = 0 ∨ 1664 < regF s (ingGbArg w) 10 0))
      fun s u => regF u (ingGbCtl w) 55 52 = (if lastCommitted (entryOf s i) (regF s (ingGbArg w) 63 32) = false then 4 else 5) ∧
        regF u (ingGbCtl w) 63 63 = 0 ∧ u.mac = s.mac ∧ u.dram = s.dram ∧ u.ing = s.ing) ∧
  (∀ t w k e, DoesFrom (judgeAll w) (.flushGuestBook t w)
      (fun s => (ingGet s w).gb = [(k, entFlag 2 true e)] ∧ bit (entFlags (entFlag 2 true e)) 2 = true)
      fun s u => regF u (ingCtl w) 1 1 = 0 ∧ cntGet u w (tallyIng 30) = (cntGet s w (tallyIng 30) + 1) % two64 ∧
        dramRead u (dirSlot s (leAt (entFlag 2 false (entFlag 2 true e)) 0 4)) (entFlag 2 false (entFlag 2 true e)).length =
          entFlag 2 false (entFlag 2 true e)) ∧
  (∀ t w, DoesFrom (judgeAll w) (.flushGuestBook t w) (fun s => ∀ e ∈ (ingGet s w).gb, bit (entFlags e.2) 2 = false)
      fun s u => regF u (ingCtl w) 1 1 = 0 ∧ u.dram = s.dram ∧ u.ing = s.ing) ∧
  (∀ t w, DoesFrom (judgeAll w) (.directorySweep t w)
      (fun s => w < s.part.wings ∧ (ingGet s w).sweepAt + obj s 0x05004000 * 60000000000 ≤ s.clk.now ∧ LogRoom s w 1)
      fun s u => (ingGet u w).sweepAt = s.clk.now ∧ (ingGet u w).gb = (ingGet s w).gb ∧
        (ingGet u w).unrel = (ingGet s w).unrel ∧
        (storeState s w = 4 → ∀ i ∈ homedIndices s w,
          tabGet [] (ingGet u w).swept i = slice (entryOf s i) 0 64 ++ slice (entryOf s i) 160 24) ∧
        Logged u w 0x0509 (w % 65536) (w % two64) ((homedIndices s w).length % two64))

/-- From R131, R133, R136 to R139, R142, R144 to R147, R150, R151: the next descriptor of the carried-frame ring is refused in
its status byte or its payload queued; the frame at the head of the queue is admitted, its records reserved and its look-up
begun, or waits for staging or a body slot; a batch closes 40,000 FCLK after its first frame; fills and signature units serve the
pipeline in order; a decision commits its counter 600 FCLK before its outcome; an outcome is counted, its record staged and its
frame gone; operations that waited for the frame apply; a destination's confirmation is noted and completed records are released
in order. The model's own choices in it: log entries 64, 87, 248. -/
def Obligations.CheckinPipeline : Prop :=
  (∀ t w o a b, Does (.carriedFrame t w o)
      (fun s => regF s (ingXqPtr w) 31 0 ≠ regF s (ingXqPtr w) 63 32 ∧ (ingGet s w).xqAt ≠ s.clk.now + 1 ∧
        a = regF s (ingXqCfg w) 63 12 * 4096 + regF s (ingXqPtr w) 63 32 % 2 ^ ringLog2 (regF s (ingXqCfg w) 4 0) 4 16 4 * 32 ∧
        b = dramRead s a 32 ∧ (carriedBad s w b = true ∨ provisioned s (leAt b 12 4) = false))
      fun s u => dramRead u (a + 11) 1 = [if carriedBad s w b = true then 2 else 3] ∧ (ingGet u w).queue = (ingGet s w).queue ∧
        (ingGet u w).xqAt = s.clk.now + 1 ∧ placesUsed u w = placesUsed s w ∧
        regF u (ingXqPtr w) 63 32 = (regF s (ingXqPtr w) 63 32 + 1) % 4294967296) ∧
  (∀ t w o a b, Does (.carriedFrame t w o)
      (fun s => regF s (ingXqPtr w) 31 0 ≠ regF s (ingXqPtr w) 63 32 ∧ (ingGet s w).xqAt ≠ s.clk.now + 1 ∧
        a = regF s (ingXqCfg w) 63 12 * 4096 + regF s (ingXqPtr w) 63 32 % 2 ^ ringLog2 (regF s (ingXqCfg w) 4 0) 4 16 4 * 32 ∧
        b = dramRead s a 32 ∧ carriedBad s w b = false ∧ provisioned s (leAt b 12 4) = true ∧ placeFree s w = false ∧
        regF s (logRingCfg w) 5 5 = 0)
      fun s u => dramRead u (a + 11) 1 = [1] ∧ (ingGet u w).queue = (ingGet s w).queue ∧ regF u (ingStat w) 2 2 = 1 ∧
        cntGet u w (tallyIng 26) = (cntGet s w (tallyIng 26) + 1) % two64 ∧ placesUsed u w = placesUsed s w ∧
        regF u (ingXqPtr w) 63 32 = (regF s (ingXqPtr w) 63 32 + 1) % 4294967296) ∧
  (∀ t w o a b, Does (.carriedFrame t w o)
      (fun s => regF s (ingXqPtr w) 31 0 ≠ regF s (ingXqPtr w) 63 32 ∧ (ingGet s w).xqAt ≠ s.clk.now + 1 ∧
        a = regF s (ingXqCfg w) 63 12 * 4096 + regF s (ingXqPtr w) 63 32 % 2 ^ ringLog2 (regF s (ingXqCfg w) 4 0) 4 16 4 * 32 ∧
        b = dramRead s a 32 ∧ carriedBad s w b = false ∧ provisioned s (leAt b 12 4) = true ∧ placeFree s w = true)
      fun s u => dramRead u (a + 11) 1 = [0] ∧ placesUsed u w = placesUsed s w + 1 ∧
        regF u (ingXqPtr w) 63 32 = (regF s (ingXqPtr w) 63 32 + 1) % 4294967296 ∧
        (∃ f ∈ (ingGet u w).queue, { f with mode := none, batch := none } = carriedFrame s w a b o) ∧
        (carriedFrame s w a b o).pay = dramRead s (leAt b 0 8) (leAt b 8 2)) ∧
  (∀ t w x f rest, Does (.admission t w)
      (fun s => x = ingNow s w ∧ x.queue = f :: rest ∧ noNewOps s = false ∧ admitDue s x f = true ∧ fillQueue s x < 512 ∧
        x.unrel.length + (reserved x).1 < 1048576 ∧
        (f.apdu.dstPort = obj s 0x05002000 ∨ (x.unrel.filter (·.body.isSome)).length + (reserved x).2 < 65536))
      fun s u => (ingGet u w).queue = rest ∧ (ingGet u w).lastA = some s.clk.now ∧ (ingGet u w).pipe = x.pipe ++
          [admitFrame s x f (!provisioned s f.dir || cachedOrFilling s w f.dir)] ∧
        (provisioned s f.dir = true →
          cntGet u w (tallyIng (if cachedOrFilling s w f.dir = true then 27 else 28)) =
            (cntGet s w (tallyIng (if cachedOrFilling s w f.dir = true then 27 else 28)) + 1) % two64 ∧
          ∀ k, gbFind s w f.dir = some k → tabGet [] (ingGet u w).gb k = putLe (entryOf s f.dir) 48 8 (ptimeNs s))) ∧
  (∀ t w x f rest, f.waited % 2 = 0 → Does (.admission t w)
      (fun s => x = ingNow s w ∧ x.queue = f :: rest ∧ noNewOps s = false ∧ admitDue s x f = true ∧ fillQueue s x < 512 ∧
        1048576 ≤ x.unrel.length + (reserved x).1)
      fun s u => (ingGet u w).queue = { f with waited := f.waited + 1 } :: rest ∧ (ingGet u w).pipe = x.pipe ∧
        cntGet u w (tallyIng 32) = (cntGet s w (tallyIng 32) + 1) % two64 ∧ regF u (ingStat w) 0 0 = 1) ∧
  (∀ t w x f rest, bit f.waited 1 = false → Does (.admission t w)
      (fun s => x = ingNow s w ∧ x.queue = f :: rest ∧ noNewOps s = false ∧ admitDue s x f = true ∧ fillQueue s x < 512 ∧
        x.unrel.length + (reserved x).1 < 1048576 ∧ f.apdu.dstPort ≠ obj s 0x05002000 ∧
        65536 ≤ (x.unrel.filter (·.body.isSome)).length + (reserved x).2)
      fun s u => (ingGet u w).queue = { f with waited := f.waited + 2 } :: rest ∧ (ingGet u w).pipe = x.pipe ∧
        cntGet u w (tallyIng 32) = (cntGet s w (tallyIng 32) + 1) % two64 ∧ regF u (ingStat w) 1 1 = 1) ∧
  (∀ t w e n, Does (.batchClose t w) (fun s => (ingGet s w).open_ = some (e, n) ∧ e + 40000 ≤ s.clk.now)
      fun s u => (ingGet u w).open_ = none ∧
        (ingGet u w).lastB = some (max s.clk.now (((ingGet s w).lastB.map (· + 2000)).getD 0)) ∧
        (∀ f ∈ (ingGet u w).queue, f.mode = some 1 → f.batch.isSome = true) ∧
        (ingGet u w).queue.length = (ingGet s w).queue.length ∧ (ingGet u w).pipe = (ingGet s w).pipe) ∧
  (∀ t w ok f fs c k, f.filled = false → f.f = some c → Does (.fill t w ok)
      (fun s => (ingGet s w).pipe = f :: fs ∧ c ≤ s.clk.now ∧ f.dir % s.part.wings = w ∧ gbFind s w f.dir = none ∧
        tabGap 0 (ingGet s w).gb = k ∧ k < 131072 ∧ leAt (entryOf s f.dir) 0 4 = f.dir ∧ LogRoom s w 1)
      fun s u => (ingGet u w).pipe = ({ f with filled := true } :: fs).map
          (fun g => if g.dir = f.dir ∧ f.a ≤ g.a then { g with dirErr := !ok } else g) ∧
        (ok = true → tabGet [] (ingGet u w).gb k = putLe (entFlag 2 false (entryOf s f.dir)) 48 8
          (ptimeAt s ((((f :: fs).filter (fun g => g.dir == f.dir)).getLast?.map (·.a)).getD f.a))) ∧
        (ok = false → bit (entFlags (entryOf u f.dir)) 4 = true ∧ regF u (ingStat w) 4 4 = 1 ∧
          Logged u w 0x0503 (w % 65536) (f.dir % two64) (dirSlot s f.dir % two64))) ∧
  (∀ t w f fs k v, f.sigIn = some v → f.nat = none → f.verdict ≠ 2 → Does (.signatureVerifyStart t w)
      (fun s => (ingGet s w).pipe = f :: fs ∧ v ≤ s.clk.now ∧
        (ingGet s w).units.findIdx? (fun u => decide (u ≤ s.clk.now)) = some k)
      fun s u => (ingGet u w).pipe = { f with nat := some (s.clk.now + verifyTime f.entry + 900) } :: fs ∧
        (ingGet u w).units = (ingGet s w).units.set k (s.clk.now + verifyTime f.entry)) ∧
  (∀ t w f n c j k, f.judged = none → f.nat = some n → f.verdict = 1 → bit (entFlags f.entry) 0 = true →
      Does (.checkinOutcome t w)
      (fun s => (ingGet s w).pipe = [f] ∧ j = checkinJudge s f ∧ c = judgeAt (ingGet s w) f n j.2 ∧ c ≤ s.clk.now ∧
        s.clk.now < c + 600 ∧ f.dir % s.part.wings = w ∧ gbFind s w f.dir = some k ∧
        frameKey (entryOf s f.dir) (f.apdu.tag == 0xDC) = frameKey f.entry (f.apdu.tag == 0xDC))
      fun s u => (ingGet u w).pipe.map (·.judged) = [some j] ∧ (ingGet u w).pipe.map (·.nat) = [some (c + 600)] ∧
        tabGet [] (ingGet u w).gb k = (if j.2 = true then
            entFlag 2 true (entFlag 3 false (putLe (entryOf s f.dir) (if f.apdu.tag = 0xDC then 28 else 24) 4 f.apdu.ic))
          else tabGet [] (ingGet s w).gb k) ∧ u.cnt = s.cnt ∧ u.dram = s.dram) ∧
  (∀ t w f o c, f.verdict ≠ 2 → bit (entFlags f.entry) 0 = true → f.judged = some (o, c) → o < 35 →
      DoesFrom (judgeAll w) (.checkinOutcome t w)
      (fun s => (ingGet s w).pipe.find? (outcomeDue s) = some f ∧ (ingGet s w).ops = [])
      fun s u => (ingGet u w).pipe = (ingGet s w).pipe.erase f ∧ placesUsed u w = placesUsed s w - 1 ∧
        cntGet u w (tallyIng o) = (cntGet s w (tallyIng o) + 1) % two64 ∧
        (o ≠ 0 → o ≠ 3 → (ingGet u w).unrel = (ingGet s w).unrel ∧ (ingGet u w).gb = (ingGet s w).gb) ∧
        (o = 1 → bit (entFlags (entryOf s f.dir)) 3 = true → leAt (entryOf s f.dir) 32 4 = f.apdu.ic →
          u.mac.replies = s.mac.replies ++ [(ownerOf s (leAt (entryOf s f.dir) 8 8), f.dir)])) ∧
  (∀ t w f o c k r, f.verdict ≠ 2 → bit (entFlags f.entry) 0 = true → f.judged = some (o, c) → o = 0 ∨ o = 3 → f.body = false →
      DoesFrom (judgeAll w) (.checkinOutcome t w)
      (fun s => (ingGet s w).pipe.find? (outcomeDue s) = some f ∧ (ingGet s w).ops = [] ∧ f.dir % s.part.wings = w ∧
        gbFind s w f.dir = some k ∧ (entryOf s f.dir).length = 256 ∧
        r = stagedRecord s f ((ingGet s w).seq + 1) (kindOf f o) (recFlags s f (kindOf f o) (decide (kindOf f o = 1) &&
          notBeforeW 64 (leAt (entryOf s f.dir) 56 8) (recEnd s f))) (required (kindOf f o) (entFlags (entryOf s f.dir))) 0 0)
      fun s u => dramRead u (stgBase s w + ((ingGet s w).seq + 1) % 1048576 * 128) r.length = r ∧
        (ingGet u w).seq = (ingGet s w).seq + 1 ∧
        (ingGet u w).unrel = (ingGet s w).unrel ++ [{ seq := (ingGet s w).seq + 1, at_ := s.clk.now
                                                      req := required (kindOf f o) (entFlags (entryOf s f.dir)), conf := 0
                                                      body := none }] ∧
        leAt (tabGet [] (ingGet u w).gb k) 176 8 = ((ingGet s w).seq + 1) % two64) ∧
  (∀ t w f, f.verdict = 2 → DoesFrom (judgeAll w) (.checkinOutcome t w)
      (fun s => (ingGet s w).pipe.find? (outcomeDue s) = some f ∧ (ingGet s w).ops = [])
      fun s u => (ingGet u w).pipe = (ingGet s w).pipe.erase f ∧ u.cnt = s.cnt ∧ u.dram = s.dram) ∧
  (∀ t w f, f.verdict ≠ 2 → bit (entFlags f.entry) 0 = false → DoesFrom (judgeAll w) (.checkinOutcome t w)
      (fun s => (ingGet s w).pipe.find? (outcomeDue s) = some f ∧ (ingGet s w).ops = [] ∧
        obj s 0x05006000 * 1000000000 ≥
          (ingGet s f.owner).tokens - obj s 0x05006000 * (s.clk.now - (ingGet s f.owner).tokAt) + 1000000000 ∧
        ringFull s (ingLobPtr f.owner) 256 = false)
      fun s u => (ingGet u w).pipe = (ingGet s w).pipe.erase f ∧ placesUsed u w = placesUsed s w - 1 ∧
        cntGet u f.owner (tallyIng 23) = (cntGet s f.owner (tallyIng 23) + 1) % two64 ∧
        (∀ n, n < 23 → cntGet u w (tallyIng n) = cntGet s w (tallyIng n)) ∧ (ingGet u w).unrel = (ingGet s w).unrel) ∧
  (∀ t w f via k, f.verdict = 2 → DoesFrom (judgeAll w) (.checkinOutcome t w)
      (fun s => (ingGet s w).pipe = [f] ∧ outcomeDue s f = true ∧
        (ingGet s w).ops = [{ via := via, op := 2, dir := f.dir }] ∧ f.dir % s.part.wings = w ∧
        provisioned s f.dir = true ∧ gbFind s w f.dir = some k)
      fun s u => Answered u via 0x05010100 stDONE ∧ (ingGet u w).ops = [] ∧ (ingGet u w).pipe = [] ∧
        tabGet [] (ingGet u w).gb k = entFlag 2 true (entFlag 4 true (entryOf s f.dir))) ∧
  (∀ t w v x, Does (.stagingConfirm t w v)
      (fun s => w < s.part.wings ∧ (ingGet s w).unrel.find? (fun y => y.seq % 2 ^ 60 == bits v.toNat 63 4) = some x)
      fun s u => dramRead u (stgBase s w + x.seq % 1048576 * 128 + 15) 1 = [BitVec.ofNat 8 (x.conf ||| bits v.toNat 3 0)] ∧
        (ingGet u w).cons + (ingGet u w).unrel.length = (ingGet s w).cons + (ingGet s w).unrel.length ∧
        (ingGet s w).cons ≤ (ingGet u w).cons) ∧
  (∀ t w v, Does (.stagingConfirm t w v)
      (fun s => w < s.part.wings ∧ (ingGet s w).unrel.find? (fun y => y.seq % 2 ^ 60 == bits v.toNat 63 4) = none)
      fun s u => regF u (ingStat w) 5 5 = 1 ∧ u.ing = s.ing ∧ u.dram = s.dram)

/-! ### Chapter 6: the strongroom -/

/-- From R161, R163: a good frame advances its end's counter; a bad one is counted, reported and takes the link down; an idle
end sends under its next counter; a link silent for 512 FCLK is down, with its event, and every window access in flight on it
ends in a bus error, every doorbell not yet taken is lost; a training that completes has a fresh key and fresh counters, and the
link up from the next multiple of 64; carrying passes at its multiple of 64. The model's own choices in it: log entries 97, 98,
99. -/
def Obligations.StrongroomLinks : Prop :=
  (∀ t k c, k < 2 → Does (.linkFrameReceive t k true c true) (fun s => srUp s k = true ∧ (srLink s k).rxS < c)
      fun s u => srLink u k = { srLink s k with rxS := c, goodS := s.clk.now } ∧ u.sr.carryAt = s.sr.carryAt ∧ u.cnt = s.cnt) ∧
  (∀ t k c, k < 2 → Does (.linkFrameReceive t k false c true) (fun s => srUp s k = true ∧ (srLink s k).rxG < c)
      fun s u => srLink u k = { srLink s k with rxG := c, goodG := s.clk.now } ∧ u.sr.carryAt = s.sr.carryAt ∧ u.cnt = s.cnt) ∧
  (∀ t k b c ok, k < 2 → Does (.linkFrameReceive t k b c ok)
      (fun s => srUp s k = true ∧ (ok = false ∨ c ≤ (if b then (srLink s k).rxS else (srLink s k).rxG)) ∧ LogRoom s k 2)
      fun s u => (srLink u k).upAt = none ∧ (srLink u k).training = true ∧ obj u 0x06007000 = obj s 0x06007000 + 1 ∧
        u.sr.carryAt = some (after64 s.clk.now) ∧
        (b = false → cntGet u k (tallySrg 5) = (cntGet s k (tallySrg 5) + 1) % two64 ∧ Logged u k 0x0603 k k (c % two64)) ∧
        (b = true → ((mramLog u 8).head?).map (fun r => (r.code, r.src, r.p0, r.p1)) = some (0x0603, k, k, c % two64))) ∧
  (∀ t k b, k < 2 → Does (.linkIdle t k b)
      (fun s => srUp s k = true ∧ (if b then (srLink s k).sentS else (srLink s k).sentG) + 64 ≤ s.clk.now)
      fun s u => srLink u k = (if b then { srLink s k with txS := (srLink s k).txS + 1, sentS := s.clk.now }
        else { srLink s k with txG := (srLink s k).txG + 1, sentG := s.clk.now })) ∧
  (∀ t k, k < 2 → Does (.strongroomLinkDown t k)
      (fun s => srUp s k = true ∧ min (srLink s k).goodS (srLink s k).goodG + 512 ≤ s.clk.now ∧ LogRoom s k 1)
      fun s u => (srLink u k).upAt = none ∧ (srLink u k).training = true ∧ (srLink u k).start = s.clk.now ∧
        u.sr.carryAt = some (after64 s.clk.now) ∧ cntGet u k (tallySrg 6) = (cntGet s k (tallySrg 6) + 1) % two64 ∧
        regF u (srgStat k) 5 5 = 1 ∧ Logged u k 0x0601 k k ((if s.sr.carrying = some k then inFlightSr s else 0) % two64) ∧
        (s.sr.carrying = some k → (∀ d ∈ u.sr.doors, d.at_ ≤ s.clk.now) ∧
          ∀ a ∈ u.fab.done, inWindow a.addr = true → s.clk.now < a.done → a.value = none)) ∧
  (∀ t k a b, k < 2 → Does (.strongroomLinkTrained t k a b) (fun s => (srLink s k).training = true)
      fun s u => (srLink u k).upAt = some (after64 s.clk.now) ∧ (srLink u k).training = false ∧ (srLink u k).txS = 1 ∧
        (srLink u k).txG = 1 ∧ (srLink u k).rxS = 0 ∧ (srLink u k).rxG = 0 ∧ (srLink u k).key = Config.linkKey a b ∧
        u.sr.carryAt = some (after64 s.clk.now + 64) ∧ u.sr.carrying = s.sr.carrying) ∧
  (∀ t k, k < 2 → Does (.strongroomTrainingRetry t k)
      (fun s => (srLink s k).training = true ∧ (srLink s k).start + 30000 ≤ s.clk.now)
      fun s u => srLink u k = { srLink s k with start := s.clk.now } ∧ u.sr.carrying = s.sr.carrying) ∧
  (∀ t c k, Does (.carryingChange t)
      (fun s => s.sr.carryAt = some c ∧ c ≤ s.clk.now ∧ wantCarry s = some k ∧ s.sr.carrying ≠ some k)
      fun s u => u.sr.carrying = some k ∧ u.sr.carryAt = none ∧
        cntGet u (gateOf k) (tallySrg 7) = (cntGet s (gateOf k) (tallySrg 7) + 1) % two64 ∧
        (∀ o, s.sr.carrying = some o → LogRoom s (gateOf k) 1 → Logged u (gateOf k) 0x0602 k k (o % two64))) ∧
  (∀ t c, Does (.carryingChange t)
      (fun s => s.sr.carryAt = some c ∧ c ≤ s.clk.now ∧ wantCarry s = none)
      fun _ u => u.sr.carrying = none ∧ u.sr.carryAt = none)

/-- From R160 to R164, R166, R167, R183, R184, R433: a write inside the requester's own slot is stored, a doorbell takes its
request, is answered BADREQ or STALE, or its stored reply is sent again; a read inside what may be read returns its word, or one
marked bad, whose event joins the journal where commits are taken; any other access is refused, counted and ends in a bus error,
as does every one while no link is up; a requester with no reply writes its words and its doorbell again; an appended record later than the newest is kept, every other refused; the oldest commit
completes at its time, its payload home, with its records; the Register Book is read and acknowledged in order. The model's own
choices in it: log entries 92, 95, 101, 220. -/
def Obligations.StrongroomGuardAndBook : Prop :=
  (∀ t rq off v g k, 0x2000000 ≤ off → off < 0x2010000 → off % 8 = 0 → k = (off - 0x2000000) / 2048 → k / 4 = rq →
    off % 2048 ≠ 0x7F8 → Does (.guardWrite t rq off v)
      (fun s => srReach s = some g ∧ (reqSlot s k).busy = false)
      fun s u => reqSlot u k = { reqSlot s k with words := putLe (padTo 2048 (reqSlot s k).words) (off % 2048) 8 v.toNat } ∧
        cntGet u (gateOf g) (tallySrg 1) = (cntGet s (gateOf g) (tallySrg 1) + 1) % two64 ∧ u.sr.doors = s.sr.doors ∧
        (srLink u g).txG = (srLink s g).txG + 1 ∧ (srLink s g).txG < (srLink u g).rxS ∧
        (u.fab.done.head?).map (fun a => (a.rq, a.write, a.done, a.value)) = some (rq, true, s.clk.now - 480, some v) ∧
        u.objs = s.objs ∧ u.dram = s.dram) ∧
  (∀ t rq off g k, 0x2000000 ≤ off → off < 0x2010000 → k = (off - 0x2000000) / 2048 → k / 4 = rq → off % 2048 = 0x7F8 →
    Does (.guardWrite t rq off 1)
      (fun s => srReach s = some g ∧ (reqSlot s k).busy = false ∧ headerOk s rq (padTo 2048 (reqSlot s k).words) = true ∧
        laterW 64 (leAt (padTo 2048 (reqSlot s k).words) 0 8) (reqSlot s k).served = true)
      fun s u => (reqSlot u k).busy = true ∧ (reqSlot u k).words = (reqSlot s k).words ∧
        u.sr.doors = doorInsert (sclkPeriod s) { slot := k, kind := leAt (padTo 2048 (reqSlot s k).words) 8 2, at_ := s.clk.now }
          s.sr.doors ∧
        cntGet u (gateOf g) (tallySrg 2) = (cntGet s (gateOf g) (tallySrg 2) + 1) % two64 ∧ u.dram = s.dram) ∧
  (∀ t rq off g k b r a, 0x2000000 ≤ off → off < 0x2010000 → k = (off - 0x2000000) / 2048 → k / 4 = rq → off % 2048 = 0x7F8 →
    k % 4 < 2 → Does (.guardWrite t rq off 1)
      (fun s => srReach s = some g ∧ (reqSlot s k).busy = false ∧ b = padTo 2048 (reqSlot s k).words ∧
        (headerOk s rq b = false ∨ laterW 64 (leAt b 0 8) (reqSlot s k).served = false) ∧
        r = (if headerOk s rq b = false then replyBytes (leAt b 0 8) 1 []
          else if leAt b 0 8 = (reqSlot s k).served ∧ (reqSlot s k).reply ≠ [] then (reqSlot s k).reply
          else replyBytes (leAt b 0 8) 2 []) ∧
        a = leAt (reqSlot s k).words 16 8 ∧ a % 64 = 0 ∧ dramIn s rq a r.length = true)
      fun s u => dramRead u a r.length = r ∧ (reqSlot u k).busy = false ∧ (reqSlot u k).served = (reqSlot s k).served ∧
        u.sr.doors = s.sr.doors) ∧
  (∀ t rq off v g, Does (.guardWrite t rq off v)
      (fun s => srReach s = some g ∧ (off < 0x2000000 ∨ 0x2010000 ≤ off ∨ off % 8 ≠ 0 ∨ (off - 0x2000000) / 2048 / 4 ≠ rq ∨
        (reqSlot s ((off - 0x2000000) / 2048)).busy = true))
      fun s u => obj u 0x06007001 = obj s 0x06007001 + 1 ∧ cntGet u rq 191 = (cntGet s rq 191 + 1) % two64 ∧
        (u.fab.done.head?).map (fun a => (a.rq, a.write, a.done, a.value)) = some (rq, true, guardReply s rq, none) ∧
        ((mramLog u 8).head?).map (fun r => (r.code, r.src, r.p0, r.p1)) = some (0x0604, rq % 65536, rq % two64, off % two64) ∧
        u.sr.slots = s.sr.slots ∧ u.dram = s.dram) ∧
  (∀ t rq off v, Does (.guardWrite t rq off v) (fun s => srReach s = none)
      fun s u => cntGet u rq 191 = (cntGet s rq 191 + 1) % two64 ∧ u.sr = s.sr ∧ u.objs = s.objs ∧ u.dram = s.dram ∧
        (u.fab.done.head?).map (fun a => (a.rq, a.write, a.done, a.value)) = some (rq, true, guardReply s rq, none)) ∧
  (∀ t rq off v g, mayRead off = true → Does (.guardRead t rq off true)
      (fun s => srReach s = some g ∧ windowWord (count (gateOf g) (tallySrg 0) (frameIn s)) off = some v)
      fun s u => u.fab.done.head? = some { rq := rq, addr := 0xFF0000000000 + off, write := false, done := guardReply s rq
                                           value := some (BitVec.ofNat 64 v), bad := false } ∧
        cntGet u (gateOf g) (tallySrg 0) = (cntGet s (gateOf g) (tallySrg 0) + 1) % two64 ∧ u.objs = s.objs ∧
        u.dram = s.dram ∧ u.sr.slots = s.sr.slots) ∧
  (∀ t rq off, mayRead off = true → off < 0x2000000 → Does (.guardRead t rq off false) (fun s => (srReach s).isSome = true)
      fun s u => (u.fab.done.head?).map (fun a => (a.rq, a.addr, a.write, a.done, a.value.isSome, a.bad)) =
          some (rq, 0xFF0000000000 + off, false, guardReply s rq, true, true) ∧
        u.sr.journal.length = s.sr.journal.length + b2n (!noPower s) ∧ u.dram = s.dram ∧ u.sr.slots = s.sr.slots) ∧
  (∀ t rq off ok, mayRead off = false → Does (.guardRead t rq off ok) (fun s => (srReach s).isSome = true)
      fun s u => obj u 0x06007001 = obj s 0x06007001 + 1 ∧ cntGet u rq 191 = (cntGet s rq 191 + 1) % two64 ∧
        (u.fab.done.head?).map (fun a => (a.rq, a.write, a.done, a.value)) = some (rq, false, guardReply s rq, none) ∧
        ((mramLog u 8).head?).map (fun r => (r.code, r.src, r.p0, r.p1)) = some (0x0604, rq % 65536, rq % two64, off % two64) ∧
        u.sr.slots = s.sr.slots ∧ u.dram = s.dram) ∧
  (∀ t rq off ok, Does (.guardRead t rq off ok) (fun s => srReach s = none)
      fun s u => cntGet u rq 191 = (cntGet s rq 191 + 1) % two64 ∧ u.sr = s.sr ∧ u.objs = s.objs ∧ u.dram = s.dram ∧
        (u.fab.done.head?).map (fun a => (a.rq, a.write, a.done, a.value)) = some (rq, false, guardReply s rq, none)) ∧
  (∀ t w k g b, w < 8 → k < 4 → Does (.requestResubmit t w k)
      (fun s => w < s.part.wings ∧ srReach s = some g ∧ b = padTo 2048 (reqSlot s (4 * w + k)).words ∧
        (reqSlot s (4 * w + k)).busy = false ∧ headerOk s w b = true ∧ laterW 64 (leAt b 0 8) (reqSlot s (4 * w + k)).served = true)
      fun s u => (reqSlot u (4 * w + k)).busy = true ∧ (reqSlot u (4 * w + k)).words = b ∧
        cntGet u (gateOf g) (tallySrg 1) = (cntGet s (gateOf g) (tallySrg 1) + ceilDiv (leAt b 10 2) 8 + 1) % two64 ∧
        cntGet u (gateOf g) (tallySrg 2) = (cntGet s (gateOf g) (tallySrg 2) + 1) % two64 ∧ u.dram = s.dram) ∧
  (∀ t w k, k < 4 → Does (.requestResubmit t w k) (fun s => w < s.part.wings ∧ srReach s = none)
      fun s u => cntGet u w 191 = (cntGet s w 191 + ceilDiv (leAt (padTo 2048 (reqSlot s (4 * w + k)).words) 10 2) 8 + 1) % two64 ∧
        u.sr = s.sr ∧ u.objs = s.objs ∧ u.dram = s.dram) ∧
  (∀ t w seq b g, b.length = 32 → Does (.logAppend t w seq b)
      (fun s => w < s.part.wings ∧ srReach s = some g ∧ mramLater s w (seq % 4294967296) = true)
      fun s u => mramLog u w = ({ recOf b s.clk.now with seq := seq % 4294967296 } :: mramLog s w).take
          (if w = 8 then 32768 else 12288) ∧ ∀ x, x ≠ w → mramLog u x = mramLog s x) ∧
  (∀ t w seq b g, Does (.logAppend t w seq b)
      (fun s => w < s.part.wings ∧ w ≠ 8 ∧ srReach s = some g ∧
        (b.length ≠ 32 ∨ mramLater s w (seq % 4294967296) = false))
      fun s u => mramLog u w = mramLog s w ∧ obj u 0x06007001 = obj s 0x06007001 + 1 ∧
        cntGet u (gateOf g) (tallySrg 4) = (cntGet s (gateOf g) (tallySrg 4) + 1) % two64) ∧
  (∀ t c cs, c.records = [] → Does (.commit t) (fun s => s.sr.journal = c :: cs ∧ commitEnd s c ≤ s.clk.now)
      fun s u => u.sr.journal = cs ∧ u.sr.lastEnd = commitEnd s c ∧ obj u 0x06006000 = obj s 0x06006000 + 1 ∧
        u.sr.home = { mramPatch c.payload s.sr.home with objs := u.sr.home.objs } ∧ u.sr.book = s.sr.book) ∧
  (∀ t c cs r, c.records = [r] → Does (.commit t)
      (fun s => s.sr.journal = c :: cs ∧ commitEnd s c ≤ s.clk.now ∧ s.sr.gap = none)
      fun s u => u.sr.journal = cs ∧ obj u 0x06006000 = obj s 0x06006000 + 1 ∧ obj u 0x06005100 = obj s 0x06005100 + 1 ∧
        (u.sr.book.head?).map (fun x => (x.seq, x.ltime, x.code, x.src, x.p0, x.p1, x.p2)) =
          some (obj s 0x06005100 + 1, c.tick, r.code, r.src, r.p0 % two64, r.p1 % two64, r.p2 % two64) ∧
        u.sr.book.tail = s.sr.book.take 32767) ∧
  (∀ t via n, Does (.readTheRegisterBook t via n) (fun s => reaches s via 0x06005000 = true)
      fun s u => AnsweredBody u via 0x06005000 stDONE
          (recordsBody (((s.sr.book.filter (fun r => notBeforeW 64 r.seq n)).reverse.take 32).map bookBytes)) ∧
        u.sr.book = s.sr.book ∧ u.sr.acked = s.sr.acked ∧ u.sr.journal = s.sr.journal) ∧
  (∀ t via n, Does (.acknowledgeTheRegisterBook t via n)
      (fun s => reaches s via 0x06005200 = true ∧ notBeforeW 64 n s.sr.acked = true ∧
        notBeforeW 64 (obj s 0x06005100) n = true ∧ noPower s = false)
      fun s u => Answered u via 0x06005200 stDONE ∧ u.sr.acked = n ∧ u.sr.book = s.sr.book ∧
        u.sr.journal.length = s.sr.journal.length + 1) ∧
  (∀ t via n, Does (.acknowledgeTheRegisterBook t via n)
      (fun s => reaches s via 0x06005200 = true ∧ ((notBeforeW 64 n s.sr.acked && notBeforeW 64 (obj s 0x06005100) n) = false ∨
        noPower s = true))
      fun s u => Answered u via 0x06005200
          (if (notBeforeW 64 n s.sr.acked && notBeforeW 64 (obj s 0x06005100) n) = false then stRANGE else stNOPOWER) ∧
        u.sr.acked = s.sr.acked ∧ u.sr.book = s.sr.book ∧ u.sr.journal = s.sr.journal)

/-- From R165, R168, R170 to R178, R182: the strongroom's own reset; VSR's loss, and its return after 10 ms; the converters'
restart discards 640 samples and begins each feeder's cycle; a sample is taken at c0 + 31,250 n alone; a cycle's end at a
crossing of its reference publishes its effective values, active powers and energy and begins the next; a tamper input that has
held its level for its debounce time moves its object and count; a LEGAL value is changed under an authorisation that verifies,
spending its counter. The model's own choices in it: log entries 93, 94, 103, 104, 105, 107, 109, 128. -/
def Obligations.StrongroomMeasures : Prop :=
  (∀ t wd ok, Does (.strongroomReset t wd ok) (fun _ => True)
      fun s u => u.sr.links = [] ∧ u.sr.carrying = none ∧ u.sr.carryAt = none ∧ u.sr.slots = [] ∧ u.sr.doors = [] ∧
        u.sr.metro = true ∧ u.sr.discard = 640 ∧ u.sr.c0 = s.clk.now ∧ u.sr.feeds = [] ∧ u.mat.epoch = s.mat.epoch + 1 ∧
        u.mat.state = 0) ∧
  (∀ t v b, v < 2900 → Does (.switchToVbak t v b) (fun s => s.sr.onVbak = false)
      fun s u => u.sr.onVbak = true ∧ u.sr.vsr = v ∧ u.sr.vbak = b ∧ u.sr.vbakAt = s.clk.now ∧ u.sr.lowAt = s.clk.now ∧
        u.sr.metro = false ∧ u.mat.state = 0 ∧ u.mat.refAcc = 0 ∧ u.mat.chans = [] ∧ u.bill.failDue = true ∧
        (∀ e ∈ u.armed, e.2.state = 1 → e.2.count = 0) ∧ obj u 0x06000400 = obj s 0x06000400 + 1) ∧
  (∀ t v b, Does (.switchToVbak t v b) (fun s => s.sr.onVbak = true ∨ 2900 ≤ v)
      fun s u => u = { s with sr := { s.sr with vsr := v, vbak := b, lowAt := if v < 3000 then s.clk.now else s.sr.lowAt } }) ∧
  (∀ t v b, 3000 ≤ v → Does (.returnToVsr t v b) (fun s => s.sr.onVbak = true ∧ s.sr.lowAt + 10000000 ≤ s.clk.now)
      fun s u => u.sr.onVbak = false ∧ u.sr.vsr = v ∧ u.sr.vbak = b ∧ u.sr.metro = true ∧ u.sr.discard = 640 ∧
        u.sr.c0 = s.clk.now ∧ obj u 0x06000500 = obj s 0x06000500 + (s.clk.now - s.sr.vbakAt) / 1000000000 ∧
        u.mat.epoch = s.mat.epoch + 1) ∧
  (∀ t v b, Does (.returnToVsr t v b)
      (fun s => s.sr.onVbak = false ∨ v < 3000 ∨ s.clk.now < s.sr.lowAt + 10000000)
      fun s u => u = { s with sr := { s.sr with vsr := v, vbak := b, lowAt := if v < 3000 then s.clk.now else s.sr.lowAt } }) ∧
  (∀ t m f, f < 2 → bit m f = true → Does (.metrologyRestart t m)
      (fun s => s.sr.metro = true ∧ s.sr.discard = 0 ∧ (feedGet s f).running = false ∧
        (refChan s f = none ∨ refCrossed s f (s.sr.c0 + 640 * 31250) = true))
      fun s u => feedGet u f = { feedDefault with running := true, noref := (refChan s f).isNone, start := ltimeNs s
                                                  begun := s.clk.now, cal := calNow s f } ∧
        obj u (0x06002800 + f) = 0) ∧
  (∀ t c, Does (.metrologySample t c)
      (fun s => s.sr.metro = true ∧ s.sr.c0 ≤ s.clk.now ∧ (s.clk.now - s.sr.c0) % 31250 = 0 ∧
        s.sr.sample ≤ (s.clk.now - s.sr.c0) / 31250 ∧ 0 < s.sr.discard)
      fun s u => u = { s with sr := { s.sr with
        sample := (s.clk.now - s.sr.c0) / 31250 + 1, discard := s.sr.discard - 1 } }) ∧
  (∀ t c, Does (.metrologySample t c)
      (fun s => s.sr.metro = true ∧ s.sr.c0 ≤ s.clk.now ∧ (s.clk.now - s.sr.c0) % 31250 = 0 ∧
        s.sr.sample ≤ (s.clk.now - s.sr.c0) / 31250 ∧ s.sr.discard = 0 ∧ s.cap = none)
      fun s u => feedGet u 0 = feedSample ((c.map code24).take 8) (feedGet s 0) ∧
        feedGet u 1 = feedSample (((c.map code24).drop 8).take 8) (feedGet s 1) ∧
        u.sr.sample = (s.clk.now - s.sr.c0) / 31250 + 1 ∧ u.objs = s.objs ∧ u.dram = s.dram) ∧
  (∀ t c, Does (.metrologySample t c)
      (fun s => s.sr.metro = false ∨ s.clk.now < s.sr.c0 ∨ (s.clk.now - s.sr.c0) % 31250 ≠ 0 ∨
        (s.clk.now - s.sr.c0) / 31250 < s.sr.sample)
      fun s u => u = s) ∧
  (∀ t f x, f < 2 → Does (.metrologyCycleEnd t f)
      (fun s => s.sr.metro = true ∧ x = feedGet s f ∧ x.running = true ∧ x.samples ≠ [] ∧
        (if (refChan s f).isSome then refCrossed s f x.begun = true else windowLen s x.round ≤ x.samples.length))
      fun s u => feedGet u f = { feedDefault with running := true, noref := (refChan s f).isNone, round := (x.round + 1) % 3
                                                  start := ltimeNs s, begun := s.clk.now, cal := calNow s f } ∧
        (∀ j, j < 8 → obj u (0x06002000 + 8 * f + j) =
          rmsOf (dotInts (cycleValues x j) (cycleValues x j)).toNat x.samples.length) ∧
        ∀ p, p < 3 →
          obj u (0x06002100 + (3 * f + p)) =
            unsgn 64 (powerOf (dotInts (cycleValues x p) (cycleValues x (4 + p))) x.samples.length) ∧
          tabGet 0 u.sr.fine ((3 * f + p) * 6 + if 0 ≤ dotInts (cycleValues x p) (cycleValues x (4 + p)) then 0 else 1) =
            tabGet 0 s.sr.fine ((3 * f + p) * 6 + if 0 ≤ dotInts (cycleValues x p) (cycleValues x (4 + p)) then 0 else 1) +
              energyOf (dotInts (cycleValues x p) (cycleValues x (4 + p)))) ∧
  (∀ t f, Does (.metrologyCycleEnd t f) (fun s => (refChan s f).isSome = true ∧ refCrossed s f (feedGet s f).begun = false)
      fun s u => u = s) ∧
  (∀ t k l c, k < 4 → Does (.tamperInputChange t k l c)
      (fun s => bit (obj s (0x06003700 + k)) 0 = true ∧
        c + bits (obj s (0x06003700 + k)) 15 8 * 1000000 ≤ s.clk.now ∧
        (l == bit (obj s (0x06003700 + k)) 1) ≠ (obj s (0x06004000 + k) == 1))
      fun s u => obj u (0x06004000 + k) = b2n (l == bit (obj s (0x06003700 + k)) 1) ∧
        obj u (0x06004100 + k) = obj s (0x06004100 + k) + b2n (l == bit (obj s (0x06003700 + k)) 1) ∧
        (noPower s = false → u.sr.journal.length = s.sr.journal.length + 1)) ∧
  (∀ t k l c, k < 4 → Does (.tamperInputChange t k l c)
      (fun s => bit (obj s (0x06003700 + k)) 0 = false ∨ s.clk.now < c + bits (obj s (0x06003700 + k)) 15 8 * 1000000)
      fun s u => u = { s with sr := { s.sr with pins := tabPut (false, 0) k (l, c) s.sr.pins } }) ∧
  (∀ t via n v a d, d.acc ≠ .ro → d.acc ≠ .exec → d.lev = .legal → d.ty ≠ .octets → n ≠ 0x07004000 → n ≠ 0x08002000 →
    Does (.legalSet t via n v a)
      (fun s => reaches s via n = true ∧ keeperTakes s via (n / 16777216 * 256 + 1) = true ∧
        (objLookup s.part.wings n).2 = some d ∧ widthOk d v = true ∧ objInRange d v = true ∧
        legalRange n v s = true ∧ noPower s = false ∧ legalReason n a s = 0)
      fun s u => Answered u via n stDONE ∧ obj u n = beNat v ∧ u.sr.authCtr = a.counter ∧ u.octs = s.octs ∧
        u.sr.journal.length = s.sr.journal.length + if n = 0x07003100 then 2 else 1) ∧
  (∀ t via n v a d, d.acc ≠ .ro → d.acc ≠ .exec → d.lev = .legal → n ≠ 0x07004000 → n ≠ 0x08002000 →
    Does (.legalSet t via n v a)
      (fun s => reaches s via n = true ∧ keeperTakes s via (n / 16777216 * 256 + 1) = true ∧
        (objLookup s.part.wings n).2 = some d ∧ widthOk d v = true ∧ objInRange d v = true ∧
        legalRange n v s = true ∧ (noPower s = true ∨ legalReason n a s ≠ 0))
      fun s u => Answered u via n (if noPower s = true then stNOPOWER else stAUTH) ∧ u.objs = s.objs ∧ u.octs = s.octs ∧
        u.sr.authCtr = s.sr.authCtr) ∧
  (∀ t via v a d, d.acc = .exec → d.lev = .legal → Does (.legalExec t via 0x07006200 v a)
      (fun s => reaches s via 0x07006200 = true ∧ keeperTakes s via 0x0702 = true ∧
        (objLookup s.part.wings 0x07006200).2 = some d ∧ widthOk d v = true ∧
        noPower s = false ∧ legalReason 0x07006200 a s = 0)
      fun s u => Answered u via 0x07006200 stDONE ∧ u.bill.endNow = some (ltimeNs s) ∧ u.sr.authCtr = a.counter)

/-! ### Chapter 7: billing -/

/-- From R3, R190 to R195, R206 to R208, R211 to R213, R215, R251, R470: a new tick posts the ended cycles' energy, a register
holding at its largest value; LTIME is compared each whole second, and slewed, counted toward a step, left to run free, or held;
it is set and stepped; intervals, subperiods and billing periods end at their boundaries, each after the steps of the tick before
it; a billing period can be ended by request; the repeat generation and the minute record follow the ticks. The model's own
choices in it: log entries 111 to 114, 255, 256. -/
def Obligations.BillingFollowsTheTick : Prop :=
  (∀ t f q, f < 2 → q < 6 → Does (.keeperTick t)
      (fun s => ltimeNs s / 1000000 ≠ s.sr.tick ∧ 1 ≤ rateNow s ∧ rateNow s ≤ 8)
      fun s u => u.sr.tick = ltimeNs s / 1000000 ∧
        (∀ r, r = 0 ∨ r = rateNow s → obj u (regNum f q r) =
          min (obj s (regNum f q r) + (tabGet 0 s.sr.fine (3 * f * 6 + q) / 4294967296 +
            tabGet 0 s.sr.fine ((3 * f + 1) * 6 + q) / 4294967296 + tabGet 0 s.sr.fine ((3 * f + 2) * 6 + q) / 4294967296)) maxU64) ∧
        ∀ p, p < 3 → tabGet 0 u.sr.fine ((3 * f + p) * 6 + q) = tabGet 0 s.sr.fine ((3 * f + p) * 6 + q) % 4294967296) ∧
  (∀ t, Does (.disciplineComparison t)
      (fun s => ltimeNs s / 1000000000 ≠ s.bill.second ∧ ltimeDisciplined s = true ∧ s.bill.withheld = false ∧
        (clockOffset s).natAbs ≤ obj s 0x07007300 * 1000000000)
      fun s u => u.bill.second = ltimeNs s / 1000000000 ∧ obj u 0x07007200 = unsgn 64 (clockOffset s) ∧
        obj u 0x07007100 = (if (clockOffset s).natAbs ≤ 1000 then 2 else 1) ∧ u.bill.confirms = 0 ∧ u.bill.step = none ∧
        u.clk.slew = max (-(obj s 0x07007400 * nsFine / 1000000)) (min (obj s 0x07007400 * nsFine / 1000000)
          (Int.tdiv (clockOffset s * nsFine) 1000000000000)) ∧
        (ltimeNs s / 1000000000 = s.bill.second + 1 →
          u.clk.learn = s.clk.learn + s.clk.slew ∧ u.clk.learnN = s.clk.learnN + 1) ∧ u.clk.ltime = s.clk.ltime) ∧
  (∀ t f, Does (.disciplineComparison t)
      (fun s => ltimeNs s / 1000000000 = s.bill.second + 1 ∧ ltimeDisciplined s = true ∧ s.bill.withheld = false ∧
        obj s 0x07007300 * 1000000000 < (clockOffset s).natAbs ∧ s.bill.first = some f ∧
        f - 10000000 ≤ clockOffset s ∧ clockOffset s ≤ f + 10000000)
      fun s u => u.bill.first = some f ∧ u.bill.confirms = s.bill.confirms + 1 ∧ u.clk.ltime = s.clk.ltime ∧
        (s.bill.confirms + 1 < obj s 0x07007500 → obj u 0x07007100 = 3 ∧ u.clk.slew = 0 ∧ u.bill.step = s.bill.step) ∧
        (obj s 0x07007500 ≤ s.bill.confirms + 1 → (clockOffset s).natAbs ≤ obj s 0x07007600 * 1000000000 →
          obj u 0x07007100 = 3 ∧ u.bill.step = some (nearestMs (clockOffset s), (ltimeNs s / 1000000000 + 1) * 1000000000)) ∧
        (obj s 0x07007500 ≤ s.bill.confirms + 1 → obj s 0x07007600 * 1000000000 < (clockOffset s).natAbs →
          obj u 0x07007100 = 4 ∧ u.bill.withheld = true ∧ u.bill.step = s.bill.step ∧ u.clk.slew = learned s)) ∧
  (∀ t, Does (.disciplineComparison t)
      (fun s => ltimeNs s / 1000000000 ≠ s.bill.second ∧ ltimeDisciplined s = true ∧ s.bill.withheld = true)
      fun s u => obj u 0x07007200 = unsgn 64 (clockOffset s) ∧ obj u 0x07007100 = 4 ∧ u.bill.withheld = true ∧
        u.bill.step = s.bill.step ∧ u.clk.slew = learned s ∧ u.clk.ltime = s.clk.ltime) ∧
  (∀ t, Does (.disciplineComparison t)
      (fun s => ltimeNs s / 1000000000 ≠ s.bill.second ∧ ltimeDisciplined s = false ∧ s.bill.slewLeft = none)
      fun s u => u.bill.second = ltimeNs s / 1000000000 ∧ obj u 0x07007100 = (if s.bill.withheld then 4 else 0) ∧
        u.clk.slew = learned s ∧ u.bill.confirms = 0) ∧
  (∀ t r, Does (.disciplineComparison t)
      (fun s => ltimeNs s / 1000000000 ≠ s.bill.second ∧ ltimeDisciplined s = false ∧ s.bill.slewLeft = some r)
      fun s u => u.bill.slewLeft = (if (slewLess r s).natAbs ≤ 1000 then none else some (slewLess r s)) ∧
        (1000 < (slewLess r s).natAbs → obj u 0x07007100 = 1) ∧ u.clk.ltime = s.clk.ltime) ∧
  (∀ t e, DoesFrom tickPost (.clockStep t) (fun s => stepDue s = some e)
      fun s u => u.clk.ltime = s.clk.ltime + e * nsFine ∧ obj u 0x07007800 = obj s 0x07007800 + 1 ∧
        u.clk.slew = (if ltimeDisciplined s then 0 else learned s) ∧ u.bill.step = none ∧ u.bill.setStep = none ∧
        obj u 0x07007100 = 0 ∧ obj u 0x07008100 = obj s 0x07008100 + 1 ∧ u.bill.iStart = ((tickNow s : Int) + e).toNat ∧
        u.bill.sStart = ((tickNow s : Int) + e).toNat ∧
        (e < 0 → obj u 0x07007A00 = min (obj s 0x07007A00 + 1) 255 ∧
          obj u 0x07007900 = if later64 (tickNow s) (obj s 0x07007900) then tickNow s else obj s 0x07007900) ∧
        (noPower s = false → u.sr.journal.length = s.sr.journal.length + 1)) ∧
  (∀ t via x a e, Does (.setLtime t via x a)
      (fun s => reaches s via 0x07007700 = true ∧ keeperTakes s via 0x0702 = true ∧ noPower s = false ∧
        legalReason 0x07007700 a s = 0 ∧ e = sgn 64 (x + 2 ^ 64 - ltimeNs s) ∧ obj s 0x07007300 * 1000000000 < e.natAbs)
      fun s u => Answered u via 0x07007700 stDONE ∧ u.sr.authCtr = a.counter ∧ u.bill.slewLeft = none ∧ u.bill.step = none ∧
        u.bill.setStep = some (e, tickNow s + 1000000) ∧ u.bill.withheld = false ∧ u.clk = s.clk) ∧
  (∀ t via x a e, Does (.setLtime t via x a)
      (fun s => reaches s via 0x07007700 = true ∧ keeperTakes s via 0x0702 = true ∧ noPower s = false ∧
        legalReason 0x07007700 a s = 0 ∧ e = sgn 64 (x + 2 ^ 64 - ltimeNs s) ∧ e.natAbs ≤ obj s 0x07007300 * 1000000000)
      fun s u => Answered u via 0x07007700 stDONE ∧ u.sr.authCtr = a.counter ∧ u.bill.slewLeft = some e ∧
        u.bill.step = none ∧ u.bill.setStep = none ∧ u.bill.withheld = false ∧ obj u 0x07007100 = 1 ∧ u.clk.ltime = s.clk.ltime) ∧
  (∀ t b, DoesFrom (fun s => tickDemand (tickStep (tickPost s))) (.profileIntervalEnd t)
      (fun s => b = boundaryAt s 900 (tickNow s) ∧ gridDue s s.bill.iStart b s.bill.iGrid = true)
      fun s u => u.bill.iStart = b ∧ obj u 0x07008100 = obj s 0x07008100 + 1 ∧
        (u.bill.recs.head?).map (fun r => leAt r 0 8) = some (b % two64) ∧
        u.bill.recs.tail = s.bill.recs.take 57343 ∧ u.bill.iE = [] ∧ u.bill.iG = 0 ∧ u.bill.subs = s.bill.subs) ∧
  (∀ t b, DoesFrom (fun s => tickStep (tickPost s)) (.demandSubperiodEnd t)
      (fun s => b = boundaryAt s ((demandCfg s).1 * 60 / (demandCfg s).2) (tickNow s) ∧
        gridDue s s.bill.sStart b s.bill.sGrid = true)
      fun s u => u.bill.sStart = b ∧ (u.bill.subs.head?).map (fun x => (x.e, x.g)) = some (s.bill.sE, s.bill.sG) ∧
        u.bill.subs.tail = s.bill.subs.take 14 ∧ u.bill.sE = [] ∧ u.bill.fresh = s.bill.fresh - 1 ∧ u.bill.recs = s.bill.recs) ∧
  (∀ t f d r, f < 2 → d < 2 → r < 9 →
      DoesFrom (fun s => tickProfile (tickDemand (tickStep (tickPost s)))) (.billingPeriodEnd t)
      (fun s => periodDue s (tickNow s) = true)
      fun s u => obj u 0x07006100 = obj s 0x07006100 + 1 ∧ u.bill.tLast = tickNow s ∧ u.bill.pStart = tickNow s ∧
        u.bill.endNow = none ∧ u.bill.snaps.head? = some (snapshot (obj s 0x07006100 + 1) (tickNow s) 1 s) ∧
        obj u (maxNum f d r) = 0 ∧ obj u (maxNum f d r + 1) = 0) ∧
  (∀ t a, DoesFrom (fun s => tickProfile (tickDemand (tickStep (tickPost s)))) (.billingPeriodEnd t)
      (fun s => periodDue s (tickNow s) = false ∧ s.bill.endNow = some a ∧ later64 (tickNow s) a = true)
      fun s u => obj u 0x07006100 = obj s 0x07006100 + 1 ∧ u.bill.tLast = tickNow s ∧ u.bill.endNow = none ∧
        u.bill.snaps.head? = some (snapshot (obj s 0x07006100 + 1) (tickNow s) 2 s)) ∧
  (∀ t via a, Does (.endTheBillingPeriodNow t via a)
      (fun s => reaches s via 0x07006200 = true ∧ keeperTakes s via 0x0702 = true ∧ noPower s = false ∧
        legalReason 0x07006200 a s = 0)
      fun s u => Answered u via 0x07006200 stDONE ∧ u.bill.endNow = some (ltimeNs s) ∧ u.sr.authCtr = a.counter ∧ u.objs = s.objs) ∧
  (∀ t, Does (.repeatGenerationReset t)
      (fun s => obj s 0x07007A00 ≠ 0 ∧ notBefore64 (tickNow s) (obj s 0x07007900) = true)
      fun s u => obj u 0x07007A00 = 0 ∧ obj u 0x07007900 = obj s 0x07007900 ∧ u.bill = s.bill) ∧
  (∀ t m, Does (.minutePublish t) (fun s => m = tickNow s / 60000000000 ∧ m ≠ s.bill.minute)
      fun s u => u.bill.minute = m ∧ u.bill.mSum = [] ∧ u.bill.mN = [] ∧
        (tabGet [] u.bill.mins (m % 8192)).take 8 = toLe 8 (m * 60000000000) ∧
        ∀ i, i < 6 → slice (tabGet [] u.bill.mins (m % 8192)) (8 + 8 * i) 8 =
          toLe 8 (if tabGet 0 s.bill.mN i = 0 then 0 else tabGet 0 s.bill.mSum i / tabGet 0 s.bill.mN i))

/-- From R199 to R205, R211, R213, R215, R216, R218: A_u, the calendars and the rate in force change at their ticks, after the
steps of the tick before them; a calendar image that keeps the limits becomes the passive one, another is refused and counted;
the captures at power-fail and power-up; what the requests read back. The model's own choices in it: log entries 115 to 121. -/
def Obligations.TariffsAndBillingReads : Prop :=
  (∀ t, DoesFrom tickEnds (.taiUtcChange t)
      (fun s => obj s 0x07003300 ≠ 0 ∧ notBefore64 (tickNow s) (obj s 0x07003300) = true)
      fun s u => obj u 0x07003100 = obj s 0x07003200 ∧ obj u 0x07003300 = 0 ∧ bit u.bill.iFlags 9 = true ∧ u.octs = s.octs) ∧
  (∀ t, DoesFrom (fun s => tickOffset (tickEnds s)) (.calendarActivation t)
      (fun s => oct s 0x07004200 ≠ [] ∧ notBefore64 (tickNow s) (calFrom (oct s 0x07004200)) = true)
      fun s u => oct u 0x07004100 = oct s 0x07004200 ∧ oct u 0x07004300 = oct s 0x07004100 ∧ oct u 0x07004200 = [] ∧
        u.bill.calAt = tickNow s) ∧
  (∀ t, DoesFrom (fun s => tickCalendar (tickOffset (tickEnds s))) (.tariffSwitch t)
      (fun s => rateDue s ≠ rateNow s ∧ noPower s = false)
      fun s u => rateNow u = rateDue s ∧ u.sr.journal.length = s.sr.journal.length + 1 ∧ u.octs = s.octs ∧
        ((mramLog u 8).head?).map (fun r => (r.code, r.p0, r.p1)) = some (0x0704, rateNow s % two64, rateDue s % two64)) ∧
  (∀ t, DoesFrom (fun s => tickCalendar (tickOffset (tickEnds s))) (.tariffSwitch t) (fun s => rateDue s = rateNow s)
      fun s u => u.objs = s.objs ∧ u.sr = s.sr) ∧
  (∀ t via b a, Does (.calendarImageWrite t via b a)
      (fun s => reaches s via 0x07004000 = true ∧ keeperTakes s via 0x0701 = true ∧ firstFail (calendarChecks b) = none ∧
        noPower s = false ∧ legalReason 0x07004000 a s = 0)
      fun s u => Answered u via 0x07004000 stDONE ∧ oct u 0x07004200 = b ∧ oct u 0x07004100 = oct s 0x07004100 ∧
        u.sr.authCtr = a.counter) ∧
  (∀ t via b a, b.length ≠ 1448 → Does (.calendarImageWrite t via b a)
      (fun s => reaches s via 0x07004000 = true ∧ keeperTakes s via 0x0701 = true)
      fun s u => Answered u via 0x07004000 stLENGTH ∧ u.octs = s.octs ∧ u.sr.authCtr = s.sr.authCtr ∧
        tabGet 0 u.emp.refused (0x07004000 * 64 + stLENGTH) = tabGet 0 s.emp.refused (0x07004000 * 64 + stLENGTH) + 1) ∧
  (∀ t via a, Does (.withdrawThePassiveCalendar t via a)
      (fun s => reaches s via 0x07004400 = true ∧ keeperTakes s via 0x0702 = true ∧ noPower s = false ∧
        legalReason 0x07004400 a s = 0)
      fun s u => Answered u via 0x07004400 stDONE ∧ oct u 0x07004200 = [] ∧ oct u 0x07004100 = oct s 0x07004100) ∧
  (∀ t, DoesFrom tickRates (.powerFailCapture t) (fun s => s.bill.failDue = true ∧ noPower s = false)
      fun s u => u.bill.failDue = false ∧ u.bill.capture = [obj s (regNum 0 0 0), obj s (regNum 0 1 0), obj s (regNum 1 0 0),
        obj s (regNum 1 1 0), rateNow s, tickNow s] ∧ u.sr.journal.length = s.sr.journal.length + 1) ∧
  (∀ t n, Does (.powerUpCapture t) (fun s => s.bill.upDue = some n ∧ s.bill.failDue = false ∧ noPower s = false)
      fun s u => u.bill.upDue = none ∧ u.sr.journal.length = s.sr.journal.length + 1 ∧ u.bill.capture = s.bill.capture) ∧
  (∀ t via l, Does (.rateAndPriceAtAnLtime t via l) (fun s => reaches s via 0x07005300 = true)
      fun s u => AnsweredBody u via 0x07005300 stDONE
        (toBe 1 (rateAtTime s l).1 ++ toBe 8 (unsgn 64 (priceOf (rateAtTime s l).2 (rateAtTime s l).1))) ∧ u.bill = s.bill) ∧
  (∀ t via n b, n < 24 → Does (.readSnapshotByAge t via n) (fun s => reaches s via 0x07006000 = true ∧ s.bill.snaps[n]? = some b)
      fun s u => AnsweredBody u via 0x07006000 stDONE b ∧ u.bill = s.bill) ∧
  (∀ t via n, Does (.readSnapshotByAge t via n)
      (fun s => reaches s via 0x07006000 = true ∧ (24 ≤ n ∨ s.bill.snaps[n]? = none))
      fun s u => Answered u via 0x07006000 (if 24 ≤ n then stRANGE else stNONE) ∧ u.bill = s.bill) ∧
  (∀ t via n, Does (.readProfileRecords t via n)
      (fun s => reaches s via 0x07008000 = true ∧ notBeforeW 64 (obj s 0x07008100) n = true)
      fun s u => AnsweredBody u via 0x07008000 stDONE (recordsBody
        ((s.bill.recs.take (min (obj s 0x07008100 + 1 - n) s.bill.recs.length)).reverse.take 16)) ∧ u.bill = s.bill) ∧
  (∀ t via f, f < 2 → Does (.consistentRegisterSet t via f) (fun s => reaches s via (0x07009000 + f) = true)
      fun s u => AnsweredBody u via (0x07009000 + f) stDONE (regsBytes toBe s f ++ maxBytes toBe s f) ∧ u.objs = s.objs)

/-! ### Chapter 8: prepayment -/

/-- From R164, R224 to R232, R244: a charge request carries the waiting items in slot 4w + 3, prices an accepted one into its
account, and is repeated after a reply without power; a voucher that passes every check is applied and its ID stored, its reply
giving the part repaid, the balance and the credit state; one that fails changes no account; accounts are opened, closed, given a
plan and read. The model's own choices in it: log entries 122, 123, 126, 257, 260. -/
def Obligations.AccountsAndVouchers : Prop :=
  (∀ t w x xs, Does (.chargeSend t w)
      (fun s => w < s.part.wings ∧ (chargeGet s w).sent = false ∧ (srReach s).isSome = true ∧ (chargeGet s w).retryAt = none ∧
        (chargeWaiting s w).take 8 = x :: xs ∧ (xs.length = 7 ∨ x.at_ + 10000 ≤ s.clk.now))
      fun s u => (chargeGet u w).sent = true ∧ (chargeGet u w).items = (x :: xs).map (·.seq) ∧ u.ing = s.ing ∧
        (reqSlot u (4 * w + 3)).words.drop 32 = ((x :: xs).map (·.seq)).flatMap (fun q => chargeBytes (stagedRec s w q)) ∧
        { slot := 4 * w + 3, kind := 0x0881, at_ := s.clk.now + 480 } ∈ u.sr.doors) ∧
  (∀ t w r, Does (.chargeSend t w)
      (fun s => w < s.part.wings ∧ (chargeGet s w).sent = false ∧ (srReach s).isSome = true ∧
        (chargeGet s w).retryAt = some r ∧ r ≤ s.clk.now)
      fun s u => chargeGet u w = { chargeGet s w with sent := true, retryAt := none } ∧
        { slot := 4 * w + 3, kind := 0x0881, at_ := s.clk.now + 480 } ∈ u.sr.doors) ∧
  (∀ t w d ds, d.slot = 4 * w + 3 → Does (.charge t w)
      (fun s => (chargeGet s w).sent = true ∧ s.sr.doors = d :: ds ∧ d.at_ ≤ s.clk.now ∧ noPower s = true)
      fun s u => chargeGet u w = { chargeGet s w with sent := false, retryAt := some (s.clk.now + 1000000) } ∧
        u.prepay.accounts = s.prepay.accounts ∧ u.ing = s.ing) ∧
  (∀ t w d ds q r a j, d.slot = 4 * w + 3 → Does (.charge t w)
      (fun s => (chargeGet s w).sent = true ∧ s.sr.doors = d :: ds ∧ d.at_ ≤ s.clk.now ∧ noPower s = false ∧
        (chargeGet s w).items = [q] ∧ chargeOf 8 ((reqSlot s (4 * w + 3)).words.drop 32) = [r] ∧ leAt r 8 4 = a ∧
        judgeItem s (accGet s a) r = (0, j))
      fun s u => (chargeGet u w).sent = false ∧ (chargeGet u w).items = [] ∧ accGet u a = padTo 48 (priceItem s j r).1 ∧
        obj u 0x08030000 = obj s 0x08030000 + 1 ∧ ∀ b, b ≠ a → accGet u b = accGet s b) ∧
  (∀ t via v a, Does (.voucher t via v true)
      (fun s => reaches s via 0x08020000 = true ∧ keeperTakes s via 0x0882 = true ∧
        firstFail (voucherChecks v true s) = none ∧ noPower s = false ∧ a = beAt v 24 4)
      fun s u => AnsweredBody u via 0x08020000 stDONE
          (toBe 8 (unsgn 64 (min (sgn 64 (beAt v 32 8)) (max 0 (-accBalance (accGet s a))))) ++
            toBe 8 (unsgn 64 (accBalance (accGet s a) + sgn 64 (beAt v 32 8))) ++ toBe 1 (creditState u (accGet u a))) ∧
        obj u 0x08030005 = obj s 0x08030005 + 1 ∧
        accBalance (accGet u a) = accBalance (accGet s a) + sgn 64 (beAt v 32 8) ∧ storeHolds u (beAt v 0 8) = true) ∧
  (∀ t via v ok st, Does (.voucher t via v ok)
      (fun s => reaches s via 0x08020000 = true ∧ keeperTakes s via 0x0882 = true ∧
        firstFail (voucherChecks v ok s) = some st)
      fun s u => Answered u via 0x08020000 st ∧ obj u 0x08030006 = obj s 0x08030006 + 1 ∧ u.prepay = s.prepay ∧
        ∃ r ∈ mramLog u 8, r.code = 0x0821 ∧ r.p0 = beAt v 0 8 ∧ r.p1 = st) ∧
  (∀ t via r a, beAt r 0 1 = 1 → Does (.openAccount t via r a)
      (fun s => reaches s via 0x08010000 = true ∧ keeperTakes s via 0x0886 = true ∧ firstFail (accountOpChecks r) = none ∧
        noPower s = false ∧ legalReason 0x08010000 a s = 0 ∧ accState (accGet s (beAt r 4 4)) = 0)
      fun s u => Answered u via 0x08010000 stDONE ∧ accState (accGet u (beAt r 4 4)) = beAt r 2 1 ∧
        accPlan (accGet u (beAt r 4 4)) = beAt r 1 1 ∧ accDir (accGet u (beAt r 4 4)) = beAt r 8 4 ∧
        accBalance (accGet u (beAt r 4 4)) = 0 ∧ obj u 0x08000100 = obj s 0x08000100 + 1 ∧ u.sr.authCtr = a.counter) ∧
  (∀ t via r a, beAt r 0 1 = 2 → Does (.closeAccount t via r a)
      (fun s => reaches s via 0x08010000 = true ∧ keeperTakes s via 0x0886 = true ∧ firstFail (accountOpChecks r) = none ∧
        noPower s = false ∧ legalReason 0x08010000 a s = 0 ∧
        (accState (accGet s (beAt r 4 4)) = 1 ∨ accState (accGet s (beAt r 4 4)) = 3))
      fun s u => Answered u via 0x08010000 stDONE ∧ accGet u (beAt r 4 4) = List.replicate 48 0 ∧
        obj u 0x08000100 = obj s 0x08000100 - 1) ∧
  (∀ t via r a, beAt r 0 1 = 2 → Does (.closeAccount t via r a)
      (fun s => reaches s via 0x08010000 = true ∧ keeperTakes s via 0x0886 = true ∧ firstFail (accountOpChecks r) = none ∧
        noPower s = false ∧ legalReason 0x08010000 a s = 0 ∧ accState (accGet s (beAt r 4 4)) = 0)
      fun s u => Answered u via 0x08010000 stNOT_OPEN ∧ u.prepay = s.prepay ∧ u.sr.authCtr = s.sr.authCtr) ∧
  (∀ t via r a, beAt r 0 1 = 3 → Does (.setPlan t via r a)
      (fun s => reaches s via 0x08010000 = true ∧ keeperTakes s via 0x0886 = true ∧ firstFail (accountOpChecks r) = none ∧
        noPower s = false ∧ legalReason 0x08010000 a s = 0 ∧ accState (accGet s (beAt r 4 4)) ≠ 0)
      fun s u => Answered u via 0x08010000 stDONE ∧ accPlan (accGet u (beAt r 4 4)) = beAt r 1 1 ∧
        accBalance (accGet u (beAt r 4 4)) = accBalance (accGet s (beAt r 4 4))) ∧
  (∀ t via a, a < 262144 → Does (.readAccount t via a)
      (fun s => reaches s via 0x08010100 = true ∧ keeperTakes s via 0x0886 = true)
      fun s u => AnsweredBody u via 0x08010100 stDONE (accGet s a ++ toBe 1 (creditState s (accGet s a))) ∧ u.prepay = s.prepay) ∧
  (∀ t via b a, Does (.friendlyHoursWrite t via b a)
      (fun s => reaches s via 0x08002000 = true ∧ keeperTakes s via 0x0801 = true ∧ firstFail (friendlyChecks b) = none ∧
        noPower s = false ∧ legalReason 0x08002000 a s = 0)
      fun _ u => Answered u via 0x08002000 stDONE ∧ oct u 0x08002000 = b ∧ u.sr.authCtr = a.counter)

/-- From R235, R237 to R240: a due scan lists up to 64 accounts and where to resume; a disconnection or reconnection that the
gate and the Keeper allow takes the next number and moves the supply state, another is refused with its status and counted; its
confirmation settles it, and without one it lapses at its time. The model's own choices in it: log entries 124, 125, 258. -/
def Obligations.SupplyIsAuthorised : Prop :=
  (∀ t n, Does (.dueScan t n) (fun s => keeperFree 0 0x0885 s = true)
      fun s u => u.prepay.scan = (dueFrom s n).take 64 ∧ u.prepay.accounts = s.prepay.accounts ∧
        u.prepay.resume = (((dueFrom s n)[64]?).map (·.1)).getD 0) ∧
  (∀ t0 t w a x ok g c v, a < 262144 → (x = 1 ∨ x = 2) → Does (.supplyAuth t0 t w a x ok)
      (fun s => w < s.part.wings ∧ keeperFree w 0x0883 s = true ∧ g = leAt (entryOf s (accDir (accGet s a))) 160 8 ∧
        (groupGet s g).cur = some c ∧ (gate w g s).1 = true ∧ v = spanEnd c (groupGet s g).next ∧
        noPower (supplyAt t w g s) = false ∧
        firstFail (supplyChecks x (accGet (supplyAt t w g s) a) (leaseHolds g (ptimeNs s) ok c v (supplyAt t w g s))
          (supplyAt t w g s)) = none)
      fun s u => tabGet orderDefault u.prepay.orders a =
          { number := obj s 0x08003400, action := x
            till := ltimeNs (supplyAt t w g s) + obj s 0x08000400 * 1000000000 } ∧
        accState (accGet u a) = (if x = 1 then 2 else 4) ∧ obj u 0x08003400 = obj s 0x08003400 + 1) ∧
  (∀ t0 t w a x ok g c v st, a < 262144 → (x = 1 ∨ x = 2) → Does (.supplyAuth t0 t w a x ok)
      (fun s => w < s.part.wings ∧ keeperFree w 0x0883 s = true ∧ g = leAt (entryOf s (accDir (accGet s a))) 160 8 ∧
        (groupGet s g).cur = some c ∧ (gate w g s).1 = true ∧ v = spanEnd c (groupGet s g).next ∧
        firstFail (supplyChecks x (accGet (supplyAt t w g s) a) (leaseHolds g (ptimeNs s) ok c v (supplyAt t w g s))
          (supplyAt t w g s)) = some st)
      fun s u => u.prepay.accounts = s.prepay.accounts ∧ u.prepay.orders = s.prepay.orders ∧
        obj u 0x08030008 = obj s 0x08030008 + 1) ∧
  (∀ t w a n r, r ≤ 1 → Does (.supplyConfirm t w a n r)
      (fun s => keeperFree w 0x0884 s = true ∧ noPower s = false ∧ tabGet orderDefault s.prepay.orders a ≠ orderDefault ∧
        n % 4294967296 = leAt (accGet s a) 36 4 ∧ accState (accGet s a) ≠ 0)
      fun s u => accState (accGet u a) =
          (if ((tabGet orderDefault s.prepay.orders a).action == 1) == (r == 0) then 3 else 1) ∧
        accBalance (accGet u a) = accBalance (accGet s a) ∧ u.sr.journal.length = s.sr.journal.length + 1) ∧
  (∀ t w a n r, Does (.supplyConfirm t w a n r)
      (fun s => 1 < r ∨ n % 4294967296 ≠ leAt (accGet s a) 36 4 ∨ accState (accGet s a) = 0 ∨ noPower s = true)
      fun s u => u.prepay = s.prepay) ∧
  (∀ t a, Does (.authorisationLapse t a)
      (fun s => (accState (accGet s a) = 2 ∨ accState (accGet s a) = 4) ∧
        notBefore64 (tickNow s) (tabGet orderDefault s.prepay.orders a).till = true)
      fun s u => accState (accGet u a) = (if accState (accGet s a) = 2 then 1 else 3) ∧ obj u 0x08030009 = obj s 0x08030009 + 1)

/-! ### Chapter 9: Night Audit -/

/-- From R245 to R255: a fold is counted under its outcome and its record confirmed; an accepted one is added to its interval's
accumulator, a VOLTAGE record's minutes to their bank; an assignment is checked, waits for its boundary, and then stands in the
endpoint's record with the one before it; a pending segment table that is whole becomes the table in use under the next number.
The model's own choices in it: log entries 129, 130, 261. -/
def Obligations.FoldsAndAssignments : Prop :=
  (∀ t w x b, Does (.intervalFold t w) (fun s => foldNext s w 1 32 = some (x, b) ∧ auditOn s w = false)
      fun s u => cntGet u w (tallyNa 5) = (cntGet s w (tallyNa 5) + 1) % two64 ∧ tabGet 0 u.audit.taken w = x.seq ∧
        tabGet 0 u.audit.lastB w = b ∧ u.audit.ints = s.audit.ints ∧
        ((ingGet s w).unrel.find? (fun y => y.seq % 2 ^ 60 == x.seq) = some x →
          dramRead u (stgBase s w + x.seq % 1048576 * 128 + 15) 1 = [BitVec.ofNat 8 (x.conf ||| 4)])) ∧
  (∀ t w x b k l m, 0 < k → k < 5 → Does (.intervalFold t w)
      (fun s => foldNext s w 1 32 = some (x, b) ∧ auditOn s w = true ∧
        foldJudge s (stagedRec s w x.seq) (ptimeAt s b) = (k, l, m))
      fun s u => cntGet u w (tallyNa k) = (cntGet s w (tallyNa k) + 1) % two64 ∧ tabGet 0 u.audit.taken w = x.seq ∧
        tabGet 0 u.audit.lastB w = b ∧ u.audit.ints = s.audit.ints ∧
        ((ingGet s w).unrel.find? (fun y => y.seq % 2 ^ 60 == x.seq) = some x →
          dramRead u (stgBase s w + x.seq % 1048576 * 128 + 15) 1 = [BitVec.ofNat 8 (x.conf ||| 4)])) ∧
  (∀ t w x b l m, Does (.intervalFold t w)
      (fun s => foldNext s w 1 32 = some (x, b) ∧ auditOn s w = true ∧
        foldJudge s (stagedRec s w x.seq) (ptimeAt s b) = (0, l, m))
      fun s u => cntGet u w (tallyNa 0) = (cntGet s w (tallyNa 0) + 1) % two64 ∧ tabGet 0 u.audit.taken w = x.seq ∧
        (tabGet [] u.audit.ints w).any (fun y => y.ends == auditCeil s (leAt (stagedRec s w x.seq) 40 8 / 1000000000)) = true) ∧
  (∀ t w x b l m r a e c, Does (.intervalFold t w)
      (fun s => foldNext s w 1 32 = some (x, b) ∧ auditOn s w = true ∧ r = stagedRec s w x.seq ∧
        foldJudge s r (ptimeAt s b) = (0, l, m) ∧ e = auditCeil s (leAt r 40 8 / 1000000000) ∧
        a = assignAt s (leAt r 8 4) e ∧ leAt a 1 1 < 3 ∧ leAt a 3 1 = 255 ∧ tabGet [] s.audit.ints w = [c] ∧ c.ends = e)
      fun _ u => (tabGet [] u.audit.ints w).map
          (fun y => tabGet (0, 0) y.cells ((leAt a 0 1 * 3 + leAt a 1 1) * 4096 + leAt a 4 2)) =
        [((tabGet (0, 0) c.cells ((leAt a 0 1 * 3 + leAt a 1 1) * 4096 + leAt a 4 2)).1 + 3 * leAt r (56 + 8 * leAt a 2 1) 8,
          (tabGet (0, 0) c.cells ((leAt a 0 1 * 3 + leAt a 1 1) * 4096 + leAt a 4 2)).2 + 1)]) ∧
  (∀ t w x b, Does (.voltageFold t w)
      (fun s => foldNext s w 2 64 = some (x, b) ∧ auditOn s w = true ∧
        leAt (assignAt s (leAt (stagedRec s w x.seq) 8 4)
          (auditCeil s (leAt (stagedRec s w x.seq) 40 8 / 1000000000))) 0 1 ≠ 255)
      fun s u => cntGet u w (tallyNa 0) = (cntGet s w (tallyNa 0) + 1) % two64 ∧ tabGet 0 u.audit.taken w = x.seq ∧
        tabGet 0 u.audit.lastB w = b ∧ u.audit.ints = s.audit.ints) ∧
  (∀ t w x b r p, Does (.voltageFold t w)
      (fun s => foldNext s w 2 64 = some (x, b) ∧ auditOn s w = true ∧ r = stagedRec s w x.seq ∧
        leAt (assignAt s (leAt r 8 4) (auditCeil s (leAt r 40 8 / 1000000000))) 0 1 ≠ 255 ∧ leAt r 48 2 = 1 ∧
        minuteJudge s w (leAt r 8 4) (leAt r 40 8 / 1000000000) (ptimeAt s b / 1000000000) = (6, p) ∧
        (ingGet s w).unrel = [x] ∧
        (p + 2 ≤ stgBase s w + x.seq % 1048576 * 128 + 15 ∨ stgBase s w + x.seq % 1048576 * 128 + 16 ≤ p))
      fun s u => dramRead u p 2 = dramRead s (leAt r 104 8) 2 ∧
        cntGet u w (tallyNa 6) = (cntGet s w (tallyNa 6) + 1) % two64) ∧
  (∀ t w x b, Does (.voltageFold t w)
      (fun s => foldNext s w 2 64 = some (x, b) ∧ auditOn s w = true ∧
        leAt (assignAt s (leAt (stagedRec s w x.seq) 8 4)
          (auditCeil s (leAt (stagedRec s w x.seq) 40 8 / 1000000000))) 0 1 = 255)
      fun s u => cntGet u w (tallyNa 3) = (cntGet s w (tallyNa 3) + 1) % two64 ∧ tabGet 0 u.audit.taken w = x.seq ∧
        ((ingGet s w).unrel.find? (fun y => y.seq % 2 ^ 60 == x.seq) = some x →
          dramRead u (stgBase s w + x.seq % 1048576 * 128 + 15) 1 = [BitVec.ofNat 8 (x.conf ||| 4)])) ∧
  (∀ t via r, r.length = 16 → Does (.assignEndpoint t via r)
      (fun s => reaches s via 0x09010000 = true ∧ assignLimits s r = true ∧ provisioned s (beAt r 0 4) = true ∧
        bit (entFlags (entryOf s (beAt r 0 4))) 6 = true ∧ assignBusy s (beAt r 0 4) = false)
      fun s u => Answered u via 0x09010000 stDONE ∧
        tabGet ([], 0) u.audit.pend (beAt r 0 4) = (assignBytes r, auditCeil s (ptimeSec s + 1)) ∧ u.ing = s.ing) ∧
  (∀ t via r, r.length = 16 → Does (.assignEndpoint t via r)
      (fun s => reaches s via 0x09010000 = true ∧ assignLimits s r = true ∧ provisioned s (beAt r 0 4) = true ∧
        (bit (entFlags (entryOf s (beAt r 0 4))) 6 = false ∨ assignBusy s (beAt r 0 4) = true))
      fun s u => Answered u via 0x09010000
          (if bit (entFlags (entryOf s (beAt r 0 4))) 6 = false then stNOT_AUDIT else stBUSY) ∧ u.audit = s.audit) ∧
  (∀ t i a b, Does (.assignmentEffect t i)
      (fun s => (s.audit.pend.find? (fun e => e.1 == i)).map (·.2) = some (a, b) ∧ b ≤ ptimeSec s)
      fun s u => dramRead u (auditRec s i + 4) 6 = padTo 6 a ∧ dramRead u (auditRec s i + 24) 8 = toLe 8 (b * 1000000000) ∧
        dramRead u (auditRec s i + 12) 6 =
          (if bit (leAt (auditHead s i) 10 2) 0 then slice (auditHead s i) 4 6 else noAssign) ∧
        u.audit.pend = tabErase i s.audit.pend) ∧
  (∀ t via g, g < 2 → Does (.commitThePendingSegmentTable t via g)
      (fun s => reaches s via (0x09001100 + g) = true ∧ (segPending s g).all (segOk s g (segPending s g)) = true ∧
        noPower s = false ∧ LogRoom s 0 1)
      fun s u => Answered u via (0x09001100 + g) stDONE ∧ obj u (0x09001000 + g) = (segPending s g).length ∧
        obj u (0x09001200 + g) = obj s (0x09001200 + g) + 1 ∧ Logged u 0 0x0906 0 g ((obj s (0x09001200 + g) + 1) % two64) ∧
        ∀ k ∈ segPending s g, u.audit.segs.any (fun e => e.1 == g * 4096 + k) = true) ∧
  (∀ t via g, g < 2 → Does (.commitThePendingSegmentTable t via g)
      (fun s => reaches s via (0x09001100 + g) = true ∧ (segPending s g).all (segOk s g (segPending s g)) = false)
      fun s u => Answered u via (0x09001100 + g) stRANGE ∧ u.audit = s.audit ∧ u.objs = s.objs)

/-- From R256, R261 to R265, R271: the close jobs of an interval become ready at its deadline, the identification jobs of a
window at its end plus the hold; a close job starts in its order at a multiple of 64 with lanes in force and ends with three
results; an identification job runs on its wing or is skipped when its time is over; results, localisation records and an
endpoint's audit state are read. The model's own choices in it: log entries 131 to 136, 263, 264. -/
def Obligations.AuditJobsRun : Prop :=
  (∀ t, Does (.auditJobReady t)
      (fun s => s.audit.next ≠ 0 ∧ s.audit.window ≠ 0 ∧ s.audit.next ≤ s.audit.window ∧
        s.audit.next + auditHold s ≤ ptimeSec s)
      fun s u => u.audit.next = s.audit.next + auditLen s ∧ u.audit.window = s.audit.window ∧
        u.audit.jobs = s.audit.jobs ++ [0, 1].map (fun g =>
          { kind := 1, ends := s.audit.next, len := auditLen s, per := obj s 0x09000200 / obj s 0x05002200, who := g
            feeder := feederOk s s.audit.next (auditLen s), waited := quiet s }) ∧
        cntGet u 0 (tallyNa 12) = (cntGet s 0 (tallyNa 12) + if quiet s then 2 else 0) % two64) ∧
  (∀ t, Does (.auditJobReady t)
      (fun s => s.audit.next ≠ 0 ∧ s.audit.window ≠ 0 ∧ s.audit.window < s.audit.next ∧
        s.audit.window + auditHold s ≤ ptimeSec s)
      fun s u => u.audit.next = s.audit.next ∧ u.audit.window = s.audit.window + 86400 ∧
        u.audit.jobs = s.audit.jobs ++ (List.range s.part.wings).map (fun w =>
          { kind := 3, ends := s.audit.window, len := 86400, per := 0, who := w, feeder := false, waited := quiet s })) ∧
  (∀ t j js, j.kind = 1 → Does (.closeJobStart t)
      (fun s => s.audit.jobs = j :: js ∧ s.audit.close = none ∧ noIdent s = true ∧ quiet s = false ∧ auditLanes s ≠ 0 ∧
        s.clk.now % 64 = 0)
      fun s u => u.audit.jobs = js ∧ u.audit.close = some { job := j, segs := s.audit.segs
                                                            done := s.clk.now + closeTime s j.who j.ends
                                                              (groupSegs s.audit.segs j.who).length } ∧
        ∀ w, w < s.part.wings →
          regGet u (naJob w) = BitVec.ofNat 64 ((if isDaily s j.ends then 2 else 1) * 2 ^ 60 + j.ends / 60)) ∧
  (∀ t r, Does (.closeJobEnd t) (fun s => s.audit.close = some r ∧ r.done ≤ s.clk.now)
      fun s u => u.audit.close = none ∧ obj u 0x09020100 = obj s 0x09020100 + 3 ∧ u.audit.jobs = s.audit.jobs ∧
        (regF s (logRingCfg 0) 5 5 = 0 → ∀ k, 1 ≤ k → k ≤ 3 →
          dramRead u (auditWs s + 128 * ((obj s 0x09020100 + k) % 65536)) 8 = toLe 8 (obj s 0x09020100 + k)) ∧
        ∀ w, w < s.part.wings → regGet u (naJob w) = 0) ∧
  (∀ t w j, Does (.identificationJobStart t w)
      (fun s => identFirst w s.audit.jobs = some j ∧ s.audit.close = none ∧ tabGet none s.audit.ident w = none ∧ quiet s = false ∧
        auditLanes s ≠ 0 ∧ ptimeSec s < j.ends + 86400)
      fun s u => tabGet none u.audit.ident w = some { job := j, segs := []
                                                      done := s.clk.now + 3000 +
                                                        ceilDiv (5 * 1439 * (identEndpoints s w j.ends).length) (auditLanes s) } ∧
        u.audit.jobs = s.audit.jobs.filter (fun x => x != j) ∧
        tabGet 0 u.audit.begun w = windowOf s j.ends ∧ regGet u (naJob w) = BitVec.ofNat 64 (3 * 2 ^ 60 + j.ends / 60)) ∧
  (∀ t w r, Does (.identificationJobEnd t w) (fun s => tabGet none s.audit.ident w = some r ∧ r.done ≤ s.clk.now)
      fun s u => tabGet none u.audit.ident w = none ∧ regGet u (naJob w) = 0 ∧ u.audit.jobs = s.audit.jobs ∧
        cntGet u w (tallyNa 14) = (cntGet s w (tallyNa 14) + 1) % two64) ∧
  (∀ t w j, w < 8 → Does (.identificationSkipped t w)
      (fun s => s.audit.jobs.find? (fun x => x.kind == 3 && x.who == w && decide (x.ends + 86400 ≤ ptimeSec s)) = some j ∧
        LogRoom s w 1)
      fun s u => u.audit.jobs = s.audit.jobs.filter (fun x => x != j) ∧
        cntGet u w (tallyNa 15) = (cntGet s w (tallyNa 15) + 1) % two64 ∧
        Logged u w 0x0904 w w (j.ends * 1000000000 % two64)) ∧
  (∀ t via i, i < 1048576 → Does (.readEndpointAuditState t via i) (fun s => reaches s via 0x09010100 = true ∧ provisioned s i = true)
      fun s u => AnsweredBody u via 0x09010100 stDONE (auditShown s i) ∧ u.audit = s.audit) ∧
  (∀ t via n f, Does (.readResults t via n)
      (fun s => reaches s via 0x09020000 = true ∧ obj s 0x09020100 ≠ 0 ∧
        f = max n (if 65536 ≤ obj s 0x09020100 then obj s 0x09020100 - 65535 else 1) ∧ notBeforeW 64 (obj s 0x09020100) f = true)
      fun s u => AnsweredBody u via 0x09020000 stDONE (recordsBody
        ((List.range (min 16 (obj s 0x09020100 + 1 - f))).map (fun k => dramRead s (auditWs s + 128 * ((f + k) % 65536)) 128))) ∧
        u.audit = s.audit) ∧
  (∀ t via n, Does (.readLocalisationRecords t via n) (fun s => reaches s via 0x09021000 = true)
      fun s u => AnsweredBody u via 0x09021000 stDONE (recordsBody
        ((List.range (min 16 (min s.audit.locs 1024 - n))).map (fun k =>
          dramRead s (auditWs s + 8388608 + 64 * ((s.audit.locs - 1 - n - k) % 1024)) 64))) ∧ u.audit = s.audit)

/-! ### Chapter 10: the Profile Store -/

/-- From R283 to R285, R288, R294 to R297, R305: each staged record is decided after the start of a seal that is due: it waits,
or is counted disabled or past retention, late, ahead of the next span (whose seal is forced), a repeat, or put into its
span's buffer and the open unit; a unit closes when full or old and is queued; programs, reads and erases complete with their
counters and flags, a read that does not decode being tried at the next step; a late record already held is a repeat, another
joins the late unit; a span is read. The model's own choices in it: log entries 139, 140, 141, 147, 148, 149, 153, 159. -/
def Obligations.StoreTakesProfiles : Prop :=
  (∀ t w, DoesFrom (sealStart w) (.profileDecision t w)
      (fun s => profileWaiting s w = [] ∨ s.part.wings ≤ w ∨
        ∃ x xs, profileWaiting s w = x :: xs ∧ (s.clk.now < max x.at_ ((storeGet s w).lastT + 16) + 240 ∨
          (obj s 0x0A000100 ≠ 0 ∧ regF s (nfcCtl w) 0 0 ≠ 0 ∧ storeState s w ≠ 4)))
      fun s u => u = s) ∧
  (∀ t w x xs, DoesFrom (sealStart w) (.profileDecision t w)
      (fun s => profileWaiting s w = x :: xs ∧ w < s.part.wings ∧ max x.at_ ((storeGet s w).lastT + 16) + 240 ≤ s.clk.now ∧
        (obj s 0x0A000100 = 0 ∨ regF s (nfcCtl w) 0 0 = 0))
      fun s u => (storeGet u w).taken = x.seq ∧ (storeGet u w).lastT = max x.at_ ((storeGet s w).lastT + 16) ∧
        cntGet u w (tallyNfc 4) = (cntGet s w (tallyNfc 4) + 1) % two64 ∧ (storeGet u w).intake = (storeGet s w).intake ∧
        ((ingGet s w).unrel.find? (fun y => y.seq % 2 ^ 60 == x.seq) = some x →
          dramRead u (stgBase s w + x.seq % 1048576 * 128 + 15) 1 = [BitVec.ofNat 8 (x.conf ||| 1)])) ∧
  (∀ t w x xs, DoesFrom (sealStart w) (.profileDecision t w)
      (fun s => profileWaiting s w = x :: xs ∧ w < s.part.wings ∧ max x.at_ ((storeGet s w).lastT + 16) + 240 ≤ s.clk.now ∧
        obj s 0x0A000100 ≠ 0 ∧ regF s (nfcCtl w) 0 0 ≠ 0 ∧ storeState s w = 4 ∧
        pastRetention s (leAt (stagedRec s w x.seq) 48 2)
          (spanPos s (leAt (stagedRec s w x.seq) 40 8) (leAt (stagedRec s w x.seq) 48 2)).1 = true)
      fun s u => (storeGet u w).taken = x.seq ∧ cntGet u w (tallyNfc 3) = (cntGet s w (tallyNfc 3) + 1) % two64 ∧
        (storeGet u w).intake = (storeGet s w).intake ∧
        ((ingGet s w).unrel.find? (fun y => y.seq % 2 ^ 60 == x.seq) = some x →
          dramRead u (stgBase s w + x.seq % 1048576 * 128 + 15) 1 = [BitVec.ofNat 8 (x.conf ||| 1)])) ∧
  (∀ t w x xs r mu n k v, DoesFrom (sealStart w) (.profileDecision t w)
      (fun s => profileWaiting s w = x :: xs ∧ w < s.part.wings ∧ max x.at_ ((storeGet s w).lastT + 16) + 240 ≤ s.clk.now ∧
        obj s 0x0A000100 ≠ 0 ∧ regF s (nfcCtl w) 0 0 ≠ 0 ∧ storeState s w = 4 ∧ r = stagedRec s w x.seq ∧ mu = leAt r 48 2 ∧
        spanPos s (leAt r 40 8) mu = (n, k) ∧ pastRetention s mu n = false ∧ v = storeGet (sigmaStart w mu s) w ∧
        spanSealed v mu n = false ∧ n ≤ sealedTo v mu + 1)
      fun s u => (storeGet u w).taken = x.seq ∧
        (let a := halfAddr s w (leAt r 8 4 / s.part.wings) n
         let b := dramRead s a 5120
         if halfHolds b mu n && bit (leAt b 16 12) k then
           cntGet u w (tallyNfc 1) = (cntGet s w (tallyNfc 1) + 1) % two64 ∧ (storeGet u w).intake = (storeGet s w).intake
         else (storeGet u w).intake = (storeGet s w).intake ++ [{ seq := x.seq, data := intakeEntry r }] ∧
           dramRead u a (recordPut b (intakeEntry r) n k 128).length = recordPut b (intakeEntry r) n k 128 ∧ u.cnt = s.cnt)) ∧
  (∀ t w x xs mu n, DoesFrom (sealStart w) (.profileDecision t w)
      (fun s => profileWaiting s w = x :: xs ∧ w < s.part.wings ∧ max x.at_ ((storeGet s w).lastT + 16) + 240 ≤ s.clk.now ∧
        obj s 0x0A000100 ≠ 0 ∧ regF s (nfcCtl w) 0 0 ≠ 0 ∧ storeState s w = 4 ∧ mu = leAt (stagedRec s w x.seq) 48 2 ∧
        n = (spanPos s (leAt (stagedRec s w x.seq) 40 8) mu).1 ∧ pastRetention s mu n = false ∧
        spanSealed (storeGet (sigmaStart w mu s) w) mu n = true)
      fun s u => (storeGet u w).lateQ = (storeGet s w).lateQ ++ [x.seq] ∧ (storeGet u w).taken = x.seq ∧ u.cnt = s.cnt) ∧
  (∀ t w x xs mu n v, DoesFrom (sealStart w) (.profileDecision t w)
      (fun s => profileWaiting s w = x :: xs ∧ w < s.part.wings ∧ max x.at_ ((storeGet s w).lastT + 16) + 240 ≤ s.clk.now ∧
        obj s 0x0A000100 ≠ 0 ∧ regF s (nfcCtl w) 0 0 ≠ 0 ∧ storeState s w = 4 ∧ mu = leAt (stagedRec s w x.seq) 48 2 ∧
        n = (spanPos s (leAt (stagedRec s w x.seq) 40 8) mu).1 ∧ pastRetention s mu n = false ∧
        spanSealed (storeGet (sigmaStart w mu s) w) mu n = false ∧ v = sealedTo (storeGet (sigmaStart w mu s) w) mu ∧ v + 1 < n)
      fun s u => (storeGet u w).taken = (storeGet s w).taken ∧ (storeGet u w).intake = (storeGet s w).intake ∧
        (if (storeGet s w).sealQ.any (fun j => j.mu == mu && j.span == v) ||
            spanSealed (storeGet (sigmaStart w mu s) w) mu v then u = s
         else (storeGet u w).sealQ.any (fun j => j.mu == mu && j.span == v && j.flags == 2) = true ∧
           cntGet u w (tallyNfc 20) = (cntGet s w (tallyNfc 20) + 1) % two64 ∧
           (LogRoom s w 1 → Logged u w 0x0A0D (w % 65536) ((mu * 2 ^ 32 + v) % two64) 0))) ∧
  (∀ t w, Does (.intakeUnitClose t w)
      (fun s => storeState s w = 4 ∧ (storeGet s w).intake ≠ [] ∧ 0 < unitPlaces s w ∧
        (unitPlaces s w ≤ (storeGet s w).intake.length ∨ (storeGet s w).intakeAt + obj s 0x0A002000 * 1000 ≤ s.clk.now))
      fun s u => (storeGet u w).intake = (storeGet s w).intake.drop (unitPlaces s w) ∧ (storeGet u w).intakeAt = s.clk.now ∧
        (storeGet u w).late = (storeGet s w).late ∧
        ∃ o ∈ (storeGet u w).ops, o.stream = 2 ∧ o.entries = (storeGet s w).intake.take (unitPlaces s w)) ∧
  (∀ t w, Does (.intakeUnitClose t w)
      (fun s => storeState s w = 4 ∧ (storeGet s w).late ≠ [] ∧ 0 < unitPlaces s w ∧
        ((storeGet s w).intake = [] ∨ ((storeGet s w).intake.length < unitPlaces s w ∧
          s.clk.now < (storeGet s w).intakeAt + obj s 0x0A002000 * 1000)) ∧
        (unitPlaces s w ≤ (storeGet s w).late.length ∨ (storeGet s w).lateAt + obj s 0x0A002000 * 1000 ≤ s.clk.now))
      fun s u => (storeGet u w).late = (storeGet s w).late.drop (unitPlaces s w) ∧ (storeGet u w).lateAt = s.clk.now ∧
        (storeGet u w).intake = (storeGet s w).intake ∧
        ∃ o ∈ (storeGet u w).ops, o.stream = 3 ∧ o.entries = (storeGet s w).late.take (unitPlaces s w)) ∧
  (∀ t w n o b, o.blk = some b → Does (.programComplete t w true)
      (fun s => opIndex (opEnds s w 0) (storeGet s w).ops = some n ∧ (storeGet s w).ops[n]? = some o ∧
        (blockGet (storeGet s w) b).st ≠ 0)
      fun s u => (storeGet u w).pageSeq = (storeGet s w).pageSeq + o.pages.length ∧
        cntGet u w (tallyNfc 5) = (cntGet s w (tallyNfc 5) + o.pages.length) % two64 ∧
        (blockGet (storeGet u w) b).pages.length = (blockGet (storeGet s w) b).pages.length + o.pages.length ∧
        (o.entries ≠ [] → cntGet u w (tallyNfc (if o.stream = 3 then 2 else 0)) =
          (cntGet s w (tallyNfc (if o.stream = 3 then 2 else 0)) + o.entries.length) % two64)) ∧
  (∀ t w n o b, o.blk = some b → Does (.programComplete t w false)
      (fun s => opIndex (opEnds s w 0) (storeGet s w).ops = some n ∧ (storeGet s w).ops[n]? = some o)
      fun s u => regF u (nfcStat w) 3 3 = 1 ∧ cntGet u w (tallyNfc 11) = (cntGet s w (tallyNfc 11) + 1) % two64 ∧
        (storeGet u w).pageSeq = (storeGet s w).pageSeq ∧ cntGet u w (tallyNfc 0) = cntGet s w (tallyNfc 0)) ∧
  (∀ t w ok, Does (.programComplete t w ok) (fun s => opIndex (opEnds s w 0) (storeGet s w).ops = none) fun s u => u = s) ∧
  (∀ t w b p c o, p < 65536 → c ≤ 120 → Does (.pageReadComplete t w (b * 65536 + p) true c)
      (fun s => w < s.part.wings ∧ p < (blockGet (storeGet s w) b).pages.length ∧ readEnds s w b p o ∧
        (blockGet (storeGet s w) b).st ≠ 0)
      fun s u => cntGet u w (tallyNfc 7) = (cntGet s w (tallyNfc 7) + 1) % two64 ∧
        (0 < o.tries → cntGet u w (tallyNfc 8) = (cntGet s w (tallyNfc 8) + 1) % two64) ∧
        cntGet u w (tallyNfc 9) = cntGet s w (tallyNfc 9) ∧
        (blockGet (storeGet u w) b).weak =
          ((blockGet (storeGet s w) b).weak || decide (obj s 0x0A004300 < c ∨ 0 < o.tries))) ∧
  (∀ t w b p c o r, p < 65536 → Does (.pageReadComplete t w (b * 65536 + p) false c)
      (fun s => w < s.part.wings ∧ p < (blockGet (storeGet s w) b).pages.length ∧ readEnds s w b p o ∧
        retryFrom s o.tries = some r)
      fun s u => cntGet u w (tallyNfc 7) = (cntGet s w (tallyNfc 7) + 1) % two64 ∧
        { o with tries := r + 1, start := some s.clk.now, ready := s.clk.now } ∈ (storeGet u w).ops ∧
        tabGet 0 (storeGet u w).feats (lunOf s w b) = obj s (0x0A004500 + r) % 2 ^ 40 ∧
        (storeGet u w).blocks = (storeGet s w).blocks) ∧
  (∀ t w b p c o, p < 65536 → Does (.pageReadComplete t w (b * 65536 + p) false c)
      (fun s => w < s.part.wings ∧ p < (blockGet (storeGet s w) b).pages.length ∧ readEnds s w b p o ∧
        retryFrom s o.tries = none)
      fun s u => cntGet u w (tallyNfc 7) = (cntGet s w (tallyNfc 7) + 1) % two64 ∧
        cntGet u w (tallyNfc 9) = (cntGet s w (tallyNfc 9) + 1) % two64 ∧ regF u (nfcStat w) 5 5 = 1 ∧
        (LogRoom s w 3 → Logged u w 0x0A07 (w % 65536) ((b * 65536 + p) % two64)
          ((blockGet (storeGet s w) b).stream % two64))) ∧
  (∀ t w b n, Does (.eraseComplete t w b true)
      (fun s => opIndex (fun o => o.kind == 2 && o.blk == some b && (match o.start with
          | some a => decide (a + 520 ≤ s.clk.now)
          | none => false)) (storeGet s w).ops = some n)
      fun s u => cntGet u w (tallyNfc 10) = (cntGet s w (tallyNfc 10) + 1) % two64 ∧
        cntGet u w (tallyNfc 12) = cntGet s w (tallyNfc 12) ∧
        (blockGet (storeGet u w) b).erases = (blockGet (storeGet s w) b).erases + 1) ∧
  (∀ t w b n, Does (.eraseComplete t w b false)
      (fun s => opIndex (fun o => o.kind == 2 && o.blk == some b && (match o.start with
          | some a => decide (a + 520 ≤ s.clk.now)
          | none => false)) (storeGet s w).ops = some n)
      fun s u => cntGet u w (tallyNfc 12) = (cntGet s w (tallyNfc 12) + 1) % two64 ∧ regF u (nfcStat w) 4 4 = 1 ∧
        (blockGet (storeGet u w) b).st = 3 ∧
        (LogRoom s w 3 → Logged u w 0x0A06 (w % 65536) (b % two64) ((blockGet (storeGet s w) b).erases % two64))) ∧
  (∀ t w x xs, Does (.latePath t w)
      (fun s => (storeGet s w).lateQ = x :: xs ∧ (storeGet s w).reading = false ∧ storeState s w = 4 ∧
        patchHas (storeGet s w) (lateFront s w x) = true)
      fun s u => (storeGet u w).lateQ = xs ∧ cntGet u w (tallyNfc 1) = (cntGet s w (tallyNfc 1) + 1) % two64 ∧
        (storeGet u w).late = (storeGet s w).late) ∧
  (∀ t w x xs e n, Does (.latePath t w)
      (fun s => (storeGet s w).lateQ = x :: xs ∧ (storeGet s w).reading = false ∧ storeState s w = 4 ∧ e = lateFront s w x ∧
        n = (spanPos s (leAt e 8 8) (leAt e 6 2)).1 ∧ patchHas (storeGet s w) e = false ∧
        (storeGet s w).sealing.any (fun j => j.mu == leAt e 6 2 && j.span == n) = false)
      fun s u => match findRecord (storeGet s w) (leAt e 0 4) (leAt e 6 2) n with
        | some f => (storeGet u w).reading = true ∧ (storeGet u w).lateQ = x :: xs ∧
            ∃ o ∈ (storeGet u w).ops, o.kind = 1 ∧ o.blk = some f.1 ∧ o.page = f.2.1
        | none => if 1048576 ≤ (storeGet s w).patches.length + (storeGet s w).late.length +
              (((storeGet s w).ops.filter (fun o => o.stream == 3)).map (fun o => o.entries.length)).sum
            then (storeGet u w).lateQ = x :: xs ∧ regF u (nfcStat w) 7 7 = 1
            else (storeGet u w).lateQ = xs ∧ (storeGet u w).late = (storeGet s w).late ++ [{ seq := x, data := e }]) ∧
  (∀ t w, Does (.latePath t w)
      (fun s => (storeGet s w).lateQ = [] ∨ (storeGet s w).reading = true ∨ storeState s w ≠ 4 ∨
        ∃ x xs e, (storeGet s w).lateQ = x :: xs ∧ e = lateFront s w x ∧ patchHas (storeGet s w) e = false ∧
          (storeGet s w).sealing.any (fun j => j.mu == leAt e 6 2 && j.span == (spanPos s (leAt e 8 8) (leAt e 6 2)).1) = true)
      fun s u => u = s) ∧
  (∀ t via r, r.length = 12 → beAt r 0 4 < 1048576 → 1 ≤ beAt r 8 2 → beAt r 10 2 = 0 → Does (.readASpan t via r)
      (fun s => reaches s via 0x0A010000 = true)
      fun s u => AnsweredBody u via 0x0A010000 (spanRead s (beAt r 0 4) (beAt r 8 2) (beAt r 4 4)).1
        (spanRead s (beAt r 0 4) (beAt r 8 2) (beAt r 4 4)).2 ∧ u.store = s.store) ∧
  (∀ t via r, Does (.readASpan t via r)
      (fun s => reaches s via 0x0A010000 = true ∧
        (r.length ≠ 12 ∨ 1048576 ≤ beAt r 0 4 ∨ beAt r 8 2 = 0 ∨ beAt r 10 2 ≠ 0))
      fun s u => Answered u via 0x0A010000 (if r.length = 12 then stRANGE else stLENGTH) ∧ u.store = s.store)

/-- From R287, R289 to R294, R300 to R303: the seal that is due begins under its journal record and ends with the span sealed;
merges, expiry, garbage collection, wear moves, bake hours and refreshes begin when due; a checkpoint is taken if the energy
allows, else put off; a stop is asked for; a start ends in RUNNING (or at once in READ_ONLY) with its event. The model's own
choices in it: log entries 144, 145, 146, 150, 151, 152, 156, 160, 266. -/
def Obligations.StoreKeepsItself : Prop :=
  (∀ t w j, Does (.spanSeal t w)
      (fun s => storeState s w = 4 ∧ (storeGet s w).sealing = none ∧ noNewOps s = false ∧
        sealNext (sigmaStart w (obj s 0x05002200) s) w = some j)
      fun s u => (storeGet u w).sealing.map (fun k => (k.mu, k.span)) = some (j.mu, j.span) ∧
        (storeGet u w).sealQ = (storeGet s w).sealQ.filter (fun k => k != j) ∧
        (storeGet u w).jnum = (storeGet s w).jnum + 1 ∧ regF u (nfcStat w) 8 8 = 1) ∧
  (∀ t w, Does (.spanSeal t w)
      (fun s => storeState s w ≠ 4 ∨ (storeGet s w).sealing ≠ none ∨ noNewOps s = true) fun s u => u = s) ∧
  (∀ t w j, Does (.sealDone t w)
      (fun s => (storeGet s w).sealing = some j ∧ j.listed = true ∧ taskQuiet (storeGet s w) j.task = true)
      fun s u => (storeGet u w).sealing = none ∧ sealedTo (storeGet u w) j.mu = max (sealedTo (storeGet s w) j.mu) (j.span + 1) ∧
        (storeGet u w).jnum = (storeGet s w).jnum + 1 ∧ (storeGet u w).mergeDue = true ∧ regF u (nfcStat w) 8 8 = 0 ∧
        (LogRoom s w 3 → Logged u w 0x0A04 (w % 65536) ((j.mu * 2 ^ 32 + j.span) % two64)
          ((((storeGet s w).dirs.find? (fun r => r.mu == j.mu && r.span == j.span)).map (·.pages)).getD 0 % two64))) ∧
  (∀ t w, Does (.sealDone t w)
      (fun s => ∀ j, (storeGet s w).sealing = some j → j.listed = false ∨ taskQuiet (storeGet s w) j.task = false)
      fun s u => u = s) ∧
  (∀ t w k, Does (.patchMerge t w)
      (fun s => storeState s w = 4 ∧ ((storeGet s w).mergeDue = true ∨ 786432 ≤ (storeGet s w).patches.length) ∧
        (storeGet s w).tasks.any (fun k => k.kind == 5 || k.kind == 8) = false ∧
        noNewOps s = false ∧ oldestPatched s (storeGet s w) = some k)
      fun s u => (storeGet s w).nextTask < (storeGet u w).nextTask ∧ (storeGet u w).sealing = (storeGet s w).sealing) ∧
  (∀ t w, Does (.patchMerge t w)
      (fun s => storeState s w = 4 ∧ ((storeGet s w).mergeDue = true ∨ 786432 ≤ (storeGet s w).patches.length) ∧
        (storeGet s w).tasks.any (fun k => k.kind == 5 || k.kind == 8) = false ∧
        noNewOps s = false ∧ oldestPatched s (storeGet s w) = none)
      fun s u => storeGet u w = { storeGet s w with mergeDue := false }) ∧
  (∀ t w d, Does (.dayExpiry t w)
      (fun s => oldestDay (storeGet s w) = some d ∧ (d : Int) ≤ presentDay s ∧ 4 ≤ storeState s w ∧ storeState s w ≠ 6 ∧
        noNewOps s = false ∧ ptimeLocked s = true ∧
        (((d : Int) = presentDay s ∧ (storeGet s w).dayLate < d) ∨ (storeGet s w).expAt = 0 ∨
          (storeGet s w).expAt + 3600000000000 ≤ s.clk.now))
      fun s u => (storeGet u w).expAt = (if (d : Int) = presentDay s ∧ (storeGet s w).dayLate < d
          then (storeGet s w).expAt else s.clk.now) ∧ (∀ r ∈ (storeGet u w).dirs, r.day ≠ d) ∧
        (LogRoom s w 3 → Logged u w 0x0A0F (w % 65536) (d % two64) (((storeGet s w).blocks.filter (fun e =>
          decide (0x8000 ≤ e.2.stream) && e.2.day == d && (e.2.st == 1 || e.2.st == 2))).length % two64))) ∧
  (∀ t w d, Does (.dayExpiry t w)
      (fun s => oldestDay (storeGet s w) = some d ∧ (d : Int) ≤ presentDay s ∧ 4 ≤ storeState s w ∧ storeState s w ≠ 6 ∧
        noNewOps s = false ∧ ptimeLocked s = false)
      fun s u => storeGet u w = { storeGet s w with dayLate := (presentDay s).toNat } ∧
        (onceDue s (6200 + w) 86400000000000 = true → LogRoom s w 1 →
          Logged u w 0x0A10 (w % 65536) ((presentDay s).toNat % two64) 0)) ∧
  (∀ t w b, Does (.garbageCollection t w)
      (fun s => (storeState s w = 4 ∨ storeState s w = 5) ∧ noNewOps s = false ∧ freePool s w < 2 * spareReserve s w ∧
        (storeGet s w).tasks.any (fun k => k.kind == 1) = false ∧ gcVictim (storeGet s w) = some b)
      fun s u => (storeGet s w).nextTask < (storeGet u w).nextTask ∧ (storeGet u w).sealing = (storeGet s w).sealing) ∧
  (∀ t w, Does (.wearMove t w)
      (fun s => (storeState s w = 4 ∨ storeState s w = 5) ∧ noNewOps s = false ∧
        (storeGet s w).wearAt + 3600000000000 ≤ s.clk.now ∧
        (eraseSpread (storeGet s w)).2 + obj s 0x0A003500 < (eraseSpread (storeGet s w)).1)
      fun s u => (storeGet u w).wearAt = s.clk.now ∧
        ∀ a d, pickBlock false (((storeGet s w).blocks.filter (mayCopy (storeGet s w))).map (fun b => (b.1, b.2.erases))) = some a →
          pickBlock true ((chansOf s w).flatMap (fun ch => freeOn s w ch)) = some d →
          cntGet u w (tallyNfc 14) = (cntGet s w (tallyNfc 14) + 1) % two64) ∧
  (∀ t w ms, ms.length = 60 → Does (.bakeHours t w ms)
      (fun s => w < s.part.wings ∧ (storeGet s w).bakeAt + 3600000000000 ≤ s.clk.now)
      fun s u => (storeGet u w).bakeAt = s.clk.now ∧ (storeGet u w).temp = (ms.getLastD 0 - sgn 64 (obj s 0x0A004100)) * 4 ∧
        (storeGet u w).blocks = (storeGet s w).blocks.map (fun b => if b.2.pages.isEmpty then b else (b.1, { b.2 with
          bake := b.2.bake + (ms.map (fun x => bakeFactor (obj s 0x0A004000) (x - sgn 64 (obj s 0x0A004100)))).sum / 60 }))) ∧
  (∀ t w b k, Does (.refresh t w b)
      (fun s => (storeState s w = 4 ∨ storeState s w = 5) ∧ noNewOps s = false ∧ k = blockGet (storeGet s w) b ∧
        (k.weak = true ∨ obj s 0x0A004200 * 2 ^ 32 ≤ k.bake) ∧
        mayCopy (storeGet s w) (b, if k.st = 1 then { k with st := 2 } else k) = true)
      fun s u => cntGet u w (tallyNfc 15) = (cntGet s w (tallyNfc 15) + 1) % two64 ∧
        (storeGet s w).nextTask < (storeGet u w).nextTask ∧
        (LogRoom s w 3 → Logged u w 0x0A0B (w % 65536) (b % two64) (k.bake * 100 / 2 ^ 32 % two64))) ∧
  (∀ t w, Does (.checkpoint t w)
      (fun s => w < s.part.wings ∧ ckptDue s w = true ∧ (energyCheck w 1 (ckptCost s w * 1000000000) s).1 = true)
      fun s u => (storeGet u w).gen = (storeGet s w).gen + 1 ∧ (storeGet s w).nextTask < (storeGet u w).nextTask) ∧
  (∀ t w, Does (.checkpoint t w)
      (fun s => w < s.part.wings ∧ ckptDue s w = true ∧ (energyCheck w 1 (ckptCost s w * 1000000000) s).1 = false)
      fun s u => (storeGet u w).gen = (storeGet s w).gen ∧ (storeGet u w).ckptAt = s.clk.now + 10000000000 ∧
        regF u (nfcCtl w) 1 1 = 0 ∧ cntGet u w (tallyNfc 19) = (cntGet s w (tallyNfc 19) + 1) % two64) ∧
  (∀ t w, Does (.ckpt t w) (fun s => w < s.part.wings)
      fun s u => regF u (nfcCtl w) 1 1 = 1 ∧ u.store = s.store) ∧
  (∀ t w, Does (.stop t w) (fun s => w < s.part.wings ∧ storeState s w ≠ 4)
      fun s u => regF u (nfcCtl w) 2 2 = 1 ∧ u.store = s.store) ∧
  (∀ t w, Does (.stop t w) (fun s => w < s.part.wings ∧ storeState s w = 4 ∧ 0 < unitPlaces s w)
      fun s u => regF u (nfcCtl w) 2 2 = 1 ∧ (storeGet u w).intake = (storeGet s w).intake.drop (unitPlaces s w) ∧
        (storeGet u w).late = (storeGet s w).late.drop (unitPlaces s w)) ∧
  (∀ t w ok path at_, Does (.storeStart t w ok)
      (fun s => w < s.part.wings ∧ released s w 4 = true ∧ 1 ≤ storeState s w ∧ storeState s w ≤ 3 ∧ regF s (nfcCtl w) 0 0 = 1 ∧
        path = (if regF s (porStat w) 24 24 = 1 ∧ ok = true then 1 else if (storeGet s w).clean = true then 2 else 3) ∧
        at_ = tabGet 0 s.power.relAt (w * 8 + 4) - 1 ∧
        (path = 3 → at_ + rebuildLeast (storeGeometry w s) w ≤ s.clk.now))
      fun s u => (storeState u w = 4 ∨ storeState u w = 5) ∧ (storeGet u w).taken = 0 ∧ (storeGet u w).clean = false ∧
        (LogRoom s w 19 → Logged u w 0x0A01 (w % 65536) path ((s.clk.now - at_) / 1000 % two64)))

/-! ### Chapter 15: the Logbook, the Bell Board and the Tally -/

/-- From R427 to R433, R435: an event raised or a software record is in its wing's Logbook with the next sequence; a bad
software code sets SWBAD; a flush demanded starts or waits, and ends with its records counted and reported; one of every wing
is demanded, or the message ends UNREACHABLE; records are read by writer. The model's own choices in it: log entries 164, 165,
279. -/
def Obligations.LogbookRecordsAndFlushes : Prop :=
  (∀ t w code src p0 p1, Does (.eventRaise t w code src p0 p1)
      (fun s => w < s.part.wings ∧ 1 ≤ code ∧ code ≤ 0x0FFF ∧ LogRoom s w 1)
      fun s u => Logged u w code (src % 65536) (p0 % two64) (p1 % two64) ∧ (logGet u w).last = seqNext (logGet s w).last) ∧
  (∀ t w v, Does (.logSwraise t w v)
      (fun s => w < s.part.wings ∧ 0xF000 ≤ bits v.toNat 31 16 ∧ LogRoom s w 1)
      fun s u => Logged u w (bits v.toNat 31 16) (bits v.toNat 15 0) (regGet s (logSwp w 0)).toNat (regGet s (logSwp w 1)).toNat) ∧
  (∀ t w v, Does (.logSwraise t w v) (fun s => w < s.part.wings ∧ bits v.toNat 31 16 < 0xF000)
      fun s u => regF u (logStat w) 2 2 = 1 ∧ u.log = s.log) ∧
  (∀ t w, Does (.logbookFlush t w)
      (fun s => w < s.part.wings ∧ s.log.active = none ∧ s.log.queue = [] ∧ gateOpen s w = true ∧ s.power.fail = none ∧
        (energyCheck w 3 (obj s 0x0C003500 * flushTime (logGet s w).unflushed) s).1 = true)
      fun s u => u.log.active = some { wing := w, at_ := s.clk.now, sent := 0 } ∧ u.log.queue = [] ∧
        regF u (logStat w) 0 0 = 1 ∧ regF u (logCtl w) 0 0 = 1) ∧
  (∀ t w, Does (.logbookFlush t w)
      (fun s => w < s.part.wings ∧ s.log.queue = [] ∧ (∃ f, s.log.active = some f ∧ f.wing ≠ w) ∨
        w < s.part.wings ∧ s.log.queue = [] ∧ s.log.active = none ∧ gateOpen s w = false)
      fun s u => u.log.queue = [{ wing := w, at_ := s.clk.now, sent := 0 }] ∧ u.log.active = s.log.active ∧
        regF u (logCtl w) 0 0 = 1) ∧
  (∀ t w f, Does (.logbookFlush t w) (fun s => w < s.part.wings ∧ s.log.active = some f ∧ f.wing = w) fun s u => u = s) ∧
  (∀ t w f n, w < 8 → f.wing = w → Does (.flushComplete t)
      (fun s => s.log.active = some f ∧ n = (logGet s w).unflushed ∧ n ≤ (logGet s w).recs.length ∧
        (logGet s w).recs.length + 2 ≤ 4096 ∧ f.at_ + flushTime (f.sent + n) ≤ s.clk.now)
      fun s u => cntGet u w 195 = (cntGet s w 195 + n) % two64 ∧
        Logged u w 0x0E01 w ((f.sent + n) % two64)
          ((((logGet s w).recs.take n).head?.map (·.seq)).getD (logGet s w).flushed % two64)) ∧
  (∀ t, Does (.flushComplete t)
      (fun s => (s.log.active = none ∧ s.log.queue = []) ∨
        ∃ f, s.log.active = some f ∧ s.clk.now < f.at_ + flushTime (f.sent + (logGet s f.wing).unflushed))
      fun s u => u = s) ∧
  (∀ t via, Does (.flushEveryWingNow t via)
      (fun s => reaches s via 0x0E000200 = true ∧ ∀ w, w < s.part.wings → errs s 0 (logCtl w) true = false)
      fun s u => Answered u via 0x0E000200 stDONE ∧ ∀ w, w < s.part.wings → regF u (logCtl w) 0 0 = 1) ∧
  (∀ t via, Does (.flushEveryWingNow t via)
      (fun s => reaches s via 0x0E000200 = true ∧ ∃ w, w < s.part.wings ∧ errs s 0 (logCtl w) true = true)
      fun _ u => Answered u via 0x0E000200 stUNREACHABLE) ∧
  (∀ t via x, Does (.readRecordsFromMram t via x)
      (fun s => reaches s via 0x0E001000 = true ∧ x / 2 ^ 32 ≤ 8 ∧ srOpen s = true)
      fun s u => AnsweredBody u via 0x0E001000 stDONE (recordsBody ((((mramLog s (x / 2 ^ 32)).filter
        (fun r => notBeforeW 32 r.seq x)).reverse.take 32).map recBytes)) ∧ u.log = s.log) ∧
  (∀ t via x, Does (.readRecordsFromMram t via x) (fun s => reaches s via 0x0E001000 = true ∧ 8 < x / 2 ^ 32)
      fun s u => Answered u via 0x0E001000 stRANGE ∧ u.log = s.log) ∧
  (∀ t via x, Does (.readRecordsFromMram t via x)
      (fun s => reaches s via 0x0E001000 = true ∧ x / 2 ^ 32 ≤ 8 ∧ srOpen s = false)
      fun s u => Answered u via 0x0E001000 stUNREACHABLE ∧ u.log = s.log)

/-- From R436 to R442: a source sets its flag and is delivered where it is routed; software doorbells and routes are written, a
route enabled while its flag is 1 delivering; a W1C leaves set what hardware sets in the same FCLK; a strongroom source reaches
the carrying gate or is held; a returned path delivers; a freeze is armed or refused, after those whose instant has come, and
latches the wing's counters at its instant; a software counter is added to. The model's own choices in it: log entries 162,
163, 278, 280. -/
def Obligations.BellsRingAndTallyFreezes : Prop :=
  (∀ t w k, Does (.bellBoardDelivery t w k) (fun s => sourcePresent s w k = true)
      fun s u => regF u (flagOf w k).1 (flagOf w k).2 (flagOf w k).2 = 1 ∧ u.log = s.log) ∧
  (∀ t w k tw, Does (.bellBoardDelivery t w k)
      (fun s => sourcePresent s w k = true ∧ regF s (flagOf w k).1 (flagOf w k).2 (flagOf w k).2 = 0 ∧
        bits (regGet s (bbRoute w k)).toNat 15 15 = 1 ∧ tw = bits (regGet s (bbRoute w k)).toNat 10 8 ∧ tw < s.part.wings ∧
        bit s.mode.parked tw = false ∧ s.power.graced = false ∧ pathUp s w tw = true)
      fun s u => if released s tw 5 then cntGet u w 192 = (cntGet s w 192 + 1) % two64 ∧
          ∃ d ∈ u.bell.going, d.wing = w ∧ d.source = k ∧ d.target = tw ∧ d.at_ = s.clk.now ∧
            s.clk.now + bellTime w tw s.clk.now ≤ d.arrive
        else cntGet u w 193 = (cntGet s w 193 + 1) % two64 ∧ (w, k) ∈ u.bell.undeliv) ∧
  (∀ t w v i, i < 64 → Does (.bbSwset t w v) (fun s => w < s.part.wings)
      fun s u => regF u (bbStat w 1) i i = if bit v.toNat i then 1 else regF s (bbStat w 1) i i) ∧
  (∀ t w k v, k < 128 → Does (.bbRouteWrite t w k v) (fun s => w < s.part.wings)
      fun _ u => regGet u (bbRoute w k) = v &&& 0x8707) ∧
  (∀ t w k v, w < 2 → k < 32 → Does (.bbRouteWrite t w (128 + k) v) (fun s => w < s.part.wings)
      fun _ u => regGet u (bbSrroute w k) = v &&& 0x8707) ∧
  (∀ t w k v tw, k < 128 → bit v.toNat 15 = true → tw = bits v.toNat 10 8 → Does (.bbRouteWrite t w k v)
      (fun s => w < s.part.wings ∧ sentNow s w k = false ∧ regF s (bbRoute w k) 15 15 = 0 ∧
        regF s (flagOf w k).1 (flagOf w k).2 (flagOf w k).2 = 1 ∧ tw < s.part.wings ∧ bit s.mode.parked tw = false ∧
        s.power.graced = false ∧ pathUp s w tw = true ∧ released s tw 5 = true)
      fun s u => cntGet u w 192 = (cntGet s w 192 + 1) % two64 ∧ ∃ d ∈ u.bell.going, d.wing = w ∧ d.source = k ∧ d.target = tw) ∧
  (∀ t w bank v hw, bank < 2 → Does (.bbFlagClear t w bank v hw) (fun s => w < s.part.wings)
      fun s u => regGet u (bbStat w bank) = (regGet s (bbStat w bank) &&& ~~~v) ||| hw) ∧
  (∀ t w v hw, w < 2 → Does (.bbFlagClear t w 2 v hw) (fun s => w < s.part.wings)
      fun s u => regGet u (bbSrstat w) = (regGet s (bbSrstat w) &&& ~~~v) ||| (hw &&& 0xFFFFFFFF)) ∧
  (∀ t k g, k < 32 → Does (.strongroomSourceArrival t k)
      (fun s => (∃ x ∈ s.bell.srGoing, x.1 = k ∧ x.2 ≤ s.clk.now) ∧ s.sr.carrying = some g)
      fun s u => regF u (bbSrstat g) k k = 1 ∧ u.bell.srGoing.length + 1 = s.bell.srGoing.length) ∧
  (∀ t k, Does (.strongroomSourceArrival t k)
      (fun s => (∃ x ∈ s.bell.srGoing, x.1 = k ∧ x.2 ≤ s.clk.now) ∧ s.sr.carrying = none)
      fun s u => u.bell.srHeld = s.bell.srHeld ++ [k] ∧ u.bell.srGoing.length + 1 = s.bell.srGoing.length ∧ u.regs = s.regs) ∧
  (∀ t k, Does (.strongroomSourceArrival t k) (fun s => ∀ x ∈ s.bell.srGoing, x.1 = k → s.clk.now < x.2) fun s u => u = s) ∧
  (∀ t w, Does (.pathReturnDelivery t w) (fun _ => True)
      fun s u => u.bell.undeliv = s.bell.undeliv.filter (fun x => !(x.1 == w && deliverable s w x.2)) ∧ u.regs = s.regs) ∧
  (∀ t w k, Does (.pathReturnDelivery t w)
      (fun s => s.bell.undeliv = [(w, k)] ∧ deliverable s w k = true ∧
        regF s (flagOf w k).1 (flagOf w k).2 (flagOf w k).2 = 1 ∧ (routeOf s w k).1 = 1 ∧ s.power.graced = false)
      fun s u => cntGet u w 192 = (cntGet s w 192 + 1) % two64 ∧
        ∃ d ∈ u.bell.going, d.wing = w ∧ d.source = k ∧ d.at_ = s.clk.now) ∧
  (∀ t w v, DoesFrom freezesFire (.talFrzAtWrite t w v)
      (fun s => w < s.part.wings ∧ notBeforeW 64 (ptimeNs s + 10000) v.toNat = false)
      fun _ u => tabGet none u.tally.armed w = some v.toNat ∧ regGet u (talFrzAt w) = v ∧ regF u (talFrzStat w) 0 0 = 1) ∧
  (∀ t w v, DoesFrom freezesFire (.talFrzAtWrite t w v)
      (fun s => w < s.part.wings ∧ notBeforeW 64 (ptimeNs s + 10000) v.toNat = true)
      fun s u => regF u (talFrzStat w) 1 1 = 1 ∧ u.tally = s.tally ∧
        (LogRoom s w 1 → Logged u w 0x0F02 (w % 65536) (w % two64) v.toNat)) ∧
  (∀ t via p, Does (.armAFreezeOnEveryWing t via p)
      (fun s => reaches s via 0x0F000100 = true ∧ notBeforeW 64 (ptimeNs s + 10000) (p % two64) = false ∧
        notBeforeW 64 (ptimeNs s) (p % two64) = false ∧ ∀ w, w < s.part.wings → errs s 0 (talFrzAt w) true = false)
      fun s u => Answered u via 0x0F000100 stDONE ∧ ∀ w, w < s.part.wings → tabGet none u.tally.armed w = some (p % two64)) ∧
  (∀ t via p, Does (.armAFreezeOnEveryWing t via p)
      (fun s => reaches s via 0x0F000100 = true ∧ ∃ w, w < s.part.wings ∧ errs s 0 (talFrzAt w) true = true)
      fun _ u => Answered u via 0x0F000100 stUNREACHABLE) ∧
  (∀ t w p, Does (.freezeLatch t)
      (fun s => w < s.part.wings ∧ tabGet none s.tally.armed w = some p ∧ notBeforeW 64 (ptimeNs s) p = true ∧
        released s w 4 = true)
      fun s u => tabGet none u.tally.armed w = none ∧ tabGet 0 u.tally.seq w = tabGet 0 s.tally.seq w + 1 ∧
        (∀ i, i < 200 → tabGet 0 u.tally.frz (w * 512 + i) = cntGet s w i) ∧
        cntGet u w 199 = (cntGet s w 199 + 1) % two64 ∧ regF u (talFrzStat w) 0 0 = 0) ∧
  (∀ t w v, Does (.talSwinc t w v) (fun s => w < s.part.wings)
      fun s u => cntGet u w (448 + bits v.toNat 37 32) = (cntGet s w (448 + bits v.toNat 37 32) + bits v.toNat 31 0) % two64 ∧
        u.tally = s.tally)

/-! ### Chapter 13: supplies, power-fail, resets and the start -/

/-- From R369, R370, R372 to R378, R478: rails trip and come back; VANA and the strongroom's supply; power-fail is
declared, its grace ends, each wing's flush starts in turn or ends with the wing quiet and its records written or counted lost,
and recovery is a warm start with cause 7; the usable energy is published. The model's own choices in it: log entries 189, 190,
191. -/
def Obligations.PowerFailRunsItsCourse : Prop :=
  (∀ t rail, rail < 7 → Does (.railTrip t rail) (fun _ => True)
      fun _ u => AfterReset { cause := 0, cold := true, wing := 0 } u ∧ u.power.railsOut = true) ∧
  (∀ t rail, rail < 7 → Does (.railTrip t rail) (fun s => s.power.fail = none ∧ s.power.quiet = 0)
      fun s u => obj u 0x0C005000 = ((List.range s.part.wings).map (fun w => (logGet s w).unflushed)).sum) ∧
  (∀ r u w p n, AfterReset r u → r.cold = true → w < u.part.wings →
      pinState u w (.airTxen p) = .low ∧ pinState u w (.airLvds p) = .highZ ∧ pinState u w .rgmii = .highZ ∧
      pinState u w (.gpio n) = .highZ ∧ pinState u w .nandCe = .high ∧ pinState u w .nandWp = .low ∧
      pinState u w .rstn = .low ∧ pinState u w .rstoutn = .low) ∧
  (∀ t, Does (.wingRailsInRange t) (fun s => s.power.railsOut = true)
      fun s u => u.power = { s.power with railsOut := false, resetAt := s.clk.now } ∧ u.regs = s.regs) ∧
  (∀ t, Does (.vanaTrip t) (fun _ => True) fun _ u => u.sr.metro = false ∧ u.sr.feeds = []) ∧
  (∀ t, Does (.vanaReturn t) (fun s => s.sr.onVbak = false ∧ s.sr.metro = false)
      fun s u => u.sr.metro = true ∧ u.sr.discard = 640 ∧ u.sr.c0 = s.clk.now ∧ u.sr.sample = 0) ∧
  (∀ t, Does (.vanaReturn t) (fun s => s.sr.onVbak = true ∨ s.sr.metro = true) fun s u => u = s) ∧
  (∀ t, Does (.strongroomPowerLost t) (fun _ => True)
      fun _ u => srUp u 0 = false ∧ srUp u 1 = false ∧ u.sr.onVbak = true ∧ u.sr.vsr = 0 ∧ u.sr.metro = false) ∧
  (∀ t since, Does (.powerFailDeclared t since)
      (fun s => s.power.fail = none ∧ since + obj s 0x0C001000 * 1000 ≤ s.clk.now)
      fun s u => u.clk.now = nextMultiple s.clk.now 64 ∧ u.power.fail = some u.clk.now ∧ u.power.graced = false ∧
        u.power.quiet = 0 ∧ u.power.quiesce = none ∧ u.power.pfLow = true ∧
        ∀ w, w < s.part.wings → regF u (bbStat w 0) 25 25 = 1) ∧
  (∀ t since, Does (.powerFailDeclared t since)
      (fun s => s.power.fail.isSome = true ∨ s.clk.now < since + obj s 0x0C001000 * 1000)
      fun s u => u.power = { s.power with pfLow := true, pfAt := since } ∧ u.regs = s.regs) ∧
  (∀ t, Does (.thermalTrip t) (fun _ => True)
      fun s u => u.power.thermal = true ∧ u.power.fail = some (s.power.fail.getD s.clk.now)) ∧
  (∀ t, Does (.junctionBelowRecover t) (fun s => s.power.thermal = true)
      fun s u => u.power.thermal = false ∧ u.power.resetAt = s.clk.now ∧ u.power.held =
        if s.power.fail.isSome then some { cause := 4, cold := true, wing := 0 } else s.power.held) ∧
  (∀ t d, Does (.graceEnd t)
      (fun s => s.power.fail = some d ∧ s.power.graced = false ∧ d + obj s 0x0C001200 * 1000 ≤ s.clk.now)
      fun s u => u.power.graced = true ∧ u.mode.parked = 2 ^ s.part.wings - 1 ∧ u.audit.close = none ∧ u.audit.ident = [] ∧
        ∀ pn, pn < 2 * s.part.wings → (portGet u pn).smpclk = false) ∧
  (∀ t w, Does (.powerFailFlush t w)
      (fun s => s.power.flush = none ∧ s.power.graced = true ∧ w = s.power.quiet ∧ w < s.part.wings ∧ opsBegun s = 0 ∧
        released s w 4 = true ∧ s.power.noFlush = false ∧ s.sr.carrying.isSome = true ∧
        obj s 0x0C003500 * flushTime (logGet s w).unflushed ≤ usableEnergy s w * 1000000)
      fun s u => u.power.flush = some (w, s.clk.now + flushTime (logGet s w).unflushed)) ∧
  (∀ t w, Does (.powerFailFlush t w)
      (fun s => s.power.flush = none ∧ s.power.graced = true ∧ w = s.power.quiet ∧ w < s.part.wings ∧ opsBegun s = 0 ∧
        released s w 4 = true ∧ s.power.noFlush = false ∧ s.sr.carrying.isSome = true ∧ LogRoom s w 1 ∧
        usableEnergy s w * 1000000 < obj s 0x0C003500 * flushTime (logGet s w).unflushed ∧ energyWaived s w = true)
      fun s u => u.power.flush = some (w, s.clk.now + flushTime ((logGet s w).unflushed + 1)) ∧
        Logged u w 0x0C04 (w % 65536) 3 (usableEnergy s w % two64)) ∧
  (∀ t w, Does (.powerFailFlush t w)
      (fun s => s.power.flush = none ∧ s.power.graced = true ∧ w = s.power.quiet ∧ w + 1 < s.part.wings ∧ opsBegun s = 0 ∧
        (released s w 4 = false ∨ s.power.noFlush = true ∨ s.sr.carrying = none ∨
          (usableEnergy s w * 1000000 < obj s 0x0C003500 * flushTime (logGet s w).unflushed ∧ energyWaived s w = false)))
      fun s u => u.power.quiet = w + 1 ∧ u.power.flush = none ∧ regF u (porStat w) 6 3 = 0 ∧
        (released s w 4 = true → (logGet u w).unflushed = 0 ∧ u.power.lost = s.power.lost + (logGet s w).unflushed)) ∧
  (∀ t w e, Does (.powerFailFlush t w)
      (fun s => s.power.flush = some (w, e) ∧ e ≤ s.clk.now ∧ w + 1 < s.part.wings ∧
        (logGet s w).unflushed ≤ (logGet s w).recs.length)
      fun s u => u.power.quiet = w + 1 ∧ u.power.flush = none ∧ regF u (porStat w) 6 3 = 0 ∧ (logGet u w).unflushed = 0 ∧
        if s.sr.carrying.isSome then cntGet u w 195 = (cntGet s w 195 + (logGet s w).unflushed) % two64
        else u.power.lost = s.power.lost + (logGet s w).unflushed) ∧
  (∀ t w e, Does (.powerFailFlush t w)
      (fun s => s.power.flush = some (w, e) ∧ e ≤ s.clk.now ∧ w + 1 = s.part.wings)
      fun s u => match s.power.held with
        | some r => AfterReset r u
        | none => if s.power.thermal then AfterReset { cause := 4, cold := true, wing := 0 } u
            else u.power.quiet = w + 1 ∧ u.power.flush = none ∧ u.power.fail = s.power.fail ∧ regF u (porStat w) 6 3 = 0) ∧
  (∀ t since, Does (.powerFailRecovery t since)
      (fun s => s.power.fail.isSome = true ∧ s.part.wings ≤ s.power.quiet ∧ since + obj s 0x0C001100 * 1000000 ≤ s.clk.now)
      fun _ u => AfterReset { cause := 7, cold := false, wing := 0 } u ∧ u.power.pfLow = false) ∧
  (∀ t since, Does (.powerFailRecovery t since)
      (fun s => s.power.fail = none ∨ s.power.quiet < s.part.wings ∨ s.clk.now < since + obj s 0x0C001100 * 1000000)
      fun s u => u = { s with power := { s.power with pfLow := false, pfAt := since } }) ∧
  (∀ t mv k, Does (.holdupPublish t mv) (fun s => srReach s = some k)
      fun s u => ∀ w, w < s.part.wings →
        if pathUp s (k % 2) w then tabGet 0 u.power.heldAt w = s.clk.now + 1 ∧
          regF u (porHoldup w) 55 0 = energyOfBank s mv % 2 ^ 56
        else tabGet 0 u.power.heldAt w = tabGet 0 s.power.heldAt w ∧ regF u (porHoldup w) 55 0 = regF s (porHoldup w) 55 0) ∧
  (∀ t mv, Does (.holdupPublish t mv) (fun s => srReach s = none) fun s u => u = s)

/-- From R379 to R386, R388 to R397: a warm reset asked for quiesces, a cold one is at once, either is held during a
power-fail; the quiesce ends in the reset; a wing whose PLL loses lock restarts alone; domains are released in order, D4 giving
the wing its timebases and D5 its cores, and the start completes; DRAM training, the Option Words, the image's hash and the held
pin groups. The model's own choices in it: log entries 175 to 178, 182 to 188, 192, 274. -/
def Obligations.ResetsAndTheStart : Prop :=
  (∀ t w, Does (.warm t w) (fun s => w < s.part.wings ∧ s.power.fail = none ∧ s.power.quiesce = none)
      fun s u => Quiesces { cause := 2, cold := false, wing := w } s u) ∧
  (∀ t w, Does (.warm t w) (fun s => w < s.part.wings ∧ s.power.fail.isSome = true)
      fun s u => u.power = { s.power with held := some { cause := 2, cold := false, wing := w } } ∧ u.regs = s.regs) ∧
  (∀ t w, Does (.warm t w) (fun s => w < s.part.wings ∧ s.power.fail = none ∧ s.power.quiesce.isSome = true)
      fun s u => u = s) ∧
  (∀ t w, Does (.cold t w) (fun s => w < s.part.wings ∧ s.power.fail = none)
      fun _ u => AfterReset { cause := 2, cold := true, wing := w } u) ∧
  (∀ t w, Does (.cold t w) (fun s => w < s.part.wings ∧ s.power.fail.isSome = true)
      fun s u => u.power = { s.power with held := some { cause := 2, cold := true, wing := w } } ∧ u.regs = s.regs) ∧
  (∀ t via, Does (.resetThePart t via 1) (fun s => viaLevel s via = 1 ∧ reaches s via 0x0C010000 = true ∧ s.power.fail = none ∧ s.power.quiesce = none)
      fun s u => Answered u via 0x0C010000 stDONE ∧ Quiesces { cause := 2, cold := false, wing := 0 } s u) ∧
  (∀ t via, Does (.resetThePart t via 2) (fun s => viaLevel s via = 1 ∧ reaches s via 0x0C010000 = true ∧ s.power.fail = none)
      fun _ u => AfterReset { cause := 2, cold := true, wing := 0 } u) ∧
  (∀ t via k, k ≠ 1 → k ≠ 2 → Does (.resetThePart t via k) (fun s => reaches s via 0x0C010000 = true)
      fun s u => Answered u via 0x0C010000 stRANGE ∧ u.power = s.power) ∧
  (∀ t n, Does (.rstnLow t n) (fun s => s.power.fail = none ∧ s.power.quiesce = none ∧ regF s (porOpt 0 0) 24 24 = 0)
      fun s u => Quiesces { cause := 1, cold := false, wing := 0 } s u ∧ u.power.rstn = max s.power.rstn n) ∧
  (∀ t n, Does (.rstnLow t n) (fun s => s.power.fail = none ∧ regF s (porOpt 0 0) 24 24 = 1)
      fun s u => AfterReset { cause := 1, cold := true, wing := 0 } u ∧ u.power.rstn = max s.power.rstn n) ∧
  (∀ t w, Does (.porterWatchdog t w)
      (fun s => w < s.part.wings ∧ regF s (porOpt w 1) 15 0 ≠ 0 ∧ s.power.fail = none ∧ s.power.quiesce = none)
      fun s u => Quiesces { cause := 3, cold := false, wing := w } s u) ∧
  (∀ t w, Does (.porterWatchdog t w) (fun s => regF s (porOpt w 1) 15 0 = 0 ∨ s.power.fail.isSome = true) fun s u => u = s) ∧
  (∀ t r a, Does (.quiesceEnd t) (fun s => s.power.quiesce = some (r, a) ∧ opsBegun s = 0 ∧ a + 10000 ≤ s.clk.now)
      fun _ u => AfterReset r u) ∧
  (∀ t, Does (.quiesceEnd t)
      (fun s => ∀ r a, s.power.quiesce = some (r, a) → opsBegun s ≠ 0 ∨ s.clk.now < a + 10000) fun s u => u = s) ∧
  (∀ t w pll, pll < 4 → Does (.pllLockLost t w pll)
      (fun s => w < s.part.wings ∧ regF s (porStat w) (16 + pll) (16 + pll) = 1 ∧ s.power.fail = none)
      fun _ u => regF u (porStat w) 31 28 = 8 ∧ regF u (porStat w) 39 32 = w % 256 ∧ regF u (porStat w) 6 0 = 1 ∧
        bit u.power.alone w = true) ∧
  (∀ t w pll, pll < 4 → Does (.pllLockLost t w pll)
      (fun s => w < s.part.wings ∧ regF s (porStat w) (16 + pll) (16 + pll) = 0 ∧ s.power.fail = none)
      fun s u => u.power = { s.power with lossAt := tabPut 0 (w * 4 + pll) s.clk.now s.power.lossAt } ∧
        regF u (porStat w) 6 0 = regF s (porStat w) 6 0) ∧
  (∀ t w pll, pll < 4 → Does (.pllLockLost t w pll)
      (fun s => w < s.part.wings ∧ s.power.fail.isSome = true ∧ s.power.flush = none ∧ s.power.quiet ≤ w)
      fun s u => (logGet u w).unflushed = 0 ∧ u.power.lost = s.power.lost + (logGet s w).unflushed) ∧
  (∀ t w k l, Does (.domainRelease t w k l) (fun s => releaseReady s w k l = true)
      fun s u => regF u (porStat w) k k = 1 ∧ tabGet 0 u.power.relAt (w * 8 + k) = s.clk.now + 1 ∧
        (∀ p, domainPll k = some p → k ≠ 4 → regF u (porStat w) (16 + p) (16 + p) = 1)) ∧
  (∀ t w k l, Does (.domainRelease t w k l) (fun s => releaseReady s w k l = false) fun s u => u = s) ∧
  (∀ t w l, Does (.domainRelease t w 4 l) (fun s => releaseReady s w 4 l = true)
      fun s u => tabGet 0 u.clk.tick0 w = s.clk.now ∧ (w < s.mat.reps.length → (replica u w).epoch = s.mat.epoch)) ∧
  (∀ t w l, Does (.domainRelease t w 4 l)
      (fun s => releaseReady s w 4 l = true ∧ bit s.power.alone w = false ∧
        ∀ v, v < s.part.wings → v ≠ w → released s v 4 = false)
      fun s u => u.clk.ptime = s.clk.ltime ∧ u.clk.rate = 0) ∧
  (∀ t w l, Does (.domainRelease t w 6 l)
      (fun s => releaseReady s w 6 l = true ∧ s.power.started = false ∧ ∀ v, v < s.part.wings → v ≠ w → released s v 6 = true)
      fun s u => regF u (porStat w) 6 6 = 1 ∧ u.power.started = true ∧ obj u 0x0C000300 = obj s 0x0C000300 + 1) ∧
  (∀ t, Does (.stretchEnd t)
      (fun s => s.power.driven = true ∧ (∀ w, w < s.part.wings → released s w 6 = true) ∧
        max s.power.resetAt s.power.rstn + max 1 (regF s (porOpt 0 0) 23 16) * 1000000 ≤ s.clk.now)
      fun s u => u.power = { s.power with driven := false } ∧ u.regs = s.regs) ∧
  (∀ t w trcd taa trfc trc, Does (.dramTrainingDone t w true trcd taa trfc trc)
      (fun s => w < s.part.wings ∧ released s w 2 = true ∧ bit s.power.trained w = false ∧ regF s (porStat w) 24 24 = 0 ∧
        ddrWin trfc ≤ 192 ∧ ddrLd s w trcd taa ≤ 208)
      fun s u => bit u.power.trained w = true ∧ tabGet 0 u.power.trainAt w = s.clk.now + 1 ∧
        regF u (ddrTiming w) 23 16 = ddrWin trfc ∧ regF u (ddrTiming w) 8 0 = ddrLd s w trcd taa ∧
        (ddrGet u w).trc = ceilDiv trc 1000) ∧
  (∀ t w ok trcd taa trfc trc, w < 8 → Does (.dramTrainingDone t w ok trcd taa trfc trc)
      (fun s => w < s.part.wings ∧ released s w 2 = true ∧ bit s.power.trained w = false ∧ regF s (porStat w) 24 24 = 0 ∧
        (ok = false ∨ 192 < ddrWin trfc ∨ 208 < ddrLd s w trcd taa) ∧ LogRoom s w 1)
      fun s u => bit u.power.untrained w = true ∧ Logged u w 0x0C23 w w (regF s (porOpt w 2) 11 8)) ∧
  (∀ t w ok trcd taa trfc trc, Does (.dramTrainingDone t w ok trcd taa trfc trc)
      (fun s => released s w 2 = false ∨ bit s.power.trained w = true ∨ regF s (porStat w) 24 24 = 1) fun s u => u = s) ∧
  (∀ t bad c g, DoesFrom (optLost bad) (.optionLoad t bad)
      (fun s => optReady s = true ∧ keeperFree 0 0x0C02 s = true ∧ optPick s = some c ∧ g = s.power.optCopies.getD c [])
      fun s u => u.power.optDone = true ∧ u.power.optAt = some s.clk.now ∧ obj u 0x0C021100 = c ∧ obj u 0x0C021000 = optGen g ∧
        ∀ w i, w < s.part.wings → i < 16 → regGet u (porOpt w i) = BitVec.ofNat 64 (optSane i (g.getD i 0).toNat).1) ∧
  (∀ t bad, DoesFrom (optLost bad) (.optionLoad t bad)
      (fun s => optReady s = true ∧ keeperFree 0 0x0C02 s = true ∧ optPick s = none)
      fun s u => u.power.optDone = true ∧ obj u 0x0C021100 = 2 ∧ obj u 0x0C021000 = 0 ∧
        ∀ w i, w < s.part.wings → i < 16 → regGet u (porOpt w i) = optFused i) ∧
  (∀ t, Does (.optionLoadNoLink t)
      (fun s => released s 0 3 = true ∧ s.power.optDone = false ∧ s.power.optAt = none ∧ s.sr.carrying = none ∧
        relAt s 0 3 + 100000000 ≤ s.clk.now)
      fun s u => u.power.optDone = false ∧ u.power.optAt = some s.clk.now ∧ obj u 0x0C021100 = 2 ∧
        ∀ w i, w < s.part.wings → i < 16 → regGet u (porOpt w i) = optFused i) ∧
  (∀ t via i v, i < 16 → Does (.optionWordSet t via i v)
      (fun s => reaches s via (0x0C020000 + i * 256) = true ∧ noNewOps s = false ∧ srOpen s = true ∧
        noPower s = false ∧ (energyCheck 0 4 (obj s 0x0C004100 * 1000000000) s).1 = true)
      fun s u => Answered u via (0x0C020000 + i * 256) stDONE ∧ u.power.optCopies = (optWrite i v s).power.optCopies) ∧
  (∀ t via i v, i < 16 → Does (.optionWordSet t via i v)
      (fun s => reaches s via (0x0C020000 + i * 256) = true ∧
        (noNewOps s = true ∨ (energyCheck 0 4 (obj s 0x0C004100 * 1000000000) s).1 = false))
      fun s u => Answered u via (0x0C020000 + i * 256) stNOPOWER ∧ u.power = s.power) ∧
  (∀ t hash, Does (.imageHashDone t hash)
      (fun s => released s 0 2 = true ∧ regF s (porStat 0) 24 24 = 1 ∧ s.power.image = none ∧
        relAt s 0 2 + 2000 + ceilDiv (imageBytes s) 16 ≤ s.clk.now)
      fun s u => u.power = { s.power with hash := some (toBe 48 hash) }) ∧
  (∀ t w mask, Does (.releaseHeldPinGroups t none w mask) (fun s => w < s.part.wings)
      fun s u => regF u (porPinhold w) 2 0 = regF s (porPinhold w) 2 0 - (regF s (porPinhold w) 2 0 &&& (mask % 8))) ∧
  (∀ t via w mask, 8 ≤ mask → Does (.releaseHeldPinGroups t (some via) w mask) (fun s => reaches s via 0x0C010100 = true)
      fun s u => Answered u via 0x0C010100 stRANGE ∧ u.log = s.log) ∧
  (∀ t via v mask, mask < 8 → Does (.releaseHeldPinGroups t (some via) v mask)
      (fun s => reaches s via 0x0C010100 = true ∧ ∀ w, w < s.part.wings → errs s 0 (porPinhold w) true = false)
      fun s u => Answered u via 0x0C010100 stDONE ∧ ∀ w, w < s.part.wings →
        regF u (porPinhold w) 2 0 = regF s (porPinhold w) 2 0 - (regF s (porPinhold w) 2 0 &&& mask)) ∧
  (∀ t via v mask, mask < 8 → Does (.releaseHeldPinGroups t (some via) v mask)
      (fun s => reaches s via 0x0C010100 = true ∧ ∃ w, w < s.part.wings ∧ errs s 0 (porPinhold w) true = true)
      fun _ u => Answered u via 0x0C010100 stUNREACHABLE)

/-! ### Chapter 12: sessions, the Concierge, mailboxes -/

/-- From R353 to R357, R361 to R363: a handshake opens the lowest free session at its anchor's level, or one ENGINEER session where
no such anchor is held, or is refused by event 0x0012; a session ends; segments make a message in its place of the queue of 64,
an ACK takes its NOTIFY, a repeated ID is answered again or dropped, an incomplete message is discarded; a mailbox slot's request
waits for D5, is queued, is answered MALFORMED, or sets ERR. The model's own choices in it: log entries 47, 48, 49, 51, 273. -/
def Obligations.MessagesReachTheConcierge : Prop :=
  (∀ t iface src c n, Does (.dtlsHandshake t iface src c)
      (fun s => handshakeWhy s iface c = 0 ∧ (s.upd.shut = false ∨ iface = 8) ∧ (iface < s.part.wings ∨ iface = 8) ∧
        freeSession s = some n ∧ anchorNow s = true)
      fun s u => (sessGet u n).isOpen = true ∧ (sessGet u n).level = obj s (0x0D020100 + c.anchor) ∧ (sessGet u n).iface = iface ∧
        (sessGet u n).subs = [] ∧ (sessGet u n).last = s.clk.now ∧ (∀ k, k ≠ n → sessGet u k = sessGet s k) ∧
        (LogRoom s 0 2 → Logged u 0 0x0010 0 n ((obj s (0x0D020100 + c.anchor) * 256 + iface) % two64) ∧
          (ptimeLocked s = false → Logged u 0 0x0012 0 (src % two64) 4))) ∧
  (∀ t iface src c n, Does (.dtlsHandshake t iface src c)
      (fun s => handshakeWhy s iface c = 0 ∧ (s.upd.shut = false ∨ iface = 8) ∧ (iface < s.part.wings ∨ iface = 8) ∧
        freeSession s = some n ∧ anchorNow s = false)
      fun s u => (sessGet u n).isOpen = true ∧ (sessGet u n).level = 1 ∧ (sessGet u n).iface = iface ∧
        (LogRoom s 0 3 → Logged u 0 0x0015 0 n 0)) ∧
  (∀ t iface src c, Does (.dtlsHandshake t iface src c)
      (fun s => handshakeWhy s iface c ≠ 0 ∧ (s.upd.shut = false ∨ iface = 8) ∧ (iface < s.part.wings ∨ iface = 8) ∧ LogRoom s 0 1)
      fun s u => Logged u 0 0x0012 0 (src % two64) (handshakeWhy s iface c) ∧ u.emp = s.emp) ∧
  (∀ t iface src c, iface ≠ 8 → Does (.dtlsHandshake t iface src c)
      (fun s => s.upd.shut = true ∨ s.part.wings ≤ iface) fun s u => u = s) ∧
  (∀ t n why, Does (.sessionEnd t n why)
      (fun s => (sessGet s n).isOpen = true ∧ (why = 1 ∨ why = 3 ∨
        (why = 2 ∧ (sessGet s n).last + obj s 0x0D020200 * 1000000000 ≤ s.clk.now)))
      fun s u => sessGet u n = sessionDefault ∧ (∀ k, k ≠ n → sessGet u k = sessGet s k) ∧
        u.emp.queue = s.emp.queue.filter (fun m => m.via != .session n) ∧
        (LogRoom s 0 1 → Logged u 0 0x0011 0 (n % two64) why)) ∧
  (∀ t n g, n < 16 → g.kind = 6 → segmentOk g = true → Does (.segmentReceive t n g)
      (fun s => (sessGet s n).isOpen = true)
      fun s u => sessGet u n = { sessGet s n with
          unacked := (sessGet s n).unacked.filter (fun y => y.seq != g.reqId), last := s.clk.now } ∧
        u.emp.queue = s.emp.queue) ∧
  (∀ t n g r, n < 16 → (g.kind ≠ 6 ∨ segmentOk g = false) → Does (.segmentReceive t n g)
      (fun s => (sessGet s n).isOpen = true ∧ (sessGet s n).stored.find? (fun r => r.reqId == g.reqId) = some r)
      fun s u => u.emp.reply = some { via := some (.session n), reqId := r.reqId, obj := r.obj, status := r.status,
                                      body := r.body } ∧
        u.emp.queue = s.emp.queue ∧ sessGet u n = { sessGet s n with last := s.clk.now }) ∧
  (∀ t n g, n < 16 → (g.kind ≠ 6 ∨ segmentOk g = false) → Does (.segmentReceive t n g)
      (fun s => (sessGet s n).isOpen = true ∧ (∀ r ∈ (sessGet s n).stored, r.reqId ≠ g.reqId) ∧
        ∃ m ∈ s.emp.queue, m.via = .session n ∧ m.reqId = g.reqId)
      fun s u => u.emp.queue = s.emp.queue ∧ u.emp.reply = s.emp.reply ∧
        sessGet u n = { sessGet s n with last := s.clk.now }) ∧
  (∀ t n g, n < 16 → g.kind ≠ 6 → segmentOk g = true → g.count = 1 → Does (.segmentReceive t n g)
      (fun s => (sessGet s n).isOpen = true ∧ (∀ r ∈ (sessGet s n).stored, r.reqId ≠ g.reqId) ∧
        (∀ p ∈ (sessGet s n).parts, p.reqId ≠ g.reqId) ∧ s.emp.queue.length < 64 ∧
        ∀ m ∈ s.emp.queue, m.via ≠ .session n ∨ m.reqId ≠ g.reqId)
      fun s u => if 1 ≤ g.kind ∧ g.kind ≤ 5 then
          u.emp.queue = msgInsert { via := .session n, reqId := g.reqId, kind := g.kind, obj := g.object,
                                    flags := g.flags, body := g.body, at_ := s.clk.now } s.emp.queue
        else Answered u (.session n) g.object stMALFORMED ∧ u.emp.queue = s.emp.queue) ∧
  (∀ t n g, n < 16 → g.kind ≠ 6 → segmentOk g = true → 1 < g.count → Does (.segmentReceive t n g)
      (fun s => (sessGet s n).isOpen = true ∧ (∀ r ∈ (sessGet s n).stored, r.reqId ≠ g.reqId) ∧
        (∀ p ∈ (sessGet s n).parts, p.reqId ≠ g.reqId) ∧ ∀ m ∈ s.emp.queue, m.via ≠ .session n ∨ m.reqId ≠ g.reqId)
      fun s u => u.emp.queue = s.emp.queue ∧
        (sessGet u n).parts = (sessGet s n).parts ++ [{ reqId := g.reqId, kind := g.kind, count := g.count, obj := g.object,
                                                        flags := g.flags, segs := [(g.index, g.body)], since := s.clk.now }]) ∧
  (∀ t n g p l, n < 16 → 1 ≤ g.kind → g.kind ≤ 5 → segmentOk g = true → Does (.segmentReceive t n g)
      (fun s => (sessGet s n).isOpen = true ∧ (∀ r ∈ (sessGet s n).stored, r.reqId ≠ g.reqId) ∧
        (sessGet s n).parts.find? (fun p => p.reqId == g.reqId) = some p ∧ segmentFits p g = true ∧
        l = tabIns g.index g.body p.segs ∧ l.length = p.count ∧ (l.flatMap (·.2)).length ≤ 65600 ∧ s.emp.queue.length < 64 ∧
        ∀ m ∈ s.emp.queue, m.via ≠ .session n ∨ m.reqId ≠ g.reqId)
      fun s u => u.emp.queue = msgInsert { via := .session n, reqId := g.reqId, kind := g.kind, obj := g.object,
                                           flags := g.flags, body := l.flatMap (·.2), at_ := s.clk.now } s.emp.queue ∧
        (sessGet u n).parts = (sessGet s n).parts.filter (fun q => q.reqId != g.reqId)) ∧
  (∀ t n g, n < 16 → 1 ≤ g.kind → g.kind ≤ 5 → segmentOk g = true → g.count = 1 → Does (.segmentReceive t n g)
      (fun s => (sessGet s n).isOpen = true ∧ (∀ r ∈ (sessGet s n).stored, r.reqId ≠ g.reqId) ∧
        (∀ p ∈ (sessGet s n).parts, p.reqId ≠ g.reqId) ∧ s.emp.queue.length = 64 ∧
        ∀ m ∈ s.emp.queue, m.at_ < s.clk.now ∧ (m.via ≠ .session n ∨ m.reqId ≠ g.reqId))
      fun s u => Answered u (.session n) g.object stBUSY ∧ u.emp.queue = s.emp.queue) ∧
  (∀ t n g, n < 16 → Does (.segmentReceive t n g)
      (fun s => (segmentOk g = false ∨ (g.kind ≠ 6 ∧
          ∃ p, (sessGet s n).parts.find? (fun p => p.reqId == g.reqId) = some p ∧ segmentFits p g = false)) ∧
        (sessGet s n).isOpen = true ∧ (∀ r ∈ (sessGet s n).stored, r.reqId ≠ g.reqId) ∧
        ∀ m ∈ s.emp.queue, m.via ≠ .session n ∨ m.reqId ≠ g.reqId)
      fun s u => Answered u (.session n) g.object stMALFORMED ∧ u.emp.queue = s.emp.queue ∧
        (sessGet u n).parts = (sessGet s n).parts.filter (fun q => q.reqId != g.reqId)) ∧
  (∀ t n i p, Does (.incomplete t n i)
      (fun s => (sessGet s n).parts.find? (fun p => p.reqId == i && decide (p.since + 2000000000 ≤ s.clk.now)) = some p)
      fun s u => Answered u (.session n) p.obj stINCOMPLETE ∧
        (sessGet u n).parts = (sessGet s n).parts.filter (fun q => q.reqId != i)) ∧
  (∀ t w k, k < 4 → Does (.mailboxGo t w k)
      (fun s => w < s.part.wings ∧ (released s 0 5 = false ∨ ∃ m ∈ s.emp.queue, m.via = .mailbox w k))
      fun s u => regF u (mbxCtl w) k k = 1 ∧ u.emp = s.emp) ∧
  (∀ t w k a n b, k < 4 → 16 ≤ n → n ≤ 65616 → Does (.mailboxGo t w k)
      (fun s => w < s.part.wings ∧ released s 0 5 = true ∧ (∀ m ∈ s.emp.queue, m.via ≠ .mailbox w k) ∧
        s.emp.queue.length < 64 ∧ a = regF s (mbxReq w k) 63 6 * 64 ∧ n = regF s (mbxLen w k) 31 0 ∧
        dramIn s w (regF s (mbxRsp w k) 63 6 * 64) 65616 = true ∧ dramIn s w a n = true ∧ b = dramRead s a n ∧
        beAt b 0 1 = 1 ∧ beAt b 2 2 = 1 ∧ 1 ≤ beAt b 1 1 ∧ beAt b 1 1 ≤ 3 ∧ beAt b 12 2 < 2)
      fun s u => regF u (mbxCtl w) k k = 1 ∧
        u.emp.queue = msgInsert { via := .mailbox w k, reqId := beAt b 4 4, kind := beAt b 1 1, obj := beAt b 8 4,
                                  flags := beAt b 12 2, body := b.drop 16, at_ := s.clk.now } s.emp.queue) ∧
  (∀ t w k a r n b bad, k < 4 → Does (.mailboxGo t w k)
      (fun s => w < s.part.wings ∧ released s 0 5 = true ∧ (∀ m ∈ s.emp.queue, m.via ≠ .mailbox w k) ∧
        a = regF s (mbxReq w k) 63 6 * 64 ∧ n = regF s (mbxLen w k) 31 0 ∧ r = regF s (mbxRsp w k) 63 6 * 64 ∧
        dramIn s w r 65616 = true ∧ dramIn s w a (max 16 (min n 65616)) = true ∧ b = dramRead s a (min n 65616) ∧
        bad = decide (n < 16 ∨ 65616 < n) ∧ (bad = true ∨ beAt b 0 1 ≠ 1 ∨ beAt b 2 2 ≠ 1 ∨ beAt b 1 1 = 0 ∨ 3 < beAt b 1 1 ∨
          2 ≤ beAt b 12 2))
      fun s u => regF u (mbxCtl w) k k = 0 ∧ regF u (mbxStat w) k k = 1 ∧ regF u (mbxLen w k) 63 32 = 16 ∧ u.emp = s.emp ∧
        dramRead u r 16 = [1, 0x81, 0, 1] ++ toBe 4 (if bad then 0 else beAt b 4 4) ++ toBe 4 (if bad then 0 else beAt b 8 4) ++
          toBe 2 stMALFORMED ++ toBe 2 0) ∧
  (∀ t w k, k < 4 → Does (.mailboxGo t w k)
      (fun s => w < s.part.wings ∧ released s 0 5 = true ∧ (∀ m ∈ s.emp.queue, m.via ≠ .mailbox w k) ∧
        (dramIn s w (regF s (mbxRsp w k) 63 6 * 64) 65616 = false ∨
          dramIn s w (regF s (mbxReq w k) 63 6 * 64) (max 16 (min (regF s (mbxLen w k) 31 0) 65616)) = false))
      fun s u => regF u (mbxStat w) (8 + k) (8 + k) = 1 ∧ regF u (mbxCtl w) k k = 0 ∧ u.emp = s.emp ∧ u.dram = s.dram)

/-- From R358 to R360, R363: a GET answers the value or the failing check's status; a SET that passes every check is kept
and one that fails one changes nothing, its fields that cannot be reached leaving what is kept; subscriptions are made and
dropped; NOTIFYs wait at most 256 and at most 16 unacknowledged, are sent again up to three times, then counted lost; an access
that fails is answered UNREACHABLE. The model's own choices in it: log entries 37 to 42. -/
def Obligations.ObjectsAreServed : Prop :=
  (∀ t via n st, Does (.getObj t via n)
      (fun s => viaOpen s via = true ∧ viaFits s n via = true ∧ objChecked s n = (st, none))
      fun s u => AnsweredBody u via n st [] ∧ u.objs = s.objs) ∧
  (∀ t via n st d, Does (.getObj t via n)
      (fun s => viaOpen s via = true ∧ viaFits s n via = true ∧ objChecked s n = (st, some d) ∧ (d.acc = .ro ∨ d.acc = .rw) ∧
        readFails s n = false)
      fun s u => AnsweredBody u via n stDONE (objBytes d n s).1 ∧ u.objs = s.objs ∧ u.octs = s.octs) ∧
  (∀ t via n st d, Does (.getObj t via n)
      (fun s => viaOpen s via = true ∧ viaFits s n via = true ∧ objChecked s n = (st, some d) ∧ (d.acc = .ro ∨ d.acc = .rw) ∧
        readFails s n = true)
      fun s u => AnsweredBody u via n stUNREACHABLE [] ∧ u.objs = s.objs ∧ cntGet u 0 191 = (cntGet s 0 191 + 1) % two64) ∧
  (∀ t via n st d, Does (.getObj t via n)
      (fun s => viaOpen s via = true ∧ viaFits s n via = true ∧ objChecked s n = (st, some d) ∧ d.acc ≠ .ro ∧ d.acc ≠ .rw)
      fun s u => AnsweredBody u via n stACCESS [] ∧ u.objs = s.objs) ∧
  (∀ t via n st d v, n / 1048576 ≠ 0x021 → n / 256 ≠ 0x040020 → n / 256 ≠ 0x040021 → n ≠ 0x04002200 →
    (n / 65536 ≠ 0x0C02 ∨ 0x210 ≤ objIdx n) → Does (.setObj t via n v)
      (fun s => viaOpen s via = true ∧ viaFits s n via = true ∧ loaderHides s n false = false ∧ objChecked s n = (st, some d) ∧
        (d.acc = .rw ∨ d.acc = .wo) ∧ (d.lev = .engineer ∨ d.lev = .operator) ∧ (d.lev = .engineer → viaLevel s via = 1) ∧
        widthOk d v = true ∧ objInRange d v = true ∧ setRange n v s = true)
      fun s u => if srOpen s = false ∨ noPower s = true
        then Answered u via n (if srOpen s then stNOPOWER else stUNREACHABLE) ∧ u.objs = s.objs ∧ u.octs = s.octs
        else obj u n = obj (objKeep d n v s) n ∧ oct u n = oct (objKeep d n v s) n ∧
          Answered u via n (if (objFields s n).all (fun f => !errs s 0 f.1 true) then stDONE else stUNREACHABLE)) ∧
  (∀ t via n st d v x, Does (.setObj t via n v)
      (fun s => viaOpen s via = true ∧ viaFits s n via = true ∧ loaderHides s n false = false ∧ objChecked s n = (st, some d) ∧
        firstFail [(decide (d.acc = .rw ∨ d.acc = .wo), stACCESS),
          (decide (d.lev ≠ .factory) && (decide (d.lev ≠ .engineer) || viaLevel s via == 1), stLEVEL),
          (widthOk d v, stTYPE), (objInRange d v && setRange n v s, stRANGE), (decide (d.lev ≠ .legal), stAUTH)] = some x)
      fun s u => Answered u via n x ∧ u.objs = s.objs ∧ u.octs = s.octs) ∧
  (∀ t via n st v, Does (.setObj t via n v)
      (fun s => viaOpen s via = true ∧ viaFits s n via = true ∧ loaderHides s n false = false ∧ objChecked s n = (st, none))
      fun s u => Answered u via n st ∧ u.objs = s.objs ∧ u.octs = s.octs) ∧
  (∀ t n o b, Does (.subscribe t n o b)
      (fun s => (sessGet s n).isOpen = true ∧ viaOpen s (.session n) = true ∧
        firstFail (subChecks n o (objChecked s o).2 b s) = none)
      fun s u => AnsweredBody u (.session n) o stDONE (toBe 2 ((sessGet s n).nextSub % 65536)) ∧
        (sessGet u n).subs.length = (sessGet s n).subs.length + 1 ∧
        (sessGet u n).subs.getLast?.map (·.id) = some ((sessGet s n).nextSub % 65536)) ∧
  (∀ t n o b x, Does (.subscribe t n o b)
      (fun s => viaOpen s (.session n) = true ∧ firstFail (subChecks n o (objChecked s o).2 b s) = some x)
      fun s u => Answered u (.session n) o x ∧ (sessGet u n).subs = (sessGet s n).subs) ∧
  (∀ t n i, Does (.unsubscribe t n i)
      (fun s => viaOpen s (.session n) = true ∧ ∃ y ∈ (sessGet s n).subs, y.id = i)
      fun s u => Answered u (.session n) 0 stDONE ∧ (sessGet u n).subs = (sessGet s n).subs.filter (fun y => y.id != i)) ∧
  (∀ t n i, Does (.unsubscribe t n i)
      (fun s => viaOpen s (.session n) = true ∧ ∀ y ∈ (sessGet s n).subs, y.id ≠ i)
      fun s u => Answered u (.session n) 0 stRANGE ∧ (sessGet u n).subs = (sessGet s n).subs) ∧
  (∀ t n i, Does (.ack t n i) (fun s => (sessGet s n).isOpen = true)
      fun s u => let l := (sessGet s n).unacked.filter (fun y => y.seq != i)
        match (sessGet s n).queue with
        | [] => (sessGet u n).unacked = l
        | y :: ys => if 16 ≤ l.length then (sessGet u n).unacked = l ∧ (sessGet u n).queue = y :: ys
            else (sessGet u n).queue = ys ∧
              (sessGet u n).unacked.map (·.seq) = l.map (·.seq) ++ [(sessGet s n).seq + 1]) ∧
  (∀ t n, Does (.notify t n) (fun s => (sessGet s n).isOpen = true)
      fun s u => (sessGet u n).queue.length ≤ 256 ∧ (sessGet u n).unacked.length ≤ max 16 (sessGet s n).unacked.length) ∧
  (∀ t n y, Does (.notify t n)
      (fun s => (sessGet s n).isOpen = true ∧ (sessGet s n).subs = [] ∧ (sessGet s n).queue = [y] ∧
        (sessGet s n).unacked.length < 16)
      fun s u => (sessGet u n).queue = [] ∧ (sessGet u n).seq = (sessGet s n).seq + 1 ∧
        (sessGet u n).unacked.map (·.seq) = (sessGet s n).unacked.map (·.seq) ++ [(sessGet s n).seq + 1]) ∧
  (∀ t n y b, Does (.notify t n)
      (fun s => (sessGet s n).isOpen = true ∧ (sessGet s n).subs = [y] ∧ (subDue s y).1 = [b] ∧ (sessGet s n).queue = [] ∧
        (sessGet s n).unacked.length < 16)
      fun s u => (sessGet u n).subs = [(subDue s y).2] ∧ (sessGet u n).queue = [] ∧
        (sessGet u n).unacked.map (·.sub) = (sessGet s n).unacked.map (·.sub) ++ [b.sub]) ∧
  (∀ t n i y, Does (.notifyRetransmit t n i)
      (fun s => (sessGet s n).unacked.find? (fun y => y.seq == i && decide (y.sentAt + 1000000000 ≤ s.clk.now)) = some y ∧
        y.tries < 3)
      fun s u => (sessGet u n).unacked = (sessGet s n).unacked.map (fun z =>
        if z.seq = i then { z with tries := z.tries + 1, sentAt := s.clk.now } else z)) ∧
  (∀ t n i y, Does (.notifyRetransmit t n i)
      (fun s => (sessGet s n).unacked.find? (fun y => y.seq == i && decide (y.sentAt + 1000000000 ≤ s.clk.now)) = some y ∧
        3 ≤ y.tries ∧ (sessGet s n).queue = [])
      fun s u => (sessGet u n).unacked = (sessGet s n).unacked.filter (fun z => z.seq != i) ∧
        (sessGet u n).lost = (sessGet s n).lost + 1) ∧
  (∀ t via n, Does (.unreachable t via n) (fun s => viaOpen s via = true)
      fun _ u => Answered u via n stUNREACHABLE)

/-! ### Chapter 14: update and keys -/

/-- From R392, R401, R406 to R424: the warm token's check; a download begins, takes chunks, is abandoned and verified, each step
that commits refused without power; the Keeper's requests and their replies; the slot write, the activation and its reset; the
image step of a start loads an ACTIVE whose bundle passes its checks, counts trials, reverts to PREV, takes PREV for an ACTIVE
that fails or finds no slot; the trial's end; a confirmation raises the counter and the mask; Shuttered. The model's own
choices in it: log entries 199 to 218, 275, 276. -/
def Obligations.FirmwareIsTriedAndConfirmed : Prop :=
  (∀ t, Does (.warmTokenCheck t)
      (fun s => srOpen s = true ∧ keeperFree 0 0x0C01 s = true ∧ s.power.hash.isSome = true ∧ s.power.image = none ∧
        s.upd.verdict = none)
      fun s u => u.upd.verdict = some (tokenMatches s) ∧ u.power = s.power ∧
        Replied s u 0 (if tokenMatches s then 0 else stSTATE) [] ∧
        (tokenMatches s = false → LogRoom s 0 1 → Logged u 0 0x0C21 0 (ptrActive (ptr s)) 0)) ∧
  (∀ t, Does (.warmTokenCheck t)
      (fun s => srOpen s = false ∨ keeperFree 0 0x0C01 s = false ∨ s.power.hash = none ∨ s.power.image.isSome = true ∨
        s.upd.verdict.isSome = true) fun s u => u = s) ∧
  (∀ c k, ((∃ t via h, c = Instr.beginDownload t via h) ∧ k = 0x0D06) ∨ ((∃ t via, c = Instr.abandonDownload t via) ∧ k = 0x0D06) ∨
      ((∃ t via, c = Instr.verify t via) ∧ k = 0x0D01) ∨ ((∃ t via, c = Instr.commitTheActivation t via) ∧ k = 0x0D03) →
    Does c (fun s => keeperFree 0 k s = false) fun s u => u = s) ∧
  (∀ t via h, Does (.beginDownload t via h)
      (fun s => keeperFree 0 0x0D06 s = true ∧ mayUpdate s via 0x0D010000 true = true ∧ noPower s = false ∧
        firstCheck (headChecks s h) = none)
      fun s u => Answered u via 0x0D010000 stDONE ∧ dlHeader u = h ∧ u.upd.verified = false ∧ u.upd.chunks = [] ∧
        (∀ c, chunkHeld u c = false) ∧
        (LogRoom s 0 3 → Logged u 0 0x0D01 0 (bunBuild h % two64) (bunLen h % two64))) ∧
  (∀ t via h, Does (.beginDownload t via h)
      (fun s => keeperFree 0 0x0D06 s = true ∧ mayUpdate s via 0x0D010000 true = true ∧
        (noPower s = true ∨ firstCheck (headChecks s h) ≠ none))
      fun s u => Answered u via 0x0D010000 (if noPower s then stNOPOWER else ((firstCheck (headChecks s h)).map (·.2)).getD stDONE) ∧
        u.octs = s.octs ∧ u.upd = s.upd) ∧
  (∀ t via c d, Does (.writeChunk t via c d)
      (fun s => chunkTaken via (chunkStatus c d s) c s = true ∧ s.upd.chunks.any (fun y => y.via == via) = false)
      fun s u => (∃ x ∈ u.upd.chunks, x.c = c ∧ x.via = via) ∧ u.octs = s.octs ∧
        (s.upd.chunks.any (fun y => y.c == c) = false → u.upd.verified = false)) ∧
  (∀ t via c d, Does (.writeChunk t via c d) (fun s => s.upd.chunks.any (fun y => y.via == via) = true) fun s u => u = s) ∧
  (∀ t n o b y, o.blk = some b → o.stream = 4 → o.src = [] →
    Does (.programComplete t 0 true)
      (fun s => opIndex (opEnds s 0 0) (storeGet s 0).ops = some n ∧ (storeGet s 0).ops[n]? = some o ∧ chunkEnding s o.day y ∧
        chunkAnswer s = stDONE)
      fun _ u => chunkHeld u y.c = true ∧ ∀ x ∈ u.upd.chunks, x.c ≠ y.c) ∧
  (∀ t via c d, Does (.writeChunk t via c d)
      (fun s => mayUpdate s via 0x0D010100 true = true ∧ chunkStatus c d s = stDONE ∧ chunkHeld s c = true)
      fun s u => Answered u via 0x0D010100 stDONE ∧ u.upd = s.upd ∧ u.octs = s.octs) ∧
  (∀ t via c d, Does (.writeChunk t via c d)
      (fun s => mayUpdate s via 0x0D010100 true = true ∧ chunkStatus c d s = stDONE ∧ chunkHeld s c = false ∧ s.upd.shut = true ∧
        noPower s = false)
      fun _ u => Answered u via 0x0D010100 stDONE ∧ tabGet [] u.upd.nor c = d ∧ u.upd.verified = false) ∧
  (∀ t via c d, Does (.writeChunk t via c d)
      (fun s => mayUpdate s via 0x0D010100 true = true ∧ chunkStatus c d s ≠ stDONE)
      fun s u => Answered u via 0x0D010100 (chunkStatus c d s) ∧ u.upd = s.upd ∧ u.octs = s.octs) ∧
  (∀ t via, Does (.abandonDownload t via)
      (fun s => keeperFree 0 0x0D06 s = true ∧ mayUpdate s via 0x0D010300 true = true)
      fun s u => if noPower s then Answered u via 0x0D010300 stNOPOWER ∧ u.octs = s.octs ∧ u.upd = s.upd
        else Answered u via 0x0D010300 stDONE ∧ dlHeader u = [] ∧ u.upd.verified = false ∧ u.upd.chunks = []) ∧
  (∀ t via, Does (.verify t via) (fun s => keeperFree 0 0x0D01 s = true ∧ mayUpdate s via 0x0D011000 true = true)
      fun s u => AnsweredBody u via 0x0D011000 (verifyStaged s).2.2
          (reportOf s ((staged s).flatten.take 512) (verifyStaged s)) ∧
        (u.upd.verified = true ↔ (verifyStaged s).1 = 0) ∧
        (LogRoom s 0 1 → if (verifyStaged s).1 = 0
          then Logged u 0 0x0D10 0 (bunBuild ((staged s).flatten.take 512) % two64) (bunVer ((staged s).flatten.take 512) % two64)
          else Logged u 0 0x0D11 0 (((verifyStaged s).1 * 256 + (verifyStaged s).2.1) % two64) ((verifyStaged s).2.2 % two64))) ∧
  (∀ t h g, Does (.verifyHead t h g) (fun s => srOpen s = true ∧ keeperFree 0 0x0D01 s = true)
      fun s u => u.upd.head = some (h, g) ∧ Replied s u 0 0 []) ∧
  (∀ t g, Does (.verifyLms t g) (fun s => srOpen s = true ∧ keeperFree 0 0x0D02 s = true)
      fun s u => Replied s u 0 (reqStatus 0x0D02 (headVerdict s g)) [] ∧ u.upd.head = none) ∧
  (∀ t h, Does (.downloadRecord t h) (fun s => srOpen s = true ∧ keeperFree 0 0x0D06 s = true)
      fun s u => if noPower s then Replied s u 0 5 [] ∧ u.octs = s.octs
        else Replied s u 0 0 [] ∧ dlHeader u = h ∧ ∀ c, chunkHeld u c = false) ∧
  (∀ t, Does (.counterRead t) (fun s => srOpen s = true ∧ keeperFree 0 0x0D07 s = true)
      fun s u => Replied s u 0 0 (toLe 8 (counterNow s) ++ toLe 8 (maskNow s)) ∧ u.upd = s.upd) ∧
  (∀ c k, (∃ t h g, c = Instr.verifyHead t h g ∧ k = 0x0D01) ∨ (∃ t g, c = Instr.verifyLms t g ∧ k = 0x0D02) ∨
      (∃ t h, c = Instr.downloadRecord t h ∧ k = 0x0D06) ∨ (∃ t, c = Instr.counterRead t ∧ k = 0x0D07) →
    Does c (fun s => srOpen s = false ∨ keeperFree 0 k s = false) fun s u => u = s) ∧
  (∀ t via, Does (.startTheSlotWrite t via)
      (fun s => mayUpdate s via 0x0D012000 false = true ∧ s.upd.verified = true ∧ ptrConfirmed (ptr s) = true)
      fun s u => Answered u via 0x0D012000 stDONE ∧ u.upd.writing = some (spareSlot s, s.clk.now)) ∧
  (∀ t via, Does (.startTheSlotWrite t via)
      (fun s => mayUpdate s via 0x0D012000 false = true ∧ (s.upd.verified = false ∨ ptrConfirmed (ptr s) = false))
      fun s u => Answered u via 0x0D012000 stSTATE ∧ u.upd = s.upd) ∧
  (∀ t slot a, Does (.slotWriteDone t)
      (fun s => s.upd.writing = some (slot, a) ∧ a + slotWriteLeast s slot ≤ s.clk.now ∧ srOpen s = true)
      fun s u => u.upd.writing = none ∧ u.upd.outcome = (slotWritten slot s).1 ∧
        u.upd.done = (if (slotWritten slot s).1 = stDONE then some slot else none) ∧
        (s.upd.shut = false → stagedLost s = false →
          ∀ c, c < dlChunks s → tabGet [] u.upd.nor ((slot - 1) * 8192 + c) = stagedChunk s c)) ∧
  (∀ t, Does (.slotWriteDone t)
      (fun s => ∀ slot a, s.upd.writing = some (slot, a) → s.clk.now < a + slotWriteLeast s slot ∨ srOpen s = false)
      fun s u => u = s) ∧
  (∀ t via slot, Does (.commitTheActivation t via)
      (fun s => keeperFree 0 0x0D03 s = true ∧ mayUpdate s via 0x0D012100 true = true ∧ s.upd.done = some slot ∧
        noPower s = false ∧ noNewOps s = false ∧ (energyCheck 0 2 (obj s 0x0C004000 * 1000000000) s).1 = true)
      fun s u => Answered u via 0x0D012100 stDONE ∧ obj u 0x0D012300 = activated s slot ∧
        u.upd.actAt = some (s.clk.now + 100000000) ∧
        (LogRoom s 0 2 → Logged u 0 0x0D20 0 (slot % two64) (ptrGen (activated s slot) % two64))) ∧
  (∀ t via slot, Does (.commitTheActivation t via)
      (fun s => keeperFree 0 0x0D03 s = true ∧ mayUpdate s via 0x0D012100 true = true ∧ s.upd.done = some slot ∧
        (noPower s = true ∨ noNewOps s = true ∨ (energyCheck 0 2 (obj s 0x0C004000 * 1000000000) s).1 = false))
      fun s u => Answered u via 0x0D012100 stNOPOWER ∧ obj u 0x0D012300 = obj s 0x0D012300 ∧ u.upd = s.upd) ∧
  (∀ t via, Does (.commitTheActivation t via)
      (fun s => keeperFree 0 0x0D03 s = true ∧ mayUpdate s via 0x0D012100 true = true ∧ s.upd.done = none)
      fun s u => Answered u via 0x0D012100 stSTATE ∧ u.upd = s.upd) ∧
  (∀ t a, Does (.activationReset t) (fun s => s.upd.actAt = some a ∧ a ≤ s.clk.now)
      fun s u => u.upd.actAt = none ∧
        (s.power.fail = none → s.power.quiesce = none → Quiesces { cause := 5, cold := false, wing := 0 } s u) ∧
        (s.power.fail.isSome = true → u.power.held = some { cause := 5, cold := false, wing := 0 })) ∧
  (∀ t, Does (.activationReset t) (fun s => ∀ a, s.upd.actAt = some a → s.clk.now < a) fun s u => u = s) ∧
  (∀ t a b bad n, DoesFrom (fun s => startRead bad (slotGiven 2 b (slotGiven 1 a s))) (.start t a b bad)
      (fun s => imageStepDue s = true ∧ keeperFree 0 0x0D04 s = true ∧ noPower s = false ∧ regF s (porStat 0) 24 24 = 0 ∧
        s.upd.verdict = none ∧ ptrConfirmed (ptr s) = true ∧ n = ptrActive (ptr s))
      fun s u => (slotCheck s n).1 = true → u.power.image = some n ∧ u.upd.run = (slotOctets s n).take 512 ∧ u.upd.imageAt = s.clk.now + imageTime s n ∧
        u.upd.ptrBad = false ∧ obj u 0x0D012300 =
          (if s.upd.ptrBad then ptrMake (ptrGen (ptr s) + 1) 0 false true (ptrPrev (ptr s)) n else obj s 0x0D012300) ∧
        u.power.token = some { hash := Config.sha384 (component (slotOctets s n) 3), slot := n, gen := ptrGen (ptr u) }) ∧
  (∀ t a b bad n, DoesFrom (fun s => startRead bad (slotGiven 2 b (slotGiven 1 a s))) (.start t a b bad)
      (fun s => imageStepDue s = true ∧ keeperFree 0 0x0D04 s = true ∧ noPower s = false ∧ regF s (porStat 0) 24 24 = 1 ∧
        s.power.hash.isSome = true ∧ ptrConfirmed (ptr s) = true ∧ n = ptrActive (ptr s) ∧ s.upd.verdict ≠ some false ∧
        tokenMatches s = true)
      fun s u => u.power.image = some n ∧ u.upd.run = (slotOctets s n).take 512 ∧ u.upd.imageAt = s.clk.now ∧
        u.power.token = s.power.token ∧ obj u 0x0D012300 = obj s 0x0D012300) ∧
  (∀ t a b bad n, DoesFrom (fun s => startRead bad (slotGiven 2 b (slotGiven 1 a s))) (.start t a b bad)
      (fun s => imageStepDue s = true ∧ keeperFree 0 0x0D04 s = true ∧ noPower s = false ∧ regF s (porStat 0) 24 24 = 0 ∧
        s.upd.verdict = none ∧ ptrConfirmed (ptr s) = false ∧ n = ptrActive (ptr s) ∧ ptrTrials (ptr s) < 3)
      fun s u => (slotCheck s n).1 = true → u.power.image = some n ∧ u.upd.run = (slotOctets s n).take 512 ∧
        obj u 0x0D012300 = ptrMake (ptrGen (ptr s)) (ptrTrials (ptr s) + 1) (ptrPrevFailed (ptr s)) false (ptrPrev (ptr s)) n ∧
        (LogRoom s 0 1 → Logged u 0 0x0D30 0 n (ptrTrials (ptr s) + 1))) ∧
  (∀ t a b bad n, DoesFrom (fun s => startRead bad (slotGiven 2 b (slotGiven 1 a s))) (.start t a b bad)
      (fun s => imageStepDue s = true ∧ keeperFree 0 0x0D04 s = true ∧ noPower s = false ∧ regF s (porStat 0) 24 24 = 0 ∧
        s.upd.verdict = none ∧ ptrConfirmed (ptr s) = false ∧ ptrActive (ptr s) ≠ 0 ∧ 3 ≤ ptrTrials (ptr s) ∧
        n = ptrPrev (ptr s))
      fun s u => (slotCheck s n).1 = true → u.power.image = some n ∧ u.upd.run = (slotOctets s n).take 512 ∧
        obj u 0x0D012300 = ptrMake (ptrGen (ptr s) + 1) 0 true true (ptrActive (ptr s)) n ∧
        (LogRoom s 0 1 → Logged u 0 0x0D31 0 n (ptrActive (ptr s)))) ∧
  (∀ t a b bad n, DoesFrom (fun s => startRead bad (slotGiven 2 b (slotGiven 1 a s))) (.start t a b bad)
      (fun s => imageStepDue s = true ∧ keeperFree 0 0x0D04 s = true ∧ noPower s = false ∧ regF s (porStat 0) 24 24 = 0 ∧
        s.upd.verdict = none ∧ ptrConfirmed (ptr s) = true ∧ (slotCheck s (ptrActive (ptr s))).1 = false ∧
        n = ptrPrev (ptr s) ∧ ptrPrevFailed (ptr s) = false)
      fun s u => (slotCheck s n).1 = true → u.power.image = some n ∧ u.upd.run = (slotOctets s n).take 512 ∧
        obj u 0x0D012300 = ptrMake (ptrGen (ptr s) + 1) 0 false true (ptrActive (ptr s)) n ∧
        (LogRoom s 0 1 → Logged u 0 0x0D40 0 (ptrActive (ptr s)) (slotCheck s (ptrActive (ptr s))).2)) ∧
  (∀ t a b bad, DoesFrom (fun s => startRead bad (slotGiven 2 b (slotGiven 1 a s))) (.start t a b bad)
      (fun s => imageStepDue s = true ∧ keeperFree 0 0x0D04 s = true ∧ noPower s = false ∧ regF s (porStat 0) 24 24 = 0 ∧
        s.upd.verdict = none ∧ (ptrConfirmed (ptr s) = true ∨ ptrActive (ptr s) = 0) ∧
        (slotCheck s (ptrActive (ptr s))).1 = false ∧
        (ptrPrev (ptr s) = 0 ∨ ptrPrevFailed (ptr s) = true ∨ (slotCheck s (ptrPrev (ptr s))).1 = false))
      fun s u => u.power.image = none ∧ u.upd.noSlot = some ((slotCheck s 1).2, (slotCheck s 2).2) ∧
        obj u 0x0D012300 = obj s 0x0D012300) ∧
  (∀ t a b bad, DoesFrom (fun s => startRead bad (slotGiven 2 b (slotGiven 1 a s))) (.start t a b bad)
      (fun s => imageStepDue s = true ∧ keeperFree 0 0x0D04 s = true ∧ noPower s = true ∧ regF s (porStat 0) 24 24 = 0 ∧
        mramOf (imageStep s) ≠ mramOf s)
      fun s u => u.upd = s.upd ∧ u.power = s.power ∧ u.objs = s.objs ∧ Replied s u 0 5 []) ∧
  (∀ t d, Does (.trialTimeEnd t) (fun s => s.upd.trial = some d ∧ d + obj s 0x0D013100 * 1000000000 ≤ s.clk.now)
      fun s u => u.upd.trial = none ∧
        (s.power.fail = none → s.power.quiesce = none → Quiesces { cause := 5, cold := false, wing := 0 } s u) ∧
        (s.power.fail.isSome = true → u.power.held = some { cause := 5, cold := false, wing := 0 })) ∧
  (∀ t, Does (.trialTimeEnd t)
      (fun s => ∀ d, s.upd.trial = some d → s.clk.now < d + obj s 0x0D013100 * 1000000000) fun s u => u = s) ∧
  (∀ t n x, x ≤ 1 → Does (.confirm t (.session n) x)
      (fun s => keeperFree 0 0x0D05 s = true ∧ updWaits s = false ∧ reaches s (.session n) 0x0D013000 = true ∧
        s.upd.writing = none ∧ ptrConfirmed (ptr s) = false ∧ s.power.started = true ∧ (fallBack s = true → x = 1) ∧
        srOpen s = true ∧ noPower s = false)
      fun s u => Answered u (.session n) 0x0D013000 stDONE ∧ u.upd.trial = none ∧
        obj u 0x0D012300 = ptrMake (ptrGen (ptr s)) 0 (ptrPrevFailed (ptr s)) true (ptrPrev (ptr s)) (ptrActive (ptr s)) ∧
        (x = 0 → u.upd.copies = s.upd.copies) ∧
        (x = 1 → fallBack s = false →
          counterNow u = max (counterNow s) (bunVer s.upd.run) ∧ maskNow u = maskNow s ||| bunMask s.upd.run) ∧
        (fallBack s = true → fallBack u = false ∧ counterNow u = bunVer s.upd.run)) ∧
  (∀ t n x, x ≤ 1 → Does (.confirm t (.session n) x)
      (fun s => keeperFree 0 0x0D05 s = true ∧ updWaits s = false ∧ reaches s (.session n) 0x0D013000 = true ∧
        s.upd.writing = none ∧ (ptrConfirmed (ptr s) = true ∨ s.power.started = false ∨ (fallBack s = true ∧ x = 0)))
      fun s u => Answered u (.session n) 0x0D013000 stSTATE ∧ u.upd = s.upd ∧ u.objs = s.objs) ∧
  (∀ t via x, (∀ n, via ≠ .session n) → Does (.confirm t via x)
      (fun s => viaOpen s via = true ∧ viaFits s 0x0D013000 via = true)
      fun s u => Answered u via 0x0D013000 stACCESS ∧ u.objs = s.objs ∧ u.upd = s.upd) ∧
  (∀ t a b, Does (.shuttered t) (fun s => s.upd.noSlot = some (a, b) ∧ s.power.fail = none ∧ 0 < s.part.wings)
      fun _ u => AfterReset { cause := 6, cold := true, wing := 0 } u ∧ u.upd.shut = true ∧ u.upd.noSlot = none ∧
        Logged u 0 0x0D41 0 ((a * 256 + b) % two64) 0) ∧
  (∀ t c, Does (.shuttered t) (fun s => s.upd.noSlot = some c ∧ s.power.fail.isSome = true)
      fun _ u => u.upd.noSlot = none ∧ u.power.held = some { cause := 6, cold := true, wing := 0 }) ∧
  (∀ t, Does (.shuttered t) (fun s => s.upd.noSlot = none) fun s u => u = s) ∧
  (∀ t via, Does (.enterTheRecoveryLoader t via)
      (fun s => mayUpdate s via 0x0D014000 false = true ∧ viaLevel s via = 1 ∧ s.upd.shut = false ∧ s.power.fail = none ∧
        0 < s.part.wings)
      fun _ u => AfterReset { cause := 6, cold := true, wing := 0 } u ∧ u.upd.shut = true ∧ Logged u 0 0x0D41 0 0 0) ∧
  (∀ t via, Does (.enterTheRecoveryLoader t via)
      (fun s => viaOpen s via = true ∧ viaFits s 0x0D014000 via = true ∧ updWaits s = false ∧ servicePath s via = false)
      fun s u => Answered u via 0x0D014000 stACCESS ∧ u.upd = s.upd)
end

