-- ==== Sys2Proof/Laws/Tab.lean ====
section
/-! SUPPORT. Laws of the sparse tables: a read after a write, and the canonical form that every operation keeps. -/

namespace Sys2Proof.Machine

set_option Elab.async false

variable {α : Type}

@[simp] theorem tabGet_nil (d : α) (k : Nat) : tabGet d [] k = d := rfl

theorem tabGet_erase (d : α) (k j : Nat) (m : Tab α) :
    tabGet d (tabErase k m) j = if j = k then d else tabGet d m j := by
  induction m with
  | nil => simp [tabErase]
  | cons e m ih =>
    obtain ⟨q, v⟩ := e
    by_cases hq : q = k
    · subst hq
      by_cases hj : j = q
      · subst hj; simp [tabErase, ih]
      · have : ¬q = j := fun h => hj h.symm
        simp [tabErase, tabGet, ih, hj, this]
    · by_cases hj : q = j
      · subst hj; simp [tabErase, tabGet, hq]
      · simp [tabErase, tabGet, ih, hq, hj]

theorem tabGet_ins (d : α) (k j : Nat) (v : α) (m : Tab α) :
    tabGet d (tabIns k v m) j = if j = k then v else tabGet d m j := by
  induction m with
  | nil =>
    by_cases hj : k = j
    · simp [tabIns, tabGet, hj]
    · have : ¬j = k := fun h => hj h.symm
      simp [tabIns, tabGet, hj, this]
  | cons e m ih =>
    obtain ⟨q, w⟩ := e
    by_cases h1 : k < q
    · by_cases hj : j = k
      · subst hj; simp [tabIns, tabGet, h1]
      · have : ¬k = j := fun h => hj h.symm
        simp [tabIns, tabGet, h1, hj, this]
    · by_cases h2 : k = q
      · subst h2
        by_cases hj : j = k
        · subst hj; simp [tabIns, tabGet]
        · have : ¬k = j := fun h => hj h.symm
          simp [tabIns, tabGet, hj, this]
      · by_cases hj : q = j
        · subst hj
          have : ¬q = k := fun h => h2 h.symm
          simp [tabIns, tabGet, h1, h2, this]
        · simp [tabIns, tabGet, h1, h2, hj, ih]

/-- A read after a write: the value written at its own key, every other key as before. -/
theorem tabGet_put [DecidableEq α] (d : α) (k j : Nat) (v : α) (m : Tab α) :
    tabGet d (tabPut d k v m) j = if j = k then v else tabGet d m j := by
  unfold tabPut
  by_cases hv : v = d
  · subst hv; simp [tabGet_erase]
  · simp [hv, tabGet_ins]

@[simp] theorem tabGet_put_same [DecidableEq α] (d : α) (k : Nat) (v : α) (m : Tab α) :
    tabGet d (tabPut d k v m) k = v := by simp [tabGet_put]

theorem tabGet_put_other [DecidableEq α] (d e : α) {k j : Nat} (v : α) (m : Tab α) (h : j ≠ k) :
    tabGet e (tabPut d k v m) j = tabGet e m j := by
  unfold tabPut
  split <;> simp [tabGet_erase, tabGet_ins, h]

theorem tabGet_drop (d : α) (p : Nat → Bool) (j : Nat) (m : Tab α) :
    tabGet d (tabDrop p m) j = if p j then d else tabGet d m j := by
  induction m with
  | nil => simp [tabDrop]
  | cons e m ih =>
    obtain ⟨q, v⟩ := e
    cases hq : p q
    · by_cases hj : q = j
      · subst hj; simp [tabDrop, tabGet, hq]
      · simp [tabDrop, tabGet, hq, hj, ih]
    · by_cases hj : q = j
      · subst hj; simp [tabDrop, hq, ih]
      · simp [tabDrop, tabGet, hq, hj, ih]

theorem tabErase_eq_filter (k : Nat) (m : Tab α) : tabErase k m = m.filter (fun e => e.1 != k) := by
  induction m with
  | nil => rfl
  | cons e m ih => obtain ⟨q, v⟩ := e; by_cases h : q = k <;> simp [tabErase, h, ih]

theorem tabDrop_eq_filter (p : Nat → Bool) (m : Tab α) : tabDrop p m = m.filter (fun e => !p e.1) := by
  induction m with
  | nil => rfl
  | cons e m ih => obtain ⟨q, v⟩ := e; cases h : p q <;> simp [tabDrop, h, ih]

/-! ### The canonical form -/

variable [DecidableEq α]

theorem tabWfFrom_mono {d : Nat → α} {lo hi : Nat} (h : lo ≤ hi) :
    ∀ m : Tab α, tabWfFrom d hi m = true → tabWfFrom d lo m = true
  | [], _ => rfl
  | (k, v) :: m, w => by simp only [tabWfFrom, Bool.and_eq_true, decide_eq_true_eq] at w ⊢; exact ⟨⟨by omega, w.1.2⟩, w.2⟩

theorem tabWfFrom_filter {d : Nat → α} (p : Nat × α → Bool) :
    ∀ (lo : Nat) (m : Tab α), tabWfFrom d lo m = true → tabWfFrom d lo (m.filter p) = true
  | _, [], _ => rfl
  | lo, (k, v) :: m, w => by
    simp only [tabWfFrom, Bool.and_eq_true, decide_eq_true_eq] at w
    have ih := tabWfFrom_filter p (k + 1) m w.2
    cases hp : p (k, v)
    · simpa [hp] using tabWfFrom_mono (by omega) _ ih
    · simp [hp, tabWfFrom, w.1.1, w.1.2, ih]

theorem tabWfFrom_ins {d : Nat → α} {k : Nat} {v : α} (hv : v ≠ d k) :
    ∀ (lo : Nat) (m : Tab α), lo ≤ k → tabWfFrom d lo m = true → tabWfFrom d lo (tabIns k v m) = true
  | lo, [], hk, _ => by simp [tabIns, tabWfFrom, hv, hk]
  | lo, (q, w) :: m, hk, h => by
    simp only [tabWfFrom, Bool.and_eq_true, decide_eq_true_eq] at h
    by_cases h1 : k < q
    · have := tabWfFrom_mono (d := d) (show k + 1 ≤ q by omega)
      simp [tabIns, h1, tabWfFrom, hv, hk, h.1.2, h.2, show k + 1 ≤ q by omega]
    · by_cases h2 : k = q
      · subst h2; simp [tabIns, tabWfFrom, hv, hk, h.2]
      · simp [tabIns, h1, h2, tabWfFrom, h.1.1, h.1.2, tabWfFrom_ins hv (q + 1) m (by omega) h.2]

/-- A write keeps the canonical form: writing what an absent key reads as removes the entry. -/
theorem tabWf_put {d : Nat → α} {k : Nat} {v : α} {m : Tab α} (h : tabWf d m = true) :
    tabWf d (tabPut (d k) k v m) = true := by
  unfold tabPut
  split
  · rw [tabErase_eq_filter]; exact tabWfFrom_filter _ _ _ h
  · exact tabWfFrom_ins (by assumption) _ _ (Nat.zero_le _) h

theorem tabWf_drop {d : Nat → α} (p : Nat → Bool) {m : Tab α} (h : tabWf d m = true) : tabWf d (tabDrop p m) = true := by
  rw [tabDrop_eq_filter]; exact tabWfFrom_filter _ _ _ h

theorem tabWf_filter {d : Nat → α} (p : Nat × α → Bool) {m : Tab α} (h : tabWf d m = true) : tabWf d (m.filter p) = true :=
  tabWfFrom_filter _ _ _ h

end Sys2Proof.Machine
end

