-- ==== Sys2Proof/Laws/Kept.lean ====
section
/-! SUPPORT. What the shared operations leave as it was. `Kept m s u`: `u` comes after `s` with the variant and the queue
untouched, canonical form kept, the cycle counter not gone back, and every part whose bit of the mask `m` is 0 the same.
A function's lemma names the mask of what it may change. -/

namespace Sys2Proof.Machine

set_option Elab.async false

/-- A part's bit in a mask. -/
def partBit : Part → Nat
  | .clk => 0 | .regs => 1 | .cnt => 2 | .dram => 3 | .objs => 4 | .octs => 5 | .fab => 6 | .mode => 7 | .log => 8
  | .bell => 9 | .tally => 10 | .mat => 11 | .tt => 12 | .cap => 13 | .armed => 14 | .emp => 15 | .sr => 16 | .air => 17
  | .mac => 18 | .ptp => 19 | .lease => 20 | .ing => 21 | .bill => 22 | .prepay => 23 | .audit => 24 | .nand => 25
  | .store => 26 | .power => 27 | .ddr => 28 | .lans => 29 | .pairs => 30 | .upd => 31 | .free => 32 | .clash => 33

/-- The mask of a list of parts. -/
def partMask : List Part → Nat
  | [] => 0
  | p :: l => 2 ^ partBit p ||| partMask l

/-- `u` follows `s` and has every part outside the mask as it was. -/
structure Kept (m : Nat) (s u : State) : Prop where
  follows : Follows s u
  same    : ∀ p, m.testBit (partBit p) = false → p.same s u

theorem same_refl (p : Part) (s : State) : p.same s s := by
  cases p <;> first | rfl | exact ⟨fun _ => rfl, fun _ _ => rfl⟩

theorem inEventRing_congr {s u : State} {w : Nat} (h : regGet u (logRingCfg w) = regGet s (logRingCfg w)) (a : Nat) :
    inEventRing u w a ↔ inEventRing s w a := by
  simp [inEventRing, regF, h]

theorem same_trans {p : Part} {s u v : State} (h : p.same s u) (k : p.same u v) : p.same s v := by
  cases p <;> first
    | exact Eq.trans k h
    | exact ⟨fun w => (k.1 w).trans (h.1 w), fun a ha =>
        (k.2 a fun w hw => ha w ((inEventRing_congr (h.1 w) a).1 hw)).trans (h.2 a ha)⟩

theorem follows_refl (s : State) : Follows s s := ⟨rfl, rfl, Nat.le_refl _, id, id, id⟩

theorem follows_trans {s u v : State} (h : Follows s u) (k : Follows u v) : Follows s v :=
  ⟨k.part.trans h.part, k.pending.trans h.pending, Nat.le_trans h.now k.now, k.dram ∘ h.dram, k.regs ∘ h.regs, k.cnt ∘ h.cnt⟩

@[simp] theorem kept_refl {m : Nat} (s : State) : Kept m s s := ⟨follows_refl s, fun p _ => same_refl p s⟩

theorem testBit_of_or {m n i : Nat} (h : n ||| m = m) (hm : m.testBit i = false) : n.testBit i = false := by
  have := congrArg (fun x => Nat.testBit x i) h
  simp [Nat.testBit_or, hm] at this
  exact this

theorem kept_widen {m n : Nat} {s u : State} (h : n ||| m = m) (k : Kept n s u) : Kept m s u :=
  ⟨k.follows, fun p hp => k.same p (testBit_of_or h hp)⟩

theorem kept_trans {m : Nat} {s u v : State} (h : Kept m s u) (k : Kept m u v) : Kept m s v :=
  ⟨follows_trans h.follows k.follows, fun p hp => same_trans (h.same p hp) (k.same p hp)⟩

/-- A change within a smaller mask, after others. -/
theorem kept_lift {m n : Nat} {s₀ s u : State} (h : Kept m s₀ s) (hm : n ||| m = m) (k : Kept n s u) : Kept m s₀ u :=
  kept_trans h (kept_widen hm k)

variable {m : Nat} {s₀ s : State}

theorem or_sub {a b : Nat} (h : a ||| b = b) (k : b ||| m = m) : a ||| m = m := by
  rw [← k, ← Nat.or_assoc, h]

theorem testBit_of_mem {i : Nat} (h : 2 ^ i ||| m = m) : m.testBit i = true := by
  have h2 := congrArg (fun x => Nat.testBit x i) h
  simpa [Nat.testBit_or, Nat.testBit_two_pow_self] using h2.symm

theorem not_mem_of_testBit {i : Nat} (h : m.testBit i = false) : ¬2 ^ i ||| m = m := fun k => by
  rw [testBit_of_mem k] at h; cases h

/-- An update of fields: each one's bit is in the mask, or it is as it was. -/
@[simp] theorem kept_mk {clk regs cnt dram objs octs fab clash mode log bell tally mat tt cap armed emp sr air mac ptp lease ing
    bill prepay audit nand store power ddr lans pairs upd free} (h : Kept m s₀ s) (hc : s.clk.now ≤ clk.now)
    (h0 : clk = s.clk ∨ 1 ||| m = m := by simp) (h1 : regs = s.regs := by rfl) (h2 : cnt = s.cnt := by rfl) (h3 : dram = s.dram := by rfl)
    (h4 : objs = s.objs ∨ 16 ||| m = m := by simp) (h5 : octs = s.octs ∨ 32 ||| m = m := by simp)
    (h6 : fab = s.fab ∨ 64 ||| m = m := by simp) (h7 : mode = s.mode ∨ 128 ||| m = m := by simp)
    (h8 : log = s.log ∨ 256 ||| m = m := by simp) (h9 : bell = s.bell ∨ 512 ||| m = m := by simp)
    (h10 : tally = s.tally ∨ 1024 ||| m = m := by simp) (h11 : mat = s.mat ∨ 2048 ||| m = m := by simp)
    (h12 : tt = s.tt ∨ 4096 ||| m = m := by simp) (h13 : cap = s.cap ∨ 8192 ||| m = m := by simp)
    (h14 : armed = s.armed ∨ 16384 ||| m = m := by simp) (h15 : emp = s.emp ∨ 32768 ||| m = m := by simp)
    (h16 : sr = s.sr ∨ 65536 ||| m = m := by simp) (h17 : air = s.air ∨ 131072 ||| m = m := by simp)
    (h18 : mac = s.mac ∨ 262144 ||| m = m := by simp) (h19 : ptp = s.ptp ∨ 524288 ||| m = m := by simp)
    (h20 : lease = s.lease ∨ 1048576 ||| m = m := by simp) (h21 : ing = s.ing ∨ 2097152 ||| m = m := by simp)
    (h22 : bill = s.bill ∨ 4194304 ||| m = m := by simp) (h23 : prepay = s.prepay ∨ 8388608 ||| m = m := by simp)
    (h24 : audit = s.audit ∨ 16777216 ||| m = m := by simp) (h25 : nand = s.nand ∨ 33554432 ||| m = m := by simp)
    (h26 : store = s.store ∨ 67108864 ||| m = m := by simp) (h27 : power = s.power ∨ 134217728 ||| m = m := by simp)
    (h28 : ddr = s.ddr ∨ 268435456 ||| m = m := by simp) (h29 : lans = s.lans ∨ 536870912 ||| m = m := by simp)
    (h30 : pairs = s.pairs ∨ 1073741824 ||| m = m := by simp) (h31 : upd = s.upd ∨ 2147483648 ||| m = m := by simp)
    (h32 : free = s.free ∨ 4294967296 ||| m = m := by simp) (h33 : clash = s.clash ∨ 8589934592 ||| m = m := by simp) :
    Kept m s₀ (State.mk s.part clk regs cnt dram objs octs fab clash mode log bell tally mat tt cap armed emp sr air mac ptp
      lease ing bill prepay audit nand store power ddr lans pairs upd free s.pending) := by
  subst h1 h2 h3
  refine kept_trans h ⟨⟨rfl, rfl, hc, id, id, id⟩, fun p hp => ?_⟩
  cases p <;> simp only [partBit] at hp <;> first
    | exact ⟨fun _ => rfl, fun _ _ => rfl⟩
    | rfl
    | exact Or.resolve_right ‹_› (not_mem_of_testBit hp)

@[simp] theorem kept_ite {c : Prop} [Decidable c] {x y : State} (h : c → Kept m s₀ x) (k : ¬c → Kept m s₀ y) :
    Kept m s₀ (if c then x else y) := by split <;> simp_all

@[simp] theorem kept_ite_snd {α : Type} {c : Prop} [Decidable c] {x y : α × State} (h : c → Kept m s₀ x.2)
    (k : ¬c → Kept m s₀ y.2) : Kept m s₀ (if c then x else y).2 := by split <;> simp_all

@[simp] theorem kept_ite_fst {α : Type} {c : Prop} [Decidable c] {x y : State × α} (h : c → Kept m s₀ x.1)
    (k : ¬c → Kept m s₀ y.1) : Kept m s₀ (if c then x else y).1 := by split <;> simp_all

@[simp] theorem kept_ite_body {α β : Type} {c : Prop} [Decidable c] {x y : α × β × State} (h : c → Kept m s₀ x.2.2)
    (k : ¬c → Kept m s₀ y.2.2) : Kept m s₀ (if c then x else y).2.2 := by split <;> simp_all

@[simp] theorem kept_foldl {β : Type} {g : State → β → State} {l : List β} (hg : ∀ u a, Kept m s₀ u → Kept m s₀ (g u a))
    (h : Kept m s₀ s) : Kept m s₀ (l.foldl g s) := by
  induction l generalizing s with
  | nil => exact h
  | cons a l ih => exact ih (hg _ _ h)

theorem kept_foldl_mem {β : Type} {g : State → β → State} {l : List β}
    (hg : ∀ u a, a ∈ l → Kept m s₀ u → Kept m s₀ (g u a)) (h : Kept m s₀ s) : Kept m s₀ (l.foldl g s) := by
  induction l generalizing s with
  | nil => exact h
  | cons a l ih => exact ih (fun u b hb => hg u b (List.mem_cons_of_mem a hb)) (hg _ _ List.mem_cons_self h)

@[simp] theorem kept_foldl_snd {α β : Type} {g : α × State → β → α × State} {l : List β} {x : α × State}
    (hg : ∀ y a, Kept m s₀ y.2 → Kept m s₀ (g y a).2) (h : Kept m s₀ x.2) : Kept m s₀ (l.foldl g x).2 := by
  induction l generalizing x with
  | nil => exact h
  | cons a l ih => exact ih (hg _ _ h)

@[simp] theorem kept_foldl_fst {α β : Type} {g : State × α → β → State × α} {l : List β} {x : State × α}
    (hg : ∀ y a, Kept m s₀ y.1 → Kept m s₀ (g y a).1) (h : Kept m s₀ x.1) : Kept m s₀ (l.foldl g x).1 := by
  induction l generalizing x with
  | nil => exact h
  | cons a l ih => exact ih (hg _ _ h)

theorem regGet_regSet_ne {a b : Nat} {v : Word} (h : a ≠ b) : regGet (regSet a v s) b = regGet s b :=
  tabGet_put_other _ _ _ _ h.symm

@[simp] theorem regSet_kept {a : Nat} {v : Word} (h : Kept m s₀ s) (hm : 2 ||| m = m := by rfl)
    (ha : 8 ||| m = m ∨ ∀ w, a ≠ logRingCfg w := by simp) : Kept m s₀ (regSet a v s) := by
  refine kept_trans h ⟨⟨rfl, rfl, Nat.le_refl _, id, fun w => tabWf_put w, id⟩, fun p hp => ?_⟩
  have h1 : m.testBit 1 = true := testBit_of_mem (i := 1) hm
  cases p <;> simp only [partBit] at hp <;> first
    | rfl
    | (rw [h1] at hp; cases hp)
    | skip
  rcases ha with ha | ha
  · exact absurd ha (not_mem_of_testBit (i := 3) hp)
  · exact ⟨fun w => regGet_regSet_ne (ha w), fun _ _ => rfl⟩

@[simp] theorem cntSet_kept {w n v : Nat} (h : Kept m s₀ s) (hm : 4 ||| m = m := by rfl) : Kept m s₀ (cntSet w n v s) := by
  refine kept_lift h hm ⟨⟨rfl, rfl, Nat.le_refl _, id, id, fun w => tabWf_put w⟩, fun p hp => ?_⟩
  cases p <;> first | rfl | exact ⟨fun _ => rfl, fun _ _ => rfl⟩ | exact absurd hp (by decide)

theorem memWrite_wf : ∀ (bs : Bytes) (m : List Host.Cell) (a : Nat), Memory.wf m = true → Memory.wf (memWrite m a bs) = true
  | [], _, _, h => h
  | _ :: bs, _, a, h => memWrite_wf bs _ (a + 1) (tabWf_put h)

/-- A byte outside the bytes written reads as before. -/
theorem memWrite_other : ∀ (bs : Bytes) (m : List Host.Cell) (a x : Nat), (x < a ∨ a + bs.length ≤ x) →
    tabGet dramUnlisted (memWrite m a bs) x = tabGet dramUnlisted m x
  | [], _, _, _, _ => rfl
  | b :: bs, m, a, x, h => by
    have hx : x ≠ a := by
      rw [List.length_cons] at h; omega
    rw [memWrite, memWrite_other bs _ (a + 1) x (by rw [List.length_cons] at h; omega)]
    exact tabGet_put_other _ _ _ _ hx

@[simp] theorem dramWrite_kept {a : Nat} {bs : Bytes} (h : Kept m s₀ s) (hm : 8 ||| m = m := by rfl) : Kept m s₀ (dramWrite a bs s) := by
  refine kept_lift h hm ⟨⟨rfl, rfl, Nat.le_refl _, fun w => memWrite_wf _ _ _ w, id, id⟩, fun p hp => ?_⟩
  cases p <;> first | rfl | exact absurd hp (by decide)

theorem recBytes_length (r : LogRec) : (recBytes r).length = 32 := by
  simp [recBytes, toLe]

/-- Records written into a ring's places: no byte outside the ring, and no register, changes. -/
theorem ringPlaces_kept (base n : Nat) (hn : 0 < n) : ∀ (l : List LogRec) (s : State),
    let u := l.foldl (fun s r => dramWrite (base + r.seq % n * 32) (recBytes { r with seq := 0 }) s) s
    Kept 8 s u ∧ (∀ a, regGet u a = regGet s a) ∧
    ∀ a, (a < base ∨ base + n * 32 ≤ a) → dramByte u a = dramByte s a
  | [], s => ⟨kept_refl s, fun _ => rfl, fun _ _ => rfl⟩
  | r :: l, s => by
    obtain ⟨h1, h2, h3⟩ := ringPlaces_kept base n hn l (dramWrite (base + r.seq % n * 32) (recBytes { r with seq := 0 }) s)
    refine ⟨kept_trans (dramWrite_kept (kept_refl s) rfl) h1, h2, fun a ha => (h3 a ha).trans ?_⟩
    refine memWrite_other _ _ _ _ ?_
    rw [recBytes_length]
    have : r.seq % n < n := Nat.mod_lt _ hn
    omega

/-- R431: the event ring is all of DRAM that a raise writes; the rest of each record follows 200 FCLK later. -/
@[simp] theorem ringWrite_kept {w : Nat} {recs : List LogRec} (h : Kept m s₀ s) (hm : 256 ||| m = m := by rfl) :
    Kept m s₀ (ringWrite w recs s) := by
  refine kept_lift h (n := 256) hm ?_
  unfold ringWrite
  split
  · rename_i en
    have hn : 0 < 2 ^ ringLog2 (regF s (logRingCfg w) 4 0) 12 16 12 := Nat.two_pow_pos _
    obtain ⟨h1, h2, h3⟩ := ringPlaces_kept (regF s (logRingCfg w) 63 12 * 4096) _ hn recs s
    refine ⟨⟨h1.follows.part, h1.follows.pending, h1.follows.now, h1.follows.dram, h1.follows.regs, h1.follows.cnt⟩, fun p hm => ?_⟩
    by_cases hp : p = .dram
    · subst hp
      refine ⟨fun _ => h2 _, fun a ha => h3 a ?_⟩
      have := ha w
      simp only [inEventRing, en, true_and, not_and, Nat.not_lt] at this
      omega
    · have k := h1.same p (by cases p <;> first | rfl | exact absurd rfl hp)
      cases p <;> first
        | exact k
        | exact absurd hm (by decide)
  · exact kept_refl s

/-- A command that answers a next state. -/
@[simp] theorem goes_next {p : State → Prop} : Goes (.next s) p ↔ p s :=
  ⟨fun ⟨_, e, h⟩ => by cases e; exact h, fun h => ⟨_, rfl, h⟩⟩

@[simp] theorem goes_ite {c : Prop} [Decidable c] {x y : Host.Outcome State Fault Refusal} {p : State → Prop}
    (h : c → Goes x p) (k : ¬c → Goes y p) : Goes (if c then x else y) p := by split <;> simp_all

/-- A command's outcome, from what came before it. -/
theorem goes_lift {m n : Nat} {s₀ s : State} {o : Host.Outcome State Fault Refusal} (h : Kept m s₀ s) (hm : n ||| m = m)
    (k : Goes o (Kept n s)) : Goes o (Kept m s₀) := by
  obtain ⟨u, rfl, hu⟩ := k
  exact goes_next.2 (kept_lift h hm hu)

/-- What a command's outcome leaves, where it answers a next state. -/
@[simp] theorem nextOf_kept {o : Host.Outcome State Fault Refusal} {s : State} (k : Goes o (Kept m s₀)) :
    Kept m s₀ (nextOf o s) := by
  obtain ⟨u, rfl, hu⟩ := k
  exact hu

end Sys2Proof.Machine
end

