-- ==== Sys2Proof/Laws/Addr.lean ====
section
/-! SUPPORT. No register that hardware writes is LOG_RING_CFG: their offsets within a block differ. -/

namespace Sys2Proof.Machine

set_option Elab.async false

@[simp] theorem porCtl_not_ring {w v : Nat} : porCtl w ≠ logRingCfg v := by
  simp only [porCtl, logRingCfg, regA]; omega

@[simp] theorem porStat_not_ring {w v : Nat} : porStat w ≠ logRingCfg v := by
  simp only [porStat, logRingCfg, regA]; omega

@[simp] theorem porPinhold_not_ring {w v : Nat} : porPinhold w ≠ logRingCfg v := by
  simp only [porPinhold, logRingCfg, regA]; omega

@[simp] theorem porHoldup_not_ring {w v : Nat} : porHoldup w ≠ logRingCfg v := by
  simp only [porHoldup, logRingCfg, regA]; omega

@[simp] theorem bbStat0_not_ring {w v : Nat} : bbStat w 0 ≠ logRingCfg v := by
  simp only [bbStat, logRingCfg, regA]; omega

@[simp] theorem bbStat1_not_ring {w v : Nat} : bbStat w 1 ≠ logRingCfg v := by
  simp only [bbStat, logRingCfg, regA]; omega

@[simp] theorem bbSwset_not_ring {w v : Nat} : bbSwset w ≠ logRingCfg v := by
  simp only [bbSwset, logRingCfg, regA]; omega

@[simp] theorem bbSrstat_not_ring {w v : Nat} : bbSrstat w ≠ logRingCfg v := by
  simp only [bbSrstat, logRingCfg, regA]; omega

@[simp] theorem talFrzAt_not_ring {w v : Nat} : talFrzAt w ≠ logRingCfg v := by
  simp only [talFrzAt, logRingCfg, regA]; omega

@[simp] theorem talFrzStat_not_ring {w v : Nat} : talFrzStat w ≠ logRingCfg v := by
  simp only [talFrzStat, logRingCfg, regA]; omega

@[simp] theorem talSwinc_not_ring {w v : Nat} : talSwinc w ≠ logRingCfg v := by
  simp only [talSwinc, logRingCfg, regA]; omega

@[simp] theorem corId_not_ring {w v : Nat} : corId w ≠ logRingCfg v := by
  simp only [corId, logRingCfg, regA]; omega

@[simp] theorem corLink_not_ring {w v : Nat} : corLink w ≠ logRingCfg v := by
  simp only [corLink, logRingCfg, regA]; omega

@[simp] theorem corCyc_not_ring {w v : Nat} : corCyc w ≠ logRingCfg v := by
  simp only [corCyc, logRingCfg, regA]; omega

@[simp] theorem airCfg_not_ring {w p v : Nat} : airCfg w p ≠ logRingCfg v := by
  simp only [airCfg, logRingCfg, regA]; omega

@[simp] theorem airRxcfg_not_ring {w p v : Nat} : airRxcfg w p ≠ logRingCfg v := by
  simp only [airRxcfg, logRingCfg, regA]; omega

@[simp] theorem airTxcfg_not_ring {w p v : Nat} : airTxcfg w p ≠ logRingCfg v := by
  simp only [airTxcfg, logRingCfg, regA]; omega

@[simp] theorem airSpicfg_not_ring {w p v : Nat} : airSpicfg w p ≠ logRingCfg v := by
  simp only [airSpicfg, logRingCfg, regA]; omega

@[simp] theorem airSpi_not_ring {w p v : Nat} : airSpi w p ≠ logRingCfg v := by
  simp only [airSpi, logRingCfg, regA]; omega

@[simp] theorem airStat_not_ring {w p v : Nat} : airStat w p ≠ logRingCfg v := by
  simp only [airStat, logRingCfg, regA]; omega

@[simp] theorem airLanes_not_ring {w p v : Nat} : airLanes w p ≠ logRingCfg v := by
  simp only [airLanes, logRingCfg, regA]; omega

@[simp] theorem macCfg_not_ring {w v : Nat} : macCfg w ≠ logRingCfg v := by
  simp only [macCfg, logRingCfg, regA]; omega

@[simp] theorem macStat_not_ring {w v : Nat} : macStat w ≠ logRingCfg v := by
  simp only [macStat, logRingCfg, regA]; omega

@[simp] theorem macNbrCtl_not_ring {w v : Nat} : macNbrCtl w ≠ logRingCfg v := by
  simp only [macNbrCtl, logRingCfg, regA]; omega

@[simp] theorem macAtBase_not_ring {w v : Nat} : macAtBase w ≠ logRingCfg v := by
  simp only [macAtBase, logRingCfg, regA]; omega

@[simp] theorem macSqCfg_not_ring {w v : Nat} : macSqCfg w ≠ logRingCfg v := by
  simp only [macSqCfg, logRingCfg, regA]; omega

@[simp] theorem macSqPtr_not_ring {w v : Nat} : macSqPtr w ≠ logRingCfg v := by
  simp only [macSqPtr, logRingCfg, regA]; omega

@[simp] theorem macRqCfg_not_ring {w v : Nat} : macRqCfg w ≠ logRingCfg v := by
  simp only [macRqCfg, logRingCfg, regA]; omega

@[simp] theorem macRqPtr_not_ring {w v : Nat} : macRqPtr w ≠ logRingCfg v := by
  simp only [macRqPtr, logRingCfg, regA]; omega

@[simp] theorem ingCtl_not_ring {w v : Nat} : ingCtl w ≠ logRingCfg v := by
  simp only [ingCtl, logRingCfg, regA]; omega

@[simp] theorem ingStat_not_ring {w v : Nat} : ingStat w ≠ logRingCfg v := by
  simp only [ingStat, logRingCfg, regA]; omega

@[simp] theorem ingDirCfg_not_ring {w v : Nat} : ingDirCfg w ≠ logRingCfg v := by
  simp only [ingDirCfg, logRingCfg, regA]; omega

@[simp] theorem ingStgCfg_not_ring {w v : Nat} : ingStgCfg w ≠ logRingCfg v := by
  simp only [ingStgCfg, logRingCfg, regA]; omega

@[simp] theorem ingStgPtr_not_ring {w v : Nat} : ingStgPtr w ≠ logRingCfg v := by
  simp only [ingStgPtr, logRingCfg, regA]; omega

@[simp] theorem ingStgRel_not_ring {w v : Nat} : ingStgRel w ≠ logRingCfg v := by
  simp only [ingStgRel, logRingCfg, regA]; omega

@[simp] theorem ingXqCfg_not_ring {w v : Nat} : ingXqCfg w ≠ logRingCfg v := by
  simp only [ingXqCfg, logRingCfg, regA]; omega

@[simp] theorem ingXqPtr_not_ring {w v : Nat} : ingXqPtr w ≠ logRingCfg v := by
  simp only [ingXqPtr, logRingCfg, regA]; omega

@[simp] theorem ingLobCfg_not_ring {w v : Nat} : ingLobCfg w ≠ logRingCfg v := by
  simp only [ingLobCfg, logRingCfg, regA]; omega

@[simp] theorem ingLobPtr_not_ring {w v : Nat} : ingLobPtr w ≠ logRingCfg v := by
  simp only [ingLobPtr, logRingCfg, regA]; omega

@[simp] theorem ingGbCtl_not_ring {w v : Nat} : ingGbCtl w ≠ logRingCfg v := by
  simp only [ingGbCtl, logRingCfg, regA]; omega

@[simp] theorem ingGbDst_not_ring {w v : Nat} : ingGbDst w ≠ logRingCfg v := by
  simp only [ingGbDst, logRingCfg, regA]; omega

@[simp] theorem ingGbArg_not_ring {w v : Nat} : ingGbArg w ≠ logRingCfg v := by
  simp only [ingGbArg, logRingCfg, regA]; omega

@[simp] theorem naCtl_not_ring {w v : Nat} : naCtl w ≠ logRingCfg v := by
  simp only [naCtl, logRingCfg, regA]; omega

@[simp] theorem naStat_not_ring {w v : Nat} : naStat w ≠ logRingCfg v := by
  simp only [naStat, logRingCfg, regA]; omega

@[simp] theorem naEpCfg_not_ring {w v : Nat} : naEpCfg w ≠ logRingCfg v := by
  simp only [naEpCfg, logRingCfg, regA]; omega

@[simp] theorem naWsCfg_not_ring {w v : Nat} : naWsCfg w ≠ logRingCfg v := by
  simp only [naWsCfg, logRingCfg, regA]; omega

@[simp] theorem naJob_not_ring {w v : Nat} : naJob w ≠ logRingCfg v := by
  simp only [naJob, logRingCfg, regA]; omega

@[simp] theorem ddrTiming_not_ring {w v : Nat} : ddrTiming w ≠ logRingCfg v := by
  simp only [ddrTiming, logRingCfg, regA]; omega

@[simp] theorem nfcCtl_not_ring {w v : Nat} : nfcCtl w ≠ logRingCfg v := by
  simp only [nfcCtl, logRingCfg, regA]; omega

@[simp] theorem nfcStat_not_ring {w v : Nat} : nfcStat w ≠ logRingCfg v := by
  simp only [nfcStat, logRingCfg, regA]; omega

@[simp] theorem nfcMapCfg_not_ring {w v : Nat} : nfcMapCfg w ≠ logRingCfg v := by
  simp only [nfcMapCfg, logRingCfg, regA]; omega

@[simp] theorem nfcBufCfg_not_ring {w v : Nat} : nfcBufCfg w ≠ logRingCfg v := by
  simp only [nfcBufCfg, logRingCfg, regA]; omega

@[simp] theorem nfcGeom_not_ring {w v : Nat} : nfcGeom w ≠ logRingCfg v := by
  simp only [nfcGeom, logRingCfg, regA]; omega

@[simp] theorem uplCfg_not_ring {w p v : Nat} : uplCfg w p ≠ logRingCfg v := by
  simp only [uplCfg, logRingCfg, regA]; omega

@[simp] theorem uplStat_not_ring {w p v : Nat} : uplStat w p ≠ logRingCfg v := by
  simp only [uplStat, logRingCfg, regA]; omega

@[simp] theorem uplTqCfg_not_ring {w p v : Nat} : uplTqCfg w p ≠ logRingCfg v := by
  simp only [uplTqCfg, logRingCfg, regA]; omega

@[simp] theorem uplTqPtr_not_ring {w p v : Nat} : uplTqPtr w p ≠ logRingCfg v := by
  simp only [uplTqPtr, logRingCfg, regA]; omega

@[simp] theorem uplRqPtr_not_ring {w p v : Nat} : uplRqPtr w p ≠ logRingCfg v := by
  simp only [uplRqPtr, logRingCfg, regA]; omega

@[simp] theorem uplPtime_not_ring {w v : Nat} : uplPtime w ≠ logRingCfg v := by
  simp only [uplPtime, logRingCfg, regA]; omega

@[simp] theorem uplClkstat_not_ring {w v : Nat} : uplClkstat w ≠ logRingCfg v := by
  simp only [uplClkstat, logRingCfg, regA]; omega

@[simp] theorem ttMat_not_ring {w v : Nat} : ttMat w ≠ logRingCfg v := by
  simp only [ttMat, logRingCfg, regA]; omega

@[simp] theorem ttMatinc_not_ring {w v : Nat} : ttMatinc w ≠ logRingCfg v := by
  simp only [ttMatinc, logRingCfg, regA]; omega

@[simp] theorem ttStat_not_ring {w v : Nat} : ttStat w ≠ logRingCfg v := by
  simp only [ttStat, logRingCfg, regA]; omega

@[simp] theorem ttCtl_not_ring {w i v : Nat} : ttCtl w i ≠ logRingCfg v := by
  simp only [ttCtl, logRingCfg, regA]; omega

@[simp] theorem ttRep_not_ring {w i v : Nat} : ttRep w i ≠ logRingCfg v := by
  simp only [ttRep, logRingCfg, regA]; omega

@[simp] theorem ttArg_not_ring {w i v : Nat} : ttArg w i ≠ logRingCfg v := by
  simp only [ttArg, logRingCfg, regA]; omega

@[simp] theorem logCtl_not_ring {w v : Nat} : logCtl w ≠ logRingCfg v := by
  simp only [logCtl, logRingCfg, regA]; omega

@[simp] theorem logCfg_not_ring {w v : Nat} : logCfg w ≠ logRingCfg v := by
  simp only [logCfg, logRingCfg, regA]; omega

@[simp] theorem logStat_not_ring {w v : Nat} : logStat w ≠ logRingCfg v := by
  simp only [logStat, logRingCfg, regA]; omega

@[simp] theorem logSeq_not_ring {w v : Nat} : logSeq w ≠ logRingCfg v := by
  simp only [logSeq, logRingCfg, regA]; omega

@[simp] theorem logSwraise_not_ring {w v : Nat} : logSwraise w ≠ logRingCfg v := by
  simp only [logSwraise, logRingCfg, regA]; omega

@[simp] theorem srgStat_not_ring {w v : Nat} : srgStat w ≠ logRingCfg v := by
  simp only [srgStat, logRingCfg, regA]; omega

@[simp] theorem mbxCtl_not_ring {w v : Nat} : mbxCtl w ≠ logRingCfg v := by
  simp only [mbxCtl, logRingCfg, regA]; omega

@[simp] theorem mbxStat_not_ring {w v : Nat} : mbxStat w ≠ logRingCfg v := by
  simp only [mbxStat, logRingCfg, regA]; omega

@[simp] theorem mbxRsp_not_ring {w i v : Nat} : mbxRsp w i ≠ logRingCfg v := by
  simp only [mbxRsp, logRingCfg, regA]; omega

@[simp] theorem mbxLen_not_ring {w i v : Nat} : mbxLen w i ≠ logRingCfg v := by
  simp only [mbxLen, logRingCfg, regA]; omega

@[simp] theorem flagOf_not_ring {w src v : Nat} : (flagOf w src).1 ≠ logRingCfg v := by
  unfold flagOf; split
  · exact bbStat0_not_ring
  · split
    · exact bbStat1_not_ring
    · exact bbSrstat_not_ring

end Sys2Proof.Machine
end

