-- ==== Sys2Proof/Laws/Keeps.lean ====
section
/-! SUPPORT. From masks to lists of parts: what a command's lemma says, in the statements' terms. -/

namespace Sys2Proof.Machine

set_option Elab.async false

theorem partBit_inj {p q : Part} (h : partBit p = partBit q) : p = q := by
  cases p <;> cases q <;> first | rfl | cases h

theorem testBit_partMask {p : Part} : ∀ {l : List Part}, p ∉ l → (partMask l).testBit (partBit p) = false
  | [], _ => by simp [partMask]
  | q :: l, h => by
    have hq : partBit q ≠ partBit p := fun e => h (partBit_inj e ▸ List.mem_cons_self)
    have hl := testBit_partMask (p := p) (l := l) fun k => h (List.mem_cons_of_mem _ k)
    simp only [partMask, Nat.testBit_or, hl, Bool.or_false]
    exact Nat.testBit_two_pow_of_ne hq

theorem keeps_of_kept {l : List Part} {s u : State} (h : Kept (partMask l) s u) : Keeps l s u :=
  fun p hp => h.same p (testBit_partMask hp)

theorem goes_mono {o : Host.Outcome State Fault Refusal} {p q : State → Prop} (h : Goes o p) (k : ∀ u, p u → q u) : Goes o q := by
  obtain ⟨u, e, hu⟩ := h
  exact ⟨u, e, k u hu⟩

/-- A command's lemma of its mask gives its frame from the cycle it takes place at. -/
theorem goes_keeps {l : List Part} {o : Host.Outcome State Fault Refusal} {s : State} (h : Goes o (Kept (partMask l) s)) :
    Goes o fun u => Follows s u ∧ Keeps l s u :=
  goes_mono h fun _ k => ⟨k.follows, keeps_of_kept k⟩

end Sys2Proof.Machine
end

