-- ==== Sys2Proof/Laws/KeptOps.lean ====
section
/-! SUPPORT. What the functions of Machine/Ops.lean leave as it was. -/

namespace Sys2Proof.Machine

set_option Elab.async false

variable {μ : Nat} {s₀ s : State}

@[simp] theorem passTime_kept {d : Nat} (h₀ : Kept μ s₀ s) (hm : 2049 ||| μ = μ := by rfl) :
    Kept μ s₀ (passTime d s) := by
  refine kept_lift h₀ hm ?_
  clear h₀ hm
  unfold passTime; simp (maxDischargeDepth := 60) +contextual

@[simp] theorem modReplica_kept {w : Nat} {f : Replica → Replica} (h₀ : Kept μ s₀ s) (hm : 2048 ||| μ = μ := by rfl) :
    Kept μ s₀ (modReplica w f s) := by
  refine kept_lift h₀ hm ?_
  clear h₀ hm
  unfold modReplica; simp (maxDischargeDepth := 60) +contextual

@[simp] theorem regPutF_kept {a hi lo v : Nat} (h₀ : Kept μ s₀ s) (hm : 2 ||| μ = μ := by rfl) (ha : 8 ||| μ = μ ∨ ∀ v, a ≠ logRingCfg v := by simp) :
    Kept μ s₀ (regPutF a hi lo v s) := by
  exact regSet_kept h₀ hm ha

@[simp] theorem markSet_kept {a b : Nat} (h₀ : Kept μ s₀ s) (hm : 8589934592 ||| μ = μ := by rfl) :
    Kept μ s₀ (markSet a b s) := by
  refine kept_lift h₀ hm ?_
  clear h₀ hm
  unfold markSet; simp (maxDischargeDepth := 60) +contextual

@[simp] theorem countBy_kept {w n k : Nat} (h₀ : Kept μ s₀ s) (hm : 4 ||| μ = μ := by rfl) :
    Kept μ s₀ (countBy w n k s) := by
  refine kept_lift h₀ hm ?_
  clear h₀ hm
  unfold countBy; simp (maxDischargeDepth := 60) +contextual

@[simp] theorem count_kept {w n : Nat} (h₀ : Kept μ s₀ s) (hm : 4 ||| μ = μ := by rfl) :
    Kept μ s₀ (count w n s) := by
  refine kept_lift h₀ hm ?_
  clear h₀ hm
  unfold count; simp (maxDischargeDepth := 60) +contextual

@[simp] theorem ringSettle_kept (h₀ : Kept μ s₀ s) (hm : 264 ||| μ = μ := by rfl) :
    Kept μ s₀ (ringSettle s) := by
  refine kept_lift h₀ hm ?_
  clear h₀ hm
  unfold ringSettle; simp (maxDischargeDepth := 60) +contextual

@[simp] theorem atTime_kept {t : Nat} (h₀ : Kept μ s₀ s) (hm : 2313 ||| μ = μ := by rfl) :
    Kept μ s₀ (atTime t s) := by
  refine kept_lift h₀ hm ?_
  clear h₀ hm
  unfold atTime; simp (maxDischargeDepth := 60) +contextual

@[simp] theorem objPut_kept {n v : Nat} (h₀ : Kept μ s₀ s) (hm : 16 ||| μ = μ := by rfl) :
    Kept μ s₀ (objPut n v s) := by
  refine kept_lift h₀ hm ?_
  clear h₀ hm
  unfold objPut; simp (maxDischargeDepth := 60) +contextual

@[simp] theorem octPut_kept {n : Nat} {b : Bytes} (h₀ : Kept μ s₀ s) (hm : 32 ||| μ = μ := by rfl) :
    Kept μ s₀ (octPut n b s) := by
  refine kept_lift h₀ hm ?_
  clear h₀ hm
  unfold octPut; simp (maxDischargeDepth := 60) +contextual

@[simp] theorem mramLoad_kept {m : Mram} (h₀ : Kept μ s₀ s) (hm : 2295660593 ||| μ = μ := by rfl) :
    Kept μ s₀ (mramLoad m s) := by
  refine kept_lift h₀ hm ?_
  clear h₀ hm
  unfold mramLoad; simp (maxDischargeDepth := 60) +contextual

@[simp] theorem commitPush_kept {c : Commit} (h₀ : Kept μ s₀ s) (hm : 65536 ||| μ = μ := by rfl) :
    Kept μ s₀ (commitPush c s) := by
  refine kept_lift h₀ hm ?_
  clear h₀ hm
  unfold commitPush; simp (maxDischargeDepth := 60) +contextual

@[simp] theorem commitOne_kept (h₀ : Kept μ s₀ s) (hm : 65536 ||| μ = μ := by rfl) :
    Kept μ s₀ (commitOne s) := by
  refine kept_lift h₀ hm ?_
  clear h₀ hm
  unfold commitOne; simp (maxDischargeDepth := 60) +contextual

@[simp] theorem eachWing_kept {f : Nat → State → State} (hf : ∀ w u, Kept μ s₀ u → Kept μ s₀ (f w u)) (h₀ : Kept μ s₀ s) :
    Kept μ s₀ (eachWing f s) := by
  unfold eachWing; exact kept_foldl (fun u a hu => hf a u hu) h₀

@[simp] theorem logSet_kept {w : Nat} {l : LogWing} (h₀ : Kept μ s₀ s) (hm : 256 ||| μ = μ := by rfl) :
    Kept μ s₀ (logSet w l s) := by
  refine kept_lift h₀ hm ?_
  clear h₀ hm
  unfold logSet; simp (maxDischargeDepth := 60) +contextual

@[simp] theorem demandFlushAt_kept {at_ w : Nat} (h₀ : Kept μ s₀ s) (hm : 256 ||| μ = μ := by rfl) :
    Kept μ s₀ (demandFlushAt at_ w s) := by
  refine kept_lift h₀ hm ?_
  clear h₀ hm
  unfold demandFlushAt; simp (maxDischargeDepth := 60) +contextual

@[simp] theorem demandFlush_kept {w : Nat} (h₀ : Kept μ s₀ s) (hm : 256 ||| μ = μ := by rfl) :
    Kept μ s₀ (demandFlush w s) := by
  refine kept_lift h₀ hm ?_
  clear h₀ hm
  unfold demandFlush; simp (maxDischargeDepth := 60) +contextual

@[simp] theorem faultFlush_kept {w : Nat} (h₀ : Kept μ s₀ s) (hm : 256 ||| μ = μ := by rfl) :
    Kept μ s₀ (faultFlush w s) := by
  refine kept_lift h₀ hm ?_
  clear h₀ hm
  unfold faultFlush; simp (maxDischargeDepth := 60) +contextual

@[simp] theorem deliver_kept {w src : Nat} (h₀ : Kept μ s₀ s) (hm : 516 ||| μ = μ := by rfl) :
    Kept μ s₀ (deliver w src s) := by
  refine kept_lift h₀ hm ?_
  clear h₀ hm
  unfold deliver; repeat' split
  all_goals simp (maxDischargeDepth := 60) +contextual [*]

@[simp] theorem bell_kept {w src : Nat} (h₀ : Kept μ s₀ s) (hm : 8589935110 ||| μ = μ := by rfl) :
    Kept μ s₀ (bell w src s) := by
  refine kept_lift h₀ hm ?_
  clear h₀ hm
  unfold bell; simp (maxDischargeDepth := 60) +contextual

@[simp] theorem stat_kept {w a b src : Nat} (h₀ : Kept μ s₀ s) (hm : 8589935110 ||| μ = μ := by rfl) (ha : 8 ||| μ = μ ∨ ∀ v, a ≠ logRingCfg v := by simp) :
    Kept μ s₀ (stat w a b src s) := by
  exact bell_kept (regPutF_kept (markSet_kept h₀ (or_sub rfl hm)) (or_sub rfl hm) ha) (or_sub rfl hm)

@[simp] theorem mramAppend_kept {x : Nat} {r : LogRec} (h₀ : Kept μ s₀ s) (hm : 256 ||| μ = μ := by rfl) :
    Kept μ s₀ (mramAppend x r s) := by
  refine kept_lift h₀ hm ?_
  clear h₀ hm
  unfold mramAppend; simp (maxDischargeDepth := 60) +contextual

@[simp] theorem keeperRaise_kept {code src p0 p1 : Nat} (h₀ : Kept μ s₀ s) (hm : 256 ||| μ = μ := by rfl) :
    Kept μ s₀ (keeperRaise code src p0 p1 s) := by
  refine kept_lift h₀ hm ?_
  clear h₀ hm
  unfold keeperRaise; simp (maxDischargeDepth := 60) +contextual

@[simp] theorem flushRecord_kept {w : Nat} {r : LogRec} (h₀ : Kept μ s₀ s) (hm : 8589935382 ||| μ = μ := by rfl) :
    Kept μ s₀ (flushRecord w r s) := by
  refine kept_lift h₀ hm ?_
  clear h₀ hm
  unfold flushRecord; repeat' split
  all_goals simp (maxDischargeDepth := 60) +contextual [*]

@[simp] theorem flushWrite_kept {w n : Nat} (h₀ : Kept μ s₀ s) (hm : 8589935382 ||| μ = μ := by rfl) :
    Kept μ s₀ (flushWrite w n s) := by
  refine kept_lift h₀ hm ?_
  clear h₀ hm
  unfold flushWrite; simp (maxDischargeDepth := 60) +contextual

@[simp] theorem raiseRec_kept {w code src p0 p1 : Nat} (h₀ : Kept μ s₀ s) (hm : 260 ||| μ = μ := by rfl) :
    Kept μ s₀ (raiseRec w code src p0 p1 s) := by
  refine kept_lift h₀ hm ?_
  clear h₀ hm
  unfold raiseRec; simp (maxDischargeDepth := 60) +contextual

@[simp] theorem recentNote_kept {key gap n : Nat} (h₀ : Kept μ s₀ s) (hm : 256 ||| μ = μ := by rfl) :
    Kept μ s₀ (recentNote key gap n s) := by
  refine kept_lift h₀ hm ?_
  clear h₀ hm
  unfold recentNote; simp (maxDischargeDepth := 60) +contextual

@[simp] theorem onceNote_kept {key : Nat} (h₀ : Kept μ s₀ s) (hm : 256 ||| μ = μ := by rfl) :
    Kept μ s₀ (onceNote key s) := by
  refine kept_lift h₀ hm ?_
  clear h₀ hm
  unfold onceNote; simp (maxDischargeDepth := 60) +contextual

@[simp] theorem sendFirst_kept {w : Nat} (h₀ : Kept μ s₀ s) (hm : 8589935382 ||| μ = μ := by rfl) :
    Kept μ s₀ (sendFirst w s) := by
  refine kept_lift h₀ hm ?_
  clear h₀ hm
  unfold sendFirst; repeat' split
  all_goals simp (maxDischargeDepth := 60) +contextual [*]

@[simp] theorem overwrite_kept {w : Nat} {lost : Bool} (h₀ : Kept μ s₀ s) (hm : 8589935366 ||| μ = μ := by rfl) :
    Kept μ s₀ (overwrite w lost s) := by
  refine kept_lift h₀ hm ?_
  clear h₀ hm
  unfold overwrite; simp (maxDischargeDepth := 60) +contextual

@[simp] theorem raiseOne_kept {w code src p0 p1 : Nat} (h₀ : Kept μ s₀ s) (hm : 8589935382 ||| μ = μ := by rfl) :
    Kept μ s₀ (raiseOne w code src p0 p1 s) := by
  refine kept_lift h₀ hm ?_
  clear h₀ hm
  unfold raiseOne; simp (maxDischargeDepth := 60) +contextual

@[simp] theorem raise_kept {w code src p0 p1 : Nat} (h₀ : Kept μ s₀ s) (hm : 8589935382 ||| μ = μ := by rfl) :
    Kept μ s₀ (raise w code src p0 p1 s) := by
  refine kept_lift h₀ hm ?_
  clear h₀ hm
  unfold raise; simp (maxDischargeDepth := 60) +contextual

@[simp] theorem raiseOnce_kept {key gap w code src p0 p1 : Nat} (h₀ : Kept μ s₀ s) (hm : 8589935382 ||| μ = μ := by rfl) :
    Kept μ s₀ (raiseOnce key gap w code src p0 p1 s) := by
  refine kept_lift h₀ hm ?_
  clear h₀ hm
  unfold raiseOnce; simp (maxDischargeDepth := 60) +contextual

@[simp] theorem raiseRate_kept {key gap w code src p0 n : Nat} (h₀ : Kept μ s₀ s) (hm : 8589935382 ||| μ = μ := by rfl) :
    Kept μ s₀ (raiseRate key gap w code src p0 n s) := by
  refine kept_lift h₀ hm ?_
  clear h₀ hm
  unfold raiseRate; simp (maxDischargeDepth := 60) +contextual

@[simp] theorem srRaise_kept {k : Nat} (h₀ : Kept μ s₀ s) (hm : 512 ||| μ = μ := by rfl) :
    Kept μ s₀ (srRaise k s) := by
  refine kept_lift h₀ hm ?_
  clear h₀ hm
  unfold srRaise; repeat' split
  all_goals simp (maxDischargeDepth := 60) +contextual [*]

@[simp] theorem freeWord_kept (h₀ : Kept μ s₀ s) (hm : 4294967296 ||| μ = μ := by rfl) :
    Kept μ s₀ (freeWord s).2 := by
  refine kept_lift h₀ hm ?_
  clear h₀ hm
  unfold freeWord; simp (maxDischargeDepth := 60) +contextual

@[simp] theorem srLinkSet_kept {k : Nat} {l : SrLink} (h₀ : Kept μ s₀ s) (hm : 65536 ||| μ = μ := by rfl) :
    Kept μ s₀ (srLinkSet k l s) := by
  refine kept_lift h₀ hm ?_
  clear h₀ hm
  unfold srLinkSet; simp (maxDischargeDepth := 60) +contextual

@[simp] theorem frameIn_kept (h₀ : Kept μ s₀ s) (hm : 65536 ||| μ = μ := by rfl) :
    Kept μ s₀ (frameIn s) := by
  refine kept_lift h₀ hm ?_
  clear h₀ hm
  unfold frameIn; repeat' split
  all_goals simp (maxDischargeDepth := 60) +contextual [*]

@[simp] theorem frameOut_kept (h₀ : Kept μ s₀ s) (hm : 65536 ||| μ = μ := by rfl) :
    Kept μ s₀ (frameOut s) := by
  refine kept_lift h₀ hm ?_
  clear h₀ hm
  unfold frameOut; repeat' split
  all_goals simp (maxDischargeDepth := 60) +contextual [*]

@[simp] theorem reqSlotSet_kept {k : Nat} {x : ReqSlot} (h₀ : Kept μ s₀ s) (hm : 65536 ||| μ = μ := by rfl) :
    Kept μ s₀ (reqSlotSet k x s) := by
  refine kept_lift h₀ hm ?_
  clear h₀ hm
  unfold reqSlotSet; simp (maxDischargeDepth := 60) +contextual

@[simp] theorem slotReply_kept {k : Nat} {reply : Bytes} (h₀ : Kept μ s₀ s) (hm : 65544 ||| μ = μ := by rfl) :
    Kept μ s₀ (slotReply k reply s) := by
  refine kept_lift h₀ hm ?_
  clear h₀ hm
  unfold slotReply; simp (maxDischargeDepth := 60) +contextual

@[simp] theorem doorPut_kept {k kind at_ : Nat} (h₀ : Kept μ s₀ s) (hm : 65536 ||| μ = μ := by rfl) :
    Kept μ s₀ (doorPut k kind at_ s) := by
  refine kept_lift h₀ hm ?_
  clear h₀ hm
  unfold doorPut; simp (maxDischargeDepth := 60) +contextual

@[simp] theorem hwSubmit_kept {k kind : Nat} {body : Bytes} (h₀ : Kept μ s₀ s) (hm : 65536 ||| μ = μ := by rfl) :
    Kept μ s₀ (hwSubmit k kind body s) := by
  refine kept_lift h₀ hm ?_
  clear h₀ hm
  unfold hwSubmit; simp (maxDischargeDepth := 60) +contextual

@[simp] theorem hwNext_kept {w : Nat} (h₀ : Kept μ s₀ s) (hm : 65536 ||| μ = μ := by rfl) :
    Kept μ s₀ (hwNext w s) := by
  refine kept_lift h₀ hm ?_
  clear h₀ hm
  unfold hwNext; repeat' split
  all_goals simp (maxDischargeDepth := 60) +contextual [*]

@[simp] theorem hwPost_kept {w who kind arg : Nat} (h₀ : Kept μ s₀ s) (hm : 65536 ||| μ = μ := by rfl) :
    Kept μ s₀ (hwPost w who kind arg s) := by
  refine kept_lift h₀ hm ?_
  clear h₀ hm
  unfold hwPost; simp (maxDischargeDepth := 60) +contextual

@[simp] theorem slotServed_kept {k seq status : Nat} {body : Bytes} (h₀ : Kept μ s₀ s) (hm : 65544 ||| μ = μ := by rfl) :
    Kept μ s₀ (slotServed k seq status body s) := by
  refine kept_lift h₀ hm ?_
  clear h₀ hm
  unfold slotServed; simp (maxDischargeDepth := 60) +contextual

@[simp] theorem reqServed_kept {w kind status : Nat} {body : Bytes} (h₀ : Kept μ s₀ s) (hm : 65544 ||| μ = μ := by rfl) :
    Kept μ s₀ (reqServed w kind status body s) := by
  refine kept_lift h₀ hm ?_
  clear h₀ hm
  unfold reqServed; repeat' split
  all_goals simp (maxDischargeDepth := 60) +contextual [*]

@[simp] theorem sessSet_kept {n : Nat} {x : Session} (h₀ : Kept μ s₀ s) (hm : 32768 ||| μ = μ := by rfl) :
    Kept μ s₀ (sessSet n x s) := by
  refine kept_lift h₀ hm ?_
  clear h₀ hm
  unfold sessSet; simp (maxDischargeDepth := 60) +contextual

@[simp] theorem storeResponse_kept {n reqId obj status : Nat} {body : Bytes} (h₀ : Kept μ s₀ s) (hm : 32768 ||| μ = μ := by rfl) :
    Kept μ s₀ (storeResponse n reqId obj status body s) := by
  refine kept_lift h₀ hm ?_
  clear h₀ hm
  unfold storeResponse; simp (maxDischargeDepth := 60) +contextual

@[simp] theorem mailboxRespond_kept {w slot id obj status : Nat} {body : Bytes} (h₀ : Kept μ s₀ s) (hm : 8589935118 ||| μ = μ := by rfl) :
    Kept μ s₀ (mailboxRespond w slot id obj status body s) := by
  refine kept_lift h₀ hm ?_
  clear h₀ hm
  unfold mailboxRespond; simp (maxDischargeDepth := 60) +contextual

@[simp] theorem answer_kept {via : Via} {obj status : Nat} {body : Bytes} (h₀ : Kept μ s₀ s) (hm : 8590033422 ||| μ = μ := by rfl) :
    Kept μ s₀ (answer via obj status body s) := by
  refine kept_lift h₀ hm ?_
  clear h₀ hm
  unfold answer; repeat' split
  all_goals simp (maxDischargeDepth := 60) +contextual [*]

@[simp] theorem serve_kept {via : Via} {n : Nat} {f : State → Nat × Bytes × State} (hf : ∀ u, Kept μ s₀ u → Kept μ s₀ (f u).2.2) (h₀ : Kept μ s₀ s) (hm : 8590033422 ||| μ = μ := by rfl) :
    Kept μ s₀ (serve via n f s) := by
  unfold serve; repeat' split
  all_goals simp (maxDischargeDepth := 60) +contextual [*]

@[simp] theorem keeperServe_kept {via : Via} {n kind : Nat} {f : State → Nat × Bytes × State} (hf : ∀ u, Kept μ s₀ u → Kept μ s₀ (f u).2.2) (h₀ : Kept μ s₀ s) (hm : 8590033422 ||| μ = μ := by rfl) :
    Kept μ s₀ (keeperServe via n kind f s) := by
  unfold keeperServe
  split
  · exact kept_ite (fun _ => serve_kept hf h₀ (or_sub rfl hm)) (fun _ => h₀)
  · refine kept_ite (fun _ => serve_kept (fun u hu => ?_) h₀ (or_sub rfl hm)) (fun _ => h₀)
    exact kept_ite_body (fun _ => kept_ite_body (fun _ => hu) (fun _ => by dsimp only; exact slotServed_kept (hf u hu) (or_sub rfl hm))) (fun _ => hf u hu)

@[simp] theorem countRefusal_kept {n st : Nat} (h₀ : Kept μ s₀ s) (hm : 32768 ||| μ = μ := by rfl) :
    Kept μ s₀ (countRefusal n st s) := by
  refine kept_lift h₀ hm ?_
  clear h₀ hm
  unfold countRefusal; simp (maxDischargeDepth := 60) +contextual

@[simp] theorem checked_kept {cs : List (Bool × Nat)} {f : State → Nat × Bytes × State} (hf : ∀ u, Kept μ s₀ u → Kept μ s₀ (f u).2.2) (h₀ : Kept μ s₀ s) :
    Kept μ s₀ (checked cs f s).2.2 := by
  unfold checked; repeat' split
  all_goals simp (maxDischargeDepth := 60) +contextual [*]

@[simp] theorem checkedCount_kept {n : Nat} {cs : List (Bool × Nat)} {f : State → Nat × Bytes × State} (hf : ∀ u, Kept μ s₀ u → Kept μ s₀ (f u).2.2) (h₀ : Kept μ s₀ s) (hm : 32768 ||| μ = μ := by rfl) :
    Kept μ s₀ (checkedCount n cs f s).2.2 := by
  unfold checkedCount; repeat' split
  all_goals simp (maxDischargeDepth := 60) +contextual [*]

end Sys2Proof.Machine
end

