-- ==== Sys2Proof/Laws/KeptIntake.lean ====
section
/-! SUPPORT. What the functions of Machine/Intake.lean leave as it was. -/

namespace Sys2Proof.Machine

set_option Elab.async false

variable {μ : Nat} {s₀ s : State}

@[simp] theorem ingSet_kept {w : Nat} {x : Ing} (h₀ : Kept μ s₀ s) (hm : 2097152 ||| μ = μ := by rfl) :
    Kept μ s₀ (ingSet w x s) := by
  refine kept_lift h₀ hm ?_
  clear h₀ hm
  unfold ingSet; simp (maxDischargeDepth := 60) +contextual

@[simp] theorem inputPush_kept {w : Nat} {f : InFrame} (h₀ : Kept μ s₀ s) (hm : 2097152 ||| μ = μ := by rfl) :
    Kept μ s₀ (inputPush w f s) := by
  refine kept_lift h₀ hm ?_
  clear h₀ hm
  unfold inputPush; dsimp only; repeat' split
  all_goals simp (maxDischargeDepth := 60) +contextual [*]

@[simp] theorem placesSet_kept {w n : Nat} (h₀ : Kept μ s₀ s) (hm : 131072 ||| μ = μ := by rfl) :
    Kept μ s₀ (placesSet w n s) := by
  refine kept_lift h₀ hm ?_
  clear h₀ hm
  unfold placesSet; simp (maxDischargeDepth := 60) +contextual

@[simp] theorem ingFlag_kept {w b : Nat} (h₀ : Kept μ s₀ s) (hm : 8589935110 ||| μ = μ := by rfl) :
    Kept μ s₀ (ingFlag w b s) := by
  refine kept_lift h₀ hm ?_
  clear h₀ hm
  unfold ingFlag; simp (maxDischargeDepth := 60) +contextual

@[simp] theorem carriedFull_kept {w a : Nat} {bellOn : Bool} (h₀ : Kept μ s₀ s) (hm : 8589935390 ||| μ = μ := by rfl) :
    Kept μ s₀ (carriedFull w a bellOn s) := by
  refine kept_lift h₀ hm ?_
  clear h₀ hm
  unfold carriedFull; repeat' split
  all_goals simp (maxDischargeDepth := 60) +contextual [*]

@[simp] theorem carriedYields_kept {w : Nat} (h₀ : Kept μ s₀ s) (hm : 8592163614 ||| μ = μ := by rfl) :
    Kept μ s₀ (carriedYields w s) := by
  refine kept_lift h₀ hm ?_
  clear h₀ hm
  unfold carriedYields; dsimp only; repeat' split
  all_goals simp (maxDischargeDepth := 60) +contextual [*]

@[simp] theorem reservePlaces_kept (h₀ : Kept μ s₀ s) (hm : 8592163614 ||| μ = μ := by rfl) :
    Kept μ s₀ (reservePlaces s).2 := by
  refine kept_lift h₀ hm ?_
  clear h₀ hm
  have h₀ := kept_refl (m := 8592163614) s
  unfold reservePlaces; refine kept_foldl_snd (fun y a hy => ?_) h₀; simp (maxDischargeDepth := 60) +contextual [*]

@[simp] theorem returnPlaces_kept {mask : Nat} (h₀ : Kept μ s₀ s) (hm : 131072 ||| μ = μ := by rfl) :
    Kept μ s₀ (returnPlaces mask s) := by
  refine kept_lift h₀ hm ?_
  clear h₀ hm
  unfold returnPlaces; simp (maxDischargeDepth := 60) +contextual

@[simp] theorem nbrSet_kept {k : Nat} {x : Nbr} (h₀ : Kept μ s₀ s) (hm : 262144 ||| μ = μ := by rfl) :
    Kept μ s₀ (nbrSet k x s) := by
  refine kept_lift h₀ hm ?_
  clear h₀ hm
  unfold nbrSet; simp (maxDischargeDepth := 60) +contextual

@[simp] theorem macFlag_kept {w b : Nat} (h₀ : Kept μ s₀ s) (hm : 8589935110 ||| μ = μ := by rfl) :
    Kept μ s₀ (macFlag w b s) := by
  refine kept_lift h₀ hm ?_
  clear h₀ hm
  unfold macFlag; simp (maxDischargeDepth := 60) +contextual

@[simp] theorem addrFull_kept {w a : Nat} (h₀ : Kept μ s₀ s) (hm : 8589935382 ||| μ = μ := by rfl) :
    Kept μ s₀ (addrFull w a s) := by
  refine kept_lift h₀ hm ?_
  clear h₀ hm
  unfold addrFull; simp (maxDischargeDepth := 60) +contextual

@[simp] theorem nbrEvict_kept {w k : Nat} {v : Nbr} {p : Nat} (h₀ : Kept μ s₀ s) (hm : 262156 ||| μ = μ := by rfl) :
    Kept μ s₀ (nbrEvict w k v p s) := by
  refine kept_lift h₀ hm ?_
  clear h₀ hm
  unfold nbrEvict; simp (maxDischargeDepth := 60) +contextual

@[simp] theorem nbrMake_kept {w a : Nat} (h₀ : Kept μ s₀ s) (hm : 8590197534 ||| μ = μ := by rfl) :
    Kept μ s₀ (nbrMake w a s).2 := by
  refine kept_lift h₀ hm ?_
  clear h₀ hm
  unfold nbrMake; repeat' split
  all_goals simp (maxDischargeDepth := 60) +contextual [*]

@[simp] theorem candidateHold_kept {a : Nat} (h₀ : Kept μ s₀ s) (hm : 8590197534 ||| μ = μ := by rfl) :
    Kept μ s₀ (candidateHold a s) := by
  refine kept_lift h₀ hm ?_
  clear h₀ hm
  unfold candidateHold; repeat' split
  all_goals simp (maxDischargeDepth := 60) +contextual [*]

@[simp] theorem candidatesHold_kept {w : Nat} (h₀ : Kept μ s₀ s) (hm : 8590197534 ||| μ = μ := by rfl) :
    Kept μ s₀ (candidatesHold w s) := by
  refine kept_lift h₀ hm ?_
  clear h₀ hm
  unfold candidatesHold; simp (maxDischargeDepth := 60) +contextual

end Sys2Proof.Machine
end

