-- ==== Sys2Proof/Laws/KeptJob.lean ====
section
/-! SUPPORT. What the functions of Machine/Job.lean leave as it was. -/

namespace Sys2Proof.Machine

set_option Elab.async false

variable {μ : Nat} {s₀ s : State}

@[simp] theorem portSet_kept {pn : Nat} {x : AirPort} (h₀ : Kept μ s₀ s) (hm : 131072 ||| μ = μ := by rfl) :
    Kept μ s₀ (portSet pn x s) := by
  refine kept_lift h₀ hm ?_
  clear h₀ hm
  unfold portSet; simp (maxDischargeDepth := 60) +contextual

@[simp] theorem airCount_kept {pn k : Nat} (h₀ : Kept μ s₀ s) (hm : 4 ||| μ = μ := by rfl) :
    Kept μ s₀ (airCount pn k s) := by
  refine kept_lift h₀ hm ?_
  clear h₀ hm
  unfold airCount; simp (maxDischargeDepth := 60) +contextual

@[simp] theorem setTxen_kept {pn v : Nat} (h₀ : Kept μ s₀ s) (hm : 2 ||| μ = μ := by rfl) :
    Kept μ s₀ (setTxen pn v s) := by
  refine kept_lift h₀ hm ?_
  clear h₀ hm
  unfold setTxen; simp (maxDischargeDepth := 60) +contextual

@[simp] theorem jobSet_kept {pn : Nat} {j : Option Job} (h₀ : Kept μ s₀ s) (hm : 262144 ||| μ = μ := by rfl) :
    Kept μ s₀ (jobSet pn j s) := by
  refine kept_lift h₀ hm ?_
  clear h₀ hm
  unfold jobSet; simp (maxDischargeDepth := 60) +contextual

@[simp] theorem jobBegin_kept {pn : Nat} {j : Job} (h₀ : Kept μ s₀ s) (hm : 262144 ||| μ = μ := by rfl) :
    Kept μ s₀ (jobBegin pn j s) := by
  refine kept_lift h₀ hm ?_
  clear h₀ hm
  unfold jobBegin; simp (maxDischargeDepth := 60) +contextual

@[simp] theorem jobStart_kept {pn : Nat} {j : Job} (h₀ : Kept μ s₀ s) (hm : 262144 ||| μ = μ := by rfl) :
    Kept μ s₀ (jobStart pn j s) := by
  refine kept_lift h₀ hm ?_
  clear h₀ hm
  unfold jobStart; simp (maxDischargeDepth := 60) +contextual

@[simp] theorem jobDone_kept {pn : Nat} (h₀ : Kept μ s₀ s) (hm : 262144 ||| μ = μ := by rfl) :
    Kept μ s₀ (jobDone pn s) := by
  refine kept_lift h₀ hm ?_
  clear h₀ hm
  unfold jobDone; dsimp only; repeat' split
  all_goals simp (maxDischargeDepth := 60) +contextual [*]

@[simp] theorem jobKick_kept {pn : Nat} (h₀ : Kept μ s₀ s) (hm : 262144 ||| μ = μ := by rfl) :
    Kept μ s₀ (jobKick pn s) := by
  refine kept_lift h₀ hm ?_
  clear h₀ hm
  unfold jobKick; repeat' split
  all_goals simp (maxDischargeDepth := 60) +contextual [*]

@[simp] theorem jobAgain_kept {pn : Nat} (h₀ : Kept μ s₀ s) (hm : 262148 ||| μ = μ := by rfl) :
    Kept μ s₀ (jobAgain pn s) := by
  refine kept_lift h₀ hm ?_
  clear h₀ hm
  unfold jobAgain; repeat' split
  all_goals simp (maxDischargeDepth := 60) +contextual [*]

@[simp] theorem unpinSend_kept {k : Nat} (h₀ : Kept μ s₀ s) (hm : 262144 ||| μ = μ := by rfl) :
    Kept μ s₀ (unpinSend k s) := by
  refine kept_lift h₀ hm ?_
  clear h₀ hm
  unfold unpinSend; simp (maxDischargeDepth := 60) +contextual

@[simp] theorem requestBack_kept {w a flags status tries time : Nat} (h₀ : Kept μ s₀ s) (hm : 8589935118 ||| μ = μ := by rfl) :
    Kept μ s₀ (requestBack w a flags status tries time s) := by
  refine kept_lift h₀ hm ?_
  clear h₀ hm
  unfold requestBack; simp (maxDischargeDepth := 60) +contextual

@[simp] theorem jobComplete_kept {pn status : Nat} (h₀ : Kept μ s₀ s) (hm : 8590197262 ||| μ = μ := by rfl) :
    Kept μ s₀ (jobComplete pn status s) := by
  refine kept_lift h₀ hm ?_
  clear h₀ hm
  unfold jobComplete; repeat' split
  all_goals simp (maxDischargeDepth := 60) +contextual [*]

@[simp] theorem exchangeDone_kept {j : Job} (h₀ : Kept μ s₀ s) (hm : 262144 ||| μ = μ := by rfl) :
    Kept μ s₀ (exchangeDone j s) := by
  refine kept_lift h₀ hm ?_
  clear h₀ hm
  unfold exchangeDone; simp (maxDischargeDepth := 60) +contextual

@[simp] theorem floodSent_kept {ident : Nat} (h₀ : Kept μ s₀ s) (hm : 262148 ||| μ = μ := by rfl) :
    Kept μ s₀ (floodSent ident s) := by
  refine kept_lift h₀ hm ?_
  clear h₀ hm
  unfold floodSent; simp (maxDischargeDepth := 60) +contextual

@[simp] theorem jobSent_kept {pn first last : Nat} (h₀ : Kept μ s₀ s) (hm : 8590197262 ||| μ = μ := by rfl) :
    Kept μ s₀ (jobSent pn first last s) := by
  refine kept_lift h₀ hm ?_
  clear h₀ hm
  unfold jobSent; repeat' split
  all_goals simp (maxDischargeDepth := 60) +contextual [*]

end Sys2Proof.Machine
end

