-- ==== Sys2Proof/Laws/KeptMains.lean ====
section
/-! SUPPORT. What the functions of Machine/Mains.lean leave as it was. -/

namespace Sys2Proof.Machine

set_option Elab.async false

variable {μ : Nat} {s₀ s : State}

@[simp] theorem chanSet_kept {ch : Nat} {c : Chan} (h₀ : Kept μ s₀ s) (hm : 2048 ||| μ = μ := by rfl) :
    Kept μ s₀ (chanSet ch c s) := by
  refine kept_lift h₀ hm ?_
  clear h₀ hm
  unfold chanSet; simp (maxDischargeDepth := 60) +contextual

@[simp] theorem matEnter_kept {st matAt : Nat} (h₀ : Kept μ s₀ s) (hm : 8589937414 ||| μ = μ := by rfl) :
    Kept μ s₀ (matEnter st matAt s) := by
  refine kept_lift h₀ hm ?_
  clear h₀ hm
  unfold matEnter; simp (maxDischargeDepth := 60) +contextual

@[simp] theorem sendUpdate_kept {inc : Nat} {load : Option Nat} (h₀ : Kept μ s₀ s) (hm : 67584 ||| μ = μ := by rfl) :
    Kept μ s₀ (sendUpdate inc load s) := by
  refine kept_lift h₀ hm ?_
  clear h₀ hm
  unfold sendUpdate; simp (maxDischargeDepth := 60) +contextual

@[simp] theorem giveIncrement_kept {inc : Nat} (h₀ : Kept μ s₀ s) (hm : 67584 ||| μ = μ := by rfl) :
    Kept μ s₀ (giveIncrement inc s) := by
  refine kept_lift h₀ hm ?_
  clear h₀ hm
  unfold giveIncrement; simp (maxDischargeDepth := 60) +contextual

@[simp] theorem setOrigin_kept {inc tc : Nat} (h₀ : Kept μ s₀ s) (hm : 67584 ||| μ = μ := by rfl) :
    Kept μ s₀ (setOrigin inc tc s) := by
  refine kept_lift h₀ hm ?_
  clear h₀ hm
  unfold setOrigin; simp (maxDischargeDepth := 60) +contextual

@[simp] theorem judgePhase_kept {up : Bool} {e : Int} {matAt : Nat} (h₀ : Kept μ s₀ s) (hm : 8589937414 ||| μ = μ := by rfl) :
    Kept μ s₀ (judgePhase up e matAt s) := by
  refine kept_lift h₀ hm ?_
  clear h₀ hm
  unfold judgePhase; simp (maxDischargeDepth := 60) +contextual

@[simp] theorem validEnds_kept {up : Bool} {tc inc : Nat} (h₀ : Kept μ s₀ s) (hm : 8589937414 ||| μ = μ := by rfl) :
    Kept μ s₀ (validEnds up tc inc s) := by
  refine kept_lift h₀ hm ?_
  clear h₀ hm
  unfold validEnds; simp (maxDischargeDepth := 60) +contextual

@[simp] theorem matCrossing_kept {up valid : Bool} {tc half : Nat} {full : Option Nat} {rmsLow : Bool} (h₀ : Kept μ s₀ s) (hm : 8590002950 ||| μ = μ := by rfl) :
    Kept μ s₀ (matCrossing up valid tc half full rmsLow s) := by
  refine kept_lift h₀ hm ?_
  clear h₀ hm
  unfold matCrossing; simp (maxDischargeDepth := 60) +contextual

@[simp] theorem slotSet_kept {i : Nat} {x : Slot} (h₀ : Kept μ s₀ s) (hm : 16384 ||| μ = μ := by rfl) :
    Kept μ s₀ (slotSet i x s) := by
  refine kept_lift h₀ hm ?_
  clear h₀ hm
  unfold slotSet; simp (maxDischargeDepth := 60) +contextual

@[simp] theorem armedCrossing_kept {ch : Nat} {f : Option Nat} {valid : Bool} (h₀ : Kept μ s₀ s) (hm : 16384 ||| μ = μ := by rfl) :
    Kept μ s₀ (armedCrossing ch f valid s) := by
  refine kept_lift h₀ hm ?_
  clear h₀ hm
  unfold armedCrossing; simp (maxDischargeDepth := 60) +contextual

@[simp] theorem sourceChange_kept {ch : Nat} (h₀ : Kept μ s₀ s) (hm : 8589937414 ||| μ = μ := by rfl) :
    Kept μ s₀ (sourceChange ch s) := by
  refine kept_lift h₀ hm ?_
  clear h₀ hm
  unfold sourceChange; simp (maxDischargeDepth := 60) +contextual

@[simp] theorem sourceAt_kept {ch : Nat} {valid : Bool} (h₀ : Kept μ s₀ s) (hm : 8589937414 ||| μ = μ := by rfl) :
    Kept μ s₀ (sourceAt ch valid s) := by
  refine kept_lift h₀ hm ?_
  clear h₀ hm
  unfold sourceAt; repeat' split
  all_goals simp (maxDischargeDepth := 60) +contextual [*]

@[simp] theorem execZeroCrossing_goes {t ch : Nat} {up : Bool} {tc rms : Nat} (h₀ : Kept μ s₀ (atTime t s)) (hm : 8590019334 ||| μ = μ := by rfl) :
    Goes (execZeroCrossing t ch up tc rms s) (Kept μ s₀) := by
  refine goes_lift h₀ hm ?_
  clear h₀ hm
  unfold execZeroCrossing; extract_lets s0 c d f valid full period c1 s1 s2
  have h0 : Kept 8590019334 (atTime t s) s0 := kept_refl _
  have h1 : Kept 8590019334 (atTime t s) s1 := sourceAt_kept (chanSet_kept h0)
  have h2 : Kept 8590019334 (atTime t s) s2 := kept_ite (fun _ => matCrossing_kept h1) (fun _ => h1)
  exact goes_ite (fun _ => goes_next.2 h0) (fun _ => goes_ite (fun _ => goes_next.2 (armedCrossing_kept (chanSet_kept h0)))
    (fun _ => goes_next.2 (armedCrossing_kept h2)))

@[simp] theorem execMatLoss_goes {t : Nat} (h₀ : Kept μ s₀ (atTime t s)) (hm : 8590002950 ||| μ = μ := by rfl) :
    Goes (execMatLoss t s) (Kept μ s₀) := by
  refine goes_lift h₀ hm ?_
  clear h₀ hm
  unfold execMatLoss; dsimp only; repeat' split
  all_goals simp (maxDischargeDepth := 60) +contextual [*]

@[simp] theorem execSourceChannelChange_goes {t : Nat} (h₀ : Kept μ s₀ (atTime t s)) (hm : 8589937414 ||| μ = μ := by rfl) :
    Goes (execSourceChannelChange t s) (Kept μ s₀) := by
  refine goes_lift h₀ hm ?_
  clear h₀ hm
  unfold execSourceChannelChange; dsimp only; repeat' split
  all_goals simp (maxDischargeDepth := 60) +contextual [*]

@[simp] theorem execMatUpdateApply_goes {t : Nat} (h₀ : Kept μ s₀ (atTime t s)) (hm : 2048 ||| μ = μ := by rfl) :
    Goes (execMatUpdateApply t s) (Kept μ s₀) := by
  refine goes_lift h₀ hm ?_
  clear h₀ hm
  unfold execMatUpdateApply; dsimp only; repeat' split
  all_goals simp (maxDischargeDepth := 60) +contextual [*]

@[simp] theorem execReplicaStale_goes {t w : Nat} (h₀ : Kept μ s₀ (atTime t s)) (hm : 8589937430 ||| μ = μ := by rfl) :
    Goes (execReplicaStale t w s) (Kept μ s₀) := by
  refine goes_lift h₀ hm ?_
  clear h₀ hm
  unfold execReplicaStale; simp (maxDischargeDepth := 60) +contextual 

end Sys2Proof.Machine
end

