-- ==== Sys2Proof/Laws/KeptAir.lean ====
section
/-! SUPPORT. What the functions of Machine/Air.lean leave as it was. -/

namespace Sys2Proof.Machine

set_option Elab.async false

variable {μ : Nat} {s₀ s : State}

@[simp] theorem laneSet_kept {w l : Nat} {x : Lane} (h₀ : Kept μ s₀ s) (hm : 131072 ||| μ = μ := by rfl) :
    Kept μ s₀ (laneSet w l x s) := by
  refine kept_lift h₀ hm ?_
  clear h₀ hm
  unfold laneSet; simp (maxDischargeDepth := 60) +contextual

@[simp] theorem abortLane_kept {w l k : Nat} (h₀ : Kept μ s₀ s) (hm : 131076 ||| μ = μ := by rfl) :
    Kept μ s₀ (abortLane w l k s) := by
  refine kept_lift h₀ hm ?_
  clear h₀ hm
  unfold abortLane; simp (maxDischargeDepth := 60) +contextual

@[simp] theorem abortLanes_kept {pn k : Nat} {p : Nat → Bool} (h₀ : Kept μ s₀ s) (hm : 131076 ||| μ = μ := by rfl) :
    Kept μ s₀ (abortLanes pn k p s) := by
  refine kept_lift h₀ hm ?_
  clear h₀ hm
  unfold abortLanes; simp (maxDischargeDepth := 60) +contextual

@[simp] theorem bufFree_kept {pn slot : Nat} (h₀ : Kept μ s₀ s) (hm : 131072 ||| μ = μ := by rfl) :
    Kept μ s₀ (bufFree pn slot s) := by
  refine kept_lift h₀ hm ?_
  clear h₀ hm
  unfold bufFree; simp (maxDischargeDepth := 60) +contextual

@[simp] theorem startSpan_kept {pn : Nat} {x : Span} (h₀ : Kept μ s₀ s) (hm : 131078 ||| μ = μ := by rfl) :
    Kept μ s₀ (startSpan pn x s) := by
  refine kept_lift h₀ hm ?_
  clear h₀ hm
  unfold startSpan; simp (maxDischargeDepth := 60) +contextual

@[simp] theorem blankMore_kept {pn bin : Nat} (h₀ : Kept μ s₀ s) (hm : 131076 ||| μ = μ := by rfl) :
    Kept μ s₀ (blankMore pn bin s) := by
  refine kept_lift h₀ hm ?_
  clear h₀ hm
  unfold blankMore; simp (maxDischargeDepth := 60) +contextual

@[simp] theorem releaseTxen_kept {pn : Nat} (h₀ : Kept μ s₀ s) (hm : 393218 ||| μ = μ := by rfl) :
    Kept μ s₀ (releaseTxen pn s) := by
  refine kept_lift h₀ hm ?_
  clear h₀ hm
  unfold releaseTxen; simp (maxDischargeDepth := 60) +contextual

@[simp] theorem descDone_kept {a status time : Nat} (h₀ : Kept μ s₀ s) (hm : 8 ||| μ = μ := by rfl) :
    Kept μ s₀ (descDone a status time s) := by
  refine kept_lift h₀ hm ?_
  clear h₀ hm
  unfold descDone; simp (maxDischargeDepth := 60) +contextual

@[simp] theorem descComplete_kept {pn : Nat} {x : Span} {status time : Nat} (h₀ : Kept μ s₀ s) (hm : 8589935118 ||| μ = μ := by rfl) :
    Kept μ s₀ (descComplete pn x status time s) := by
  refine kept_lift h₀ hm ?_
  clear h₀ hm
  unfold descComplete; simp (maxDischargeDepth := 60) +contextual

@[simp] theorem ttSkipMark_kept {w e why : Nat} (h₀ : Kept μ s₀ s) (hm : 8589935382 ||| μ = μ := by rfl) :
    Kept μ s₀ (ttSkipMark w e why s) := by
  refine kept_lift h₀ hm ?_
  clear h₀ hm
  unfold ttSkipMark; simp (maxDischargeDepth := 60) +contextual

@[simp] theorem cutSpan_kept {st pn : Nat} (h₀ : Kept μ s₀ s) (hm : 8590328606 ||| μ = μ := by rfl) :
    Kept μ s₀ (cutSpan st pn s) := by
  refine kept_lift h₀ hm ?_
  clear h₀ hm
  unfold cutSpan; dsimp only; repeat' split
  all_goals simp (maxDischargeDepth := 60) +contextual [*]

@[simp] theorem postOrdinary_kept {pn a : Nat} {kind : Nat} (h₀ : Kept μ s₀ s) (hm : 8590066190 ||| μ = μ := by rfl) :
    Kept μ s₀ (postOrdinary pn a kind s) := by
  refine kept_lift h₀ hm ?_
  clear h₀ hm
  unfold postOrdinary; simp (maxDischargeDepth := 60) +contextual

@[simp] theorem execPortEnable_goes {t w p : Nat} (h₀ : Kept μ s₀ (atTime t s)) (hm : 131074 ||| μ = μ := by rfl) :
    Goes (execPortEnable t w p s) (Kept μ s₀) := by
  refine goes_lift h₀ hm ?_
  clear h₀ hm
  unfold execPortEnable; simp (maxDischargeDepth := 60) +contextual 

@[simp] theorem arbSet_kept {w : Nat} {x : Arbiter} (h₀ : Kept μ s₀ s) (hm : 131072 ||| μ = μ := by rfl) :
    Kept μ s₀ (arbSet w x s) := by
  refine kept_lift h₀ hm ?_
  clear h₀ hm
  unfold arbSet; simp (maxDischargeDepth := 60) +contextual

@[simp] theorem idleWatchers_kept {pn : Nat} (h₀ : Kept μ s₀ s) (hm : 131072 ||| μ = μ := by rfl) :
    Kept μ s₀ (idleWatchers pn s) := by
  refine kept_lift h₀ hm ?_
  clear h₀ hm
  unfold idleWatchers; simp (maxDischargeDepth := 60) +contextual

@[simp] theorem realign_kept {pn : Nat} (h₀ : Kept μ s₀ s) (hm : 131078 ||| μ = μ := by rfl) :
    Kept μ s₀ (realign pn s) := by
  refine kept_lift h₀ hm ?_
  clear h₀ hm
  unfold realign; simp (maxDischargeDepth := 60) +contextual

@[simp] theorem execTrain_goes {t w p : Nat} (h₀ : Kept μ s₀ (atTime t s)) (hm : 8590065670 ||| μ = μ := by rfl) :
    Goes (execTrain t w p s) (Kept μ s₀) := by
  refine goes_lift h₀ hm ?_
  clear h₀ hm
  unfold execTrain; simp (maxDischargeDepth := 60) +contextual 

@[simp] theorem execAlignmentGained_goes {t w p : Nat} (h₀ : Kept μ s₀ (atTime t s)) (hm : 8590066454 ||| μ = μ := by rfl) :
    Goes (execAlignmentGained t w p s) (Kept μ s₀) := by
  refine goes_lift h₀ hm ?_
  clear h₀ hm
  unfold execAlignmentGained; simp (maxDischargeDepth := 60) +contextual 

@[simp] theorem execAlignmentLost_goes {t w p : Nat} (h₀ : Kept μ s₀ (atTime t s)) (hm : 8590066454 ||| μ = μ := by rfl) :
    Goes (execAlignmentLost t w p s) (Kept μ s₀) := by
  refine goes_lift h₀ hm ?_
  clear h₀ hm
  unfold execAlignmentLost; simp (maxDischargeDepth := 60) +contextual 

@[simp] theorem execPreambleDetect_goes {t w p bin : Nat} {pwr : Int} (h₀ : Kept μ s₀ (atTime t s)) (hm : 131072 ||| μ = μ := by rfl) :
    Goes (execPreambleDetect t w p bin pwr s) (Kept μ s₀) := by
  refine goes_lift h₀ hm ?_
  clear h₀ hm
  unfold execPreambleDetect; simp (maxDischargeDepth := 60) +contextual 

@[simp] theorem execLaneGrant_goes {t w : Nat} (h₀ : Kept μ s₀ (atTime t s)) (hm : 131072 ||| μ = μ := by rfl) :
    Goes (execLaneGrant t w s) (Kept μ s₀) := by
  refine goes_lift h₀ hm ?_
  clear h₀ hm
  unfold execLaneGrant; dsimp only; repeat' split
  all_goals simp (maxDischargeDepth := 60) +contextual [*]

@[simp] theorem execWatcherWithdraw_goes {t w p bin : Nat} {matched : Bool} {pwr : Int} (h₀ : Kept μ s₀ (atTime t s)) (hm : 8590066182 ||| μ = μ := by rfl) :
    Goes (execWatcherWithdraw t w p bin matched pwr s) (Kept μ s₀) := by
  refine goes_lift h₀ hm ?_
  clear h₀ hm
  unfold execWatcherWithdraw; simp (maxDischargeDepth := 60) +contextual 

@[simp] theorem execLaneAcquired_goes {t w lane : Nat} (h₀ : Kept μ s₀ (atTime t s)) (hm : 131072 ||| μ = μ := by rfl) :
    Goes (execLaneAcquired t w lane s) (Kept μ s₀) := by
  refine goes_lift h₀ hm ?_
  clear h₀ hm
  unfold execLaneAcquired; simp (maxDischargeDepth := 60) +contextual 

@[simp] theorem execSfdTimeout_goes {t w lane : Nat} {matched : Bool} {pwr : Int} (h₀ : Kept μ s₀ (atTime t s)) (hm : 131076 ||| μ = μ := by rfl) :
    Goes (execSfdTimeout t w lane matched pwr s) (Kept μ s₀) := by
  refine goes_lift h₀ hm ?_
  clear h₀ hm
  unfold execSfdTimeout; simp (maxDischargeDepth := 60) +contextual 

@[simp] theorem execSfdFound_goes {t w lane : Nat} {phr : Phr} (h₀ : Kept μ s₀ (atTime t s)) (hm : 8592163614 ||| μ = μ := by rfl) :
    Goes (execSfdFound t w lane phr s) (Kept μ s₀) := by
  refine goes_lift h₀ hm ?_
  clear h₀ hm
  unfold execSfdFound; simp (maxDischargeDepth := 60) +contextual 

@[simp] theorem execAckTxen_goes {t w p : Nat} (h₀ : Kept μ s₀ (atTime t s)) (hm : 131078 ||| μ = μ := by rfl) :
    Goes (execAckTxen t w p s) (Kept μ s₀) := by
  refine goes_lift h₀ hm ?_
  clear h₀ hm
  unfold execAckTxen; dsimp only; repeat' split
  all_goals simp (maxDischargeDepth := 60) +contextual [*]

@[simp] theorem postJob_kept {pn : Nat} (h₀ : Kept μ s₀ s) (hm : 8590328334 ||| μ = μ := by rfl) :
    Kept μ s₀ (postJob pn s) := by
  refine kept_lift h₀ hm ?_
  clear h₀ hm
  unfold postJob; repeat' split
  all_goals simp (maxDischargeDepth := 60) +contextual [*]

@[simp] theorem execTxDescriptorPost_goes {t w p addr : Nat} (h₀ : Kept μ s₀ (atTime t s)) (hm : 8590328334 ||| μ = μ := by rfl) :
    Goes (execTxDescriptorPost t w p addr s) (Kept μ s₀) := by
  refine goes_lift h₀ hm ?_
  clear h₀ hm
  unfold execTxDescriptorPost; simp (maxDischargeDepth := 60) +contextual 

@[simp] theorem execTransmissionEnd_goes {t w p : Nat} (h₀ : Kept μ s₀ (atTime t s)) (hm : 8590328334 ||| μ = μ := by rfl) :
    Goes (execTransmissionEnd t w p s) (Kept μ s₀) := by
  refine goes_lift h₀ hm ?_
  clear h₀ hm
  unfold execTransmissionEnd; dsimp only; repeat' split
  all_goals simp (maxDischargeDepth := 60) +contextual [*]

@[simp] theorem execTxenRelease_goes {t w p : Nat} (h₀ : Kept μ s₀ (atTime t s)) (hm : 8590328334 ||| μ = μ := by rfl) :
    Goes (execTxenRelease t w p s) (Kept μ s₀) := by
  refine goes_lift h₀ hm ?_
  clear h₀ hm
  unfold execTxenRelease; dsimp only; repeat' split
  all_goals simp (maxDischargeDepth := 60) +contextual [*]

@[simp] theorem execBlankingEnd_goes {t w p : Nat} (h₀ : Kept μ s₀ (atTime t s)) (hm : 131072 ||| μ = μ := by rfl) :
    Goes (execBlankingEnd t w p s) (Kept μ s₀) := by
  refine goes_lift h₀ hm ?_
  clear h₀ hm
  unfold execBlankingEnd; dsimp only; repeat' split
  all_goals simp (maxDischargeDepth := 60) +contextual [*]

@[simp] theorem spiRefused_kept {w p : Nat} {v : Word} (h₀ : Kept μ s₀ s) (hm : 8589935382 ||| μ = μ := by rfl) :
    Kept μ s₀ (spiRefused w p v s) := by
  refine kept_lift h₀ hm ?_
  clear h₀ hm
  unfold spiRefused; simp (maxDischargeDepth := 60) +contextual

@[simp] theorem spiWrite_kept {w p : Nat} {v : Word} (h₀ : Kept μ s₀ s) (hm : 8590066454 ||| μ = μ := by rfl) :
    Kept μ s₀ (spiWrite w p v s) := by
  refine kept_lift h₀ hm ?_
  clear h₀ hm
  unfold spiWrite; simp (maxDischargeDepth := 60) +contextual

@[simp] theorem execSpiGo_goes {t w p : Nat} {v : Word} (h₀ : Kept μ s₀ (atTime t s)) (hm : 8590066454 ||| μ = μ := by rfl) :
    Goes (execSpiGo t w p v s) (Kept μ s₀) := by
  refine goes_lift h₀ hm ?_
  clear h₀ hm
  unfold execSpiGo; simp (maxDischargeDepth := 60) +contextual 

@[simp] theorem execSpiComplete_goes {t w p miso : Nat} (h₀ : Kept μ s₀ (atTime t s)) (hm : 131074 ||| μ = μ := by rfl) :
    Goes (execSpiComplete t w p miso s) (Kept μ s₀) := by
  refine goes_lift h₀ hm ?_
  clear h₀ hm
  unfold execSpiComplete; dsimp only; repeat' split
  all_goals simp (maxDischargeDepth := 60) +contextual [*]

@[simp] theorem execClipReport_goes {t w p n : Nat} (h₀ : Kept μ s₀ (atTime t s)) (hm : 8590066454 ||| μ = μ := by rfl) :
    Goes (execClipReport t w p n s) (Kept μ s₀) := by
  refine goes_lift h₀ hm ?_
  clear h₀ hm
  unfold execClipReport; simp (maxDischargeDepth := 60) +contextual 

end Sys2Proof.Machine
end

