-- ==== Sys2Proof/Laws/KeptLan.lean ====
section
/-! SUPPORT. What the functions of Machine/Lan.lean leave as it was. -/

namespace Sys2Proof.Machine

set_option Elab.async false

variable {μ : Nat} {s₀ s : State}

@[simp] theorem lanSet_kept {pn : Nat} {x : LanPort} (h₀ : Kept μ s₀ s) (hm : 536870912 ||| μ = μ := by rfl) :
    Kept μ s₀ (lanSet pn x s) := by
  refine kept_lift h₀ hm ?_
  clear h₀ hm
  unfold lanSet; simp (maxDischargeDepth := 60) +contextual

@[simp] theorem pairSet_kept {w : Nat} {x : LanPair} (h₀ : Kept μ s₀ s) (hm : 1073741824 ||| μ = μ := by rfl) :
    Kept μ s₀ (pairSet w x s) := by
  refine kept_lift h₀ hm ?_
  clear h₀ hm
  unfold pairSet; simp (maxDischargeDepth := 60) +contextual

@[simp] theorem lanFlag_kept {pn b : Nat} (h₀ : Kept μ s₀ s) (hm : 8589935110 ||| μ = μ := by rfl) :
    Kept μ s₀ (lanFlag pn b s) := by
  refine kept_lift h₀ hm ?_
  clear h₀ hm
  unfold lanFlag; simp (maxDischargeDepth := 60) +contextual

@[simp] theorem lanCount_kept {pn k : Nat} (h₀ : Kept μ s₀ s) (hm : 4 ||| μ = μ := by rfl) :
    Kept μ s₀ (lanCount pn k s) := by
  refine kept_lift h₀ hm ?_
  clear h₀ hm
  unfold lanCount; simp (maxDischargeDepth := 60) +contextual

@[simp] theorem lanWriteBack_kept {desc status seq at_ : Nat} (h₀ : Kept μ s₀ s) (hm : 8 ||| μ = μ := by rfl) :
    Kept μ s₀ (lanWriteBack desc status seq at_ s) := by
  refine kept_lift h₀ hm ?_
  clear h₀ hm
  unfold lanWriteBack; simp (maxDischargeDepth := 60) +contextual

@[simp] theorem tqDone_kept {pn status seq at_ : Nat} (h₀ : Kept μ s₀ s) (hm : 8589935118 ||| μ = μ := by rfl) :
    Kept μ s₀ (tqDone pn status seq at_ s) := by
  refine kept_lift h₀ hm ?_
  clear h₀ hm
  unfold tqDone; simp (maxDischargeDepth := 60) +contextual

@[simp] theorem returnFrom_kept {pn : Nat} (n : Nat) (h₀ : Kept μ s₀ s) (hm : 9126806030 ||| μ = μ := by rfl) :
    Kept μ s₀ (returnFrom pn n s).2 := by
  induction n generalizing s with
  | zero => exact h₀
  | succ n ih =>
    unfold returnFrom
    exact kept_ite_snd (fun _ => h₀) (fun _ => ih (tqDone_kept (lanSet_kept h₀ (or_sub rfl hm)) (or_sub rfl hm)))

@[simp] theorem goodFrame_kept {pn : Nat} (h₀ : Kept μ s₀ s) (hm : 9126806294 ||| μ = μ := by rfl) :
    Kept μ s₀ (goodFrame pn s) := by
  refine kept_lift h₀ hm ?_
  clear h₀ hm
  unfold goodFrame; simp (maxDischargeDepth := 60) +contextual

@[simp] theorem ptpFrames_kept {pn k : Nat} (h₀ : Kept μ s₀ s) (hm : 9126806294 ||| μ = μ := by rfl) :
    Kept μ s₀ (ptpFrames pn k s) := by
  refine kept_lift h₀ hm ?_
  clear h₀ hm
  unfold ptpFrames; simp (maxDischargeDepth := 60) +contextual

@[simp] theorem prpSeq_kept {w : Nat} (h₀ : Kept μ s₀ s) (hm : 1073741824 ||| μ = μ := by rfl) :
    Kept μ s₀ (prpSeq w s).2 := by
  refine kept_lift h₀ hm ?_
  clear h₀ hm
  unfold prpSeq; simp (maxDischargeDepth := 60) +contextual

@[simp] theorem prpTake_kept {w : Nat} (h₀ : Kept μ s₀ s) (hm : 1073741824 ||| μ = μ := by rfl) :
    Kept μ s₀ (prpTake w s).2 := by
  refine kept_lift h₀ hm ?_
  clear h₀ hm
  unfold prpTake; simp (maxDischargeDepth := 60) +contextual

@[simp] theorem lanSendAt_kept {pn at_ : Nat} {seq : Option Nat} {n : Nat} {frame : Bytes} (h₀ : Kept μ s₀ s) (hm : 536870916 ||| μ = μ := by rfl) :
    Kept μ s₀ (lanSendAt pn at_ seq n frame s) := by
  refine kept_lift h₀ hm ?_
  clear h₀ hm
  unfold lanSendAt; simp (maxDischargeDepth := 60) +contextual

@[simp] theorem lanSend_kept {pn : Nat} {seq : Option Nat} {frame : Bytes} (h₀ : Kept μ s₀ s) (hm : 536870916 ||| μ = μ := by rfl) :
    Kept μ s₀ (lanSend pn seq frame s) := by
  refine kept_lift h₀ hm ?_
  clear h₀ hm
  unfold lanSend; simp (maxDischargeDepth := 60) +contextual

end Sys2Proof.Machine
end

