-- ==== Sys2Proof/Laws/KeptClock.lean ====
section
/-! SUPPORT. What the functions of Machine/Clock.lean leave as it was. -/

namespace Sys2Proof.Machine

set_option Elab.async false

variable {μ : Nat} {s₀ s : State}

@[simp] theorem domSet_kept {d : Nat} {x : Domain} (h₀ : Kept μ s₀ s) (hm : 524288 ||| μ = μ := by rfl) :
    Kept μ s₀ (domSet d x s) := by
  refine kept_lift h₀ hm ?_
  clear h₀ hm
  unfold domSet; simp (maxDischargeDepth := 60) +contextual

@[simp] theorem disciplineState_kept {st : Nat} (h₀ : Kept μ s₀ s) (hm : 272 ||| μ = μ := by rfl) :
    Kept μ s₀ (disciplineState st s) := by
  refine kept_lift h₀ hm ?_
  clear h₀ hm
  unfold disciplineState; simp (maxDischargeDepth := 60) +contextual

@[simp] theorem ltimeFree_kept (h₀ : Kept μ s₀ s) (hm : 273 ||| μ = μ := by rfl) :
    Kept μ s₀ (ltimeFree s) := by
  refine kept_lift h₀ hm ?_
  clear h₀ hm
  unfold ltimeFree; simp (maxDischargeDepth := 60) +contextual

@[simp] theorem clkFlag_kept {b : Nat} (h₀ : Kept μ s₀ s) (hm : 8589935110 ||| μ = μ := by rfl) :
    Kept μ s₀ (clkFlag b s) := by
  refine kept_lift h₀ hm ?_
  clear h₀ hm
  unfold clkFlag; simp (maxDischargeDepth := 60) +contextual

@[simp] theorem domMove_kept {d st : Nat} (h₀ : Kept μ s₀ s) (hm : 8590459671 ||| μ = μ := by rfl) :
    Kept μ s₀ (domMove d st s) := by
  refine kept_lift h₀ hm ?_
  clear h₀ hm
  unfold domMove; simp (maxDischargeDepth := 60) +contextual

@[simp] theorem reselect_kept {d : Nat} (h₀ : Kept μ s₀ s) (hm : 8590459670 ||| μ = μ := by rfl) :
    Kept μ s₀ (reselect d s) := by
  refine kept_lift h₀ hm ?_
  clear h₀ hm
  unfold reselect; repeat' split
  all_goals simp (maxDischargeDepth := 60) +contextual [*]

@[simp] theorem reselectLost_kept {d pn : Nat} (h₀ : Kept μ s₀ s) (hm : 8590459670 ||| μ = μ := by rfl) :
    Kept μ s₀ (reselectLost d pn s) := by
  refine kept_lift h₀ hm ?_
  clear h₀ hm
  unfold reselectLost; dsimp only; repeat' split
  all_goals simp (maxDischargeDepth := 60) +contextual [*]

@[simp] theorem linkDown_kept {pn : Nat} (h₀ : Kept μ s₀ s) (hm : 9127330590 ||| μ = μ := by rfl) :
    Kept μ s₀ (linkDown pn s) := by
  refine kept_lift h₀ hm ?_
  clear h₀ hm
  have h₀ := kept_refl (m := 9127330590) s
  unfold linkDown; extract_lets r
  have h1 : Kept 9127330590 s r.2 := returnFrom_kept _ (lanCount_kept (lanFlag_kept (regPutF_kept h₀)))
  exact reselectLost_kept (reselectLost_kept (raise_kept h1))

@[simp] theorem leadsBack_kept {pn : Nat} (h₀ : Kept μ s₀ s) (hm : 536870920 ||| μ = μ := by rfl) :
    Kept μ s₀ (leadsBack pn s) := by
  refine kept_lift h₀ hm ?_
  clear h₀ hm
  unfold leadsBack; simp (maxDischargeDepth := 60) +contextual

@[simp] theorem parkWing_kept {w : Nat} (h₀ : Kept μ s₀ s) (hm : 10201072414 ||| μ = μ := by rfl) :
    Kept μ s₀ (parkWing w s) := by
  refine kept_lift h₀ hm ?_
  clear h₀ hm
  have h₀ := kept_refl (m := 10201072414) s
  unfold parkWing; extract_lets s1 s2
  have h1 : Kept 10201072414 s s1 := kept_foldl (fun u a hu => regPutF_kept hu) h₀
  have h2 : Kept 10201072414 s s2 := kept_foldl (fun u a hu => leadsBack_kept (kept_mk
    (kept_ite (fun _ => linkDown_kept hu) (fun _ => returnFrom_kept _ hu)) (Nat.le_refl _))) h1
  exact pairSet_kept h2

@[simp] theorem parkUplinks_kept (h₀ : Kept μ s₀ s) (hm : 10201072414 ||| μ = μ := by rfl) :
    Kept μ s₀ (parkUplinks s) := by
  refine kept_lift h₀ hm ?_
  clear h₀ hm
  unfold parkUplinks; simp (maxDischargeDepth := 60) +contextual

@[simp] theorem unparkUplinks_kept (h₀ : Kept μ s₀ s) (hm : 2 ||| μ = μ := by rfl) :
    Kept μ s₀ (unparkUplinks s) := by
  refine kept_lift h₀ hm ?_
  clear h₀ hm
  unfold unparkUplinks; simp (maxDischargeDepth := 60) +contextual

@[simp] theorem sendClk_kept {rate step : Int} {slew : Option Int} (h₀ : Kept μ s₀ s) (hm : 1 ||| μ = μ := by rfl) :
    Kept μ s₀ (sendClk rate step slew s) := by
  refine kept_lift h₀ hm ?_
  clear h₀ hm
  unfold sendClk; simp (maxDischargeDepth := 60) +contextual

@[simp] theorem servo_kept {o : Int} (h₀ : Kept μ s₀ s) (hm : 524289 ||| μ = μ := by rfl) :
    Kept μ s₀ (servo o s) := by
  refine kept_lift h₀ hm ?_
  clear h₀ hm
  unfold servo; simp (maxDischargeDepth := 60) +contextual

@[simp] theorem stepPtime_kept {o : Int} {why : Nat} (h₀ : Kept μ s₀ s) (hm : 8590459671 ||| μ = μ := by rfl) :
    Kept μ s₀ (stepPtime o why s) := by
  refine kept_lift h₀ hm ?_
  clear h₀ hm
  unfold stepPtime; simp (maxDischargeDepth := 60) +contextual

@[simp] theorem takeDomain_kept {d : Nat} (h₀ : Kept μ s₀ s) (hm : 8590459671 ||| μ = μ := by rfl) :
    Kept μ s₀ (takeDomain d s) := by
  refine kept_lift h₀ hm ?_
  clear h₀ hm
  have h₀ := kept_refl (m := 8590459671) s
  unfold takeDomain; extract_lets x old s1 c p s2 s3
  have h1 : Kept 8590459671 s s1 := domSet_kept h₀
  have h2 : Kept 8590459671 s s2 := sendClk_kept (kept_mk h1 (Nat.le_refl _))
  have h3 : Kept 8590459671 s s3 := kept_ite (fun _ => ltimeFree_kept h2) (fun _ => h2)
  exact raise_kept (clkFlag_kept h3)

@[simp] theorem domJudge_kept {d : Nat} {o : Int} (h₀ : Kept μ s₀ s) (hm : 8590459671 ||| μ = μ := by rfl) :
    Kept μ s₀ (domJudge d o s) := by
  refine kept_lift h₀ hm ?_
  clear h₀ hm
  unfold domJudge; simp (maxDischargeDepth := 60) +contextual

@[simp] theorem syncJudge_kept {d : Nat} {o : Int} (h₀ : Kept μ s₀ s) (hm : 8590459671 ||| μ = μ := by rfl) :
    Kept μ s₀ (syncJudge d o s) := by
  refine kept_lift h₀ hm ?_
  clear h₀ hm
  unfold syncJudge; simp (maxDischargeDepth := 60) +contextual

@[simp] theorem execSyncReceive_goes {t dn pn t1 : Nat} {corr : Int} (h₀ : Kept μ s₀ (atTime t s)) (hm : 9127330583 ||| μ = μ := by rfl) :
    Goes (execSyncReceive t dn pn t1 corr s) (Kept μ s₀) := by
  refine goes_lift h₀ hm ?_
  clear h₀ hm
  unfold execSyncReceive; dsimp only; repeat' split
  all_goals simp (maxDischargeDepth := 60) +contextual [*]

@[simp] theorem execAnnounceReceive_goes {t dn pn : Nat} {a : AnnounceMsg} (h₀ : Kept μ s₀ (atTime t s)) (hm : 9127330582 ||| μ = μ := by rfl) :
    Goes (execAnnounceReceive t dn pn a s) (Kept μ s₀) := by
  refine goes_lift h₀ hm ?_
  clear h₀ hm
  unfold execAnnounceReceive; dsimp only; repeat' split
  all_goals simp (maxDischargeDepth := 60) +contextual [*]

@[simp] theorem ptpSend_kept {pn at_ : Nat} (h₀ : Kept μ s₀ s) (hm : 536870916 ||| μ = μ := by rfl) :
    Kept μ s₀ (ptpSend pn at_ s) := by
  refine kept_lift h₀ hm ?_
  clear h₀ hm
  unfold ptpSend; simp (maxDischargeDepth := 60) +contextual

@[simp] theorem execPdelayReq_goes {t pn resp : Nat} (h₀ : Kept μ s₀ (atTime t s)) (hm : 9126806294 ||| μ = μ := by rfl) :
    Goes (execPdelayReq t pn resp s) (Kept μ s₀) := by
  refine goes_lift h₀ hm ?_
  clear h₀ hm
  unfold execPdelayReq; simp (maxDischargeDepth := 60) +contextual 

@[simp] theorem execPeerDelayMeasurement_goes {t pn treq : Nat} {turn : Int} (h₀ : Kept μ s₀ (atTime t s)) (hm : 9127330582 ||| μ = μ := by rfl) :
    Goes (execPeerDelayMeasurement t pn treq turn s) (Kept μ s₀) := by
  refine goes_lift h₀ hm ?_
  clear h₀ hm
  unfold execPeerDelayMeasurement; simp (maxDischargeDepth := 60) +contextual 

@[simp] theorem execSyncTimeout_goes {t d : Nat} (h₀ : Kept μ s₀ (atTime t s)) (hm : 8590459671 ||| μ = μ := by rfl) :
    Goes (execSyncTimeout t d s) (Kept μ s₀) := by
  refine goes_lift h₀ hm ?_
  clear h₀ hm
  unfold execSyncTimeout; simp (maxDischargeDepth := 60) +contextual 

@[simp] theorem execAnnounceReceiptTimeout_goes {t d pn : Nat} (h₀ : Kept μ s₀ (atTime t s)) (hm : 8590459671 ||| μ = μ := by rfl) :
    Goes (execAnnounceReceiptTimeout t d pn s) (Kept μ s₀) := by
  refine goes_lift h₀ hm ?_
  clear h₀ hm
  unfold execAnnounceReceiptTimeout; simp (maxDischargeDepth := 60) +contextual 

@[simp] theorem execHoldoverLimit_goes {t d : Nat} (h₀ : Kept μ s₀ (atTime t s)) (hm : 8590459671 ||| μ = μ := by rfl) :
    Goes (execHoldoverLimit t d s) (Kept μ s₀) := by
  refine goes_lift h₀ hm ?_
  clear h₀ hm
  unfold execHoldoverLimit; simp (maxDischargeDepth := 60) +contextual 

@[simp] theorem execDomainRevert_goes {t : Nat} (h₀ : Kept μ s₀ (atTime t s)) (hm : 524288 ||| μ = μ := by rfl) :
    Goes (execDomainRevert t s) (Kept μ s₀) := by
  refine goes_lift h₀ hm ?_
  clear h₀ hm
  unfold execDomainRevert; simp (maxDischargeDepth := 60) +contextual 

@[simp] theorem clkApply_kept {c : ClkChange} (h₀ : Kept μ s₀ s) (hm : 1 ||| μ = μ := by rfl) :
    Kept μ s₀ (clkApply c s) := by
  refine kept_lift h₀ hm ?_
  clear h₀ hm
  unfold clkApply; simp (maxDischargeDepth := 60) +contextual

@[simp] theorem execPtimeApply_goes {t : Nat} (h₀ : Kept μ s₀ (atTime t s)) (hm : 1 ||| μ = μ := by rfl) :
    Goes (execPtimeApply t s) (Kept μ s₀) := by
  refine goes_lift h₀ hm ?_
  clear h₀ hm
  unfold execPtimeApply; dsimp only; repeat' split
  all_goals simp (maxDischargeDepth := 60) +contextual [*]

end Sys2Proof.Machine
end

