-- ==== Sys2Proof/Laws/KeptSupply.lean ====
section
/-! SUPPORT. What the functions of Machine/Supply.lean leave as it was. -/

namespace Sys2Proof.Machine

set_option Elab.async false

variable {μ : Nat} {s₀ s : State}

@[simp] theorem energyCheck_kept {w op pj : Nat} (h₀ : Kept μ s₀ s) (hm : 8589935382 ||| μ = μ := by rfl) :
    Kept μ s₀ (energyCheck w op pj s).2 := by
  refine kept_lift h₀ hm ?_
  clear h₀ hm
  unfold energyCheck; simp (maxDischargeDepth := 60) +contextual

@[simp] theorem quiesceStamp_kept (h₀ : Kept μ s₀ s) (hm : 134217728 ||| μ = μ := by rfl) :
    Kept μ s₀ (quiesceStamp s) := by
  refine kept_lift h₀ hm ?_
  clear h₀ hm
  unfold quiesceStamp; simp (maxDischargeDepth := 60) +contextual

end Sys2Proof.Machine
end

