-- ==== Sys2Proof/Laws/KeptFlush.lean ====
section
/-! SUPPORT. What the functions of Machine/Flush.lean leave as it was. -/

namespace Sys2Proof.Machine

set_option Elab.async false

variable {μ : Nat} {s₀ s : State}

@[simp] theorem flushStart_kept (h₀ : Kept μ s₀ s) (hm : 8589935382 ||| μ = μ := by rfl) :
    Kept μ s₀ (flushStart s) := by
  refine kept_lift h₀ hm ?_
  clear h₀ hm
  unfold flushStart; repeat' split
  all_goals simp (maxDischargeDepth := 60) +contextual [*]

@[simp] theorem flushAsk_kept {w : Nat} (h₀ : Kept μ s₀ s) (hm : 8589935382 ||| μ = μ := by rfl) :
    Kept μ s₀ (flushAsk w s) := by
  refine kept_lift h₀ hm ?_
  clear h₀ hm
  unfold flushAsk; simp (maxDischargeDepth := 60) +contextual

@[simp] theorem flushEnd_kept {f : Flush} (h₀ : Kept μ s₀ s) (hm : 8589935382 ||| μ = μ := by rfl) :
    Kept μ s₀ (flushEnd f s) := by
  refine kept_lift h₀ hm ?_
  clear h₀ hm
  unfold flushEnd; simp (maxDischargeDepth := 60) +contextual

@[simp] theorem failFlushHalt_kept (h₀ : Kept μ s₀ s) (hm : 8589935382 ||| μ = μ := by rfl) :
    Kept μ s₀ (failFlushHalt s) := by
  refine kept_lift h₀ hm ?_
  clear h₀ hm
  unfold failFlushHalt; repeat' split
  all_goals simp (maxDischargeDepth := 60) +contextual [*]

@[simp] theorem flushHalt_kept (h₀ : Kept μ s₀ s) (hm : 8589935382 ||| μ = μ := by rfl) :
    Kept μ s₀ (flushHalt s) := by
  refine kept_lift h₀ hm ?_
  clear h₀ hm
  unfold flushHalt; repeat' split
  all_goals simp (maxDischargeDepth := 60) +contextual [*]

@[simp] theorem flushCut_kept (h₀ : Kept μ s₀ s) (hm : 8589935382 ||| μ = μ := by rfl) :
    Kept μ s₀ (flushCut s) := by
  refine kept_lift h₀ hm ?_
  clear h₀ hm
  unfold flushCut; simp (maxDischargeDepth := 60) +contextual

@[simp] theorem flushResume_kept (h₀ : Kept μ s₀ s) (hm : 256 ||| μ = μ := by rfl) :
    Kept μ s₀ (flushResume s) := by
  refine kept_lift h₀ hm ?_
  clear h₀ hm
  unfold flushResume; simp (maxDischargeDepth := 60) +contextual

end Sys2Proof.Machine
end

