-- ==== Sys2Proof/Laws/KeptFabric.lean ====
section
/-! SUPPORT. What the functions of Machine/Fabric.lean leave as it was. -/

namespace Sys2Proof.Machine

set_option Elab.async false

variable {μ : Nat} {s₀ s : State}

@[simp] theorem completeAccess_kept {rq a : Nat} {write : Bool} {at_ : Nat} {v : Option Word} (h₀ : Kept μ s₀ s) (hm : 64 ||| μ = μ := by rfl) :
    Kept μ s₀ (completeAccess rq a write at_ v s) := by
  refine kept_lift h₀ hm ?_
  clear h₀ hm
  unfold completeAccess; simp (maxDischargeDepth := 60) +contextual

@[simp] theorem busError_kept {rq a : Nat} {write : Bool} {at_ : Nat} (h₀ : Kept μ s₀ s) (hm : 68 ||| μ = μ := by rfl) :
    Kept μ s₀ (busError rq a write at_ s) := by
  refine kept_lift h₀ hm ?_
  clear h₀ hm
  unfold busError; simp (maxDischargeDepth := 60) +contextual

@[simp] theorem wingsReached_kept {a : Nat → Nat} {f : Nat → State → State} (hf : ∀ w u, Kept μ s₀ u → Kept μ s₀ (f w u)) (h₀ : Kept μ s₀ s) (hm : 68 ||| μ = μ := by rfl) :
    Kept μ s₀ (wingsReached a f s).2 := by
  unfold wingsReached
  exact kept_foldl_snd (fun y w hy => kept_ite_snd (fun _ => hy) (fun _ => kept_ite_snd
    (fun _ => busError_kept hy (or_sub rfl hm)) (fun _ => hf w _ hy))) h₀

@[simp] theorem execBusError_goes {t rq addr : Nat} {write : Bool} (h₀ : Kept μ s₀ (atTime t s)) (hm : 68 ||| μ = μ := by rfl) :
    Goes (execBusError t rq addr write s) (Kept μ s₀) := by
  refine goes_lift h₀ hm ?_
  clear h₀ hm
  unfold execBusError; simp (maxDischargeDepth := 60) +contextual 

@[simp] theorem arriveMsg_kept {m : FabMsg} {w a : Nat} (h₀ : Kept μ s₀ s) (hm : 64 ||| μ = μ := by rfl) :
    Kept μ s₀ (arriveMsg m w a s) := by
  refine kept_lift h₀ hm ?_
  clear h₀ hm
  unfold arriveMsg; simp (maxDischargeDepth := 60) +contextual

@[simp] theorem enqueue_kept {x : Waiting} (h₀ : Kept μ s₀ s) (hm : 64 ||| μ = μ := by rfl) :
    Kept μ s₀ (enqueue x s) := by
  refine kept_lift h₀ hm ?_
  clear h₀ hm
  unfold enqueue; repeat' split
  all_goals simp (maxDischargeDepth := 60) +contextual [*]

@[simp] theorem leaveOne_kept {k : Nat} (h₀ : Kept μ s₀ s) (hm : 64 ||| μ = μ := by rfl) :
    Kept μ s₀ (leaveOne k s) := by
  refine kept_lift h₀ hm ?_
  clear h₀ hm
  unfold leaveOne; repeat' split
  all_goals simp (maxDischargeDepth := 60) +contextual [*]

@[simp] theorem leaveAll_kept (f : Nat) (h₀ : Kept μ s₀ s) (hm : 64 ||| μ = μ := by rfl) :
    Kept μ s₀ (leaveAll f s) := by
  induction f generalizing s with
  | zero => exact h₀
  | succ f ih => exact ih (kept_foldl (fun u e hu => leaveOne_kept hu (or_sub rfl hm)) h₀)

@[simp] theorem execFabricMessageArrival_goes {t : Nat} {m : FabMsg} (h₀ : Kept μ s₀ (atTime t s)) (hm : 68 ||| μ = μ := by rfl) :
    Goes (execFabricMessageArrival t m s) (Kept μ s₀) := by
  refine goes_lift h₀ hm ?_
  clear h₀ hm
  unfold execFabricMessageArrival; dsimp only; repeat' split
  all_goals simp (maxDischargeDepth := 60) +contextual [*]

@[simp] theorem linkSet_kept {w p : Nat} {l : Link} (h₀ : Kept μ s₀ s) (hm : 64 ||| μ = μ := by rfl) :
    Kept μ s₀ (linkSet w p l s) := by
  refine kept_lift h₀ hm ?_
  clear h₀ hm
  unfold linkSet; simp (maxDischargeDepth := 60) +contextual

@[simp] theorem linkUpBits_kept {w p v : Nat} (h₀ : Kept μ s₀ s) (hm : 2 ||| μ = μ := by rfl) :
    Kept μ s₀ (linkUpBits w p v s) := by
  refine kept_lift h₀ hm ?_
  clear h₀ hm
  unfold linkUpBits; simp (maxDischargeDepth := 60) +contextual

@[simp] theorem dropWaiting_kept (h₀ : Kept μ s₀ s) (hm : 68 ||| μ = μ := by rfl) :
    Kept μ s₀ (dropWaiting s) := by
  refine kept_lift h₀ hm ?_
  clear h₀ hm
  unfold dropWaiting; simp (maxDischargeDepth := 60) +contextual

@[simp] theorem execCorridorLinkLost_goes {t w port : Nat} (h₀ : Kept μ s₀ (atTime t s)) (hm : 8589935446 ||| μ = μ := by rfl) :
    Goes (execCorridorLinkLost t w port s) (Kept μ s₀) := by
  refine goes_lift h₀ hm ?_
  clear h₀ hm
  unfold execCorridorLinkLost; simp (maxDischargeDepth := 60) +contextual 

@[simp] theorem execCorridorRetrainStart_goes {t w port : Nat} (h₀ : Kept μ s₀ (atTime t s)) (hm : 64 ||| μ = μ := by rfl) :
    Goes (execCorridorRetrainStart t w port s) (Kept μ s₀) := by
  refine goes_lift h₀ hm ?_
  clear h₀ hm
  unfold execCorridorRetrainStart; simp (maxDischargeDepth := 60) +contextual 

@[simp] theorem execCorridorLinkRetrained_goes {t w port : Nat} (h₀ : Kept μ s₀ (atTime t s)) (hm : 8589935446 ||| μ = μ := by rfl) :
    Goes (execCorridorLinkRetrained t w port s) (Kept μ s₀) := by
  refine goes_lift h₀ hm ?_
  clear h₀ hm
  unfold execCorridorLinkRetrained; simp (maxDischargeDepth := 60) +contextual 

@[simp] theorem execCorridorRetrainFailed_goes {t w port : Nat} (h₀ : Kept μ s₀ (atTime t s)) (hm : 8589935446 ||| μ = μ := by rfl) :
    Goes (execCorridorRetrainFailed t w port s) (Kept μ s₀) := by
  refine goes_lift h₀ hm ?_
  clear h₀ hm
  unfold execCorridorRetrainFailed; simp (maxDischargeDepth := 60) +contextual 

@[simp] theorem quietJobs_kept (h₀ : Kept μ s₀ s) (hm : 16777220 ||| μ = μ := by rfl) :
    Kept μ s₀ (quietJobs s) := by
  refine kept_lift h₀ hm ?_
  clear h₀ hm
  unfold quietJobs; simp (maxDischargeDepth := 60) +contextual

@[simp] theorem applyMode_kept {m : Nat} (h₀ : Kept μ s₀ s) (hm : 10219946910 ||| μ = μ := by rfl) :
    Kept μ s₀ (applyMode m s) := by
  refine kept_lift h₀ hm ?_
  clear h₀ hm
  unfold applyMode; simp (maxDischargeDepth := 60) +contextual

@[simp] theorem execCclkDividerChange_goes {t : Nat} (h₀ : Kept μ s₀ (atTime t s)) (hm : 130 ||| μ = μ := by rfl) :
    Goes (execCclkDividerChange t s) (Kept μ s₀) := by
  refine goes_lift h₀ hm ?_
  clear h₀ hm
  unfold execCclkDividerChange; dsimp only; repeat' split
  all_goals simp (maxDischargeDepth := 60) +contextual [*]

@[simp] theorem execNightAuditLaneChange_goes {t : Nat} (h₀ : Kept μ s₀ (atTime t s)) (hm : 130 ||| μ = μ := by rfl) :
    Goes (execNightAuditLaneChange t s) (Kept μ s₀) := by
  refine goes_lift h₀ hm ?_
  clear h₀ hm
  unfold execNightAuditLaneChange; dsimp only; repeat' split
  all_goals simp (maxDischargeDepth := 60) +contextual [*]

@[simp] theorem execCorePark_goes {t w : Nat} (h₀ : Kept μ s₀ (atTime t s)) (hm : 128 ||| μ = μ := by rfl) :
    Goes (execCorePark t w s) (Kept μ s₀) := by
  refine goes_lift h₀ hm ?_
  clear h₀ hm
  unfold execCorePark; simp (maxDischargeDepth := 60) +contextual 

@[simp] theorem execCoreResume_goes {t : Nat} (h₀ : Kept μ s₀ (atTime t s)) (hm : 128 ||| μ = μ := by rfl) :
    Goes (execCoreResume t s) (Kept μ s₀) := by
  refine goes_lift h₀ hm ?_
  clear h₀ hm
  unfold execCoreResume; dsimp only; repeat' split
  all_goals simp (maxDischargeDepth := 60) +contextual [*]

end Sys2Proof.Machine
end

