-- ==== Sys2Proof/Laws/KeptTimetable.lean ====
section
/-! SUPPORT. What the functions of Machine/Timetable.lean leave as it was. -/

namespace Sys2Proof.Machine

set_option Elab.async false

variable {μ : Nat} {s₀ s : State}

@[simp] theorem ttSet_kept {w e : Nat} {x : Entry} (h₀ : Kept μ s₀ s) (hm : 4096 ||| μ = μ := by rfl) :
    Kept μ s₀ (ttSet w e x s) := by
  refine kept_lift h₀ hm ?_
  clear h₀ hm
  unfold ttSet; simp (maxDischargeDepth := 60) +contextual

@[simp] theorem ttGo_kept {w e : Nat} (h₀ : Kept μ s₀ s) (hm : 8589939478 ||| μ = μ := by rfl) :
    Kept μ s₀ (ttGo w e s) := by
  refine kept_lift h₀ hm ?_
  clear h₀ hm
  unfold ttGo; simp (maxDischargeDepth := 60) +contextual

@[simp] theorem ttAdvance_kept {w e why : Nat} (h₀ : Kept μ s₀ s) (hm : 8589939478 ||| μ = μ := by rfl) :
    Kept μ s₀ (ttAdvance w e why s) := by
  refine kept_lift h₀ hm ?_
  clear h₀ hm
  unfold ttAdvance; simp (maxDischargeDepth := 60) +contextual

@[simp] theorem captureStart_kept {w e : Nat} {x : Entry} (h₀ : Kept μ s₀ s) (hm : 8192 ||| μ = μ := by rfl) :
    Kept μ s₀ (captureStart w e x s) := by
  refine kept_lift h₀ hm ?_
  clear h₀ hm
  unfold captureStart; simp (maxDischargeDepth := 60) +contextual

@[simp] theorem captureStop_kept (h₀ : Kept μ s₀ s) (hm : 8712 ||| μ = μ := by rfl) :
    Kept μ s₀ (captureStop s) := by
  refine kept_lift h₀ hm ?_
  clear h₀ hm
  unfold captureStop; repeat' split
  all_goals simp (maxDischargeDepth := 60) +contextual [*]

@[simp] theorem newEpoch_kept {reason : Nat} (h₀ : Kept μ s₀ s) (hm : 8589949726 ||| μ = μ := by rfl) :
    Kept μ s₀ (newEpoch reason s) := by
  refine kept_lift h₀ hm ?_
  clear h₀ hm
  unfold newEpoch; simp (maxDischargeDepth := 60) +contextual

@[simp] theorem launchCut_kept {w e : Nat} (h₀ : Kept μ s₀ s) (hm : 8589939478 ||| μ = μ := by rfl) :
    Kept μ s₀ (launchCut w e s) := by
  refine kept_lift h₀ hm ?_
  clear h₀ hm
  unfold launchCut; simp (maxDischargeDepth := 60) +contextual

@[simp] theorem cutPortAs_kept {st pn : Nat} (h₀ : Kept μ s₀ s) (hm : 8590332702 ||| μ = μ := by rfl) :
    Kept μ s₀ (cutPortAs st pn s) := by
  refine kept_lift h₀ hm ?_
  clear h₀ hm
  unfold cutPortAs; repeat' split
  all_goals simp (maxDischargeDepth := 60) +contextual [*]

@[simp] theorem cutPort_kept {pn : Nat} (h₀ : Kept μ s₀ s) (hm : 8590332702 ||| μ = μ := by rfl) :
    Kept μ s₀ (cutPort pn s) := by
  refine kept_lift h₀ hm ?_
  clear h₀ hm
  unfold cutPort; repeat' split
  all_goals simp (maxDischargeDepth := 60) +contextual [*]

@[simp] theorem fireEntry_kept {w e : Nat} (h₀ : Kept μ s₀ s) (hm : 10219959198 ||| μ = μ := by rfl) :
    Kept μ s₀ (fireEntry w e s) := by
  refine kept_lift h₀ hm ?_
  clear h₀ hm
  unfold fireEntry; simp (maxDischargeDepth := 60) +contextual

@[simp] theorem fireUpTo_kept {k : Nat} (h₀ : Kept μ s₀ s) (hm : 10219959198 ||| μ = μ := by rfl) :
    Kept μ s₀ (fireUpTo k s) := by
  refine kept_lift h₀ hm ?_
  clear h₀ hm
  unfold fireUpTo; simp (maxDischargeDepth := 60) +contextual

@[simp] theorem leadEntry_kept {w e : Nat} (h₀ : Kept μ s₀ s) (hm : 8590332702 ||| μ = μ := by rfl) :
    Kept μ s₀ (leadEntry w e s) := by
  refine kept_lift h₀ hm ?_
  clear h₀ hm
  unfold leadEntry; simp (maxDischargeDepth := 60) +contextual

@[simp] theorem leadUpTo_kept {k : Nat} (h₀ : Kept μ s₀ s) (hm : 8590332702 ||| μ = μ := by rfl) :
    Kept μ s₀ (leadUpTo k s) := by
  refine kept_lift h₀ hm ?_
  clear h₀ hm
  unfold leadUpTo; simp (maxDischargeDepth := 60) +contextual

@[simp] theorem ttStop_kept {w e : Nat} (h₀ : Kept μ s₀ s) (hm : 10220352414 ||| μ = μ := by rfl) :
    Kept μ s₀ (ttStop w e s) := by
  refine kept_lift h₀ hm ?_
  clear h₀ hm
  unfold ttStop; simp (maxDischargeDepth := 60) +contextual

@[simp] theorem portSilent_kept {st pn : Nat} (h₀ : Kept μ s₀ s) (hm : 8590332702 ||| μ = μ := by rfl) :
    Kept μ s₀ (portSilent st pn s) := by
  refine kept_lift h₀ hm ?_
  clear h₀ hm
  unfold portSilent; simp (maxDischargeDepth := 60) +contextual

@[simp] theorem execPortDisable_goes {t w p : Nat} (h₀ : Kept μ s₀ (atTime t s)) (hm : 8590332702 ||| μ = μ := by rfl) :
    Goes (execPortDisable t w p s) (Kept μ s₀) := by
  refine goes_lift h₀ hm ?_
  clear h₀ hm
  unfold execPortDisable; simp (maxDischargeDepth := 60) +contextual 

@[simp] theorem execTimetableGo_goes {t w e : Nat} (h₀ : Kept μ s₀ (atTime t s)) (hm : 8589939478 ||| μ = μ := by rfl) :
    Goes (execTimetableGo t w e s) (Kept μ s₀) := by
  refine goes_lift h₀ hm ?_
  clear h₀ hm
  unfold execTimetableGo; simp (maxDischargeDepth := 60) +contextual 

@[simp] theorem execTimetableStop_goes {t w e : Nat} (h₀ : Kept μ s₀ (atTime t s)) (hm : 10220352414 ||| μ = μ := by rfl) :
    Goes (execTimetableStop t w e s) (Kept μ s₀) := by
  refine goes_lift h₀ hm ?_
  clear h₀ hm
  unfold execTimetableStop; simp (maxDischargeDepth := 60) +contextual 

@[simp] theorem execModeRequest_goes {t : Nat} {via : Via} {mode : Nat} (h₀ : Kept μ s₀ (atTime t s)) (hm : 10220057502 ||| μ = μ := by rfl) :
    Goes (execModeRequest t via mode s) (Kept μ s₀) := by
  refine goes_lift h₀ hm ?_
  clear h₀ hm
  unfold execModeRequest; simp (maxDischargeDepth := 60) +contextual 

@[simp] theorem execTimetableFire_goes {t w e : Nat} (h₀ : Kept μ s₀ (atTime t s)) (hm : 10219959198 ||| μ = μ := by rfl) :
    Goes (execTimetableFire t w e s) (Kept μ s₀) := by
  refine goes_lift h₀ hm ?_
  clear h₀ hm
  unfold execTimetableFire; dsimp only; repeat' split
  all_goals simp (maxDischargeDepth := 60) +contextual [*]

@[simp] theorem execAirLaunchLead_goes {t w e : Nat} (h₀ : Kept μ s₀ (atTime t s)) (hm : 8590332702 ||| μ = μ := by rfl) :
    Goes (execAirLaunchLead t w e s) (Kept μ s₀) := by
  refine goes_lift h₀ hm ?_
  clear h₀ hm
  unfold execAirLaunchLead; simp (maxDischargeDepth := 60) +contextual 

@[simp] theorem execCaptureEnd_goes {t : Nat} (h₀ : Kept μ s₀ (atTime t s)) (hm : 8712 ||| μ = μ := by rfl) :
    Goes (execCaptureEnd t s) (Kept μ s₀) := by
  refine goes_lift h₀ hm ?_
  clear h₀ hm
  unfold execCaptureEnd; dsimp only; repeat' split
  all_goals simp (maxDischargeDepth := 60) +contextual [*]

end Sys2Proof.Machine
end

