-- ==== Sys2Proof/Laws/KeptLease.lean ====
section
/-! SUPPORT. What the functions of Machine/Lease.lean leave as it was. -/

namespace Sys2Proof.Machine

set_option Elab.async false

variable {μ : Nat} {s₀ s : State}

@[simp] theorem groupSet_kept {g : Nat} {x : LeaseGroup} (h₀ : Kept μ s₀ s) (hm : 1048576 ||| μ = μ := by rfl) :
    Kept μ s₀ (groupSet g x s) := by
  refine kept_lift h₀ hm ?_
  clear h₀ hm
  unfold groupSet; simp (maxDischargeDepth := 60) +contextual

@[simp] theorem leaseSettle_kept (h₀ : Kept μ s₀ s) (hm : 1048576 ||| μ = μ := by rfl) :
    Kept μ s₀ (leaseSettle s) := by
  refine kept_lift h₀ hm ?_
  clear h₀ hm
  unfold leaseSettle; repeat' split
  all_goals simp (maxDischargeDepth := 60) +contextual [*]

@[simp] theorem gate_kept {w g : Nat} (h₀ : Kept μ s₀ s) (hm : 8590983958 ||| μ = μ := by rfl) :
    Kept μ s₀ (gate w g s).2 := by
  refine kept_lift h₀ hm ?_
  clear h₀ hm
  unfold gate; simp (maxDischargeDepth := 60) +contextual

@[simp] theorem bufDrop_kept {pn slot : Nat} (h₀ : Kept μ s₀ s) (hm : 131072 ||| μ = μ := by rfl) :
    Kept μ s₀ (bufDrop pn slot s) := by
  refine kept_lift h₀ hm ?_
  clear h₀ hm
  unfold bufDrop; simp (maxDischargeDepth := 60) +contextual

@[simp] theorem disarm_kept {i why p1 : Nat} (h₀ : Kept μ s₀ s) (hm : 8590082838 ||| μ = μ := by rfl) :
    Kept μ s₀ (disarm i why p1 s) := by
  refine kept_lift h₀ hm ?_
  clear h₀ hm
  unfold disarm; simp (maxDischargeDepth := 60) +contextual

@[simp] theorem disarmGroup_kept {g : Nat} (h₀ : Kept μ s₀ s) (hm : 8590082838 ||| μ = μ := by rfl) :
    Kept μ s₀ (disarmGroup g s) := by
  refine kept_lift h₀ hm ?_
  clear h₀ hm
  unfold disarmGroup; simp (maxDischargeDepth := 60) +contextual

@[simp] theorem leaseGone_kept {g : Nat} (h₀ : Kept μ s₀ s) (hm : 8591131414 ||| μ = μ := by rfl) :
    Kept μ s₀ (leaseGone g s) := by
  refine kept_lift h₀ hm ?_
  clear h₀ hm
  unfold leaseGone; simp (maxDischargeDepth := 60) +contextual

@[simp] theorem leaseRefused_kept {g st : Nat} (h₀ : Kept μ s₀ s) (hm : 8589935382 ||| μ = μ := by rfl) :
    Kept μ s₀ (leaseRefused g st s) := by
  refine kept_lift h₀ hm ?_
  clear h₀ hm
  unfold leaseRefused; simp (maxDischargeDepth := 60) +contextual

@[simp] theorem execInstallALease_goes {t : Nat} {via : Via} {rec : Bytes} {sigOk : Bool} (h₀ : Kept μ s₀ (atTime t s)) (hm : 8591082270 ||| μ = μ := by rfl) :
    Goes (execInstallALease t via rec sigOk s) (Kept μ s₀) := by
  refine goes_lift h₀ hm ?_
  clear h₀ hm
  unfold execInstallALease; dsimp only; repeat' split
  all_goals simp (maxDischargeDepth := 60) +contextual [*]

@[simp] theorem execLeaseFloor_goes {t : Nat} (h₀ : Kept μ s₀ (atTime t s)) (hm : 8591082270 ||| μ = μ := by rfl) :
    Goes (execLeaseFloor t s) (Kept μ s₀) := by
  refine goes_lift h₀ hm ?_
  clear h₀ hm
  unfold execLeaseFloor; dsimp only; repeat' split
  all_goals simp (maxDischargeDepth := 60) +contextual [*]

@[simp] theorem execLeaseFloorFree_goes {t group : Nat} (h₀ : Kept μ s₀ (atTime t s)) (hm : 1114112 ||| μ = μ := by rfl) :
    Goes (execLeaseFloorFree t group s) (Kept μ s₀) := by
  refine goes_lift h₀ hm ?_
  clear h₀ hm
  unfold execLeaseFloorFree; dsimp only; repeat' split
  all_goals simp (maxDischargeDepth := 60) +contextual [*]

@[simp] theorem execReleaseTheLeases_goes {t : Nat} {via : Via} {group : Nat} (h₀ : Kept μ s₀ (atTime t s)) (hm : 8591229726 ||| μ = μ := by rfl) :
    Goes (execReleaseTheLeases t via group s) (Kept μ s₀) := by
  refine goes_lift h₀ hm ?_
  clear h₀ hm
  unfold execReleaseTheLeases; simp (maxDischargeDepth := 60) +contextual 

@[simp] theorem execReadTheLeases_goes {t : Nat} {via : Via} {group : Nat} (h₀ : Kept μ s₀ (atTime t s)) (hm : 8590033422 ||| μ = μ := by rfl) :
    Goes (execReadTheLeases t via group s) (Kept μ s₀) := by
  refine goes_lift h₀ hm ?_
  clear h₀ hm
  unfold execReadTheLeases; simp (maxDischargeDepth := 60) +contextual 

@[simp] theorem execLeaseRollover_goes {t group : Nat} (h₀ : Kept μ s₀ (atTime t s)) (hm : 1048576 ||| μ = μ := by rfl) :
    Goes (execLeaseRollover t group s) (Kept μ s₀) := by
  refine goes_lift h₀ hm ?_
  clear h₀ hm
  unfold execLeaseRollover; dsimp only; repeat' split
  all_goals simp (maxDischargeDepth := 60) +contextual [*]

@[simp] theorem drillGone_kept {g : Nat} (h₀ : Kept μ s₀ s) (hm : 8590983958 ||| μ = μ := by rfl) :
    Kept μ s₀ (drillGone g s) := by
  refine kept_lift h₀ hm ?_
  clear h₀ hm
  unfold drillGone; dsimp only; repeat' split
  all_goals simp (maxDischargeDepth := 60) +contextual [*]

@[simp] theorem execLeaseUnusable_goes {t group : Nat} (h₀ : Kept μ s₀ (atTime t s)) (hm : 8591131414 ||| μ = μ := by rfl) :
    Goes (execLeaseUnusable t group s) (Kept μ s₀) := by
  refine goes_lift h₀ hm ?_
  clear h₀ hm
  unfold execLeaseUnusable; simp (maxDischargeDepth := 60) +contextual 

@[simp] theorem execLastExportNumberImported_goes {t : Nat} {via : Via} {src : Nat} (h₀ : Kept μ s₀ (atTime t s)) (hm : 8590033422 ||| μ = μ := by rfl) :
    Goes (execLastExportNumberImported t via src s) (Kept μ s₀) := by
  refine goes_lift h₀ hm ?_
  clear h₀ hm
  unfold execLastExportNumberImported; simp (maxDischargeDepth := 60) +contextual 

end Sys2Proof.Machine
end

