-- ==== Sys2Proof/Laws/KeptArmed.lean ====
section
/-! SUPPORT. What the functions of Machine/Armed.lean leave as it was. -/

namespace Sys2Proof.Machine

set_option Elab.async false

variable {μ : Nat} {s₀ s : State}

@[simp] theorem armAccept_kept {b : Bytes} (h₀ : Kept μ s₀ s) (hm : 12885050134 ||| μ = μ := by rfl) :
    Kept μ s₀ (armAccept b s) := by
  refine kept_lift h₀ hm ?_
  clear h₀ hm
  unfold armAccept; simp (maxDischargeDepth := 60) +contextual

@[simp] theorem execArmResponse_goes {t : Nat} {via : Via} {rec : Bytes} {sigOk : Bool} (h₀ : Kept μ s₀ (atTime t s)) (hm : 12886197022 ||| μ = μ := by rfl) :
    Goes (execArmResponse t via rec sigOk s) (Kept μ s₀) := by
  refine goes_lift h₀ hm ?_
  clear h₀ hm
  unfold execArmResponse; simp (maxDischargeDepth := 60) +contextual 

@[simp] theorem execDisarmSlot_goes {t : Nat} {via : Via} {slot : Nat} (h₀ : Kept μ s₀ (atTime t s)) (hm : 8590181150 ||| μ = μ := by rfl) :
    Goes (execDisarmSlot t via slot s) (Kept μ s₀) := by
  refine goes_lift h₀ hm ?_
  clear h₀ hm
  unfold execDisarmSlot; simp (maxDischargeDepth := 60) +contextual 

@[simp] theorem execArmedResponseExpiry_goes {t slot : Nat} (h₀ : Kept μ s₀ (atTime t s)) (hm : 8590082838 ||| μ = μ := by rfl) :
    Goes (execArmedResponseExpiry t slot s) (Kept μ s₀) := by
  refine goes_lift h₀ hm ?_
  clear h₀ hm
  unfold execArmedResponseExpiry; simp (maxDischargeDepth := 60) +contextual 

@[simp] theorem execArmedTriggerDecision_goes {t slot : Nat} (h₀ : Kept μ s₀ (atTime t s)) (hm : 82688 ||| μ = μ := by rfl) :
    Goes (execArmedTriggerDecision t slot s) (Kept μ s₀) := by
  refine goes_lift h₀ hm ?_
  clear h₀ hm
  unfold execArmedTriggerDecision; dsimp only; repeat' split
  all_goals simp (maxDischargeDepth := 60) +contextual [*]

@[simp] theorem firePort_kept {slot : Nat} {x : Slot} {pn : Nat} (h₀ : Kept μ s₀ s) (hm : 8590349086 ||| μ = μ := by rfl) :
    Kept μ s₀ (firePort slot x pn s) := by
  refine kept_lift h₀ hm ?_
  clear h₀ hm
  unfold firePort; dsimp only; repeat' split
  all_goals simp (maxDischargeDepth := 60) +contextual [*]

@[simp] theorem seenInsert_kept {w : Nat} {e : Seen} (h₀ : Kept μ s₀ s) (hm : 8590197526 ||| μ = μ := by rfl) :
    Kept μ s₀ (seenInsert w e s) := by
  refine kept_lift h₀ hm ?_
  clear h₀ hm
  unfold seenInsert; simp (maxDischargeDepth := 60) +contextual

@[simp] theorem fireSlot_kept {slot : Nat} (h₀ : Kept μ s₀ s) (hm : 8590349086 ||| μ = μ := by rfl) :
    Kept μ s₀ (fireSlot slot s) := by
  refine kept_lift h₀ hm ?_
  clear h₀ hm
  unfold fireSlot; simp (maxDischargeDepth := 60) +contextual

@[simp] theorem execFireCycle_goes {t slot : Nat} (h₀ : Kept μ s₀ (atTime t s)) (hm : 8590349086 ||| μ = μ := by rfl) :
    Goes (execFireCycle t slot s) (Kept μ s₀) := by
  refine goes_lift h₀ hm ?_
  clear h₀ hm
  unfold execFireCycle; dsimp only; repeat' split
  all_goals simp (maxDischargeDepth := 60) +contextual [*]

@[simp] theorem execArmedFrameStart_goes {t slot pn : Nat} (h₀ : Kept μ s₀ (atTime t s)) (hm : 131072 ||| μ = μ := by rfl) :
    Goes (execArmedFrameStart t slot pn s) (Kept μ s₀) := by
  refine goes_lift h₀ hm ?_
  clear h₀ hm
  unfold execArmedFrameStart; dsimp only; repeat' split
  all_goals simp (maxDischargeDepth := 60) +contextual [*]

@[simp] theorem disarmLost_kept (h₀ : Kept μ s₀ s) (hm : 8590082838 ||| μ = μ := by rfl) :
    Kept μ s₀ (disarmLost s) := by
  refine kept_lift h₀ hm ?_
  clear h₀ hm
  unfold disarmLost; simp (maxDischargeDepth := 60) +contextual

end Sys2Proof.Machine
end

