-- ==== Sys2Proof/Laws/KeptMac.lean ====
section
/-! SUPPORT. What the functions of Machine/Mac.lean leave as it was. -/

namespace Sys2Proof.Machine

set_option Elab.async false

variable {μ : Nat} {s₀ s : State}

@[simp] theorem keyResvSet_kept {k n : Nat} (h₀ : Kept μ s₀ s) (hm : 262144 ||| μ = μ := by rfl) :
    Kept μ s₀ (keyResvSet k n s) := by
  refine kept_lift h₀ hm ?_
  clear h₀ hm
  unfold keyResvSet; simp (maxDischargeDepth := 60) +contextual

@[simp] theorem keyMaterial_kept {k : Nat} {key : Bytes} (h₀ : Kept μ s₀ s) (hm : 327728 ||| μ = μ := by rfl) :
    Kept μ s₀ (keyMaterial k key s) := by
  refine kept_lift h₀ hm ?_
  clear h₀ hm
  unfold keyMaterial; simp (maxDischargeDepth := 60) +contextual

@[simp] theorem keyMaterialSet_kept {kk : Nat} {key : Bytes} (h₀ : Kept μ s₀ s) (hm : 327728 ||| μ = μ := by rfl) :
    Kept μ s₀ (keyMaterialSet kk key s).2.2 := by
  refine kept_lift h₀ hm ?_
  clear h₀ hm
  unfold keyMaterialSet; simp (maxDischargeDepth := 60) +contextual

@[simp] theorem execKeyMaterialWrite_goes {t : Nat} {via : Via} {kk : Nat} {key : Bytes} (h₀ : Kept μ s₀ (atTime t s)) (hm : 8590295614 ||| μ = μ := by rfl) :
    Goes (execKeyMaterialWrite t via kk key s) (Kept μ s₀) := by
  refine goes_lift h₀ hm ?_
  clear h₀ hm
  unfold execKeyMaterialWrite; simp (maxDischargeDepth := 60) +contextual 

@[simp] theorem keyStateTo_kept {kk st : Nat} (h₀ : Kept μ s₀ s) (hm : 65552 ||| μ = μ := by rfl) :
    Kept μ s₀ (keyStateTo kk st s).2.2 := by
  refine kept_lift h₀ hm ?_
  clear h₀ hm
  unfold keyStateTo; simp (maxDischargeDepth := 60) +contextual

@[simp] theorem execKeyStateWrite_goes {t : Nat} {via : Via} {kk st : Nat} (h₀ : Kept μ s₀ (atTime t s)) (hm : 8590033438 ||| μ = μ := by rfl) :
    Goes (execKeyStateWrite t via kk st s) (Kept μ s₀) := by
  refine goes_lift h₀ hm ?_
  clear h₀ hm
  unfold execKeyStateWrite; simp (maxDischargeDepth := 60) +contextual 

@[simp] theorem armedKeySet_kept {key : Bytes} (h₀ : Kept μ s₀ s) (hm : 65584 ||| μ = μ := by rfl) :
    Kept μ s₀ (armedKeySet key s).2.2 := by
  refine kept_lift h₀ hm ?_
  clear h₀ hm
  unfold armedKeySet; simp (maxDischargeDepth := 60) +contextual

@[simp] theorem execArmedKeyWrite_goes {t : Nat} {via : Via} {key : Bytes} (h₀ : Kept μ s₀ (atTime t s)) (hm : 8590033470 ||| μ = μ := by rfl) :
    Goes (execArmedKeyWrite t via key s) (Kept μ s₀) := by
  refine goes_lift h₀ hm ?_
  clear h₀ hm
  unfold execArmedKeyWrite; simp (maxDischargeDepth := 60) +contextual 

@[simp] theorem counterAsk_kept {w p assertion k : Nat} (h₀ : Kept μ s₀ s) (hm : 262144 ||| μ = μ := by rfl) :
    Kept μ s₀ (counterAsk w p assertion k s) := by
  refine kept_lift h₀ hm ?_
  clear h₀ hm
  unfold counterAsk; simp (maxDischargeDepth := 60) +contextual

@[simp] theorem ackDrop_kept {pn on_ : Nat} (h₀ : Kept μ s₀ s) (hm : 131072 ||| μ = μ := by rfl) :
    Kept μ s₀ (ackDrop pn on_ s) := by
  refine kept_lift h₀ hm ?_
  clear h₀ hm
  unfold ackDrop; simp (maxDischargeDepth := 60) +contextual

@[simp] theorem noCounter_kept {w : Nat} (h₀ : Kept μ s₀ s) (hm : 8589935110 ||| μ = μ := by rfl) :
    Kept μ s₀ (noCounter w s) := by
  refine kept_lift h₀ hm ?_
  clear h₀ hm
  unfold noCounter; simp (maxDischargeDepth := 60) +contextual

@[simp] theorem keyless_kept {w : Nat} (h₀ : Kept μ s₀ s) (hm : 8589935382 ||| μ = μ := by rfl) :
    Kept μ s₀ (keyless w s) := by
  refine kept_lift h₀ hm ?_
  clear h₀ hm
  unfold keyless; simp (maxDischargeDepth := 60) +contextual

@[simp] theorem noKey_kept {w : Nat} (h₀ : Kept μ s₀ s) (hm : 8589935382 ||| μ = μ := by rfl) :
    Kept μ s₀ (noKey w s) := by
  refine kept_lift h₀ hm ?_
  clear h₀ hm
  unfold noKey; simp (maxDischargeDepth := 60) +contextual

@[simp] theorem jobNoCounter_kept {pn status : Nat} (h₀ : Kept μ s₀ s) (hm : 8590197262 ||| μ = μ := by rfl) :
    Kept μ s₀ (jobNoCounter pn status s) := by
  refine kept_lift h₀ hm ?_
  clear h₀ hm
  unfold jobNoCounter; repeat' split
  all_goals simp (maxDischargeDepth := 60) +contextual [*]

@[simp] theorem execCounterRequest_goes {t w p assertion kk : Nat} (h₀ : Kept μ s₀ (atTime t s)) (hm : 8590328606 ||| μ = μ := by rfl) :
    Goes (execCounterRequest t w p assertion kk s) (Kept μ s₀) := by
  refine goes_lift h₀ hm ?_
  clear h₀ hm
  unfold execCounterRequest; dsimp only; repeat' split
  all_goals simp (maxDischargeDepth := 60) +contextual [*]

@[simp] theorem blockAsk_kept {k : Nat} (h₀ : Kept μ s₀ s) (hm : 327680 ||| μ = μ := by rfl) :
    Kept μ s₀ (blockAsk k s) := by
  refine kept_lift h₀ hm ?_
  clear h₀ hm
  unfold blockAsk; simp (maxDischargeDepth := 60) +contextual

@[simp] theorem counterGive_kept {r : CtrReq} (h₀ : Kept μ s₀ s) (hm : 8590394142 ||| μ = μ := by rfl) :
    Kept μ s₀ (counterGive r s) := by
  refine kept_lift h₀ hm ?_
  clear h₀ hm
  unfold counterGive; dsimp only; repeat' split
  all_goals simp (maxDischargeDepth := 60) +contextual [*]

@[simp] theorem execCounterAssign_goes {t : Nat} (h₀ : Kept μ s₀ (atTime t s)) (hm : 8590394142 ||| μ = μ := by rfl) :
    Goes (execCounterAssign t s) (Kept μ s₀) := by
  refine goes_lift h₀ hm ?_
  clear h₀ hm
  unfold execCounterAssign; simp (maxDischargeDepth := 60) +contextual 

@[simp] theorem execCounterBlockReserve_goes {t kk : Nat} (h₀ : Kept μ s₀ (atTime t s)) (hm : 327688 ||| μ = μ := by rfl) :
    Goes (execCounterBlockReserve t kk s) (Kept μ s₀) := by
  refine goes_lift h₀ hm ?_
  clear h₀ hm
  unfold execCounterBlockReserve; simp (maxDischargeDepth := 60) +contextual 

@[simp] theorem laneLookup_kept {w l : Nat} {src : Addr} {ft : FrameType} (h₀ : Kept μ s₀ s) (hm : 131072 ||| μ = μ := by rfl) :
    Kept μ s₀ (laneLookup w l src ft s) := by
  refine kept_lift h₀ hm ?_
  clear h₀ hm
  unfold laneLookup; simp (maxDischargeDepth := 60) +contextual

@[simp] theorem execSourceAddressLookup_goes {t w lane : Nat} {src : Addr} {ftype : FrameType} (h₀ : Kept μ s₀ (atTime t s)) (hm : 131072 ||| μ = μ := by rfl) :
    Goes (execSourceAddressLookup t w lane src ftype s) (Kept μ s₀) := by
  refine goes_lift h₀ hm ?_
  clear h₀ hm
  unfold execSourceAddressLookup; simp (maxDischargeDepth := 60) +contextual 

@[simp] theorem execFrameEnd_goes {t w lane : Nat} {fcsOk : Bool} {rssi foff : Int} {frame : MacFrame} (h₀ : Kept μ s₀ (atTime t s)) (hm : 2228228 ||| μ = μ := by rfl) :
    Goes (execFrameEnd t w lane fcsOk rssi foff frame s) (Kept μ s₀) := by
  refine goes_lift h₀ hm ?_
  clear h₀ hm
  unfold execFrameEnd; simp (maxDischargeDepth := 60) +contextual 

@[simp] theorem cslHeard_kept {w k : Nat} (h₀ : Kept μ s₀ s) (hm : 8590197526 ||| μ = μ := by rfl) :
    Kept μ s₀ (cslHeard w k s) := by
  refine kept_lift h₀ hm ?_
  clear h₀ hm
  unfold cslHeard; simp (maxDischargeDepth := 60) +contextual

@[simp] theorem cslAnchor_kept {w k mode : Nat} {f : MacFrame} {ends : Nat} (h₀ : Kept μ s₀ s) (hm : 8590197526 ||| μ = μ := by rfl) :
    Kept μ s₀ (cslAnchor w k mode f ends s) := by
  refine kept_lift h₀ hm ?_
  clear h₀ hm
  unfold cslAnchor; dsimp only; repeat' split
  all_goals simp (maxDischargeDepth := 60) +contextual [*]

@[simp] theorem macReplay_kept {k w : Nat} {x : Lane} {f : MacFrame} (h₀ : Kept μ s₀ s) (hm : 8590197526 ||| μ = μ := by rfl) :
    Kept μ s₀ (macReplay k w x f s).2 := by
  refine kept_lift h₀ hm ?_
  clear h₀ hm
  unfold macReplay; simp (maxDischargeDepth := 60) +contextual

@[simp] theorem nbrFull_kept {w a : Nat} (h₀ : Kept μ s₀ s) (hm : 8589935382 ||| μ = μ := by rfl) :
    Kept μ s₀ (nbrFull w a s) := by
  refine kept_lift h₀ hm ?_
  clear h₀ hm
  unfold nbrFull; simp (maxDischargeDepth := 60) +contextual

@[simp] theorem macOwner_kept {a w : Nat} {x : Lane} {f : MacFrame} (h₀ : Kept μ s₀ s) (hm : 8590197534 ||| μ = μ := by rfl) :
    Kept μ s₀ (macOwner a w x f s).2 := by
  refine kept_lift h₀ hm ?_
  clear h₀ hm
  have h₀ := kept_refl (m := 8590197534) s
  unfold macOwner; dsimp only; repeat' split
  all_goals first | (simp; done) | (rename_i e; have hk := nbrMake_kept (w := ownerOf s a) (a := a) h₀; rw [e] at hk; simp [hk])

@[simp] theorem macJudge_kept {w : Nat} {x : Lane} {f : MacFrame} (h₀ : Kept μ s₀ s) (hm : 8590197534 ||| μ = μ := by rfl) :
    Kept μ s₀ (macJudge w x f s).2 := by
  refine kept_lift h₀ hm ?_
  clear h₀ hm
  unfold macJudge; repeat' split
  all_goals simp (maxDischargeDepth := 60) +contextual [*]

@[simp] theorem laneCommit_kept {w l : Nat} (h₀ : Kept μ s₀ s) (hm : 8590328606 ||| μ = μ := by rfl) :
    Kept μ s₀ (laneCommit w l s) := by
  refine kept_lift h₀ hm ?_
  clear h₀ hm
  unfold laneCommit; dsimp only; repeat' split
  all_goals simp (maxDischargeDepth := 60) +contextual [*]

@[simp] theorem commitsUpTo_kept {w l : Nat} (h₀ : Kept μ s₀ s) (hm : 8590328606 ||| μ = μ := by rfl) :
    Kept μ s₀ (commitsUpTo w l s) := by
  refine kept_lift h₀ hm ?_
  clear h₀ hm
  unfold commitsUpTo; simp (maxDischargeDepth := 60) +contextual

@[simp] theorem execOwnerCommit_goes {t w lane : Nat} (h₀ : Kept μ s₀ (atTime t s)) (hm : 8590328606 ||| μ = μ := by rfl) :
    Goes (execOwnerCommit t w lane s) (Kept μ s₀) := by
  refine goes_lift h₀ hm ?_
  clear h₀ hm
  unfold execOwnerCommit; simp (maxDischargeDepth := 60) +contextual 

@[simp] theorem ackDecide_kept {w : Nat} {x : Lane} {f : MacFrame} {o : Nat} (h₀ : Kept μ s₀ s) (hm : 393220 ||| μ = μ := by rfl) :
    Kept μ s₀ (ackDecide w x f o s) := by
  refine kept_lift h₀ hm ?_
  clear h₀ hm
  unfold ackDecide; repeat' split
  all_goals simp (maxDischargeDepth := 60) +contextual [*]

@[simp] theorem ringPut_kept {cfg ptr n : Nat} {b : Bytes} (h₀ : Kept μ s₀ s) (hm : 10 ||| μ = μ := by rfl) :
    Kept μ s₀ (ringPut cfg ptr n b s) := by
  refine kept_lift h₀ hm ?_
  clear h₀ hm
  unfold ringPut; simp (maxDischargeDepth := 60) +contextual

@[simp] theorem rxRing_kept {w : Nat} {b : Bytes} (h₀ : Kept μ s₀ s) (hm : 8589935390 ||| μ = μ := by rfl) :
    Kept μ s₀ (rxRing w b s) := by
  refine kept_lift h₀ hm ?_
  clear h₀ hm
  unfold rxRing; simp (maxDischargeDepth := 60) +contextual

@[simp] theorem lobbyRefuse_kept {w k : Nat} (h₀ : Kept μ s₀ s) (hm : 8589935382 ||| μ = μ := by rfl) :
    Kept μ s₀ (lobbyRefuse w k s) := by
  refine kept_lift h₀ hm ?_
  clear h₀ hm
  unfold lobbyRefuse; simp (maxDischargeDepth := 60) +contextual

@[simp] theorem lobby_kept {w : Nat} {b : Bytes} (h₀ : Kept μ s₀ s) (hm : 8592032542 ||| μ = μ := by rfl) :
    Kept μ s₀ (lobby w b s) := by
  refine kept_lift h₀ hm ?_
  clear h₀ hm
  unfold lobby; simp (maxDischargeDepth := 60) +contextual

@[simp] theorem beaconCounts_kept {pn heard : Nat} (h₀ : Kept μ s₀ s) (hm : 8590197526 ||| μ = μ := by rfl) :
    Kept μ s₀ (beaconCounts pn heard s) := by
  refine kept_lift h₀ hm ?_
  clear h₀ hm
  unfold beaconCounts; dsimp only; repeat' split
  all_goals simp (maxDischargeDepth := 60) +contextual [*]

@[simp] theorem beaconHeard_kept {a pn heard : Nat} (h₀ : Kept μ s₀ s) (hm : 8590197526 ||| μ = μ := by rfl) :
    Kept μ s₀ (beaconHeard a pn heard s) := by
  refine kept_lift h₀ hm ?_
  clear h₀ hm
  unfold beaconHeard; repeat' split
  all_goals simp (maxDischargeDepth := 60) +contextual [*]

@[simp] theorem enhAckMatch_kept {w : Nat} {x : Lane} {f : MacFrame} (h₀ : Kept μ s₀ s) (hm : 8590197534 ||| μ = μ := by rfl) :
    Kept μ s₀ (enhAckMatch w x f s) := by
  refine kept_lift h₀ hm ?_
  clear h₀ hm
  unfold enhAckMatch; dsimp only; repeat' split
  all_goals simp (maxDischargeDepth := 60) +contextual [*]

@[simp] theorem floodHeard_kept {w l : Nat} {x : Lane} {f : MacFrame} (h₀ : Kept μ s₀ s) (hm : 8590197526 ||| μ = μ := by rfl) :
    Kept μ s₀ (floodHeard w l x f s) := by
  refine kept_lift h₀ hm ?_
  clear h₀ hm
  unfold floodHeard; simp (maxDischargeDepth := 60) +contextual

@[simp] theorem inVerdict_kept {w lane port ends v : Nat} (h₀ : Kept μ s₀ s) (hm : 2097152 ||| μ = μ := by rfl) :
    Kept μ s₀ (inVerdict w lane port ends v s) := by
  refine kept_lift h₀ hm ?_
  clear h₀ hm
  unfold inVerdict; simp (maxDischargeDepth := 60) +contextual

@[simp] theorem seqNextOf_kept {k : Nat} (h₀ : Kept μ s₀ s) (hm : 262144 ||| μ = μ := by rfl) :
    Kept μ s₀ (seqNextOf k s) := by
  refine kept_lift h₀ hm ?_
  clear h₀ hm
  unfold seqNextOf; simp (maxDischargeDepth := 60) +contextual

@[simp] theorem sendBeacon_kept {pn b : Nat} (h₀ : Kept μ s₀ s) (hm : 8590197526 ||| μ = μ := by rfl) :
    Kept μ s₀ (sendBeacon pn b s) := by
  refine kept_lift h₀ hm ?_
  clear h₀ hm
  unfold sendBeacon; simp (maxDischargeDepth := 60) +contextual

@[simp] theorem macRoute_kept {w l : Nat} {x : Lane} {f : MacFrame} (h₀ : Kept μ s₀ s) (hm : 8592425758 ||| μ = μ := by rfl) :
    Kept μ s₀ (macRoute w l x f s) := by
  refine kept_lift h₀ hm ?_
  clear h₀ hm
  unfold macRoute; repeat' split
  all_goals simp (maxDischargeDepth := 60) +contextual [*]

@[simp] theorem execMacVerdict_goes {t w lane : Nat} (h₀ : Kept μ s₀ (atTime t s)) (hm : 8592425758 ||| μ = μ := by rfl) :
    Goes (execMacVerdict t w lane s) (Kept μ s₀) := by
  refine goes_lift h₀ hm ?_
  clear h₀ hm
  unfold execMacVerdict; dsimp only; repeat' split
  all_goals simp (maxDischargeDepth := 60) +contextual [*]

@[simp] theorem nbrCtl_kept {w op idx : Nat} (h₀ : Kept μ s₀ s) (hm : 2 ||| μ = μ := by rfl) :
    Kept μ s₀ (nbrCtl w op idx s) := by
  refine kept_lift h₀ hm ?_
  clear h₀ hm
  unfold nbrCtl; simp (maxDischargeDepth := 60) +contextual

@[simp] theorem nbrRead_kept {w op idx : Nat} (h₀ : Kept μ s₀ s) (hm : 2 ||| μ = μ := by rfl) :
    Kept μ s₀ (nbrRead w op idx s) := by
  refine kept_lift h₀ hm ?_
  clear h₀ hm
  have h₀ := kept_refl (m := 2) s
  unfold nbrRead
  refine kept_foldl_mem (fun u j hj hu => ?_) (nbrCtl_kept h₀)
  have hj := List.mem_range.1 hj
  exact regSet_kept hu rfl (Or.inr fun v => by simp only [macNbrData, logRingCfg, regA]; omega)

@[simp] theorem execNbrRead_goes {t w idx : Nat} (h₀ : Kept μ s₀ (atTime t s)) (hm : 2 ||| μ = μ := by rfl) :
    Goes (execNbrRead t w idx s) (Kept μ s₀) := by
  refine goes_lift h₀ hm ?_
  clear h₀ hm
  unfold execNbrRead; simp (maxDischargeDepth := 60) +contextual 

@[simp] theorem pinSw_kept {k : Nat} {v : Bool} (h₀ : Kept μ s₀ s) (hm : 262144 ||| μ = μ := by rfl) :
    Kept μ s₀ (pinSw k v s) := by
  refine kept_lift h₀ hm ?_
  clear h₀ hm
  unfold pinSw; simp (maxDischargeDepth := 60) +contextual

@[simp] theorem execNbrPin_goes {t w idx : Nat} (h₀ : Kept μ s₀ (atTime t s)) (hm : 262146 ||| μ = μ := by rfl) :
    Goes (execNbrPin t w idx s) (Kept μ s₀) := by
  refine goes_lift h₀ hm ?_
  clear h₀ hm
  unfold execNbrPin; simp (maxDischargeDepth := 60) +contextual 

@[simp] theorem execNbrUnpin_goes {t w idx : Nat} (h₀ : Kept μ s₀ (atTime t s)) (hm : 262146 ||| μ = μ := by rfl) :
    Goes (execNbrUnpin t w idx s) (Kept μ s₀) := by
  refine goes_lift h₀ hm ?_
  clear h₀ hm
  unfold execNbrUnpin; simp (maxDischargeDepth := 60) +contextual 

@[simp] theorem execLookUpEntryByAddress_goes {t : Nat} {via : Via} {addr : Nat} (h₀ : Kept μ s₀ (atTime t s)) (hm : 8590033422 ||| μ = μ := by rfl) :
    Goes (execLookUpEntryByAddress t via addr s) (Kept μ s₀) := by
  refine goes_lift h₀ hm ?_
  clear h₀ hm
  unfold execLookUpEntryByAddress; refine goes_next.2 (serve_kept (fun u hu => ?_) (by simp)); repeat' split
  all_goals simp [*]

@[simp] theorem execPinEntryByAddress_goes {t : Nat} {via : Via} {addr : Nat} (h₀ : Kept μ s₀ (atTime t s)) (hm : 8590295566 ||| μ = μ := by rfl) :
    Goes (execPinEntryByAddress t via addr s) (Kept μ s₀) := by
  refine goes_lift h₀ hm ?_
  clear h₀ hm
  unfold execPinEntryByAddress; refine goes_next.2 (serve_kept (fun u hu => ?_) (by simp)); repeat' split
  all_goals simp [*]

@[simp] theorem execUnpinEntryByAddress_goes {t : Nat} {via : Via} {addr : Nat} (h₀ : Kept μ s₀ (atTime t s)) (hm : 8590295566 ||| μ = μ := by rfl) :
    Goes (execUnpinEntryByAddress t via addr s) (Kept μ s₀) := by
  refine goes_lift h₀ hm ?_
  clear h₀ hm
  unfold execUnpinEntryByAddress; refine goes_next.2 (serve_kept (fun u hu => ?_) (by simp)); repeat' split
  all_goals simp [*]

end Sys2Proof.Machine
end

