-- ==== Sys2Proof/Laws/KeptCrier.lean ====
section
/-! SUPPORT. What the functions of Machine/Crier.lean leave as it was. -/

namespace Sys2Proof.Machine

set_option Elab.async false

variable {μ : Nat} {s₀ s : State}

@[simp] theorem destEntry_kept {w a : Nat} (h₀ : Kept μ s₀ s) (hm : 8590197534 ||| μ = μ := by rfl) :
    Kept μ s₀ (destEntry w a s).2 := by
  refine kept_lift h₀ hm ?_
  clear h₀ hm
  unfold destEntry; repeat' split
  all_goals simp (maxDischargeDepth := 60) +contextual [*]

@[simp] theorem sendStart_kept {kind w a k payload len flags limit : Nat} (h₀ : Kept μ s₀ s) (hm : 262144 ||| μ = μ := by rfl) :
    Kept μ s₀ (sendStart kind w a k payload len flags limit s) := by
  refine kept_lift h₀ hm ?_
  clear h₀ hm
  unfold sendStart; simp (maxDischargeDepth := 60) +contextual

@[simp] theorem sendTake_kept {w a : Nat} {b : Bytes} (h₀ : Kept μ s₀ s) (hm : 8591246110 ||| μ = μ := by rfl) :
    Kept μ s₀ (sendTake w a b s) := by
  refine kept_lift h₀ hm ?_
  clear h₀ hm
  have h₀ := kept_refl (m := 8591246110) s
  unfold sendTake; extract_lets flags back g
  have hb : ∀ st u, Kept 8591246110 s u → Kept 8591246110 s (back st u) := fun st u hu => requestBack_kept hu
  have hg : Kept 8591246110 s g.2 := gate_kept h₀
  refine kept_ite (fun _ => hb _ _ h₀) (fun _ => kept_ite (fun _ => hb _ _ hg) (fun _ => ?_))
  have hd := destEntry_kept (w := w) (a := leAt b 0 8) hg
  split
  · rename_i e; rw [e] at hd; exact hb _ _ hd
  · rename_i e; rw [e] at hd; exact kept_ite (fun _ => hb _ _ (noKey_kept hd)) (fun _ => sendStart_kept hd)

@[simp] theorem replyTake_kept {w i : Nat} (h₀ : Kept μ s₀ s) (hm : 8590197534 ||| μ = μ := by rfl) :
    Kept μ s₀ (replyTake w i s) := by
  refine kept_lift h₀ hm ?_
  clear h₀ hm
  have h₀ := kept_refl (m := 8590197534) s
  unfold replyTake; extract_lets e m s1
  have h1 : Kept 8590197534 s s1 := kept_mk h₀ (Nat.le_refl _)
  have hd := destEntry_kept (w := w) (a := leAt e 8 8) h1
  split
  · rename_i q; rw [q] at hd; exact hd
  · rename_i q; rw [q] at hd; exact kept_ite (fun _ => noKey_kept hd) (fun _ => sendStart_kept hd)

@[simp] theorem execSendRequestTake_goes {t w : Nat} (h₀ : Kept μ s₀ (atTime t s)) (hm : 8591246110 ||| μ = μ := by rfl) :
    Goes (execSendRequestTake t w s) (Kept μ s₀) := by
  refine goes_lift h₀ hm ?_
  clear h₀ hm
  unfold execSendRequestTake; dsimp only; repeat' split
  all_goals simp (maxDischargeDepth := 60) +contextual [*]

@[simp] theorem execCsmaBackoffEnd_goes {t pn : Nat} (h₀ : Kept μ s₀ (atTime t s)) (hm : 262144 ||| μ = μ := by rfl) :
    Goes (execCsmaBackoffEnd t pn s) (Kept μ s₀) := by
  refine goes_lift h₀ hm ?_
  clear h₀ hm
  unfold execCsmaBackoffEnd; dsimp only; repeat' split
  all_goals simp (maxDischargeDepth := 60) +contextual [*]

@[simp] theorem accessFailed_kept {pn : Nat} {j : Job} (h₀ : Kept μ s₀ s) (hm : 8590197262 ||| μ = μ := by rfl) :
    Kept μ s₀ (accessFailed pn j s) := by
  refine kept_lift h₀ hm ?_
  clear h₀ hm
  unfold accessFailed; simp (maxDischargeDepth := 60) +contextual

@[simp] theorem accessClear_kept {pn : Nat} {j : Job} (h₀ : Kept μ s₀ s) (hm : 8590328606 ||| μ = μ := by rfl) :
    Kept μ s₀ (accessClear pn j s) := by
  refine kept_lift h₀ hm ?_
  clear h₀ hm
  unfold accessClear; repeat' split
  all_goals simp (maxDischargeDepth := 60) +contextual [*]

@[simp] theorem execCcaEnd_goes {t pn : Nat} {pwr : Int} {preamble : Bool} (h₀ : Kept μ s₀ (atTime t s)) (hm : 8590328606 ||| μ = μ := by rfl) :
    Goes (execCcaEnd t pn pwr preamble s) (Kept μ s₀) := by
  refine goes_lift h₀ hm ?_
  clear h₀ hm
  unfold execCcaEnd; dsimp only; repeat' split
  all_goals simp (maxDischargeDepth := 60) +contextual [*]

@[simp] theorem cslMiss_kept {j : Job} (h₀ : Kept μ s₀ s) (hm : 8590197526 ||| μ = μ := by rfl) :
    Kept μ s₀ (cslMiss j s) := by
  refine kept_lift h₀ hm ?_
  clear h₀ hm
  unfold cslMiss; simp (maxDischargeDepth := 60) +contextual

@[simp] theorem execAckWaitTimeout_goes {t pn : Nat} (h₀ : Kept μ s₀ (atTime t s)) (hm : 8590197534 ||| μ = μ := by rfl) :
    Goes (execAckWaitTimeout t pn s) (Kept μ s₀) := by
  refine goes_lift h₀ hm ?_
  clear h₀ hm
  unfold execAckWaitTimeout; dsimp only; repeat' split
  all_goals simp (maxDischargeDepth := 60) +contextual [*]

@[simp] theorem execEnhancedBeaconInterval_goes {t : Nat} (h₀ : Kept μ s₀ (atTime t s)) (hm : 8590197526 ||| μ = μ := by rfl) :
    Goes (execEnhancedBeaconInterval t s) (Kept μ s₀) := by
  refine goes_lift h₀ hm ?_
  clear h₀ hm
  unfold execEnhancedBeaconInterval; simp (maxDischargeDepth := 60) +contextual 

@[simp] theorem scanBegin_kept (h₀ : Kept μ s₀ s) (hm : 262144 ||| μ = μ := by rfl) :
    Kept μ s₀ (scanBegin s) := by
  refine kept_lift h₀ hm ?_
  clear h₀ hm
  unfold scanBegin; simp (maxDischargeDepth := 60) +contextual

@[simp] theorem parentTake_kept {p why : Nat} (h₀ : Kept μ s₀ s) (hm : 8590197526 ||| μ = μ := by rfl) :
    Kept μ s₀ (parentTake p why s) := by
  refine kept_lift h₀ hm ?_
  clear h₀ hm
  unfold parentTake; simp (maxDischargeDepth := 60) +contextual

@[simp] theorem execParentWindowClose_goes {t : Nat} (h₀ : Kept μ s₀ (atTime t s)) (hm : 8590197526 ||| μ = μ := by rfl) :
    Goes (execParentWindowClose t s) (Kept μ s₀) := by
  refine goes_lift h₀ hm ?_
  clear h₀ hm
  unfold execParentWindowClose; dsimp only; repeat' split
  all_goals simp (maxDischargeDepth := 60) +contextual [*]

@[simp] theorem execScanEnd_goes {t : Nat} (h₀ : Kept μ s₀ (atTime t s)) (hm : 8590197526 ||| μ = μ := by rfl) :
    Goes (execScanEnd t s) (Kept μ s₀) := by
  refine goes_lift h₀ hm ?_
  clear h₀ hm
  unfold execScanEnd; dsimp only; repeat' split
  all_goals simp (maxDischargeDepth := 60) +contextual [*]

@[simp] theorem execTakeParent_goes {t : Nat} {via : Via} {pp : Nat} (h₀ : Kept μ s₀ (atTime t s)) (hm : 8590295838 ||| μ = μ := by rfl) :
    Goes (execTakeParent t via pp s) (Kept μ s₀) := by
  refine goes_lift h₀ hm ?_
  clear h₀ hm
  unfold execTakeParent; simp (maxDischargeDepth := 60) +contextual 

@[simp] theorem floodOn_kept {kind mask bin mode len ident : Nat} (h₀ : Kept μ s₀ s) (hm : 262144 ||| μ = μ := by rfl) :
    Kept μ s₀ (floodOn kind mask bin mode len ident s) := by
  refine kept_lift h₀ hm ?_
  clear h₀ hm
  unfold floodOn; simp (maxDischargeDepth := 60) +contextual

@[simp] theorem relayQueue_kept {f : Flood} (h₀ : Kept μ s₀ s) (hm : 262148 ||| μ = μ := by rfl) :
    Kept μ s₀ (relayQueue f s) := by
  refine kept_lift h₀ hm ?_
  clear h₀ hm
  unfold relayQueue; simp (maxDischargeDepth := 60) +contextual

@[simp] theorem execFloodAtWing0_goes {t : Nat} (h₀ : Kept μ s₀ (atTime t s)) (hm : 8590197534 ||| μ = μ := by rfl) :
    Goes (execFloodAtWing0 t s) (Kept μ s₀) := by
  refine goes_lift h₀ hm ?_
  clear h₀ hm
  unfold execFloodAtWing0; dsimp only; repeat' split
  all_goals simp (maxDischargeDepth := 60) +contextual [*]

@[simp] theorem execRelayHoldEnd_goes {t : Nat} (h₀ : Kept μ s₀ (atTime t s)) (hm : 8590197526 ||| μ = μ := by rfl) :
    Goes (execRelayHoldEnd t s) (Kept μ s₀) := by
  refine goes_lift h₀ hm ?_
  clear h₀ hm
  unfold execRelayHoldEnd; dsimp only; repeat' split
  all_goals simp (maxDischargeDepth := 60) +contextual [*]

@[simp] theorem floodAccept_kept {b : Bytes} (h₀ : Kept μ s₀ s) (hm : 8590197526 ||| μ = μ := by rfl) :
    Kept μ s₀ (floodAccept b s) := by
  refine kept_lift h₀ hm ?_
  clear h₀ hm
  unfold floodAccept; simp (maxDischargeDepth := 60) +contextual

@[simp] theorem execFloodRequest_goes {t : Nat} {via : Via} {rec : Bytes} (h₀ : Kept μ s₀ (atTime t s)) (hm : 8591344414 ||| μ = μ := by rfl) :
    Goes (execFloodRequest t via rec s) (Kept μ s₀) := by
  refine goes_lift h₀ hm ?_
  clear h₀ hm
  unfold execFloodRequest; simp (maxDischargeDepth := 60) +contextual 

@[simp] theorem execFloodRepetition_goes {t i : Nat} (h₀ : Kept μ s₀ (atTime t s)) (hm : 262144 ||| μ = μ := by rfl) :
    Goes (execFloodRepetition t i s) (Kept μ s₀) := by
  refine goes_lift h₀ hm ?_
  clear h₀ hm
  unfold execFloodRepetition; dsimp only; repeat' split
  all_goals simp (maxDischargeDepth := 60) +contextual [*]

@[simp] theorem floodDrop_kept {ident : Nat} (h₀ : Kept μ s₀ s) (hm : 262144 ||| μ = μ := by rfl) :
    Kept μ s₀ (floodDrop ident s) := by
  refine kept_lift h₀ hm ?_
  clear h₀ hm
  have h₀ := kept_refl (m := 262144) s
  unfold floodDrop; extract_lets s1
  refine kept_foldl (fun u a hu => ?_) (kept_mk h₀ (Nat.le_refl _))
  split
  · exact kept_ite (fun _ => jobDone_kept hu) (fun _ => hu)
  · exact hu

@[simp] theorem execFloodExpired_goes {t i : Nat} (h₀ : Kept μ s₀ (atTime t s)) (hm : 8590197526 ||| μ = μ := by rfl) :
    Goes (execFloodExpired t i s) (Kept μ s₀) := by
  refine goes_lift h₀ hm ?_
  clear h₀ hm
  unfold execFloodExpired; dsimp only; repeat' split
  all_goals simp (maxDischargeDepth := 60) +contextual [*]

@[simp] theorem execSeenCacheExpiry_goes {t w : Nat} (h₀ : Kept μ s₀ (atTime t s)) (hm : 262144 ||| μ = μ := by rfl) :
    Goes (execSeenCacheExpiry t w s) (Kept μ s₀) := by
  refine goes_lift h₀ hm ?_
  clear h₀ hm
  unfold execSeenCacheExpiry; simp (maxDischargeDepth := 60) +contextual 

end Sys2Proof.Machine
end

