-- ==== Sys2Proof/Laws/KeptStrongroom.lean ====
section
/-! SUPPORT. What the functions of Machine/Strongroom.lean leave as it was. -/

namespace Sys2Proof.Machine

set_option Elab.async false

variable {μ : Nat} {s₀ s : State}

@[simp] theorem loseFlights_kept (h₀ : Kept μ s₀ s) (hm : 64 ||| μ = μ := by rfl) :
    Kept μ s₀ (loseFlights s) := by
  refine kept_lift h₀ hm ?_
  clear h₀ hm
  unfold loseFlights; simp (maxDischargeDepth := 60) +contextual

@[simp] theorem doorsLost_kept {carried : Bool} (h₀ : Kept μ s₀ s) (hm : 65536 ||| μ = μ := by rfl) :
    Kept μ s₀ (doorsLost carried s) := by
  refine kept_lift h₀ hm ?_
  clear h₀ hm
  unfold doorsLost; simp (maxDischargeDepth := 60) +contextual

@[simp] theorem srLinkDown_kept {k : Nat} (h₀ : Kept μ s₀ s) (hm : 8590000982 ||| μ = μ := by rfl) :
    Kept μ s₀ (srLinkDown k s) := by
  refine kept_lift h₀ hm ?_
  clear h₀ hm
  unfold srLinkDown; simp (maxDischargeDepth := 60) +contextual

@[simp] theorem execLinkFrameReceive_goes {t link : Nat} {toStrongroom : Bool} {ctr : Nat} {tagOk : Bool} (h₀ : Kept μ s₀ (atTime t s)) (hm : 8590000982 ||| μ = μ := by rfl) :
    Goes (execLinkFrameReceive t link toStrongroom ctr tagOk s) (Kept μ s₀) := by
  refine goes_lift h₀ hm ?_
  clear h₀ hm
  unfold execLinkFrameReceive; simp (maxDischargeDepth := 60) +contextual 

@[simp] theorem execLinkIdle_goes {t link : Nat} {fromStrongroom : Bool} (h₀ : Kept μ s₀ (atTime t s)) (hm : 65536 ||| μ = μ := by rfl) :
    Goes (execLinkIdle t link fromStrongroom s) (Kept μ s₀) := by
  refine goes_lift h₀ hm ?_
  clear h₀ hm
  unfold execLinkIdle; simp (maxDischargeDepth := 60) +contextual 

@[simp] theorem execStrongroomLinkDown_goes {t link : Nat} (h₀ : Kept μ s₀ (atTime t s)) (hm : 8590000982 ||| μ = μ := by rfl) :
    Goes (execStrongroomLinkDown t link s) (Kept μ s₀) := by
  refine goes_lift h₀ hm ?_
  clear h₀ hm
  unfold execStrongroomLinkDown; simp (maxDischargeDepth := 60) +contextual 

@[simp] theorem execStrongroomLinkTrained_goes {t link : Nat} {nonceS nonceG : Bytes} (h₀ : Kept μ s₀ (atTime t s)) (hm : 65536 ||| μ = μ := by rfl) :
    Goes (execStrongroomLinkTrained t link nonceS nonceG s) (Kept μ s₀) := by
  refine goes_lift h₀ hm ?_
  clear h₀ hm
  unfold execStrongroomLinkTrained; simp (maxDischargeDepth := 60) +contextual 

@[simp] theorem execStrongroomTrainingRetry_goes {t link : Nat} (h₀ : Kept μ s₀ (atTime t s)) (hm : 65536 ||| μ = μ := by rfl) :
    Goes (execStrongroomTrainingRetry t link s) (Kept μ s₀) := by
  refine goes_lift h₀ hm ?_
  clear h₀ hm
  unfold execStrongroomTrainingRetry; simp (maxDischargeDepth := 60) +contextual 

@[simp] theorem releaseHeld_kept (h₀ : Kept μ s₀ s) (hm : 512 ||| μ = μ := by rfl) :
    Kept μ s₀ (releaseHeld s) := by
  refine kept_lift h₀ hm ?_
  clear h₀ hm
  unfold releaseHeld; simp (maxDischargeDepth := 60) +contextual

@[simp] theorem execCarryingChange_goes {t : Nat} (h₀ : Kept μ s₀ (atTime t s)) (hm : 8590148374 ||| μ = μ := by rfl) :
    Goes (execCarryingChange t s) (Kept μ s₀) := by
  refine goes_lift h₀ hm ?_
  clear h₀ hm
  unfold execCarryingChange; dsimp only; repeat' split
  all_goals simp (maxDischargeDepth := 60) +contextual [*]

@[simp] theorem guardRefuse_kept {rq off : Nat} {write : Bool} (h₀ : Kept μ s₀ s) (hm : 8589935446 ||| μ = μ := by rfl) :
    Kept μ s₀ (guardRefuse rq off write s) := by
  refine kept_lift h₀ hm ?_
  clear h₀ hm
  unfold guardRefuse; repeat' split
  all_goals simp (maxDischargeDepth := 60) +contextual [*]

@[simp] theorem guardNoLink_kept {rq off : Nat} {write : Bool} (h₀ : Kept μ s₀ s) (hm : 68 ||| μ = μ := by rfl) :
    Kept μ s₀ (guardNoLink rq off write s) := by
  refine kept_lift h₀ hm ?_
  clear h₀ hm
  unfold guardNoLink; simp (maxDischargeDepth := 60) +contextual

@[simp] theorem doorbell_kept {k : Nat} (h₀ : Kept μ s₀ s) (hm : 65548 ||| μ = μ := by rfl) :
    Kept μ s₀ (doorbell k s) := by
  refine kept_lift h₀ hm ?_
  clear h₀ hm
  unfold doorbell; repeat' split
  all_goals simp (maxDischargeDepth := 60) +contextual [*]

@[simp] theorem execGuardWrite_goes {t rq off : Nat} {v : Word} (h₀ : Kept μ s₀ (atTime t s)) (hm : 8590000990 ||| μ = μ := by rfl) :
    Goes (execGuardWrite t rq off v s) (Kept μ s₀) := by
  refine goes_lift h₀ hm ?_
  clear h₀ hm
  unfold execGuardWrite; dsimp only; repeat' split
  all_goals simp (maxDischargeDepth := 60) +contextual [*]

@[simp] theorem logTake_kept {w : Nat} {r : LogRec} (h₀ : Kept μ s₀ s) (hm : 8590000982 ||| μ = μ := by rfl) :
    Kept μ s₀ (logTake w r s) := by
  refine kept_lift h₀ hm ?_
  clear h₀ hm
  unfold logTake; repeat' split
  all_goals simp (maxDischargeDepth := 60) +contextual [*]

@[simp] theorem execLogAppend_goes {t w seq : Nat} {rec : Bytes} (h₀ : Kept μ s₀ (atTime t s)) (hm : 8590000982 ||| μ = μ := by rfl) :
    Goes (execLogAppend t w seq rec s) (Kept μ s₀) := by
  refine goes_lift h₀ hm ?_
  clear h₀ hm
  unfold execLogAppend; simp (maxDischargeDepth := 60) +contextual 

@[simp] theorem bookPush_kept {ltime : Nat} {n : BookNew} (h₀ : Kept μ s₀ s) (hm : 66320 ||| μ = μ := by rfl) :
    Kept μ s₀ (bookPush ltime n s) := by
  refine kept_lift h₀ hm ?_
  clear h₀ hm
  unfold bookPush; repeat' split
  all_goals simp (maxDischargeDepth := 60) +contextual [*]

@[simp] theorem bookAppend_kept {ltime : Nat} {n : BookNew} (h₀ : Kept μ s₀ s) (hm : 66320 ||| μ = μ := by rfl) :
    Kept μ s₀ (bookAppend ltime n s) := by
  refine kept_lift h₀ hm ?_
  clear h₀ hm
  unfold bookAppend; repeat' split
  all_goals simp (maxDischargeDepth := 60) +contextual [*]

@[simp] theorem bookCommit_kept {cls sub words : Nat} {rs : List BookNew} (h₀ : Kept μ s₀ s) (hm : 65536 ||| μ = μ := by rfl) :
    Kept μ s₀ (bookCommit cls sub words rs s) := by
  refine kept_lift h₀ hm ?_
  clear h₀ hm
  unfold bookCommit; simp (maxDischargeDepth := 60) +contextual

@[simp] theorem badFound_kept {off : Nat} (h₀ : Kept μ s₀ s) (hm : 66048 ||| μ = μ := by rfl) :
    Kept μ s₀ (badFound off s) := by
  refine kept_lift h₀ hm ?_
  clear h₀ hm
  unfold badFound; simp (maxDischargeDepth := 60) +contextual

@[simp] theorem badAmong_kept {a b : Nat} {bad : List Nat} (h₀ : Kept μ s₀ s) (hm : 66048 ||| μ = μ := by rfl) :
    Kept μ s₀ (badAmong a b bad s) := by
  refine kept_lift h₀ hm ?_
  clear h₀ hm
  unfold badAmong; simp (maxDischargeDepth := 60) +contextual

@[simp] theorem homeCounts_kept (h₀ : Kept μ s₀ s) (hm : 65536 ||| μ = μ := by rfl) :
    Kept μ s₀ (homeCounts s) := by
  refine kept_lift h₀ hm ?_
  clear h₀ hm
  unfold homeCounts; simp (maxDischargeDepth := 60) +contextual

@[simp] theorem commitDone_kept {c : Commit} (h₀ : Kept μ s₀ s) (hm : 66320 ||| μ = μ := by rfl) :
    Kept μ s₀ (commitDone c s) := by
  refine kept_lift h₀ hm ?_
  clear h₀ hm
  unfold commitDone; simp (maxDischargeDepth := 60) +contextual

@[simp] theorem execCommit_goes {t : Nat} (h₀ : Kept μ s₀ (atTime t s)) (hm : 66320 ||| μ = μ := by rfl) :
    Goes (execCommit t s) (Kept μ s₀) := by
  refine goes_lift h₀ hm ?_
  clear h₀ hm
  unfold execCommit; dsimp only; repeat' split
  all_goals simp (maxDischargeDepth := 60) +contextual [*]

@[simp] theorem journalRecover_kept {crcOk : Bool} (h₀ : Kept μ s₀ s) (hm : 2295661361 ||| μ = μ := by rfl) :
    Kept μ s₀ (journalRecover crcOk s) := by
  refine kept_lift h₀ hm ?_
  clear h₀ hm
  unfold journalRecover; simp (maxDischargeDepth := 60) +contextual

@[simp] theorem metroStop_kept (h₀ : Kept μ s₀ s) (hm : 76312 ||| μ = μ := by rfl) :
    Kept μ s₀ (metroStop s) := by
  refine kept_lift h₀ hm ?_
  clear h₀ hm
  unfold metroStop; simp (maxDischargeDepth := 60) +contextual

@[simp] theorem metroStart_kept (h₀ : Kept μ s₀ s) (hm : 65536 ||| μ = μ := by rfl) :
    Kept μ s₀ (metroStart s) := by
  refine kept_lift h₀ hm ?_
  clear h₀ hm
  unfold metroStart; simp (maxDischargeDepth := 60) +contextual

@[simp] theorem matDrop_kept (h₀ : Kept μ s₀ s) (hm : 8589937414 ||| μ = μ := by rfl) :
    Kept μ s₀ (matDrop s) := by
  refine kept_lift h₀ hm ?_
  clear h₀ hm
  unfold matDrop; simp (maxDischargeDepth := 60) +contextual

@[simp] theorem execStrongroomReset_goes {t : Nat} {watchdog crcOk : Bool} (h₀ : Kept μ s₀ (atTime t s)) (hm : 10885610303 ||| μ = μ := by rfl) :
    Goes (execStrongroomReset t watchdog crcOk s) (Kept μ s₀) := by
  refine goes_lift h₀ hm ?_
  clear h₀ hm
  unfold execStrongroomReset; simp (maxDischargeDepth := 60) +contextual 

@[simp] theorem supplyMeasure_kept {vsr vbak : Nat} (h₀ : Kept μ s₀ s) (hm : 65536 ||| μ = μ := by rfl) :
    Kept μ s₀ (supplyMeasure vsr vbak s) := by
  refine kept_lift h₀ hm ?_
  clear h₀ hm
  unfold supplyMeasure; simp (maxDischargeDepth := 60) +contextual

@[simp] theorem execSwitchToVbak_goes {t vsr vbak : Nat} (h₀ : Kept μ s₀ (atTime t s)) (hm : 8594221855 ||| μ = μ := by rfl) :
    Goes (execSwitchToVbak t vsr vbak s) (Kept μ s₀) := by
  refine goes_lift h₀ hm ?_
  clear h₀ hm
  unfold execSwitchToVbak; simp (maxDischargeDepth := 60) +contextual 

@[simp] theorem execReturnToVsr_goes {t vsr vbak : Nat} (h₀ : Kept μ s₀ (atTime t s)) (hm : 8594209566 ||| μ = μ := by rfl) :
    Goes (execReturnToVsr t vsr vbak s) (Kept μ s₀) := by
  refine goes_lift h₀ hm ?_
  clear h₀ hm
  unfold execReturnToVsr; simp (maxDischargeDepth := 60) +contextual 

@[simp] theorem feedSet_kept {f : Nat} {x : Feed} (h₀ : Kept μ s₀ s) (hm : 65536 ||| μ = μ := by rfl) :
    Kept μ s₀ (feedSet f x s) := by
  refine kept_lift h₀ hm ?_
  clear h₀ hm
  unfold feedSet; simp (maxDischargeDepth := 60) +contextual

@[simp] theorem cycleBegin_kept {f round : Nat} (h₀ : Kept μ s₀ s) (hm : 65536 ||| μ = μ := by rfl) :
    Kept μ s₀ (cycleBegin f round s) := by
  refine kept_lift h₀ hm ?_
  clear h₀ hm
  unfold cycleBegin; simp (maxDischargeDepth := 60) +contextual

@[simp] theorem execMetrologyRestart_goes {t mask : Nat} (h₀ : Kept μ s₀ (atTime t s)) (hm : 65552 ||| μ = μ := by rfl) :
    Goes (execMetrologyRestart t mask s) (Kept μ s₀) := by
  refine goes_lift h₀ hm ?_
  clear h₀ hm
  unfold execMetrologyRestart; simp (maxDischargeDepth := 60) +contextual 

@[simp] theorem captureSample_kept {codes : List Int} (h₀ : Kept μ s₀ s) (hm : 74248 ||| μ = μ := by rfl) :
    Kept μ s₀ (captureSample codes s) := by
  refine kept_lift h₀ hm ?_
  clear h₀ hm
  unfold captureSample; repeat' split
  all_goals simp (maxDischargeDepth := 60) +contextual [*]

@[simp] theorem execMetrologySample_goes {t : Nat} {codes : List Int} (h₀ : Kept μ s₀ (atTime t s)) (hm : 74248 ||| μ = μ := by rfl) :
    Goes (execMetrologySample t codes s) (Kept μ s₀) := by
  refine goes_lift h₀ hm ?_
  clear h₀ hm
  unfold execMetrologySample; simp (maxDischargeDepth := 60) +contextual 

@[simp] theorem fineAdd_kept {p q e : Nat} (h₀ : Kept μ s₀ s) (hm : 65536 ||| μ = μ := by rfl) :
    Kept μ s₀ (fineAdd p q e s) := by
  refine kept_lift h₀ hm ?_
  clear h₀ hm
  unfold fineAdd; simp (maxDischargeDepth := 60) +contextual

@[simp] theorem tamperSet_kept {k : Nat} {on : Bool} {since value : Nat} (h₀ : Kept μ s₀ s) (hm : 66064 ||| μ = μ := by rfl) :
    Kept μ s₀ (tamperSet k on since value s) := by
  refine kept_lift h₀ hm ?_
  clear h₀ hm
  unfold tamperSet; simp (maxDischargeDepth := 60) +contextual

@[simp] theorem tamperCycle_kept {k : Nat} {yes : Bool} {begun value : Nat} (h₀ : Kept μ s₀ s) (hm : 66064 ||| μ = μ := by rfl) :
    Kept μ s₀ (tamperCycle k yes begun value s) := by
  refine kept_lift h₀ hm ?_
  clear h₀ hm
  unfold tamperCycle; simp (maxDischargeDepth := 60) +contextual

@[simp] theorem cycleResults_kept {f : Nat} {x : Feed} (h₀ : Kept μ s₀ s) (hm : 66064 ||| μ = μ := by rfl) :
    Kept μ s₀ (cycleResults f x s) := by
  refine kept_lift h₀ hm ?_
  clear h₀ hm
  have h₀ := kept_refl (m := 66064) s
  unfold cycleResults; extract_lets n v g rms pq s1 s2 r res vs asym s3 imax ok ne s4 s5
  have h1 : Kept 66064 s s1 := kept_foldl (fun u a hu => objPut_kept hu) h₀
  have h2 : Kept 66064 s s2 := kept_foldl (fun u a hu => fineAdd_kept (fineAdd_kept (objPut_kept (objPut_kept (objPut_kept (objPut_kept hu)))))) h1
  have h4 : Kept 66064 s s4 := kept_foldl (fun u a hu => tamperCycle_kept hu) (objPut_kept (objPut_kept (objPut_kept h2)))
  exact tamperCycle_kept (tamperCycle_kept h4)

@[simp] theorem minuteAdd_kept {f : Nat} (h₀ : Kept μ s₀ s) (hm : 4194304 ||| μ = μ := by rfl) :
    Kept μ s₀ (minuteAdd f s) := by
  refine kept_lift h₀ hm ?_
  clear h₀ hm
  unfold minuteAdd; simp (maxDischargeDepth := 60) +contextual

@[simp] theorem execMetrologyCycleEnd_goes {t f : Nat} (h₀ : Kept μ s₀ (atTime t s)) (hm : 4260368 ||| μ = μ := by rfl) :
    Goes (execMetrologyCycleEnd t f s) (Kept μ s₀) := by
  refine goes_lift h₀ hm ?_
  clear h₀ hm
  unfold execMetrologyCycleEnd
  refine goes_ite (fun _ => goes_next.2 (kept_refl _)) (fun _ => goes_next.2 (cycleBegin_kept (kept_ite
    (fun _ => kept_mk (kept_ite (fun _ => ?_) (fun _ => kept_mk ?_ (Nat.le_refl _))) (Nat.le_refl _))
    (fun _ => kept_ite (fun _ => ?_) (fun _ => kept_mk ?_ (Nat.le_refl _))))))
  all_goals exact minuteAdd_kept (cycleResults_kept (kept_refl _))

@[simp] theorem execTamperInputChange_goes {t k : Nat} {level : Bool} {since : Nat} (h₀ : Kept μ s₀ (atTime t s)) (hm : 66064 ||| μ = μ := by rfl) :
    Goes (execTamperInputChange t k level since s) (Kept μ s₀) := by
  refine goes_lift h₀ hm ?_
  clear h₀ hm
  unfold execTamperInputChange; simp (maxDischargeDepth := 60) +contextual 

@[simp] theorem legalServe_kept {n : Nat} {a : LegalAuth} {f : State → Nat × Bytes × State} (hf : ∀ u, Kept μ s₀ u → Kept μ s₀ (f u).2.2) (h₀ : Kept μ s₀ s) (hm : 65536 ||| μ = μ := by rfl) :
    Kept μ s₀ (legalServe n a f s).2.2 := by
  unfold legalServe; simp (maxDischargeDepth := 60) +contextual [hm, h₀, hf]

@[simp] theorem execReadTheRegisterBook_goes {t : Nat} {via : Via} {seq : Nat} (h₀ : Kept μ s₀ (atTime t s)) (hm : 8590033422 ||| μ = μ := by rfl) :
    Goes (execReadTheRegisterBook t via seq s) (Kept μ s₀) := by
  refine goes_lift h₀ hm ?_
  clear h₀ hm
  unfold execReadTheRegisterBook; simp (maxDischargeDepth := 60) +contextual 

@[simp] theorem execAcknowledgeTheRegisterBook_goes {t : Nat} {via : Via} {seq : Nat} (h₀ : Kept μ s₀ (atTime t s)) (hm : 8590033422 ||| μ = μ := by rfl) :
    Goes (execAcknowledgeTheRegisterBook t via seq s) (Kept μ s₀) := by
  refine goes_lift h₀ hm ?_
  clear h₀ hm
  unfold execAcknowledgeTheRegisterBook; simp (maxDischargeDepth := 60) +contextual 

end Sys2Proof.Machine
end

