-- ==== Sys2Proof/Laws/KeptBilling.lean ====
section
/-! SUPPORT. What the functions of Machine/Billing.lean leave as it was. -/

namespace Sys2Proof.Machine

set_option Elab.async false

variable {μ : Nat} {s₀ s : State}

@[simp] theorem billCommit_kept {step words extents : Nat} {rs : List BookNew} (h₀ : Kept μ s₀ s) (hm : 65536 ||| μ = μ := by rfl) :
    Kept μ s₀ (billCommit step words extents rs s) := by
  refine kept_lift h₀ hm ?_
  clear h₀ hm
  unfold billCommit; simp (maxDischargeDepth := 60) +contextual

@[simp] theorem billMod_kept {f : Bill → Bill} (h₀ : Kept μ s₀ s) (hm : 4194304 ||| μ = μ := by rfl) :
    Kept μ s₀ (billMod f s) := by
  refine kept_lift h₀ hm ?_
  clear h₀ hm
  unfold billMod; simp (maxDischargeDepth := 60) +contextual

@[simp] theorem postReg_kept {f q r e : Nat} (h₀ : Kept μ s₀ s) (hm : 4259856 ||| μ = μ := by rfl) :
    Kept μ s₀ (postReg f q r e s) := by
  refine kept_lift h₀ hm ?_
  clear h₀ hm
  unfold postReg; simp (maxDischargeDepth := 60) +contextual

@[simp] theorem postQuantity_kept {f q : Nat} (h₀ : Kept μ s₀ s) (hm : 4259856 ||| μ = μ := by rfl) :
    Kept μ s₀ (postQuantity f q s) := by
  refine kept_lift h₀ hm ?_
  clear h₀ hm
  unfold postQuantity; simp (maxDischargeDepth := 60) +contextual

@[simp] theorem postEnergy_kept (h₀ : Kept μ s₀ s) (hm : 4259856 ||| μ = μ := by rfl) :
    Kept μ s₀ (postEnergy s) := by
  refine kept_lift h₀ hm ?_
  clear h₀ hm
  unfold postEnergy; simp (maxDischargeDepth := 60) +contextual

@[simp] theorem tickCommit_kept (h₀ : Kept μ s₀ s) (hm : 65536 ||| μ = μ := by rfl) :
    Kept μ s₀ (tickCommit s) := by
  refine kept_lift h₀ hm ?_
  clear h₀ hm
  unfold tickCommit; simp (maxDischargeDepth := 60) +contextual

@[simp] theorem tickPost_kept (h₀ : Kept μ s₀ s) (hm : 4259856 ||| μ = μ := by rfl) :
    Kept μ s₀ (tickPost s) := by
  refine kept_lift h₀ hm ?_
  clear h₀ hm
  unfold tickPost; simp (maxDischargeDepth := 60) +contextual

@[simp] theorem execKeeperTick_goes {t : Nat} (h₀ : Kept μ s₀ (atTime t s)) (hm : 4259856 ||| μ = μ := by rfl) :
    Goes (execKeeperTick t s) (Kept μ s₀) := by
  refine goes_lift h₀ hm ?_
  clear h₀ hm
  unfold execKeeperTick; simp (maxDischargeDepth := 60) +contextual 

@[simp] theorem slewBy_kept {e : Int} (h₀ : Kept μ s₀ s) (hm : 1 ||| μ = μ := by rfl) :
    Kept μ s₀ (slewBy e s) := by
  refine kept_lift h₀ hm ?_
  clear h₀ hm
  unfold slewBy; simp (maxDischargeDepth := 60) +contextual

@[simp] theorem stepWithheld_kept {e : Int} (h₀ : Kept μ s₀ s) (hm : 4194577 ||| μ = μ := by rfl) :
    Kept μ s₀ (stepWithheld e s) := by
  refine kept_lift h₀ hm ?_
  clear h₀ hm
  unfold stepWithheld; simp (maxDischargeDepth := 60) +contextual

@[simp] theorem stepCount_kept {e : Int} {missed : Bool} (h₀ : Kept μ s₀ s) (hm : 4194577 ||| μ = μ := by rfl) :
    Kept μ s₀ (stepCount e missed s) := by
  refine kept_lift h₀ hm ?_
  clear h₀ hm
  unfold stepCount; simp (maxDischargeDepth := 60) +contextual

@[simp] theorem learnSlew_kept {missed : Bool} (h₀ : Kept μ s₀ s) (hm : 1 ||| μ = μ := by rfl) :
    Kept μ s₀ (learnSlew missed s) := by
  refine kept_lift h₀ hm ?_
  clear h₀ hm
  unfold learnSlew; simp (maxDischargeDepth := 60) +contextual

@[simp] theorem execDisciplineComparison_goes {t : Nat} (h₀ : Kept μ s₀ (atTime t s)) (hm : 4194577 ||| μ = μ := by rfl) :
    Goes (execDisciplineComparison t s) (Kept μ s₀) := by
  refine goes_lift h₀ hm ?_
  clear h₀ hm
  unfold execDisciplineComparison; dsimp only; repeat' split
  all_goals simp (maxDischargeDepth := 60) +contextual [*]

@[simp] theorem legalRecord_kept {n new old words : Nat} (h₀ : Kept μ s₀ s) (hm : 65536 ||| μ = μ := by rfl) :
    Kept μ s₀ (legalRecord n new old words s) := by
  refine kept_lift h₀ hm ?_
  clear h₀ hm
  unfold legalRecord; simp (maxDischargeDepth := 60) +contextual

@[simp] theorem setLtimeTo_kept {target : Nat} (h₀ : Kept μ s₀ s) (hm : 4260113 ||| μ = μ := by rfl) :
    Kept μ s₀ (setLtimeTo target s).2.2 := by
  refine kept_lift h₀ hm ?_
  clear h₀ hm
  unfold setLtimeTo; simp (maxDischargeDepth := 60) +contextual

@[simp] theorem execSetLtime_goes {t : Nat} {via : Via} {target : Nat} {auth : LegalAuth} (h₀ : Kept μ s₀ (atTime t s)) (hm : 8594227999 ||| μ = μ := by rfl) :
    Goes (execSetLtime t via target auth s) (Kept μ s₀) := by
  refine goes_lift h₀ hm ?_
  clear h₀ hm
  unfold execSetLtime; simp (maxDischargeDepth := 60) +contextual 

@[simp] theorem closeInterval_kept {endL startL extra : Nat} (h₀ : Kept μ s₀ s) (hm : 4194320 ||| μ = μ := by rfl) :
    Kept μ s₀ (closeInterval endL startL extra s) := by
  refine kept_lift h₀ hm ?_
  clear h₀ hm
  unfold closeInterval; simp (maxDischargeDepth := 60) +contextual

@[simp] theorem demandTake_kept {f d e endL : Nat} {complete : Bool} (h₀ : Kept μ s₀ s) (hm : 16 ||| μ = μ := by rfl) :
    Kept μ s₀ (demandTake f d e endL complete s) := by
  refine kept_lift h₀ hm ?_
  clear h₀ hm
  unfold demandTake; simp (maxDischargeDepth := 60) +contextual

@[simp] theorem closeSub_kept {bad : Bool} {extra endL startL : Nat} (h₀ : Kept μ s₀ s) (hm : 4194304 ||| μ = μ := by rfl) :
    Kept μ s₀ (closeSub bad extra endL startL s) := by
  refine kept_lift h₀ hm ?_
  clear h₀ hm
  unfold closeSub; simp (maxDischargeDepth := 60) +contextual

@[simp] theorem demandApply_kept (h₀ : Kept μ s₀ s) (hm : 4194320 ||| μ = μ := by rfl) :
    Kept μ s₀ (demandApply s) := by
  refine kept_lift h₀ hm ?_
  clear h₀ hm
  unfold demandApply; simp (maxDischargeDepth := 60) +contextual

@[simp] theorem periodClose_kept {endL startL cause : Nat} (h₀ : Kept μ s₀ s) (hm : 4194832 ||| μ = μ := by rfl) :
    Kept μ s₀ (periodClose endL startL cause s) := by
  refine kept_lift h₀ hm ?_
  clear h₀ hm
  unfold periodClose; simp (maxDischargeDepth := 60) +contextual

@[simp] theorem periodEnd_kept {endL startL cause : Nat} (h₀ : Kept μ s₀ s) (hm : 4260368 ||| μ = μ := by rfl) :
    Kept μ s₀ (periodEnd endL startL cause s) := by
  refine kept_lift h₀ hm ?_
  clear h₀ hm
  unfold periodEnd; simp (maxDischargeDepth := 60) +contextual

@[simp] theorem endPeriodNow_kept (h₀ : Kept μ s₀ s) (hm : 4259840 ||| μ = μ := by rfl) :
    Kept μ s₀ (endPeriodNow s).2.2 := by
  refine kept_lift h₀ hm ?_
  clear h₀ hm
  unfold endPeriodNow; simp (maxDischargeDepth := 60) +contextual

@[simp] theorem execEndTheBillingPeriodNow_goes {t : Nat} {via : Via} {auth : LegalAuth} (h₀ : Kept μ s₀ (atTime t s)) (hm : 8594227726 ||| μ = μ := by rfl) :
    Goes (execEndTheBillingPeriodNow t via auth s) (Kept μ s₀) := by
  refine goes_lift h₀ hm ?_
  clear h₀ hm
  unfold execEndTheBillingPeriodNow; simp (maxDischargeDepth := 60) +contextual 

@[simp] theorem clockStepBy_kept {e : Int} (h₀ : Kept μ s₀ s) (hm : 4260369 ||| μ = μ := by rfl) :
    Kept μ s₀ (clockStepBy e s) := by
  refine kept_lift h₀ hm ?_
  clear h₀ hm
  unfold clockStepBy; simp (maxDischargeDepth := 60) +contextual

@[simp] theorem tickStep_kept (h₀ : Kept μ s₀ s) (hm : 4260625 ||| μ = μ := by rfl) :
    Kept μ s₀ (tickStep s) := by
  refine kept_lift h₀ hm ?_
  clear h₀ hm
  unfold tickStep; repeat' split
  all_goals simp (maxDischargeDepth := 60) +contextual [*]

@[simp] theorem execClockStep_goes {t : Nat} (h₀ : Kept μ s₀ (atTime t s)) (hm : 4260625 ||| μ = μ := by rfl) :
    Goes (execClockStep t s) (Kept μ s₀) := by
  refine goes_lift h₀ hm ?_
  clear h₀ hm
  unfold execClockStep; dsimp only; repeat' split
  all_goals simp (maxDischargeDepth := 60) +contextual [*]

@[simp] theorem tickDemand_kept (h₀ : Kept μ s₀ s) (hm : 4259856 ||| μ = μ := by rfl) :
    Kept μ s₀ (tickDemand s) := by
  refine kept_lift h₀ hm ?_
  clear h₀ hm
  unfold tickDemand; simp (maxDischargeDepth := 60) +contextual

@[simp] theorem tickProfile_kept (h₀ : Kept μ s₀ s) (hm : 4259856 ||| μ = μ := by rfl) :
    Kept μ s₀ (tickProfile s) := by
  refine kept_lift h₀ hm ?_
  clear h₀ hm
  unfold tickProfile; simp (maxDischargeDepth := 60) +contextual

@[simp] theorem tickPeriod_kept (h₀ : Kept μ s₀ s) (hm : 4260368 ||| μ = μ := by rfl) :
    Kept μ s₀ (tickPeriod s) := by
  refine kept_lift h₀ hm ?_
  clear h₀ hm
  unfold tickPeriod; simp (maxDischargeDepth := 60) +contextual

@[simp] theorem execDemandSubperiodEnd_goes {t : Nat} (h₀ : Kept μ s₀ (atTime t s)) (hm : 4260625 ||| μ = μ := by rfl) :
    Goes (execDemandSubperiodEnd t s) (Kept μ s₀) := by
  refine goes_lift h₀ hm ?_
  clear h₀ hm
  unfold execDemandSubperiodEnd; simp (maxDischargeDepth := 60) +contextual 

@[simp] theorem execProfileIntervalEnd_goes {t : Nat} (h₀ : Kept μ s₀ (atTime t s)) (hm : 4260625 ||| μ = μ := by rfl) :
    Goes (execProfileIntervalEnd t s) (Kept μ s₀) := by
  refine goes_lift h₀ hm ?_
  clear h₀ hm
  unfold execProfileIntervalEnd; simp (maxDischargeDepth := 60) +contextual 

@[simp] theorem tickEnds_kept (h₀ : Kept μ s₀ s) (hm : 4260625 ||| μ = μ := by rfl) :
    Kept μ s₀ (tickEnds s) := by
  refine kept_lift h₀ hm ?_
  clear h₀ hm
  unfold tickEnds; simp (maxDischargeDepth := 60) +contextual

@[simp] theorem execBillingPeriodEnd_goes {t : Nat} (h₀ : Kept μ s₀ (atTime t s)) (hm : 4260625 ||| μ = μ := by rfl) :
    Goes (execBillingPeriodEnd t s) (Kept μ s₀) := by
  refine goes_lift h₀ hm ?_
  clear h₀ hm
  unfold execBillingPeriodEnd; dsimp only; repeat' split
  all_goals simp (maxDischargeDepth := 60) +contextual [*]

@[simp] theorem execRepeatGenerationReset_goes {t : Nat} (h₀ : Kept μ s₀ (atTime t s)) (hm : 65552 ||| μ = μ := by rfl) :
    Goes (execRepeatGenerationReset t s) (Kept μ s₀) := by
  refine goes_lift h₀ hm ?_
  clear h₀ hm
  unfold execRepeatGenerationReset; simp (maxDischargeDepth := 60) +contextual 

@[simp] theorem tickOffset_kept (h₀ : Kept μ s₀ s) (hm : 4259856 ||| μ = μ := by rfl) :
    Kept μ s₀ (tickOffset s) := by
  refine kept_lift h₀ hm ?_
  clear h₀ hm
  unfold tickOffset; simp (maxDischargeDepth := 60) +contextual

@[simp] theorem execTaiUtcChange_goes {t : Nat} (h₀ : Kept μ s₀ (atTime t s)) (hm : 4260625 ||| μ = μ := by rfl) :
    Goes (execTaiUtcChange t s) (Kept μ s₀) := by
  refine goes_lift h₀ hm ?_
  clear h₀ hm
  unfold execTaiUtcChange; simp (maxDischargeDepth := 60) +contextual 

@[simp] theorem switchRate_kept (h₀ : Kept μ s₀ s) (hm : 4260624 ||| μ = μ := by rfl) :
    Kept μ s₀ (switchRate s) := by
  refine kept_lift h₀ hm ?_
  clear h₀ hm
  unfold switchRate; simp (maxDischargeDepth := 60) +contextual

@[simp] theorem tickCalendar_kept (h₀ : Kept μ s₀ s) (hm : 4260656 ||| μ = μ := by rfl) :
    Kept μ s₀ (tickCalendar s) := by
  refine kept_lift h₀ hm ?_
  clear h₀ hm
  unfold tickCalendar; simp (maxDischargeDepth := 60) +contextual

@[simp] theorem execCalendarActivation_goes {t : Nat} (h₀ : Kept μ s₀ (atTime t s)) (hm : 4260657 ||| μ = μ := by rfl) :
    Goes (execCalendarActivation t s) (Kept μ s₀) := by
  refine goes_lift h₀ hm ?_
  clear h₀ hm
  unfold execCalendarActivation; simp (maxDischargeDepth := 60) +contextual 

@[simp] theorem tickRates_kept (h₀ : Kept μ s₀ s) (hm : 4260657 ||| μ = μ := by rfl) :
    Kept μ s₀ (tickRates s) := by
  refine kept_lift h₀ hm ?_
  clear h₀ hm
  unfold tickRates; simp (maxDischargeDepth := 60) +contextual

@[simp] theorem execTariffSwitch_goes {t : Nat} (h₀ : Kept μ s₀ (atTime t s)) (hm : 4260657 ||| μ = μ := by rfl) :
    Goes (execTariffSwitch t s) (Kept μ s₀) := by
  refine goes_lift h₀ hm ?_
  clear h₀ hm
  unfold execTariffSwitch; simp (maxDischargeDepth := 60) +contextual 

@[simp] theorem calendarWrite_kept {img : Bytes} (h₀ : Kept μ s₀ s) (hm : 65568 ||| μ = μ := by rfl) :
    Kept μ s₀ (calendarWrite img s).2.2 := by
  refine kept_lift h₀ hm ?_
  clear h₀ hm
  unfold calendarWrite; simp (maxDischargeDepth := 60) +contextual

@[simp] theorem execCalendarImageWrite_goes {t : Nat} {via : Via} {img : Bytes} {auth : LegalAuth} (h₀ : Kept μ s₀ (atTime t s)) (hm : 8590033454 ||| μ = μ := by rfl) :
    Goes (execCalendarImageWrite t via img auth s) (Kept μ s₀) := by
  refine goes_lift h₀ hm ?_
  clear h₀ hm
  unfold execCalendarImageWrite; simp (maxDischargeDepth := 60) +contextual 

@[simp] theorem withdrawCalendar_kept (h₀ : Kept μ s₀ s) (hm : 65568 ||| μ = μ := by rfl) :
    Kept μ s₀ (withdrawCalendar s).2.2 := by
  refine kept_lift h₀ hm ?_
  clear h₀ hm
  unfold withdrawCalendar; simp (maxDischargeDepth := 60) +contextual

@[simp] theorem execWithdrawThePassiveCalendar_goes {t : Nat} {via : Via} {auth : LegalAuth} (h₀ : Kept μ s₀ (atTime t s)) (hm : 8590033454 ||| μ = μ := by rfl) :
    Goes (execWithdrawThePassiveCalendar t via auth s) (Kept μ s₀) := by
  refine goes_lift h₀ hm ?_
  clear h₀ hm
  unfold execWithdrawThePassiveCalendar; simp (maxDischargeDepth := 60) +contextual 

@[simp] theorem execPowerFailCapture_goes {t : Nat} (h₀ : Kept μ s₀ (atTime t s)) (hm : 4260657 ||| μ = μ := by rfl) :
    Goes (execPowerFailCapture t s) (Kept μ s₀) := by
  refine goes_lift h₀ hm ?_
  clear h₀ hm
  unfold execPowerFailCapture; extract_lets s1 v
  have h1 : Kept 4260657 (atTime t s) s1 := tickRates_kept (kept_refl _)
  exact goes_ite (fun _ => goes_next.2 (billCommit_kept (billMod_kept h1))) (fun _ => goes_next.2 h1)

@[simp] theorem execPowerUpCapture_goes {t : Nat} (h₀ : Kept μ s₀ (atTime t s)) (hm : 4259840 ||| μ = μ := by rfl) :
    Goes (execPowerUpCapture t s) (Kept μ s₀) := by
  refine goes_lift h₀ hm ?_
  clear h₀ hm
  unfold execPowerUpCapture; dsimp only; repeat' split
  all_goals simp (maxDischargeDepth := 60) +contextual [*]

@[simp] theorem execRateAndPriceAtAnLtime_goes {t : Nat} {via : Via} {l : Nat} (h₀ : Kept μ s₀ (atTime t s)) (hm : 8590033422 ||| μ = μ := by rfl) :
    Goes (execRateAndPriceAtAnLtime t via l s) (Kept μ s₀) := by
  refine goes_lift h₀ hm ?_
  clear h₀ hm
  unfold execRateAndPriceAtAnLtime; simp (maxDischargeDepth := 60) +contextual 

@[simp] theorem execReadSnapshotByAge_goes {t : Nat} {via : Via} {age : Nat} (h₀ : Kept μ s₀ (atTime t s)) (hm : 8590033422 ||| μ = μ := by rfl) :
    Goes (execReadSnapshotByAge t via age s) (Kept μ s₀) := by
  refine goes_lift h₀ hm ?_
  clear h₀ hm
  unfold execReadSnapshotByAge; refine goes_next.2 (serve_kept (fun u hu => ?_) (by simp)); repeat' split
  all_goals simp [*]

@[simp] theorem execReadProfileRecords_goes {t : Nat} {via : Via} {seq : Nat} (h₀ : Kept μ s₀ (atTime t s)) (hm : 8590033422 ||| μ = μ := by rfl) :
    Goes (execReadProfileRecords t via seq s) (Kept μ s₀) := by
  refine goes_lift h₀ hm ?_
  clear h₀ hm
  unfold execReadProfileRecords; simp (maxDischargeDepth := 60) +contextual 

@[simp] theorem execConsistentRegisterSet_goes {t : Nat} {via : Via} {f : Nat} (h₀ : Kept μ s₀ (atTime t s)) (hm : 8590033422 ||| μ = μ := by rfl) :
    Goes (execConsistentRegisterSet t via f s) (Kept μ s₀) := by
  refine goes_lift h₀ hm ?_
  clear h₀ hm
  unfold execConsistentRegisterSet; simp (maxDischargeDepth := 60) +contextual 

@[simp] theorem execMinutePublish_goes {t : Nat} (h₀ : Kept μ s₀ (atTime t s)) (hm : 4259840 ||| μ = μ := by rfl) :
    Goes (execMinutePublish t s) (Kept μ s₀) := by
  refine goes_lift h₀ hm ?_
  clear h₀ hm
  unfold execMinutePublish; simp (maxDischargeDepth := 60) +contextual 

end Sys2Proof.Machine
end

