-- ==== Sys2Proof/Laws/KeptNand.lean ====
section
/-! SUPPORT. What the functions of Machine/Nand.lean leave as it was. -/

namespace Sys2Proof.Machine

set_option Elab.async false

variable {μ : Nat} {s₀ s : State}

@[simp] theorem storeSet_kept {w : Nat} {x : Store} (h₀ : Kept μ s₀ s) (hm : 67108864 ||| μ = μ := by rfl) :
    Kept μ s₀ (storeSet w x s) := by
  refine kept_lift h₀ hm ?_
  clear h₀ hm
  unfold storeSet; simp (maxDischargeDepth := 60) +contextual

@[simp] theorem storeMod_kept {w : Nat} {f : Store → Store} (h₀ : Kept μ s₀ s) (hm : 67108864 ||| μ = μ := by rfl) :
    Kept μ s₀ (storeMod w f s) := by
  refine kept_lift h₀ hm ?_
  clear h₀ hm
  unfold storeMod; simp (maxDischargeDepth := 60) +contextual

@[simp] theorem storeStateSet_kept {w v : Nat} (h₀ : Kept μ s₀ s) (hm : 2 ||| μ = μ := by rfl) :
    Kept μ s₀ (storeStateSet w v s) := by
  refine kept_lift h₀ hm ?_
  clear h₀ hm
  unfold storeStateSet; simp (maxDischargeDepth := 60) +contextual

@[simp] theorem nfcFlag_kept {w b : Nat} (h₀ : Kept μ s₀ s) (hm : 8589935110 ||| μ = μ := by rfl) :
    Kept μ s₀ (nfcFlag w b s) := by
  refine kept_lift h₀ hm ?_
  clear h₀ hm
  unfold nfcFlag; simp (maxDischargeDepth := 60) +contextual

@[simp] theorem nfcLevel_kept {w b : Nat} {v : Bool} (h₀ : Kept μ s₀ s) (hm : 2 ||| μ = μ := by rfl) :
    Kept μ s₀ (nfcLevel w b v s) := by
  refine kept_lift h₀ hm ?_
  clear h₀ hm
  unfold nfcLevel; simp (maxDischargeDepth := 60) +contextual

@[simp] theorem freeSync_kept {w : Nat} (h₀ : Kept μ s₀ s) (hm : 2 ||| μ = μ := by rfl) :
    Kept μ s₀ (freeSync w s) := by
  refine kept_lift h₀ hm ?_
  clear h₀ hm
  unfold freeSync; simp (maxDischargeDepth := 60) +contextual

@[simp] theorem opQueue_kept {w : Nat} {o : NandOp} (h₀ : Kept μ s₀ s) (hm : 67108864 ||| μ = μ := by rfl) :
    Kept μ s₀ (opQueue w o s) := by
  refine kept_lift h₀ hm ?_
  clear h₀ hm
  unfold opQueue; simp (maxDischargeDepth := 60) +contextual

@[simp] theorem writeTwice_kept {w stream task : Nat} {pages : List NandPage} (h₀ : Kept μ s₀ s) (hm : 67108864 ||| μ = μ := by rfl) :
    Kept μ s₀ (writeTwice w stream task pages s) := by
  refine kept_lift h₀ hm ?_
  clear h₀ hm
  unfold writeTwice; simp (maxDischargeDepth := 60) +contextual

@[simp] theorem journalRec_kept {w kind a b c : Nat} (h₀ : Kept μ s₀ s) (hm : 67108864 ||| μ = μ := by rfl) :
    Kept μ s₀ (journalRec w kind a b c s) := by
  refine kept_lift h₀ hm ?_
  clear h₀ hm
  unfold journalRec; simp (maxDischargeDepth := 60) +contextual

@[simp] theorem journalList_kept {w kind number : Nat} {data : Bytes} (h₀ : Kept μ s₀ s) (hm : 67108864 ||| μ = μ := by rfl) :
    Kept μ s₀ (journalList w kind number data s) := by
  refine kept_lift h₀ hm ?_
  clear h₀ hm
  unfold journalList; simp (maxDischargeDepth := 60) +contextual

@[simp] theorem blockFill_kept {w b : Nat} (h₀ : Kept μ s₀ s) (hm : 67108864 ||| μ = μ := by rfl) :
    Kept μ s₀ (blockFill w b s) := by
  refine kept_lift h₀ hm ?_
  clear h₀ hm
  unfold blockFill; simp (maxDischargeDepth := 60) +contextual

@[simp] theorem closeFull_kept {w b : Nat} (h₀ : Kept μ s₀ s) (hm : 67108864 ||| μ = μ := by rfl) :
    Kept μ s₀ (closeFull w b s) := by
  refine kept_lift h₀ hm ?_
  clear h₀ hm
  unfold closeFull; simp (maxDischargeDepth := 60) +contextual

@[simp] theorem placeOp_kept {w : Nat} {o : NandOp} {r : Nat × State} (h₀ : Kept μ s₀ s) (e : placeOp w o s = some r) (hm : 67108864 ||| μ = μ := by rfl) :
    Kept μ s₀ r.2 := by
  unfold placeOp at e; dsimp only at e; repeat' split at e
  all_goals first | (cases e; simp [h₀, hm]) | cases e

@[simp] theorem placeImage_kept {w : Nat} {o : NandOp} {r : Nat × State} (h₀ : Kept μ s₀ s) (e : placeImage w o s = some r) (hm : 67108864 ||| μ = μ := by rfl) :
    Kept μ s₀ r.2 := by
  unfold placeImage at e; dsimp only at e; repeat' split at e
  all_goals first | exact placeOp_kept h₀ e hm | (cases e; simp [h₀, hm]) | cases e

@[simp] theorem featSet_kept {w b v : Nat} (h₀ : Kept μ s₀ s) (hm : 67108864 ||| μ = μ := by rfl) :
    Kept μ s₀ (featSet w b v s) := by
  refine kept_lift h₀ hm ?_
  clear h₀ hm
  unfold featSet; simp (maxDischargeDepth := 60) +contextual

@[simp] theorem opSet_kept {w n : Nat} {o : NandOp} (h₀ : Kept μ s₀ s) (hm : 67108864 ||| μ = μ := by rfl) :
    Kept μ s₀ (opSet w n o s) := by
  refine kept_lift h₀ hm ?_
  clear h₀ hm
  unfold opSet; simp (maxDischargeDepth := 60) +contextual

@[simp] theorem opStart_kept {w n : Nat} (h₀ : Kept μ s₀ s) (hm : 67108864 ||| μ = μ := by rfl) :
    Kept μ s₀ (opStart w n s) := by
  refine kept_lift h₀ hm ?_
  clear h₀ hm
  have h₀ := kept_refl (m := 67108864) s
  unfold opStart
  split
  · exact h₀
  · rename_i o _
    refine kept_ite (fun _ => h₀) (fun _ => ?_)
    extract_lets p
    have hp : ∀ r, p = some r → Kept 67108864 s r.2 := by
      intro r e; simp only [p] at e; repeat' split at e
      all_goals first | exact placeImage_kept h₀ e | exact placeOp_kept h₀ e | (cases e; exact h₀) | cases e
    generalize p = q at hp
    cases q with
    | none => exact h₀
    | some r =>
      have h1 : Kept 67108864 s r.2 := hp r rfl
      obtain ⟨b, s1⟩ := r
      have h2 : Kept 67108864 s (if o.kind = 1 then featSet w b (bandOf s1 ((blockGet (storeGet s1 w) b).bake / 2 ^ 32)) s1 else s1) :=
        kept_ite (fun _ => featSet_kept h1) (fun _ => h1)
      exact kept_ite (fun _ => closeFull_kept (kept_ite (fun _ => opSet_kept h1) (fun _ => storeMod_kept (opSet_kept h2))))
        (fun _ => kept_ite (fun _ => opSet_kept h1) (fun _ => storeMod_kept (opSet_kept h2)))

@[simp] theorem opsStart_kept {w : Nat} (h₀ : Kept μ s₀ s) (hm : 67108866 ||| μ = μ := by rfl) :
    Kept μ s₀ (opsStart w s) := by
  refine kept_lift h₀ hm ?_
  clear h₀ hm
  unfold opsStart; simp (maxDischargeDepth := 60) +contextual

end Sys2Proof.Machine
end

