-- ==== Sys2Proof/Laws/KeptCheckin.lean ====
section
/-! SUPPORT. What the functions of Machine/Checkin.lean leave as it was. -/

namespace Sys2Proof.Machine

set_option Elab.async false

variable {μ : Nat} {s₀ s : State}

@[simp] theorem gbSet_kept {w k : Nat} {e : Bytes} (h₀ : Kept μ s₀ s) (hm : 2097152 ||| μ = μ := by rfl) :
    Kept μ s₀ (gbSet w k e s) := by
  refine kept_lift h₀ hm ?_
  clear h₀ hm
  unfold gbSet; simp (maxDischargeDepth := 60) +contextual

@[simp] theorem entryMod_kept {i : Nat} {f : Bytes → Bytes} (h₀ : Kept μ s₀ s) (hm : 2097160 ||| μ = μ := by rfl) :
    Kept μ s₀ (entryMod i f s) := by
  refine kept_lift h₀ hm ?_
  clear h₀ hm
  unfold entryMod; dsimp only; repeat' split
  all_goals simp (maxDischargeDepth := 60) +contextual [*]

@[simp] theorem gbWriteback_kept {w k : Nat} (h₀ : Kept μ s₀ s) (hm : 2097164 ||| μ = μ := by rfl) :
    Kept μ s₀ (gbWriteback w k s) := by
  refine kept_lift h₀ hm ?_
  clear h₀ hm
  unfold gbWriteback; simp (maxDischargeDepth := 60) +contextual

@[simp] theorem gbFill_kept {i : Nat} (h₀ : Kept μ s₀ s) (hm : 2097164 ||| μ = μ := by rfl) :
    Kept μ s₀ (gbFill i s) := by
  refine kept_lift h₀ hm ?_
  clear h₀ hm
  unfold gbFill; dsimp only; repeat' split
  all_goals simp (maxDischargeDepth := 60) +contextual [*]

@[simp] theorem addrIndex_kept {a i p : Nat} (h₀ : Kept μ s₀ s) (hm : 262152 ||| μ = μ := by rfl) :
    Kept μ s₀ (addrIndex a i p s) := by
  refine kept_lift h₀ hm ?_
  clear h₀ hm
  unfold addrIndex; dsimp only; repeat' split
  all_goals simp (maxDischargeDepth := 60) +contextual [*]

@[simp] theorem execProvision_goes {t : Nat} {via : Via} {rec : Bytes} (h₀ : Kept μ s₀ (atTime t s)) (hm : 8590295838 ||| μ = μ := by rfl) :
    Goes (execProvision t via rec s) (Kept μ s₀) := by
  refine goes_lift h₀ hm ?_
  clear h₀ hm
  unfold execProvision
  refine goes_next.2 (serve_kept (fun u hu => checkedCount_kept (fun v hv => ?_) hu) (kept_refl _))
  dsimp only; repeat' split
  all_goals simp (maxDischargeDepth := 60) [*]

@[simp] theorem opDone_kept {i op : Nat} (h₀ : Kept μ s₀ s) (hm : 8589935382 ||| μ = μ := by rfl) :
    Kept μ s₀ (opDone i op s) := by
  refine kept_lift h₀ hm ?_
  clear h₀ hm
  unfold opDone; simp (maxDischargeDepth := 60) +contextual

@[simp] theorem opDeprovision_kept {i : Nat} (h₀ : Kept μ s₀ s) (hm : 8592294686 ||| μ = μ := by rfl) :
    Kept μ s₀ (opDeprovision i s) := by
  refine kept_lift h₀ hm ?_
  clear h₀ hm
  unfold opDeprovision; extract_lets w a s1 s2 m s3
  have h1 : Kept 8592294686 s s1 := by simp only [s1]; split <;> simp
  have h3 : Kept 8592294686 s s3 := kept_mk (dramWrite_kept h1) (Nat.le_refl _)
  refine opDone_kept ?_
  split
  · exact addrIndex_kept h3
  · exact h3

@[simp] theorem sealEntry_kept {i : Nat} (h₀ : Kept μ s₀ s) (hm : 65552 ||| μ = μ := by rfl) :
    Kept μ s₀ (sealEntry i s).2 := by
  refine kept_lift h₀ hm ?_
  clear h₀ hm
  unfold sealEntry; simp (maxDischargeDepth := 60) +contextual

@[simp] theorem opApply_kept {op i : Nat} (h₀ : Kept μ s₀ s) (hm : 8592360222 ||| μ = μ := by rfl) :
    Kept μ s₀ (opApply op i s).2.2 := by
  refine kept_lift h₀ hm ?_
  clear h₀ hm
  unfold opApply; simp (maxDischargeDepth := 60) +contextual

@[simp] theorem opServe_kept {via : Via} {op i : Nat} (h₀ : Kept μ s₀ s) (hm : 8592392990 ||| μ = μ := by rfl) :
    Kept μ s₀ (opServe via op i s) := by
  refine kept_lift h₀ hm ?_
  clear h₀ hm
  unfold opServe; simp (maxDischargeDepth := 60) +contextual

@[simp] theorem opsRun_kept {w i : Nat} (h₀ : Kept μ s₀ s) (hm : 8592392990 ||| μ = μ := by rfl) :
    Kept μ s₀ (opsRun w i s) := by
  refine kept_lift h₀ hm ?_
  clear h₀ hm
  unfold opsRun; simp (maxDischargeDepth := 60) +contextual

@[simp] theorem execCarriedFrame_goes {t w : Nat} {opened : Opened} (h₀ : Kept μ s₀ (atTime t s)) (hm : 8592163614 ||| μ = μ := by rfl) :
    Goes (execCarriedFrame t w opened s) (Kept μ s₀) := by
  refine goes_lift h₀ hm ?_
  clear h₀ hm
  unfold execCarriedFrame; dsimp only; repeat' split
  all_goals simp (maxDischargeDepth := 60) +contextual [*]

@[simp] theorem admitWait_kept {w : Nat} {f : InFrame} {rest : List InFrame} {bitNo : Nat} (h₀ : Kept μ s₀ s) (hm : 8592032534 ||| μ = μ := by rfl) :
    Kept μ s₀ (admitWait w f rest bitNo s) := by
  refine kept_lift h₀ hm ?_
  clear h₀ hm
  unfold admitWait; simp (maxDischargeDepth := 60) +contextual

@[simp] theorem admitOne_kept {w : Nat} (h₀ : Kept μ s₀ s) (hm : 8592032534 ||| μ = μ := by rfl) :
    Kept μ s₀ (admitOne w s) := by
  refine kept_lift h₀ hm ?_
  clear h₀ hm
  unfold admitOne; dsimp only; repeat' split
  all_goals simp (maxDischargeDepth := 60) +contextual [*]

@[simp] theorem admitAll_kept {w : Nat} (h₀ : Kept μ s₀ s) (hm : 8592032534 ||| μ = μ := by rfl) :
    Kept μ s₀ (admitAll w s) := by
  refine kept_lift h₀ hm ?_
  clear h₀ hm
  have h₀ := kept_refl (m := 8592032534) s
  unfold admitAll
  refine kept_foldl (fun u a hu => ?_) h₀
  split
  · exact hu
  · exact kept_ite (fun _ => admitOne_kept hu) (fun _ => hu)

@[simp] theorem execAdmission_goes {t w : Nat} (h₀ : Kept μ s₀ (atTime t s)) (hm : 8592032534 ||| μ = μ := by rfl) :
    Goes (execAdmission t w s) (Kept μ s₀) := by
  refine goes_lift h₀ hm ?_
  clear h₀ hm
  unfold execAdmission; dsimp only; repeat' split
  all_goals simp (maxDischargeDepth := 60) +contextual [*]

@[simp] theorem execBatchClose_goes {t w : Nat} (h₀ : Kept μ s₀ (atTime t s)) (hm : 2097152 ||| μ = μ := by rfl) :
    Goes (execBatchClose t w s) (Kept μ s₀) := by
  refine goes_lift h₀ hm ?_
  clear h₀ hm
  unfold execBatchClose; dsimp only; repeat' split
  all_goals simp (maxDischargeDepth := 60) +contextual [*]

@[simp] theorem execFill_goes {t w : Nat} {dramOk : Bool} (h₀ : Kept μ s₀ (atTime t s)) (hm : 8592032542 ||| μ = μ := by rfl) :
    Goes (execFill t w dramOk s) (Kept μ s₀) := by
  refine goes_lift h₀ hm ?_
  clear h₀ hm
  unfold execFill; dsimp only; repeat' split
  all_goals simp (maxDischargeDepth := 60) +contextual [*]

@[simp] theorem execSignatureVerifyStart_goes {t w : Nat} (h₀ : Kept μ s₀ (atTime t s)) (hm : 2097152 ||| μ = μ := by rfl) :
    Goes (execSignatureVerifyStart t w s) (Kept μ s₀) := by
  refine goes_lift h₀ hm ?_
  clear h₀ hm
  unfold execSignatureVerifyStart; dsimp only; repeat' split
  all_goals simp (maxDischargeDepth := 60) +contextual [*]

@[simp] theorem stageFrame_kept {w : Nat} {f : InFrame} {o : Nat} (h₀ : Kept μ s₀ s) (hm : 8592032270 ||| μ = μ := by rfl) :
    Kept μ s₀ (stageFrame w f o s) := by
  refine kept_lift h₀ hm ?_
  clear h₀ hm
  unfold stageFrame; simp (maxDischargeDepth := 60) +contextual

@[simp] theorem commitCounter_kept {w : Nat} {f : InFrame} (h₀ : Kept μ s₀ s) (hm : 2097160 ||| μ = μ := by rfl) :
    Kept μ s₀ (commitCounter w f s) := by
  refine kept_lift h₀ hm ?_
  clear h₀ hm
  unfold commitCounter; simp (maxDischargeDepth := 60) +contextual

@[simp] theorem replyPass_kept {i : Nat} (h₀ : Kept μ s₀ s) (hm : 262144 ||| μ = μ := by rfl) :
    Kept μ s₀ (replyPass i s) := by
  refine kept_lift h₀ hm ?_
  clear h₀ hm
  unfold replyPass; simp (maxDischargeDepth := 60) +contextual

@[simp] theorem judgeOne_kept {w : Nat} (h₀ : Kept μ s₀ s) (hm : 2097160 ||| μ = μ := by rfl) :
    Kept μ s₀ (judgeOne w s) := by
  refine kept_lift h₀ hm ?_
  clear h₀ hm
  unfold judgeOne; dsimp only; repeat' split
  all_goals simp (maxDischargeDepth := 60) +contextual [*]

@[simp] theorem judgeAll_kept {w : Nat} (h₀ : Kept μ s₀ s) (hm : 2097160 ||| μ = μ := by rfl) :
    Kept μ s₀ (judgeAll w s) := by
  refine kept_lift h₀ hm ?_
  clear h₀ hm
  unfold judgeAll; simp (maxDischargeDepth := 60) +contextual

@[simp] theorem applyOutcome_kept {w : Nat} {f : InFrame} (h₀ : Kept μ s₀ s) (hm : 8592425758 ||| μ = μ := by rfl) :
    Kept μ s₀ (applyOutcome w f s) := by
  refine kept_lift h₀ hm ?_
  clear h₀ hm
  unfold applyOutcome; simp (maxDischargeDepth := 60) +contextual

@[simp] theorem toLobby_kept {w : Nat} {f : InFrame} (h₀ : Kept μ s₀ s) (hm : 8592163614 ||| μ = μ := by rfl) :
    Kept μ s₀ (toLobby w f s) := by
  refine kept_lift h₀ hm ?_
  clear h₀ hm
  unfold toLobby; simp (maxDischargeDepth := 60) +contextual

@[simp] theorem execCheckinOutcome_goes {t w : Nat} (h₀ : Kept μ s₀ (atTime t s)) (hm : 8592524062 ||| μ = μ := by rfl) :
    Goes (execCheckinOutcome t w s) (Kept μ s₀) := by
  refine goes_lift h₀ hm ?_
  clear h₀ hm
  unfold execCheckinOutcome; extract_lets s1 x
  have h1 : Kept 8592524062 (atTime t s) s1 := judgeAll_kept (kept_refl _)
  split
  · exact goes_next.2 h1
  · exact goes_ite (fun _ => goes_next.2 (opsRun_kept (ingSet_kept h1))) (fun _ => goes_ite
      (fun _ => goes_next.2 (opsRun_kept (toLobby_kept (ingSet_kept h1))))
      (fun _ => goes_next.2 (opsRun_kept (applyOutcome_kept (ingSet_kept h1)))))

@[simp] theorem opReady_kept {via : Via} {i : Nat} (h₀ : Kept μ s₀ s) (hm : 8592032542 ||| μ = μ := by rfl) :
    Kept μ s₀ (opReady via i s) := by
  refine kept_lift h₀ hm ?_
  clear h₀ hm
  unfold opReady; simp (maxDischargeDepth := 60) +contextual

@[simp] theorem opNow_kept {via : Via} {op i : Nat} {lenOk : Bool} {f : Bytes → Bytes} (h₀ : Kept μ s₀ s) (hm : 8592130846 ||| μ = μ := by rfl) :
    Kept μ s₀ (opNow via op i lenOk f s) := by
  refine kept_lift h₀ hm ?_
  clear h₀ hm
  unfold opNow; simp (maxDischargeDepth := 60) +contextual

@[simp] theorem execDeprovision_goes {t : Nat} {via : Via} {i : Nat} (h₀ : Kept μ s₀ (atTime t s)) (hm : 8592392990 ||| μ = μ := by rfl) :
    Goes (execDeprovision t via i s) (Kept μ s₀) := by
  refine goes_lift h₀ hm ?_
  clear h₀ hm
  unfold execDeprovision; simp (maxDischargeDepth := 60) +contextual 

@[simp] theorem execSuspend_goes {t : Nat} {via : Via} {i : Nat} (h₀ : Kept μ s₀ (atTime t s)) (hm : 8592392990 ||| μ = μ := by rfl) :
    Goes (execSuspend t via i s) (Kept μ s₀) := by
  refine goes_lift h₀ hm ?_
  clear h₀ hm
  unfold execSuspend; simp (maxDischargeDepth := 60) +contextual 

@[simp] theorem execResume_goes {t : Nat} {via : Via} {i : Nat} (h₀ : Kept μ s₀ (atTime t s)) (hm : 8592130846 ||| μ = μ := by rfl) :
    Goes (execResume t via i s) (Kept μ s₀) := by
  refine goes_lift h₀ hm ?_
  clear h₀ hm
  unfold execResume; simp (maxDischargeDepth := 60) +contextual 

@[simp] theorem execSetDed_goes {t : Nat} {via : Via} {i : Nat} {key : Bytes} (h₀ : Kept μ s₀ (atTime t s)) (hm : 8592130846 ||| μ = μ := by rfl) :
    Goes (execSetDed t via i key s) (Kept μ s₀) := by
  refine goes_lift h₀ hm ?_
  clear h₀ hm
  unfold execSetDed; simp (maxDischargeDepth := 60) +contextual 

@[simp] theorem execClearDed_goes {t : Nat} {via : Via} {i : Nat} (h₀ : Kept μ s₀ (atTime t s)) (hm : 8592130846 ||| μ = μ := by rfl) :
    Goes (execClearDed t via i s) (Kept μ s₀) := by
  refine goes_lift h₀ hm ?_
  clear h₀ hm
  unfold execClearDed; simp (maxDischargeDepth := 60) +contextual 

@[simp] theorem execRekey_goes {t : Nat} {via : Via} {i : Nat} {keys : Bytes} (h₀ : Kept μ s₀ (atTime t s)) (hm : 8592130846 ||| μ = μ := by rfl) :
    Goes (execRekey t via i keys s) (Kept μ s₀) := by
  refine goes_lift h₀ hm ?_
  clear h₀ hm
  unfold execRekey; simp (maxDischargeDepth := 60) +contextual 

@[simp] theorem gbPin_kept {i : Nat} (h₀ : Kept μ s₀ s) (hm : 2097164 ||| μ = μ := by rfl) :
    Kept μ s₀ (gbPin i s).2 := by
  refine kept_lift h₀ hm ?_
  clear h₀ hm
  unfold gbPin; dsimp only; repeat' split
  all_goals simp (maxDischargeDepth := 60) +contextual [*]

@[simp] theorem gbUnpin_kept {i : Nat} (h₀ : Kept μ s₀ s) (hm : 2097160 ||| μ = μ := by rfl) :
    Kept μ s₀ (gbUnpin i s) := by
  refine kept_lift h₀ hm ?_
  clear h₀ hm
  unfold gbUnpin; repeat' split
  all_goals simp (maxDischargeDepth := 60) +contextual [*]

@[simp] theorem execPinEndpoint_goes {t : Nat} {via : Via} {i : Nat} (h₀ : Kept μ s₀ (atTime t s)) (hm : 8592130846 ||| μ = μ := by rfl) :
    Goes (execPinEndpoint t via i s) (Kept μ s₀) := by
  refine goes_lift h₀ hm ?_
  clear h₀ hm
  unfold execPinEndpoint; simp (maxDischargeDepth := 60) +contextual 

@[simp] theorem execUnpinEndpoint_goes {t : Nat} {via : Via} {i : Nat} (h₀ : Kept μ s₀ (atTime t s)) (hm : 8592130846 ||| μ = μ := by rfl) :
    Goes (execUnpinEndpoint t via i s) (Kept μ s₀) := by
  refine goes_lift h₀ hm ?_
  clear h₀ hm
  unfold execUnpinEndpoint; simp (maxDischargeDepth := 60) +contextual 

@[simp] theorem execExportSession_goes {t : Nat} {via : Via} {i : Nat} (h₀ : Kept μ s₀ (atTime t s)) (hm : 8592392990 ||| μ = μ := by rfl) :
    Goes (execExportSession t via i s) (Kept μ s₀) := by
  refine goes_lift h₀ hm ?_
  clear h₀ hm
  unfold execExportSession; simp (maxDischargeDepth := 60) +contextual 

@[simp] theorem execImportSession_goes {t : Nat} {via : Via} {i : Nat} {sealed : Bytes} {tagOk : Bool} {entry : Bytes} (h₀ : Kept μ s₀ (atTime t s)) (hm : 8593179422 ||| μ = μ := by rfl) :
    Goes (execImportSession t via i sealed tagOk entry s) (Kept μ s₀) := by
  refine goes_lift h₀ hm ?_
  clear h₀ hm
  unfold execImportSession; refine goes_next.2 (serve_kept (fun u hu => ?_) (by simp))
  dsimp only; repeat' split
  all_goals simp (maxDischargeDepth := 60) [*]

@[simp] theorem execLookUpEndpointByIndex_goes {t : Nat} {via : Via} {i : Nat} (h₀ : Kept μ s₀ (atTime t s)) (hm : 8592130846 ||| μ = μ := by rfl) :
    Goes (execLookUpEndpointByIndex t via i s) (Kept μ s₀) := by
  refine goes_lift h₀ hm ?_
  clear h₀ hm
  unfold execLookUpEndpointByIndex; simp (maxDischargeDepth := 60) +contextual 

@[simp] theorem gbCtl_kept {w op i result : Nat} (h₀ : Kept μ s₀ s) (hm : 2 ||| μ = μ := by rfl) :
    Kept μ s₀ (gbCtl w op i result s) := by
  refine kept_lift h₀ hm ?_
  clear h₀ hm
  unfold gbCtl; simp (maxDischargeDepth := 60) +contextual

@[simp] theorem gbRead_kept {w op i : Nat} (h₀ : Kept μ s₀ s) (hm : 2097162 ||| μ = μ := by rfl) :
    Kept μ s₀ (gbRead w op i s) := by
  refine kept_lift h₀ hm ?_
  clear h₀ hm
  unfold gbRead; simp (maxDischargeDepth := 60) +contextual

@[simp] theorem execGbRead_goes {t w i : Nat} (h₀ : Kept μ s₀ (atTime t s)) (hm : 2097162 ||| μ = μ := by rfl) :
    Goes (execGbRead t w i s) (Kept μ s₀) := by
  refine goes_lift h₀ hm ?_
  clear h₀ hm
  unfold execGbRead; simp (maxDischargeDepth := 60) +contextual 

@[simp] theorem execGbPin_goes {t w i : Nat} (h₀ : Kept μ s₀ (atTime t s)) (hm : 2097166 ||| μ = μ := by rfl) :
    Goes (execGbPin t w i s) (Kept μ s₀) := by
  refine goes_lift h₀ hm ?_
  clear h₀ hm
  unfold execGbPin; simp (maxDischargeDepth := 60) +contextual 

@[simp] theorem execGbUnpin_goes {t w i : Nat} (h₀ : Kept μ s₀ (atTime t s)) (hm : 2097162 ||| μ = μ := by rfl) :
    Goes (execGbUnpin t w i s) (Kept μ s₀) := by
  refine goes_lift h₀ hm ?_
  clear h₀ hm
  unfold execGbUnpin; simp (maxDischargeDepth := 60) +contextual 

@[simp] theorem execWriteback_goes {t w i : Nat} (h₀ : Kept μ s₀ (atTime t s)) (hm : 2097166 ||| μ = μ := by rfl) :
    Goes (execWriteback t w i s) (Kept μ s₀) := by
  refine goes_lift h₀ hm ?_
  clear h₀ hm
  unfold execWriteback; dsimp only; repeat' split
  all_goals simp (maxDischargeDepth := 60) +contextual [*]

@[simp] theorem execHoldReply_goes {t w i : Nat} (h₀ : Kept μ s₀ (atTime t s)) (hm : 2359306 ||| μ = μ := by rfl) :
    Goes (execHoldReply t w i s) (Kept μ s₀) := by
  refine goes_lift h₀ hm ?_
  clear h₀ hm
  unfold execHoldReply; simp (maxDischargeDepth := 60) +contextual 

@[simp] theorem execFlushGuestBook_goes {t w : Nat} (h₀ : Kept μ s₀ (atTime t s)) (hm : 2097166 ||| μ = μ := by rfl) :
    Goes (execFlushGuestBook t w s) (Kept μ s₀) := by
  refine goes_lift h₀ hm ?_
  clear h₀ hm
  unfold execFlushGuestBook; simp (maxDischargeDepth := 60) +contextual 

@[simp] theorem confirmDest_kept {w seq dest : Nat} (h₀ : Kept μ s₀ s) (hm : 8592032270 ||| μ = μ := by rfl) :
    Kept μ s₀ (confirmDest w seq dest s) := by
  refine kept_lift h₀ hm ?_
  clear h₀ hm
  unfold confirmDest; dsimp only; repeat' split
  all_goals simp (maxDischargeDepth := 60) +contextual [*]

@[simp] theorem execStagingConfirm_goes {t w : Nat} {v : Word} (h₀ : Kept μ s₀ (atTime t s)) (hm : 8592032270 ||| μ = μ := by rfl) :
    Goes (execStagingConfirm t w v s) (Kept μ s₀) := by
  refine goes_lift h₀ hm ?_
  clear h₀ hm
  unfold execStagingConfirm; simp (maxDischargeDepth := 60) +contextual 

@[simp] theorem execDirectorySweep_goes {t w : Nat} (h₀ : Kept μ s₀ (atTime t s)) (hm : 8659141406 ||| μ = μ := by rfl) :
    Goes (execDirectorySweep t w s) (Kept μ s₀) := by
  refine goes_lift h₀ hm ?_
  clear h₀ hm
  unfold execDirectorySweep; simp (maxDischargeDepth := 60) +contextual 

end Sys2Proof.Machine
end

