-- ==== Sys2Proof/Laws/KeptPrepay.lean ====
section
/-! SUPPORT. What the functions of Machine/Prepay.lean leave as it was. -/

namespace Sys2Proof.Machine

set_option Elab.async false

variable {μ : Nat} {s₀ s : State}

@[simp] theorem accSet_kept {a : Nat} {b : Bytes} (h₀ : Kept μ s₀ s) (hm : 8388608 ||| μ = μ := by rfl) :
    Kept μ s₀ (accSet a b s) := by
  refine kept_lift h₀ hm ?_
  clear h₀ hm
  unfold accSet; simp (maxDischargeDepth := 60) +contextual

@[simp] theorem prepayCount_kept {k : Nat} (h₀ : Kept μ s₀ s) (hm : 16 ||| μ = μ := by rfl) :
    Kept μ s₀ (prepayCount k s) := by
  refine kept_lift h₀ hm ?_
  clear h₀ hm
  unfold prepayCount; simp (maxDischargeDepth := 60) +contextual

@[simp] theorem prepayCommit_kept {extents : Nat} {rs : List BookNew} (h₀ : Kept μ s₀ s) (hm : 65536 ||| μ = μ := by rfl) :
    Kept μ s₀ (prepayCommit extents rs s) := by
  refine kept_lift h₀ hm ?_
  clear h₀ hm
  unfold prepayCommit; simp (maxDischargeDepth := 60) +contextual

@[simp] theorem chargeItem_kept {r : Bytes} (h₀ : Kept μ s₀ s) (hm : 4303356688 ||| μ = μ := by rfl) :
    Kept μ s₀ (chargeItem r s).2.2 := by
  refine kept_lift h₀ hm ?_
  clear h₀ hm
  unfold chargeItem; simp (maxDischargeDepth := 60) +contextual

@[simp] theorem chargeSet_kept {w : Nat} {x : ChargeReq} (h₀ : Kept μ s₀ s) (hm : 8388608 ||| μ = μ := by rfl) :
    Kept μ s₀ (chargeSet w x s) := by
  refine kept_lift h₀ hm ?_
  clear h₀ hm
  unfold chargeSet; simp (maxDischargeDepth := 60) +contextual

@[simp] theorem chargeSubmit_kept {w : Nat} (h₀ : Kept μ s₀ s) (hm : 65536 ||| μ = μ := by rfl) :
    Kept μ s₀ (chargeSubmit w s) := by
  refine kept_lift h₀ hm ?_
  clear h₀ hm
  unfold chargeSubmit; simp (maxDischargeDepth := 60) +contextual

@[simp] theorem execChargeSend_goes {t w : Nat} (h₀ : Kept μ s₀ (atTime t s)) (hm : 8454144 ||| μ = μ := by rfl) :
    Goes (execChargeSend t w s) (Kept μ s₀) := by
  refine goes_lift h₀ hm ?_
  clear h₀ hm
  unfold execChargeSend; dsimp only; repeat' split
  all_goals simp (maxDischargeDepth := 60) +contextual [*]

@[simp] theorem chargeItems_kept (l : List Bytes) (h₀ : Kept μ s₀ s) (hm : 4303356688 ||| μ = μ := by rfl) :
    Kept μ s₀ (chargeItems l s).2.2 := by
  induction l generalizing s with
  | nil => exact h₀
  | cons q qs ih => simpa [chargeItems] using ih (chargeItem_kept h₀ (or_sub rfl hm))

@[simp] theorem chargeAgain_kept {w st : Nat} (h₀ : Kept μ s₀ s) (hm : 8486920 ||| μ = μ := by rfl) :
    Kept μ s₀ (chargeAgain w st s) := by
  refine kept_lift h₀ hm ?_
  clear h₀ hm
  unfold chargeAgain; simp (maxDischargeDepth := 60) +contextual

@[simp] theorem execCharge_goes {t w : Nat} (h₀ : Kept μ s₀ (atTime t s)) (hm : 12895486750 ||| μ = μ := by rfl) :
    Goes (execCharge t w s) (Kept μ s₀) := by
  refine goes_lift h₀ hm ?_
  clear h₀ hm
  unfold execCharge; extract_lets s1 x l n r s2
  have h1 : Kept 12895486750 (atTime t s) s1 := kept_refl _
  have h2 : Kept 12895486750 (atTime t s) s2 := prepayCommit_kept (chargeSet_kept (chargeItems_kept _ h1))
  exact goes_ite (fun _ => goes_next.2 h1) (fun _ => goes_ite (fun _ => goes_next.2 (chargeAgain_kept h1))
    (fun _ => goes_next.2 (reqServed_kept (kept_foldl (fun u a hu => confirmDest_kept hu) h2))))

@[simp] theorem voucherApply_kept {v : Bytes} (h₀ : Kept μ s₀ s) (hm : 8454672 ||| μ = μ := by rfl) :
    Kept μ s₀ (voucherApply v s).2.2 := by
  refine kept_lift h₀ hm ?_
  clear h₀ hm
  unfold voucherApply; simp (maxDischargeDepth := 60) +contextual

@[simp] theorem voucherServe_kept {v : Bytes} {sigOk : Bool} (h₀ : Kept μ s₀ s) (hm : 8454928 ||| μ = μ := by rfl) :
    Kept μ s₀ (voucherServe v sigOk s).2.2 := by
  refine kept_lift h₀ hm ?_
  clear h₀ hm
  unfold voucherServe; repeat' split
  all_goals simp (maxDischargeDepth := 60) +contextual [*]

@[simp] theorem execVoucher_goes {t : Nat} {via : Via} {rec : Bytes} {sigOk : Bool} (h₀ : Kept μ s₀ (atTime t s)) (hm : 8598422302 ||| μ = μ := by rfl) :
    Goes (execVoucher t via rec sigOk s) (Kept μ s₀) := by
  refine goes_lift h₀ hm ?_
  clear h₀ hm
  unfold execVoucher; simp (maxDischargeDepth := 60) +contextual 

@[simp] theorem execDueScan_goes {t start : Nat} (h₀ : Kept μ s₀ (atTime t s)) (hm : 8454152 ||| μ = μ := by rfl) :
    Goes (execDueScan t start s) (Kept μ s₀) := by
  refine goes_lift h₀ hm ?_
  clear h₀ hm
  unfold execDueScan; simp (maxDischargeDepth := 60) +contextual 

@[simp] theorem supplyIssue_kept {w a action : Nat} (h₀ : Kept μ s₀ s) (hm : 8454168 ||| μ = μ := by rfl) :
    Kept μ s₀ (supplyIssue w a action s) := by
  refine kept_lift h₀ hm ?_
  clear h₀ hm
  unfold supplyIssue; simp (maxDischargeDepth := 60) +contextual

@[simp] theorem execSupplyAuth_goes {t0 t w account action : Nat} {leaseSigOk : Bool} (h₀ : Kept μ s₀ (atTime t0 s)) (hm : 8599440159 ||| μ = μ := by rfl) :
    Goes (execSupplyAuth t0 t w account action leaseSigOk s) (Kept μ s₀) := by
  refine goes_lift h₀ hm ?_
  clear h₀ hm
  unfold execSupplyAuth; dsimp only; repeat' split
  all_goals simp (maxDischargeDepth := 60) +contextual [*]

@[simp] theorem supplyState_kept {a st : Nat} (h₀ : Kept μ s₀ s) (hm : 8388608 ||| μ = μ := by rfl) :
    Kept μ s₀ (supplyState a st s) := by
  refine kept_lift h₀ hm ?_
  clear h₀ hm
  unfold supplyState; simp (maxDischargeDepth := 60) +contextual

@[simp] theorem execSupplyConfirm_goes {t w account number result : Nat} (h₀ : Kept μ s₀ (atTime t s)) (hm : 8454152 ||| μ = μ := by rfl) :
    Goes (execSupplyConfirm t w account number result s) (Kept μ s₀) := by
  refine goes_lift h₀ hm ?_
  clear h₀ hm
  unfold execSupplyConfirm; simp (maxDischargeDepth := 60) +contextual 

@[simp] theorem execAuthorisationLapse_goes {t account : Nat} (h₀ : Kept μ s₀ (atTime t s)) (hm : 8454160 ||| μ = μ := by rfl) :
    Goes (execAuthorisationLapse t account s) (Kept μ s₀) := by
  refine goes_lift h₀ hm ?_
  clear h₀ hm
  unfold execAuthorisationLapse; simp (maxDischargeDepth := 60) +contextual 

@[simp] theorem accountOpen_kept {r : Bytes} (h₀ : Kept μ s₀ s) (hm : 8454160 ||| μ = μ := by rfl) :
    Kept μ s₀ (accountOpen r s).2.2 := by
  refine kept_lift h₀ hm ?_
  clear h₀ hm
  unfold accountOpen; simp (maxDischargeDepth := 60) +contextual

@[simp] theorem accountClose_kept {r : Bytes} (h₀ : Kept μ s₀ s) (hm : 8454160 ||| μ = μ := by rfl) :
    Kept μ s₀ (accountClose r s).2.2 := by
  refine kept_lift h₀ hm ?_
  clear h₀ hm
  unfold accountClose; simp (maxDischargeDepth := 60) +contextual

@[simp] theorem accountPlan_kept {r : Bytes} (h₀ : Kept μ s₀ s) (hm : 8454144 ||| μ = μ := by rfl) :
    Kept μ s₀ (accountPlan r s).2.2 := by
  refine kept_lift h₀ hm ?_
  clear h₀ hm
  unfold accountPlan; simp (maxDischargeDepth := 60) +contextual

@[simp] theorem accountOp_kept {r : Bytes} (h₀ : Kept μ s₀ s) (hm : 8454160 ||| μ = μ := by rfl) :
    Kept μ s₀ (accountOp r s).2.2 := by
  refine kept_lift h₀ hm ?_
  clear h₀ hm
  unfold accountOp; simp (maxDischargeDepth := 60) +contextual

@[simp] theorem execOpenAccount_goes {t : Nat} {via : Via} {rec : Bytes} {auth : LegalAuth} (h₀ : Kept μ s₀ (atTime t s)) (hm : 8598422046 ||| μ = μ := by rfl) :
    Goes (execOpenAccount t via rec auth s) (Kept μ s₀) := by
  refine goes_lift h₀ hm ?_
  clear h₀ hm
  unfold execOpenAccount; simp (maxDischargeDepth := 60) +contextual 

@[simp] theorem execCloseAccount_goes {t : Nat} {via : Via} {rec : Bytes} {auth : LegalAuth} (h₀ : Kept μ s₀ (atTime t s)) (hm : 8598422046 ||| μ = μ := by rfl) :
    Goes (execCloseAccount t via rec auth s) (Kept μ s₀) := by
  refine goes_lift h₀ hm ?_
  clear h₀ hm
  unfold execCloseAccount; simp (maxDischargeDepth := 60) +contextual 

@[simp] theorem execSetPlan_goes {t : Nat} {via : Via} {rec : Bytes} {auth : LegalAuth} (h₀ : Kept μ s₀ (atTime t s)) (hm : 8598422030 ||| μ = μ := by rfl) :
    Goes (execSetPlan t via rec auth s) (Kept μ s₀) := by
  refine goes_lift h₀ hm ?_
  clear h₀ hm
  unfold execSetPlan; simp (maxDischargeDepth := 60) +contextual 

@[simp] theorem execReadAccount_goes {t : Nat} {via : Via} {account : Nat} (h₀ : Kept μ s₀ (atTime t s)) (hm : 8590033422 ||| μ = μ := by rfl) :
    Goes (execReadAccount t via account s) (Kept μ s₀) := by
  refine goes_lift h₀ hm ?_
  clear h₀ hm
  unfold execReadAccount; simp (maxDischargeDepth := 60) +contextual 

@[simp] theorem friendlyWrite_kept {img : Bytes} (h₀ : Kept μ s₀ s) (hm : 65568 ||| μ = μ := by rfl) :
    Kept μ s₀ (friendlyWrite img s).2.2 := by
  refine kept_lift h₀ hm ?_
  clear h₀ hm
  unfold friendlyWrite; simp (maxDischargeDepth := 60) +contextual

@[simp] theorem execFriendlyHoursWrite_goes {t : Nat} {via : Via} {img : Bytes} {auth : LegalAuth} (h₀ : Kept μ s₀ (atTime t s)) (hm : 8590033454 ||| μ = μ := by rfl) :
    Goes (execFriendlyHoursWrite t via img auth s) (Kept μ s₀) := by
  refine goes_lift h₀ hm ?_
  clear h₀ hm
  unfold execFriendlyHoursWrite; simp (maxDischargeDepth := 60) +contextual 

end Sys2Proof.Machine
end

