-- ==== Sys2Proof/Laws/KeptLegal.lean ====
section
/-! SUPPORT. What the functions of Machine/Legal.lean leave as it was. -/

namespace Sys2Proof.Machine

set_option Elab.async false

variable {μ : Nat} {s₀ s : State}

@[simp] theorem objKeep_kept {d : ObjDef} {n : Nat} {val : Bytes} (h₀ : Kept μ s₀ s) (hm : 48 ||| μ = μ := by rfl) :
    Kept μ s₀ (objKeep d n val s) := by
  refine kept_lift h₀ hm ?_
  clear h₀ hm
  unfold objKeep; simp (maxDischargeDepth := 60) +contextual

@[simp] theorem legalEffect_kept {n : Nat} {old : Nat} (h₀ : Kept μ s₀ s) (hm : 4259856 ||| μ = μ := by rfl) :
    Kept μ s₀ (legalEffect n old s) := by
  refine kept_lift h₀ hm ?_
  clear h₀ hm
  unfold legalEffect; simp (maxDischargeDepth := 60) +contextual

@[simp] theorem legalApply_kept {d : ObjDef} {n : Nat} {val : Bytes} (h₀ : Kept μ s₀ s) (hm : 4259888 ||| μ = μ := by rfl) :
    Kept μ s₀ (legalApply d n val s).2.2 := by
  refine kept_lift h₀ hm ?_
  clear h₀ hm
  unfold legalApply; simp (maxDischargeDepth := 60) +contextual

@[simp] theorem legalSetBody_kept {d : ObjDef} {n : Nat} {val : Bytes} {a : LegalAuth} (h₀ : Kept μ s₀ s) (hm : 4292656 ||| μ = μ := by rfl) :
    Kept μ s₀ (legalSetBody d n val a s).2.2 := by
  refine kept_lift h₀ hm ?_
  clear h₀ hm
  unfold legalSetBody; repeat' split
  all_goals simp (maxDischargeDepth := 60) +contextual [*]

@[simp] theorem execLegalSet_goes {t : Nat} {via : Via} {obj : Nat} {val : Bytes} {auth : LegalAuth} (h₀ : Kept μ s₀ (atTime t s)) (hm : 8594227774 ||| μ = μ := by rfl) :
    Goes (execLegalSet t via obj val auth s) (Kept μ s₀) := by
  refine goes_lift h₀ hm ?_
  clear h₀ hm
  unfold execLegalSet; refine goes_next.2 (keeperServe_kept (fun u hu => ?_) (kept_refl _))
  split
  · exact kept_ite_body (fun _ => hu) (fun _ => kept_ite_body (fun _ => hu) (fun _ => legalSetBody_kept hu))
  · exact hu

@[simp] theorem legalExecBody_kept {d : ObjDef} {n : Nat} {arg : Bytes} {a : LegalAuth} (h₀ : Kept μ s₀ s) (hm : 12648753 ||| μ = μ := by rfl) :
    Kept μ s₀ (legalExecBody d n arg a s).2.2 := by
  refine kept_lift h₀ hm ?_
  clear h₀ hm
  unfold legalExecBody; repeat' split
  all_goals simp (maxDischargeDepth := 60) +contextual [*]

@[simp] theorem execLegalExec_goes {t : Nat} {via : Via} {obj : Nat} {arg : Bytes} {auth : LegalAuth} (h₀ : Kept μ s₀ (atTime t s)) (hm : 8602616639 ||| μ = μ := by rfl) :
    Goes (execLegalExec t via obj arg auth s) (Kept μ s₀) := by
  refine goes_lift h₀ hm ?_
  clear h₀ hm
  unfold execLegalExec; refine goes_next.2 (keeperServe_kept (fun u hu => ?_) (kept_refl _))
  split
  · exact kept_ite_body (fun _ => hu) (fun _ => kept_ite_body (fun _ => hu) (fun _ => legalExecBody_kept hu))
  · exact hu

end Sys2Proof.Machine
end

