-- ==== Sys2Proof/Laws/KeptAudit.lean ====
section
/-! SUPPORT. What the functions of Machine/Audit.lean leave as it was. -/

namespace Sys2Proof.Machine

set_option Elab.async false

variable {μ : Nat} {s₀ s : State}

@[simp] theorem auditMod_kept {f : Audit → Audit} (h₀ : Kept μ s₀ s) (hm : 16777216 ||| μ = μ := by rfl) :
    Kept μ s₀ (auditMod f s) := by
  refine kept_lift h₀ hm ?_
  clear h₀ hm
  unfold auditMod; simp (maxDischargeDepth := 60) +contextual

@[simp] theorem auditSpan_kept (h₀ : Kept μ s₀ s) (hm : 16777216 ||| μ = μ := by rfl) :
    Kept μ s₀ (auditSpan s) := by
  refine kept_lift h₀ hm ?_
  clear h₀ hm
  unfold auditSpan; repeat' split
  all_goals simp (maxDischargeDepth := 60) +contextual [*]

@[simp] theorem foldDone_kept {w : Nat} {u : Unrel} {b : Nat} (h₀ : Kept μ s₀ s) (hm : 8608809486 ||| μ = μ := by rfl) :
    Kept μ s₀ (foldDone w u b s) := by
  refine kept_lift h₀ hm ?_
  clear h₀ hm
  unfold foldDone; simp (maxDischargeDepth := 60) +contextual

@[simp] theorem foldRoom_kept {w : Nat} {l : List AuditInt} (h₀ : Kept μ s₀ s) (hm : 8606712598 ||| μ = μ := by rfl) :
    Kept μ s₀ (foldRoom w l s).2 := by
  refine kept_lift h₀ hm ?_
  clear h₀ hm
  unfold foldRoom; repeat' split
  all_goals simp (maxDischargeDepth := 60) +contextual [*]

@[simp] theorem foldAdd_kept {w : Nat} {r a : Bytes} {ends : Nat} (h₀ : Kept μ s₀ s) (hm : 8606712598 ||| μ = μ := by rfl) :
    Kept μ s₀ (foldAdd w r a ends s) := by
  refine kept_lift h₀ hm ?_
  clear h₀ hm
  unfold foldAdd; simp (maxDischargeDepth := 60) +contextual

@[simp] theorem execIntervalFold_goes {t w : Nat} (h₀ : Kept μ s₀ (atTime t s)) (hm : 8608809758 ||| μ = μ := by rfl) :
    Goes (execIntervalFold t w s) (Kept μ s₀) := by
  refine goes_lift h₀ hm ?_
  clear h₀ hm
  unfold execIntervalFold; dsimp only; repeat' split
  all_goals simp (maxDischargeDepth := 60) +contextual [*]

@[simp] theorem execVoltageFold_goes {t w : Nat} (h₀ : Kept μ s₀ (atTime t s)) (hm : 8608809486 ||| μ = μ := by rfl) :
    Goes (execVoltageFold t w s) (Kept μ s₀) := by
  refine goes_lift h₀ hm ?_
  clear h₀ hm
  unfold execVoltageFold; dsimp only; repeat' split
  all_goals simp (maxDischargeDepth := 60) +contextual [*]

@[simp] theorem assignNew_kept {i : Nat} {a : Bytes} (h₀ : Kept μ s₀ s) (hm : 83886080 ||| μ = μ := by rfl) :
    Kept μ s₀ (assignNew i a s) := by
  refine kept_lift h₀ hm ?_
  clear h₀ hm
  unfold assignNew; simp (maxDischargeDepth := 60) +contextual

@[simp] theorem execAssignEndpoint_goes {t : Nat} {via : Via} {rec : Bytes} (h₀ : Kept μ s₀ (atTime t s)) (hm : 8673919502 ||| μ = μ := by rfl) :
    Goes (execAssignEndpoint t via rec s) (Kept μ s₀) := by
  refine goes_lift h₀ hm ?_
  clear h₀ hm
  unfold execAssignEndpoint; simp (maxDischargeDepth := 60) +contextual 

@[simp] theorem execAssignmentEffect_goes {t i : Nat} (h₀ : Kept μ s₀ (atTime t s)) (hm : 16777224 ||| μ = μ := by rfl) :
    Goes (execAssignmentEffect t i s) (Kept μ s₀) := by
  refine goes_lift h₀ hm ?_
  clear h₀ hm
  unfold execAssignmentEffect; dsimp only; repeat' split
  all_goals simp (maxDischargeDepth := 60) +contextual [*]

@[simp] theorem execCommitThePendingSegmentTable_goes {t : Nat} {via : Via} {g : Nat} (h₀ : Kept μ s₀ (atTime t s)) (hm : 8606810910 ||| μ = μ := by rfl) :
    Goes (execCommitThePendingSegmentTable t via g s) (Kept μ s₀) := by
  refine goes_lift h₀ hm ?_
  clear h₀ hm
  unfold execCommitThePendingSegmentTable; simp (maxDischargeDepth := 60) +contextual 

@[simp] theorem jobReady_kept {j : AuditJob} {w : Nat} (h₀ : Kept μ s₀ s) (hm : 16777220 ||| μ = μ := by rfl) :
    Kept μ s₀ (jobReady j w s) := by
  refine kept_lift h₀ hm ?_
  clear h₀ hm
  unfold jobReady; simp (maxDischargeDepth := 60) +contextual

@[simp] theorem closeReady_kept {ends : Nat} (h₀ : Kept μ s₀ s) (hm : 16777220 ||| μ = μ := by rfl) :
    Kept μ s₀ (closeReady ends s) := by
  refine kept_lift h₀ hm ?_
  clear h₀ hm
  unfold closeReady; simp (maxDischargeDepth := 60) +contextual

@[simp] theorem execAuditJobReady_goes {t : Nat} (h₀ : Kept μ s₀ (atTime t s)) (hm : 16777220 ||| μ = μ := by rfl) :
    Goes (execAuditJobReady t s) (Kept μ s₀) := by
  refine goes_lift h₀ hm ?_
  clear h₀ hm
  unfold execAuditJobReady; simp (maxDischargeDepth := 60) +contextual 

@[simp] theorem execCloseJobStart_goes {t : Nat} (h₀ : Kept μ s₀ (atTime t s)) (hm : 16777218 ||| μ = μ := by rfl) :
    Goes (execCloseJobStart t s) (Kept μ s₀) := by
  refine goes_lift h₀ hm ?_
  clear h₀ hm
  unfold execCloseJobStart; dsimp only; repeat' split
  all_goals simp (maxDischargeDepth := 60) +contextual [*]

@[simp] theorem resultWrite_kept {r : Bytes} (h₀ : Kept μ s₀ s) (hm : 24 ||| μ = μ := by rfl) :
    Kept μ s₀ (resultWrite r s) := by
  refine kept_lift h₀ hm ?_
  clear h₀ hm
  unfold resultWrite; simp (maxDischargeDepth := 60) +contextual

@[simp] theorem refitWrite_kept {g p ends : Nat} (h₀ : Kept μ s₀ s) (hm : 8606712606 ||| μ = μ := by rfl) :
    Kept μ s₀ (refitWrite g p ends s) := by
  refine kept_lift h₀ hm ?_
  clear h₀ hm
  unfold refitWrite; dsimp only; repeat' split
  all_goals simp (maxDischargeDepth := 60) +contextual [*]

@[simp] theorem closePhase_kept {run : AuditRun} {p : Nat} (h₀ : Kept μ s₀ s) (hm : 12901679902 ||| μ = μ := by rfl) :
    Kept μ s₀ (closePhase run p s).1 := by
  refine kept_lift h₀ hm ?_
  clear h₀ hm
  unfold closePhase; simp (maxDischargeDepth := 60) +contextual

@[simp] theorem execCloseJobEnd_goes {t : Nat} (h₀ : Kept μ s₀ (atTime t s)) (hm : 12901679902 ||| μ = μ := by rfl) :
    Goes (execCloseJobEnd t s) (Kept μ s₀) := by
  refine goes_lift h₀ hm ?_
  clear h₀ hm
  unfold execCloseJobEnd; dsimp only; repeat' split
  all_goals simp (maxDischargeDepth := 60) +contextual [*]

@[simp] theorem execIdentificationJobStart_goes {t w : Nat} (h₀ : Kept μ s₀ (atTime t s)) (hm : 16777218 ||| μ = μ := by rfl) :
    Goes (execIdentificationJobStart t w s) (Kept μ s₀) := by
  refine goes_lift h₀ hm ?_
  clear h₀ hm
  unfold execIdentificationJobStart; dsimp only; repeat' split
  all_goals simp (maxDischargeDepth := 60) +contextual [*]

@[simp] theorem identOne_kept {i ends : Nat} (h₀ : Kept μ s₀ s) (hm : 8 ||| μ = μ := by rfl) :
    Kept μ s₀ (identOne s i ends).1 := by
  refine kept_lift h₀ hm ?_
  clear h₀ hm
  unfold identOne; dsimp only; repeat' split
  all_goals simp (maxDischargeDepth := 60) +contextual [*]

@[simp] theorem clearBank_kept {i win : Nat} (h₀ : Kept μ s₀ s) (hm : 8 ||| μ = μ := by rfl) :
    Kept μ s₀ (clearBank i win s) := by
  refine kept_lift h₀ hm ?_
  clear h₀ hm
  have h₀ := kept_refl (m := 8) s
  unfold clearBank; exact dramWrite_kept h₀

@[simp] theorem identApply_kept {w i : Nat} {m : Nat × Nat} {ends : Nat} (h₀ : Kept μ s₀ s) (hm : 8673821462 ||| μ = μ := by rfl) :
    Kept μ s₀ (identApply w i m ends s) := by
  refine kept_lift h₀ hm ?_
  clear h₀ hm
  unfold identApply; simp (maxDischargeDepth := 60) +contextual

@[simp] theorem execIdentificationJobEnd_goes {t w : Nat} (h₀ : Kept μ s₀ (atTime t s)) (hm : 8673821470 ||| μ = μ := by rfl) :
    Goes (execIdentificationJobEnd t w s) (Kept μ s₀) := by
  refine goes_lift h₀ hm ?_
  clear h₀ hm
  unfold execIdentificationJobEnd; extract_lets s1
  have h1 : Kept 8673821470 (atTime t s) s1 := kept_refl _
  split
  · exact goes_next.2 h1
  · rename_i run _
    refine goes_ite (fun _ => goes_next.2 h1) (fun _ => goes_next.2 (raise_kept (count_kept (bell_kept
      (regSet_kept (auditMod_kept (kept_foldl (fun u a hu => clearBank_kept hu) (kept_foldl_fst (fun y a hy => ?_) h1))))))))
    dsimp only; split <;> simp [hy]

@[simp] theorem execIdentificationSkipped_goes {t w : Nat} (h₀ : Kept μ s₀ (atTime t s)) (hm : 8606712606 ||| μ = μ := by rfl) :
    Goes (execIdentificationSkipped t w s) (Kept μ s₀) := by
  refine goes_lift h₀ hm ?_
  clear h₀ hm
  unfold execIdentificationSkipped; dsimp only; repeat' split
  all_goals simp (maxDischargeDepth := 60) +contextual [*]

@[simp] theorem execReadEndpointAuditState_goes {t : Nat} {via : Via} {i : Nat} (h₀ : Kept μ s₀ (atTime t s)) (hm : 8590033422 ||| μ = μ := by rfl) :
    Goes (execReadEndpointAuditState t via i s) (Kept μ s₀) := by
  refine goes_lift h₀ hm ?_
  clear h₀ hm
  unfold execReadEndpointAuditState; simp (maxDischargeDepth := 60) +contextual 

@[simp] theorem execReadResults_goes {t : Nat} {via : Via} {seq : Nat} (h₀ : Kept μ s₀ (atTime t s)) (hm : 8590033422 ||| μ = μ := by rfl) :
    Goes (execReadResults t via seq s) (Kept μ s₀) := by
  refine goes_lift h₀ hm ?_
  clear h₀ hm
  unfold execReadResults; simp (maxDischargeDepth := 60) +contextual 

@[simp] theorem execReadLocalisationRecords_goes {t : Nat} {via : Via} {age : Nat} (h₀ : Kept μ s₀ (atTime t s)) (hm : 8590033422 ||| μ = μ := by rfl) :
    Goes (execReadLocalisationRecords t via age s) (Kept μ s₀) := by
  refine goes_lift h₀ hm ?_
  clear h₀ hm
  unfold execReadLocalisationRecords; simp (maxDischargeDepth := 60) +contextual 

end Sys2Proof.Machine
end

