-- ==== Sys2Proof/Laws/KeptImage.lean ====
section
/-! SUPPORT. What the functions of Machine/Image.lean leave as it was. -/

namespace Sys2Proof.Machine

set_option Elab.async false

variable {μ : Nat} {s₀ s : State}

@[simp] theorem ptrCommit_kept {p : Nat} (h₀ : Kept μ s₀ s) (hm : 2147549200 ||| μ = μ := by rfl) :
    Kept μ s₀ (ptrCommit p s) := by
  refine kept_lift h₀ hm ?_
  clear h₀ hm
  unfold ptrCommit; simp (maxDischargeDepth := 60) +contextual

@[simp] theorem counterWrite_kept {counter mask : Nat} (h₀ : Kept μ s₀ s) (hm : 2147483648 ||| μ = μ := by rfl) :
    Kept μ s₀ (counterWrite counter mask s) := by
  refine kept_lift h₀ hm ?_
  clear h₀ hm
  unfold counterWrite; simp (maxDischargeDepth := 60) +contextual

@[simp] theorem slotPut_kept {slot : Nat} {chunks : List Bytes} (h₀ : Kept μ s₀ s) (hm : 2147483648 ||| μ = μ := by rfl) :
    Kept μ s₀ (slotPut slot chunks s) := by
  refine kept_lift h₀ hm ?_
  clear h₀ hm
  unfold slotPut; simp (maxDischargeDepth := 60) +contextual

@[simp] theorem slotGiven_kept {slot : Nat} {b : Bytes} (h₀ : Kept μ s₀ s) (hm : 2147483648 ||| μ = μ := by rfl) :
    Kept μ s₀ (slotGiven slot b s) := by
  refine kept_lift h₀ hm ?_
  clear h₀ hm
  unfold slotGiven; simp (maxDischargeDepth := 60) +contextual

@[simp] theorem slotTorn_kept (h₀ : Kept μ s₀ s) (hm : 6442450944 ||| μ = μ := by rfl) :
    Kept μ s₀ (slotTorn s) := by
  refine kept_lift h₀ hm ?_
  clear h₀ hm
  unfold slotTorn; repeat' split
  all_goals simp (maxDischargeDepth := 60) +contextual [*]

@[simp] theorem recordKeep_kept (h₀ : Kept μ s₀ s) (hm : 65544 ||| μ = μ := by rfl) :
    Kept μ s₀ (recordKeep s) := by
  refine kept_lift h₀ hm ?_
  clear h₀ hm
  unfold recordKeep; simp (maxDischargeDepth := 60) +contextual

@[simp] theorem recordSet_kept {h : Bytes} (h₀ : Kept μ s₀ s) (hm : 65576 ||| μ = μ := by rfl) :
    Kept μ s₀ (recordSet h s) := by
  refine kept_lift h₀ hm ?_
  clear h₀ hm
  unfold recordSet; simp (maxDischargeDepth := 60) +contextual

@[simp] theorem chunkCommit_kept {c : Nat} (h₀ : Kept μ s₀ s) (hm : 8590000958 ||| μ = μ := by rfl) :
    Kept μ s₀ (chunkCommit c s) := by
  refine kept_lift h₀ hm ?_
  clear h₀ hm
  unfold chunkCommit; simp (maxDischargeDepth := 60) +contextual

@[simp] theorem imageDone_kept {serial : Nat} (h₀ : Kept μ s₀ s) (hm : 10737517374 ||| μ = μ := by rfl) :
    Kept μ s₀ (imageDone serial s) := by
  refine kept_lift h₀ hm ?_
  clear h₀ hm
  unfold imageDone; repeat' split
  all_goals simp (maxDischargeDepth := 60) +contextual [*]

@[simp] theorem updateDrop_kept (h₀ : Kept μ s₀ s) (hm : 6509559808 ||| μ = μ := by rfl) :
    Kept μ s₀ (updateDrop s) := by
  refine kept_lift h₀ hm ?_
  clear h₀ hm
  unfold updateDrop; simp (maxDischargeDepth := 60) +contextual

@[simp] theorem updateReset_kept {cause : Nat} (h₀ : Kept μ s₀ s) (hm : 6509559808 ||| μ = μ := by rfl) :
    Kept μ s₀ (updateReset cause s) := by
  refine kept_lift h₀ hm ?_
  clear h₀ hm
  unfold updateReset; simp (maxDischargeDepth := 60) +contextual

end Sys2Proof.Machine
end

