-- ==== Sys2Proof/Laws/KeptStore.lean ====
section
/-! SUPPORT. What the functions of Machine/Store.lean leave as it was. -/

namespace Sys2Proof.Machine

set_option Elab.async false

variable {μ : Nat} {s₀ s : State}

@[simp] theorem sigmaStart_kept {w mu : Nat} (h₀ : Kept μ s₀ s) (hm : 67108864 ||| μ = μ := by rfl) :
    Kept μ s₀ (sigmaStart w mu s) := by
  refine kept_lift h₀ hm ?_
  clear h₀ hm
  unfold sigmaStart; simp (maxDischargeDepth := 60) +contextual

@[simp] theorem eraseQueue_kept {w b : Nat} (h₀ : Kept μ s₀ s) (hm : 67108864 ||| μ = μ := by rfl) :
    Kept μ s₀ (eraseQueue w b s) := by
  refine kept_lift h₀ hm ?_
  clear h₀ hm
  unfold eraseQueue; simp (maxDischargeDepth := 60) +contextual

@[simp] theorem taskNew_kept {w kind a b : Nat} (h₀ : Kept μ s₀ s) (hm : 67108864 ||| μ = μ := by rfl) :
    Kept μ s₀ (taskNew w kind a b s).2 := by
  refine kept_lift h₀ hm ?_
  clear h₀ hm
  unfold taskNew; simp (maxDischargeDepth := 60) +contextual

@[simp] theorem copyBlock_kept {w kind b : Nat} {dest : Option Nat} (h₀ : Kept μ s₀ s) (hm : 67108868 ||| μ = μ := by rfl) :
    Kept μ s₀ (copyBlock w kind b dest s) := by
  refine kept_lift h₀ hm ?_
  clear h₀ hm
  unfold copyBlock; simp (maxDischargeDepth := 60) +contextual

@[simp] theorem gcStart_kept {w b : Nat} (h₀ : Kept μ s₀ s) (hm : 67108868 ||| μ = μ := by rfl) :
    Kept μ s₀ (gcStart w b s) := by
  refine kept_lift h₀ hm ?_
  clear h₀ hm
  unfold gcStart; simp (maxDischargeDepth := 60) +contextual

@[simp] theorem reap_kept {w : Nat} (h₀ : Kept μ s₀ s) (hm : 67108864 ||| μ = μ := by rfl) :
    Kept μ s₀ (reap w s) := by
  refine kept_lift h₀ hm ?_
  clear h₀ hm
  unfold reap; simp (maxDischargeDepth := 60) +contextual

@[simp] theorem lateSync_kept {w : Nat} (h₀ : Kept μ s₀ s) (hm : 67108864 ||| μ = μ := by rfl) :
    Kept μ s₀ (lateSync w s) := by
  refine kept_lift h₀ hm ?_
  clear h₀ hm
  unfold lateSync; simp (maxDischargeDepth := 60) +contextual

@[simp] theorem patchesDrop_kept {w : Nat} {p : StoreEntry → Bool} (h₀ : Kept μ s₀ s) (hm : 67108866 ||| μ = μ := by rfl) :
    Kept μ s₀ (patchesDrop w p s) := by
  refine kept_lift h₀ hm ?_
  clear h₀ hm
  unfold patchesDrop; simp (maxDischargeDepth := 60) +contextual

@[simp] theorem expireDay_kept {w d : Nat} (h₀ : Kept μ s₀ s) (hm : 8657044246 ||| μ = μ := by rfl) :
    Kept μ s₀ (expireDay w d s) := by
  refine kept_lift h₀ hm ?_
  clear h₀ hm
  unfold expireDay; simp (maxDischargeDepth := 60) +contextual

@[simp] theorem storeFull_kept {w : Nat} (h₀ : Kept μ s₀ s) (hm : 8657044246 ||| μ = μ := by rfl) :
    Kept μ s₀ (storeFull w s) := by
  refine kept_lift h₀ hm ?_
  clear h₀ hm
  unfold storeFull; dsimp only; repeat' split
  all_goals simp (maxDischargeDepth := 60) +contextual [*]

@[simp] theorem readOnlyLeave_kept {w : Nat} (h₀ : Kept μ s₀ s) (hm : 8589935382 ||| μ = μ := by rfl) :
    Kept μ s₀ (readOnlyLeave w s) := by
  refine kept_lift h₀ hm ?_
  clear h₀ hm
  unfold readOnlyLeave; simp (maxDischargeDepth := 60) +contextual

@[simp] theorem storeRun_kept {w : Nat} (h₀ : Kept μ s₀ s) (hm : 8657044246 ||| μ = μ := by rfl) :
    Kept μ s₀ (storeRun w s) := by
  refine kept_lift h₀ hm ?_
  clear h₀ hm
  unfold storeRun; simp (maxDischargeDepth := 60) +contextual

@[simp] theorem profileEnd_kept {w k seq : Nat} (h₀ : Kept μ s₀ s) (hm : 8592032270 ||| μ = μ := by rfl) :
    Kept μ s₀ (profileEnd w k seq s) := by
  refine kept_lift h₀ hm ?_
  clear h₀ hm
  unfold profileEnd; simp (maxDischargeDepth := 60) +contextual

@[simp] theorem unitClose_kept {w stream : Nat} (h₀ : Kept μ s₀ s) (hm : 67108864 ||| μ = μ := by rfl) :
    Kept μ s₀ (unitClose w stream s) := by
  refine kept_lift h₀ hm ?_
  clear h₀ hm
  unfold unitClose; simp (maxDischargeDepth := 60) +contextual

@[simp] theorem unitAdd_kept {w stream seq : Nat} {e : Bytes} (h₀ : Kept μ s₀ s) (hm : 67108864 ||| μ = μ := by rfl) :
    Kept μ s₀ (unitAdd w stream seq e s) := by
  refine kept_lift h₀ hm ?_
  clear h₀ hm
  unfold unitAdd; simp (maxDischargeDepth := 60) +contextual

@[simp] theorem sealAsk_kept {w mu n flags : Nat} (h₀ : Kept μ s₀ s) (hm : 67108864 ||| μ = μ := by rfl) :
    Kept μ s₀ (sealAsk w mu n flags s) := by
  refine kept_lift h₀ hm ?_
  clear h₀ hm
  unfold sealAsk; simp (maxDischargeDepth := 60) +contextual

@[simp] theorem sealConfig_kept {w : Nat} (h₀ : Kept μ s₀ s) (hm : 67108864 ||| μ = μ := by rfl) :
    Kept μ s₀ (sealConfig w s) := by
  refine kept_lift h₀ hm ?_
  clear h₀ hm
  unfold sealConfig; simp (maxDischargeDepth := 60) +contextual

@[simp] theorem execIntakeUnitClose_goes {t w : Nat} (h₀ : Kept μ s₀ (atTime t s)) (hm : 8657044246 ||| μ = μ := by rfl) :
    Goes (execIntakeUnitClose t w s) (Kept μ s₀) := by
  refine goes_lift h₀ hm ?_
  clear h₀ hm
  unfold execIntakeUnitClose; simp (maxDischargeDepth := 60) +contextual 

@[simp] theorem writeDirectory_kept {w mu n task : Nat} (h₀ : Kept μ s₀ s) (hm : 67108864 ||| μ = μ := by rfl) :
    Kept μ s₀ (writeDirectory w mu n task s) := by
  refine kept_lift h₀ hm ?_
  clear h₀ hm
  unfold writeDirectory; simp (maxDischargeDepth := 60) +contextual

@[simp] theorem sealPack_kept {w : Nat} {j : SealJob} (h₀ : Kept μ s₀ s) (hm : 67108864 ||| μ = μ := by rfl) :
    Kept μ s₀ (sealPack w j s) := by
  refine kept_lift h₀ hm ?_
  clear h₀ hm
  unfold sealPack; simp (maxDischargeDepth := 60) +contextual

@[simp] theorem sealAdvance_kept {w : Nat} (h₀ : Kept μ s₀ s) (hm : 67108864 ||| μ = μ := by rfl) :
    Kept μ s₀ (sealAdvance w s) := by
  refine kept_lift h₀ hm ?_
  clear h₀ hm
  unfold sealAdvance; dsimp only; repeat' split
  all_goals simp (maxDischargeDepth := 60) +contextual [*]

@[simp] theorem sealStart_kept {w : Nat} (h₀ : Kept μ s₀ s) (hm : 8657044246 ||| μ = μ := by rfl) :
    Kept μ s₀ (sealStart w s) := by
  refine kept_lift h₀ hm ?_
  clear h₀ hm
  have h₀ := kept_refl (m := 8657044246) s
  unfold sealStart
  refine kept_ite (fun _ => h₀) (fun _ => ?_)
  extract_lets s1
  have h1 : Kept 8657044246 s s1 := sigmaStart_kept h₀
  split
  · exact h1
  · extract_lets s2 s3 s4
    have h3 : Kept 8657044246 s s3 := journalRec_kept (nfcLevel_kept (storeMod_kept h1))
    have h4 : Kept 8657044246 s s4 := kept_ite (fun _ => unitClose_kept h3) (fun _ => h3)
    exact storeRun_kept (sealAdvance_kept (storeRun_kept (sealAdvance_kept h4)))

@[simp] theorem execSpanSeal_goes {t w : Nat} (h₀ : Kept μ s₀ (atTime t s)) (hm : 8657044246 ||| μ = μ := by rfl) :
    Goes (execSpanSeal t w s) (Kept μ s₀) := by
  refine goes_lift h₀ hm ?_
  clear h₀ hm
  unfold execSpanSeal; dsimp only; repeat' split
  all_goals simp (maxDischargeDepth := 60) +contextual [*]

@[simp] theorem execProfileDecision_goes {t w : Nat} (h₀ : Kept μ s₀ (atTime t s)) (hm : 8659141406 ||| μ = μ := by rfl) :
    Goes (execProfileDecision t w s) (Kept μ s₀) := by
  refine goes_lift h₀ hm ?_
  clear h₀ hm
  unfold execProfileDecision; dsimp only; repeat' split
  all_goals simp (maxDischargeDepth := 60) +contextual [*]

@[simp] theorem intakeSync_kept {w : Nat} (h₀ : Kept μ s₀ s) (hm : 67108864 ||| μ = μ := by rfl) :
    Kept μ s₀ (intakeSync w s) := by
  refine kept_lift h₀ hm ?_
  clear h₀ hm
  unfold intakeSync; simp (maxDischargeDepth := 60) +contextual

@[simp] theorem execSealDone_goes {t w : Nat} (h₀ : Kept μ s₀ (atTime t s)) (hm : 8657044254 ||| μ = μ := by rfl) :
    Goes (execSealDone t w s) (Kept μ s₀) := by
  refine goes_lift h₀ hm ?_
  clear h₀ hm
  unfold execSealDone; extract_lets s1 x
  have h1 : Kept 8657044254 (atTime t s) s1 := kept_refl _
  split
  · exact goes_next.2 h1
  · exact goes_ite (fun _ => goes_next.2 h1) (fun _ => goes_next.2 (storeRun_kept (intakeSync_kept (raise_kept
      (journalRec_kept (nfcLevel_kept (storeMod_kept (kept_foldl (fun u a hu => dramWrite_kept hu) h1))))))))

@[simp] theorem lateAppend_kept {w seq : Nat} {e : Bytes} (h₀ : Kept μ s₀ s) (hm : 67108870 ||| μ = μ := by rfl) :
    Kept μ s₀ (lateAppend w seq e s) := by
  refine kept_lift h₀ hm ?_
  clear h₀ hm
  unfold lateAppend; simp (maxDischargeDepth := 60) +contextual

@[simp] theorem lateRepeat_kept {w seq : Nat} (h₀ : Kept μ s₀ s) (hm : 8659141134 ||| μ = μ := by rfl) :
    Kept μ s₀ (lateRepeat w seq s) := by
  refine kept_lift h₀ hm ?_
  clear h₀ hm
  unfold lateRepeat; simp (maxDischargeDepth := 60) +contextual

@[simp] theorem lateJudge_kept {w : Nat} (h₀ : Kept μ s₀ s) (hm : 8659141134 ||| μ = μ := by rfl) :
    Kept μ s₀ (lateJudge w s) := by
  refine kept_lift h₀ hm ?_
  clear h₀ hm
  unfold lateJudge; dsimp only; repeat' split
  all_goals simp (maxDischargeDepth := 60) +contextual [*]

@[simp] theorem execLatePath_goes {t w : Nat} (h₀ : Kept μ s₀ (atTime t s)) (hm : 8659141134 ||| μ = μ := by rfl) :
    Goes (execLatePath t w s) (Kept μ s₀) := by
  refine goes_lift h₀ hm ?_
  clear h₀ hm
  unfold execLatePath; dsimp only; repeat' split
  all_goals simp (maxDischargeDepth := 60) +contextual [*]

@[simp] theorem mergeSpan_kept {w mu n : Nat} (h₀ : Kept μ s₀ s) (hm : 67108868 ||| μ = μ := by rfl) :
    Kept μ s₀ (mergeSpan w mu n s) := by
  refine kept_lift h₀ hm ?_
  clear h₀ hm
  unfold mergeSpan; simp (maxDischargeDepth := 60) +contextual

@[simp] theorem execPatchMerge_goes {t w : Nat} (h₀ : Kept μ s₀ (atTime t s)) (hm : 8657044246 ||| μ = μ := by rfl) :
    Goes (execPatchMerge t w s) (Kept μ s₀) := by
  refine goes_lift h₀ hm ?_
  clear h₀ hm
  unfold execPatchMerge; dsimp only; repeat' split
  all_goals simp (maxDischargeDepth := 60) +contextual [*]

@[simp] theorem execCheckpoint_goes {t w : Nat} (h₀ : Kept μ s₀ (atTime t s)) (hm : 8657044246 ||| μ = μ := by rfl) :
    Goes (execCheckpoint t w s) (Kept μ s₀) := by
  refine goes_lift h₀ hm ?_
  clear h₀ hm
  unfold execCheckpoint; simp (maxDischargeDepth := 60) +contextual 

@[simp] theorem execCkpt_goes {t w : Nat} (h₀ : Kept μ s₀ (atTime t s)) (hm : 2 ||| μ = μ := by rfl) :
    Goes (execCkpt t w s) (Kept μ s₀) := by
  refine goes_lift h₀ hm ?_
  clear h₀ hm
  unfold execCkpt; simp (maxDischargeDepth := 60) +contextual 

@[simp] theorem stopStore_kept {w : Nat} (h₀ : Kept μ s₀ s) (hm : 8657044246 ||| μ = μ := by rfl) :
    Kept μ s₀ (stopStore w s) := by
  refine kept_lift h₀ hm ?_
  clear h₀ hm
  unfold stopStore; simp (maxDischargeDepth := 60) +contextual

@[simp] theorem execStop_goes {t w : Nat} (h₀ : Kept μ s₀ (atTime t s)) (hm : 8657044246 ||| μ = μ := by rfl) :
    Goes (execStop t w s) (Kept μ s₀) := by
  refine goes_lift h₀ hm ?_
  clear h₀ hm
  unfold execStop; simp (maxDischargeDepth := 60) +contextual 

@[simp] theorem ckptDone_kept {w g n : Nat} (h₀ : Kept μ s₀ s) (hm : 8657044246 ||| μ = μ := by rfl) :
    Kept μ s₀ (ckptDone w g n s) := by
  refine kept_lift h₀ hm ?_
  clear h₀ hm
  unfold ckptDone; simp (maxDischargeDepth := 60) +contextual

@[simp] theorem taskEnd_kept {w : Nat} {k : StoreTask} (h₀ : Kept μ s₀ s) (hm : 8657044246 ||| μ = μ := by rfl) :
    Kept μ s₀ (taskEnd w k s) := by
  refine kept_lift h₀ hm ?_
  clear h₀ hm
  unfold taskEnd; simp (maxDischargeDepth := 60) +contextual

@[simp] theorem tasksEnd_kept {w : Nat} (h₀ : Kept μ s₀ s) (hm : 8657044246 ||| μ = μ := by rfl) :
    Kept μ s₀ (tasksEnd w s) := by
  refine kept_lift h₀ hm ?_
  clear h₀ hm
  unfold tasksEnd; simp (maxDischargeDepth := 60) +contextual

@[simp] theorem unitDone_kept {w n : Nat} {o : NandOp} {b : Nat} (h₀ : Kept μ s₀ s) (hm : 10806723390 ||| μ = μ := by rfl) :
    Kept μ s₀ (unitDone w n o b s) := by
  refine kept_lift h₀ hm ?_
  clear h₀ hm
  unfold unitDone; simp (maxDischargeDepth := 60) +contextual

@[simp] theorem unitFailed_kept {w n : Nat} {b : Nat} (h₀ : Kept μ s₀ s) (hm : 8657043974 ||| μ = μ := by rfl) :
    Kept μ s₀ (unitFailed w n b s) := by
  refine kept_lift h₀ hm ?_
  clear h₀ hm
  unfold unitFailed; simp (maxDischargeDepth := 60) +contextual

@[simp] theorem execProgramComplete_goes {t w : Nat} {ok : Bool} (h₀ : Kept μ s₀ (atTime t s)) (hm : 10940941118 ||| μ = μ := by rfl) :
    Goes (execProgramComplete t w ok s) (Kept μ s₀) := by
  refine goes_lift h₀ hm ?_
  clear h₀ hm
  unfold execProgramComplete; dsimp only; repeat' split
  all_goals simp (maxDischargeDepth := 60) +contextual [*]

@[simp] theorem weaken_kept {w b : Nat} (h₀ : Kept μ s₀ s) (hm : 67108864 ||| μ = μ := by rfl) :
    Kept μ s₀ (weaken w b s) := by
  refine kept_lift h₀ hm ?_
  clear h₀ hm
  unfold weaken; simp (maxDischargeDepth := 60) +contextual

@[simp] theorem pageLost_kept {w b p : Nat} (h₀ : Kept μ s₀ s) (hm : 8657044246 ||| μ = μ := by rfl) :
    Kept μ s₀ (pageLost w b p s) := by
  refine kept_lift h₀ hm ?_
  clear h₀ hm
  unfold pageLost; simp (maxDischargeDepth := 60) +contextual

@[simp] theorem twinRead_kept {w b p : Nat} (h₀ : Kept μ s₀ s) (hm : 67108864 ||| μ = μ := by rfl) :
    Kept μ s₀ (twinRead w b p s) := by
  refine kept_lift h₀ hm ?_
  clear h₀ hm
  unfold twinRead; dsimp only; repeat' split
  all_goals simp (maxDischargeDepth := 60) +contextual [*]

@[simp] theorem execPageReadComplete_goes {t w page : Nat} {decoded : Bool} {corrections : Nat} (h₀ : Kept μ s₀ (atTime t s)) (hm : 8793359134 ||| μ = μ := by rfl) :
    Goes (execPageReadComplete t w page decoded corrections s) (Kept μ s₀) := by
  refine goes_lift h₀ hm ?_
  clear h₀ hm
  unfold execPageReadComplete; dsimp only; repeat' split
  all_goals simp (maxDischargeDepth := 60) +contextual [*]

@[simp] theorem execEraseComplete_goes {t w block : Nat} {ok : Bool} (h₀ : Kept μ s₀ (atTime t s)) (hm : 8791261974 ||| μ = μ := by rfl) :
    Goes (execEraseComplete t w block ok s) (Kept μ s₀) := by
  refine goes_lift h₀ hm ?_
  clear h₀ hm
  unfold execEraseComplete; dsimp only; repeat' split
  all_goals simp (maxDischargeDepth := 60) +contextual [*]

@[simp] theorem execDayExpiry_goes {t w : Nat} (h₀ : Kept μ s₀ (atTime t s)) (hm : 8657044246 ||| μ = μ := by rfl) :
    Goes (execDayExpiry t w s) (Kept μ s₀) := by
  refine goes_lift h₀ hm ?_
  clear h₀ hm
  unfold execDayExpiry; dsimp only; repeat' split
  all_goals simp (maxDischargeDepth := 60) +contextual [*]

@[simp] theorem execGarbageCollection_goes {t w : Nat} (h₀ : Kept μ s₀ (atTime t s)) (hm : 8657044246 ||| μ = μ := by rfl) :
    Goes (execGarbageCollection t w s) (Kept μ s₀) := by
  refine goes_lift h₀ hm ?_
  clear h₀ hm
  unfold execGarbageCollection; dsimp only; repeat' split
  all_goals simp (maxDischargeDepth := 60) +contextual [*]

@[simp] theorem execWearMove_goes {t w : Nat} (h₀ : Kept μ s₀ (atTime t s)) (hm : 8657044246 ||| μ = μ := by rfl) :
    Goes (execWearMove t w s) (Kept μ s₀) := by
  refine goes_lift h₀ hm ?_
  clear h₀ hm
  unfold execWearMove; dsimp only; repeat' split
  all_goals simp (maxDischargeDepth := 60) +contextual [*]

@[simp] theorem execBakeHours_goes {t w : Nat} {minuteTemps : List Int} (h₀ : Kept μ s₀ (atTime t s)) (hm : 67108864 ||| μ = μ := by rfl) :
    Goes (execBakeHours t w minuteTemps s) (Kept μ s₀) := by
  refine goes_lift h₀ hm ?_
  clear h₀ hm
  unfold execBakeHours; simp (maxDischargeDepth := 60) +contextual 

@[simp] theorem execRefresh_goes {t w block : Nat} (h₀ : Kept μ s₀ (atTime t s)) (hm : 8657044246 ||| μ = μ := by rfl) :
    Goes (execRefresh t w block s) (Kept μ s₀) := by
  refine goes_lift h₀ hm ?_
  clear h₀ hm
  unfold execRefresh; simp (maxDischargeDepth := 60) +contextual 

@[simp] theorem storeGeometry_kept {w : Nat} (h₀ : Kept μ s₀ s) (hm : 8657044246 ||| μ = μ := by rfl) :
    Kept μ s₀ (storeGeometry w s) := by
  refine kept_lift h₀ hm ?_
  clear h₀ hm
  have h₀ := kept_refl (m := 8657044246) s
  unfold storeGeometry
  split
  · exact h₀
  · extract_lets s1 s2 s3
    have h1 : Kept 8657044246 s s1 := kept_foldl_mem (fun u ch hch hu => by
      have hc : ch < 2 := by simp at hch; omega
      have hr : ∀ v, nfcChCfg w ch ≠ logRingCfg v := fun v => by simp only [nfcChCfg, logRingCfg, regA]; omega
      exact kept_foldl (fun v t hv => kept_ite (fun _ => hv) (fun _ => kept_ite (fun _ => raise_kept (nfcFlag_kept hv))
        (fun _ => kept_ite (fun _ => raise_kept (nfcFlag_kept hv)) (fun _ => regPutF_kept hv rfl (Or.inr hr)))))
        (regPutF_kept hu rfl (Or.inr hr))) h₀
    exact storeMod_kept (storeMod_kept (regSet_kept h1))

@[simp] theorem replayIntake_kept {w : Nat} (h₀ : Kept μ s₀ s) (hm : 8 ||| μ = μ := by rfl) :
    Kept μ s₀ (replayIntake w s) := by
  refine kept_lift h₀ hm ?_
  clear h₀ hm
  unfold replayIntake; simp (maxDischargeDepth := 60) +contextual

@[simp] theorem sealUndo_kept {w : Nat} (h₀ : Kept μ s₀ s) (hm : 67108866 ||| μ = μ := by rfl) :
    Kept μ s₀ (sealUndo w s) := by
  refine kept_lift h₀ hm ?_
  clear h₀ hm
  unfold sealUndo; repeat' split
  all_goals simp (maxDischargeDepth := 60) +contextual [*]

@[simp] theorem storeCut_kept {w : Nat} (h₀ : Kept μ s₀ s) (hm : 67108866 ||| μ = μ := by rfl) :
    Kept μ s₀ (storeCut w s) := by
  refine kept_lift h₀ hm ?_
  clear h₀ hm
  unfold storeCut; simp (maxDischargeDepth := 60) +contextual

@[simp] theorem execStoreStart_goes {t w : Nat} {mapOk : Bool} (h₀ : Kept μ s₀ (atTime t s)) (hm : 8657044254 ||| μ = μ := by rfl) :
    Goes (execStoreStart t w mapOk s) (Kept μ s₀) := by
  refine goes_lift h₀ hm ?_
  clear h₀ hm
  unfold execStoreStart; simp (maxDischargeDepth := 60) +contextual 

@[simp] theorem execReadASpan_goes {t : Nat} {via : Via} {rec : Bytes} (h₀ : Kept μ s₀ (atTime t s)) (hm : 8590033422 ||| μ = μ := by rfl) :
    Goes (execReadASpan t via rec s) (Kept μ s₀) := by
  refine goes_lift h₀ hm ?_
  clear h₀ hm
  unfold execReadASpan; simp (maxDischargeDepth := 60) +contextual 

end Sys2Proof.Machine
end

