-- ==== Sys2Proof/Laws/KeptLogbook.lean ====
section
/-! SUPPORT. What the functions of Machine/Logbook.lean leave as it was. -/

namespace Sys2Proof.Machine

set_option Elab.async false

variable {μ : Nat} {s₀ s : State}

@[simp] theorem execEventRaise_goes {t w code src p0 p1 : Nat} (h₀ : Kept μ s₀ (atTime t s)) (hm : 8589935382 ||| μ = μ := by rfl) :
    Goes (execEventRaise t w code src p0 p1 s) (Kept μ s₀) := by
  refine goes_lift h₀ hm ?_
  clear h₀ hm
  unfold execEventRaise; simp (maxDischargeDepth := 60) +contextual 

@[simp] theorem execLogSwraise_goes {t w : Nat} {v : Word} (h₀ : Kept μ s₀ (atTime t s)) (hm : 8589935382 ||| μ = μ := by rfl) :
    Goes (execLogSwraise t w v s) (Kept μ s₀) := by
  refine goes_lift h₀ hm ?_
  clear h₀ hm
  unfold execLogSwraise; simp (maxDischargeDepth := 60) +contextual 

@[simp] theorem execLogbookFlush_goes {t w : Nat} (h₀ : Kept μ s₀ (atTime t s)) (hm : 8589935382 ||| μ = μ := by rfl) :
    Goes (execLogbookFlush t w s) (Kept μ s₀) := by
  refine goes_lift h₀ hm ?_
  clear h₀ hm
  unfold execLogbookFlush; simp (maxDischargeDepth := 60) +contextual 

@[simp] theorem execFlushComplete_goes {t : Nat} (h₀ : Kept μ s₀ (atTime t s)) (hm : 8724153110 ||| μ = μ := by rfl) :
    Goes (execFlushComplete t s) (Kept μ s₀) := by
  refine goes_lift h₀ hm ?_
  clear h₀ hm
  unfold execFlushComplete; dsimp only; repeat' split
  all_goals simp (maxDischargeDepth := 60) +contextual [*]

@[simp] theorem execFlushEveryWingNow_goes {t : Nat} {via : Via} (h₀ : Kept μ s₀ (atTime t s)) (hm : 8590033758 ||| μ = μ := by rfl) :
    Goes (execFlushEveryWingNow t via s) (Kept μ s₀) := by
  refine goes_lift h₀ hm ?_
  clear h₀ hm
  unfold execFlushEveryWingNow; simp (maxDischargeDepth := 60) +contextual 

@[simp] theorem execReadRecordsFromMram_goes {t : Nat} {via : Via} {arg : Nat} (h₀ : Kept μ s₀ (atTime t s)) (hm : 8590033422 ||| μ = μ := by rfl) :
    Goes (execReadRecordsFromMram t via arg s) (Kept μ s₀) := by
  refine goes_lift h₀ hm ?_
  clear h₀ hm
  unfold execReadRecordsFromMram; simp (maxDischargeDepth := 60) +contextual 

@[simp] theorem execBellBoardDelivery_goes {t w source : Nat} (h₀ : Kept μ s₀ (atTime t s)) (hm : 8589935110 ||| μ = μ := by rfl) :
    Goes (execBellBoardDelivery t w source s) (Kept μ s₀) := by
  refine goes_lift h₀ hm ?_
  clear h₀ hm
  unfold execBellBoardDelivery; simp (maxDischargeDepth := 60) +contextual 

@[simp] theorem execBbSwset_goes {t w : Nat} {v : Word} (h₀ : Kept μ s₀ (atTime t s)) (hm : 8589935110 ||| μ = μ := by rfl) :
    Goes (execBbSwset t w v s) (Kept μ s₀) := by
  refine goes_lift h₀ hm ?_
  clear h₀ hm
  unfold execBbSwset; simp (maxDischargeDepth := 60) +contextual 

@[simp] theorem unsend_kept {w src : Nat} (h₀ : Kept μ s₀ s) (hm : 516 ||| μ = μ := by rfl) :
    Kept μ s₀ (unsend w src s) := by
  refine kept_lift h₀ hm ?_
  clear h₀ hm
  unfold unsend; simp (maxDischargeDepth := 60) +contextual

@[simp] theorem execBbRouteWrite_goes {t w source : Nat} {v : Word} (h₀ : Kept μ s₀ (atTime t s)) (hm : 518 ||| μ = μ := by rfl) :
    Goes (execBbRouteWrite t w source v s) (Kept μ s₀) := by
  refine goes_lift h₀ hm ?_
  clear h₀ hm
  unfold execBbRouteWrite
  refine goes_ite (fun _ => by simp) (fun h => goes_next.2 ?_)
  have hr : ∀ v, (if source < 128 then bbRoute w source else bbSrroute w (source - 128)) ≠ logRingCfg v := fun v => by
    simp only [bbRoute, bbSrroute, logRingCfg, regA]; split <;> omega
  have h0 : Kept 518 (atTime t s) (if sentNow (atTime t s) w source = true then unsend w source (atTime t s) else atTime t s) :=
    kept_ite (fun _ => unsend_kept (kept_refl _)) (fun _ => kept_refl _)
  have h1 := regSet_kept (m := 518) (v := v &&& 0x8707) h0 rfl (Or.inr hr)
  exact kept_ite (fun _ => deliver_kept h1) (fun _ => h1)

@[simp] theorem execBbFlagClear_goes {t w bank : Nat} {v hwSet : Word} (h₀ : Kept μ s₀ (atTime t s)) (hm : 518 ||| μ = μ := by rfl) :
    Goes (execBbFlagClear t w bank v hwSet s) (Kept μ s₀) := by
  refine goes_lift h₀ hm ?_
  clear h₀ hm
  unfold execBbFlagClear
  refine goes_ite (fun _ => by simp) (fun h => goes_next.2 ?_)
  have hr : ∀ v, (if bank = 2 then bbSrstat w else bbStat w bank) ≠ logRingCfg v := fun v => by
    simp only [bbStat, bbSrstat, logRingCfg, regA]; split <;> omega
  exact kept_foldl (fun u a hu => kept_ite (fun _ => deliver_kept hu) (fun _ => hu))
    (regSet_kept (kept_refl _) rfl (Or.inr hr))

@[simp] theorem execStrongroomSourceArrival_goes {t source : Nat} (h₀ : Kept μ s₀ (atTime t s)) (hm : 8589935110 ||| μ = μ := by rfl) :
    Goes (execStrongroomSourceArrival t source s) (Kept μ s₀) := by
  refine goes_lift h₀ hm ?_
  clear h₀ hm
  unfold execStrongroomSourceArrival; dsimp only; repeat' split
  all_goals simp (maxDischargeDepth := 60) +contextual [*]

@[simp] theorem resend_kept {w : Nat} (h₀ : Kept μ s₀ s) (hm : 516 ||| μ = μ := by rfl) :
    Kept μ s₀ (resend w s) := by
  refine kept_lift h₀ hm ?_
  clear h₀ hm
  unfold resend; simp (maxDischargeDepth := 60) +contextual

@[simp] theorem execPathReturnDelivery_goes {t w : Nat} (h₀ : Kept μ s₀ (atTime t s)) (hm : 516 ||| μ = μ := by rfl) :
    Goes (execPathReturnDelivery t w s) (Kept μ s₀) := by
  refine goes_lift h₀ hm ?_
  clear h₀ hm
  unfold execPathReturnDelivery; simp (maxDischargeDepth := 60) +contextual 

@[simp] theorem coreCounters_kept (h₀ : Kept μ s₀ s) (hm : 4294967296 ||| μ = μ := by rfl) :
    Kept μ s₀ (coreCounters s).2 := by
  refine kept_lift h₀ hm ?_
  clear h₀ hm
  unfold coreCounters; simp (maxDischargeDepth := 60) +contextual

@[simp] theorem freezeWing_kept {w : Nat} (h₀ : Kept μ s₀ s) (hm : 12884903430 ||| μ = μ := by rfl) :
    Kept μ s₀ (freezeWing w s) := by
  refine kept_lift h₀ hm ?_
  clear h₀ hm
  have h₀ := kept_refl (m := 12884903430) s
  unfold freezeWing; extract_lets cores val bank s1 frz seq s2
  have hc : Kept 12884903430 s s1 := kept_foldl_snd (fun y a hy => coreCounters_kept hy) h₀
  exact count_kept (bell_kept (regPutF_kept (kept_mk hc (Nat.le_refl _))))

@[simp] theorem freezesFire_kept (h₀ : Kept μ s₀ s) (hm : 12884903702 ||| μ = μ := by rfl) :
    Kept μ s₀ (freezesFire s) := by
  refine kept_lift h₀ hm ?_
  clear h₀ hm
  unfold freezesFire; dsimp only; repeat' split
  all_goals simp (maxDischargeDepth := 60) +contextual [*]

@[simp] theorem execFreezeLatch_goes {t : Nat} (h₀ : Kept μ s₀ (atTime t s)) (hm : 12884903702 ||| μ = μ := by rfl) :
    Goes (execFreezeLatch t s) (Kept μ s₀) := by
  refine goes_lift h₀ hm ?_
  clear h₀ hm
  unfold execFreezeLatch; simp (maxDischargeDepth := 60) +contextual 

@[simp] theorem freezeArm_kept {w p : Nat} (h₀ : Kept μ s₀ s) (hm : 12884903702 ||| μ = μ := by rfl) :
    Kept μ s₀ (freezeArm w p s) := by
  refine kept_lift h₀ hm ?_
  clear h₀ hm
  unfold freezeArm; simp (maxDischargeDepth := 60) +contextual

@[simp] theorem execTalFrzAtWrite_goes {t w : Nat} {v : Word} (h₀ : Kept μ s₀ (atTime t s)) (hm : 12884903702 ||| μ = μ := by rfl) :
    Goes (execTalFrzAtWrite t w v s) (Kept μ s₀) := by
  refine goes_lift h₀ hm ?_
  clear h₀ hm
  unfold execTalFrzAtWrite; simp (maxDischargeDepth := 60) +contextual 

@[simp] theorem execArmAFreezeOnEveryWing_goes {t : Nat} {via : Via} {p : Nat} (h₀ : Kept μ s₀ (atTime t s)) (hm : 12885002078 ||| μ = μ := by rfl) :
    Goes (execArmAFreezeOnEveryWing t via p s) (Kept μ s₀) := by
  refine goes_lift h₀ hm ?_
  clear h₀ hm
  unfold execArmAFreezeOnEveryWing; simp (maxDischargeDepth := 60) +contextual 

@[simp] theorem execTalSwinc_goes {t w : Nat} {v : Word} (h₀ : Kept μ s₀ (atTime t s)) (hm : 4 ||| μ = μ := by rfl) :
    Goes (execTalSwinc t w v s) (Kept μ s₀) := by
  refine goes_lift h₀ hm ?_
  clear h₀ hm
  unfold execTalSwinc; simp (maxDischargeDepth := 60) +contextual 

end Sys2Proof.Machine
end

