-- ==== Sys2Proof/Laws/KeptDdr.lean ====
section
/-! SUPPORT. What the functions of Machine/Ddr.lean leave as it was. -/

namespace Sys2Proof.Machine

set_option Elab.async false

variable {μ : Nat} {s₀ s : State}

@[simp] theorem ddrSet_kept {w : Nat} {x : Ddr} (h₀ : Kept μ s₀ s) (hm : 268435456 ||| μ = μ := by rfl) :
    Kept μ s₀ (ddrSet w x s) := by
  refine kept_lift h₀ hm ?_
  clear h₀ hm
  unfold ddrSet; simp (maxDischargeDepth := 60) +contextual

@[simp] theorem ddrSettle_kept {w : Nat} (h₀ : Kept μ s₀ s) (hm : 268435458 ||| μ = μ := by rfl) :
    Kept μ s₀ (ddrSettle w s) := by
  refine kept_lift h₀ hm ?_
  clear h₀ hm
  unfold ddrSettle; dsimp only; repeat' split
  all_goals simp (maxDischargeDepth := 60) +contextual [*]

@[simp] theorem execRefreshWindow_goes {t w b : Nat} (h₀ : Kept μ s₀ (atTime t s)) (hm : 268435458 ||| μ = μ := by rfl) :
    Goes (execRefreshWindow t w b s) (Kept μ s₀) := by
  refine goes_lift h₀ hm ?_
  clear h₀ hm
  unfold execRefreshWindow; simp (maxDischargeDepth := 60) +contextual 

@[simp] theorem execRefreshScheduleChange_goes {t w : Nat} {hot : Bool} (h₀ : Kept μ s₀ (atTime t s)) (hm : 268435458 ||| μ = μ := by rfl) :
    Goes (execRefreshScheduleChange t w hot s) (Kept μ s₀) := by
  refine goes_lift h₀ hm ?_
  clear h₀ hm
  unfold execRefreshScheduleChange; simp (maxDischargeDepth := 60) +contextual 

@[simp] theorem execDramAccessIssue_goes {t w rq addr arrived : Nat} {write : Option Bytes} (h₀ : Kept μ s₀ (atTime t s)) (hm : 268435530 ||| μ = μ := by rfl) :
    Goes (execDramAccessIssue t w rq addr arrived write s) (Kept μ s₀) := by
  refine goes_lift h₀ hm ?_
  clear h₀ hm
  unfold execDramAccessIssue; repeat' split
  all_goals simp (maxDischargeDepth := 60) +contextual [*]

@[simp] theorem execDramReadData_goes {t w : Nat} (h₀ : Kept μ s₀ (atTime t s)) (hm : 268435522 ||| μ = μ := by rfl) :
    Goes (execDramReadData t w s) (Kept μ s₀) := by
  refine goes_lift h₀ hm ?_
  clear h₀ hm
  unfold execDramReadData; dsimp only; repeat' split
  all_goals simp (maxDischargeDepth := 60) +contextual [*]

@[simp] theorem execEngineDramAccess_goes {t w addr : Nat} {write : Option Bytes} (h₀ : Kept μ s₀ (atTime t s)) (hm : 268435528 ||| μ = μ := by rfl) :
    Goes (execEngineDramAccess t w addr write s) (Kept μ s₀) := by
  refine goes_lift h₀ hm ?_
  clear h₀ hm
  unfold execEngineDramAccess; repeat' split
  all_goals simp (maxDischargeDepth := 60) +contextual [*]

end Sys2Proof.Machine
end

