-- ==== Sys2Proof/Laws/KeptReset.lean ====
section
/-! SUPPORT. What the functions of Machine/Reset.lean leave as it was. -/

namespace Sys2Proof.Machine

set_option Elab.async false

variable {μ : Nat} {s₀ s : State}

@[simp] theorem resetLanes_kept {w : Nat} (h₀ : Kept μ s₀ s) (hm : 131072 ||| μ = μ := by rfl) :
    Kept μ s₀ (resetLanes w s) := by
  refine kept_lift h₀ hm ?_
  clear h₀ hm
  unfold resetLanes; simp (maxDischargeDepth := 60) +contextual

@[simp] theorem resetIng_kept {cold : Bool} {w : Nat} (h₀ : Kept μ s₀ s) (hm : 2097152 ||| μ = μ := by rfl) :
    Kept μ s₀ (resetIng cold w s) := by
  refine kept_lift h₀ hm ?_
  clear h₀ hm
  unfold resetIng; simp (maxDischargeDepth := 60) +contextual

@[simp] theorem auditAbandon_kept (h₀ : Kept μ s₀ s) (hm : 16777218 ||| μ = μ := by rfl) :
    Kept μ s₀ (auditAbandon s) := by
  refine kept_lift h₀ hm ?_
  clear h₀ hm
  unfold auditAbandon; simp (maxDischargeDepth := 60) +contextual

@[simp] theorem auditCold_kept (h₀ : Kept μ s₀ s) (hm : 16777232 ||| μ = μ := by rfl) :
    Kept μ s₀ (auditCold s) := by
  refine kept_lift h₀ hm ?_
  clear h₀ hm
  unfold auditCold; simp (maxDischargeDepth := 60) +contextual

@[simp] theorem resumeCounters_kept (h₀ : Kept μ s₀ s) (hm : 327696 ||| μ = μ := by rfl) :
    Kept μ s₀ (resumeCounters s) := by
  refine kept_lift h₀ hm ?_
  clear h₀ hm
  unfold resumeCounters; simp (maxDischargeDepth := 60) +contextual

@[simp] theorem resetMac_kept {cold : Bool} {w : Nat} (h₀ : Kept μ s₀ s) (hm : 262144 ||| μ = μ := by rfl) :
    Kept μ s₀ (resetMac cold w s) := by
  refine kept_lift h₀ hm ?_
  clear h₀ hm
  unfold resetMac; simp (maxDischargeDepth := 60) +contextual

@[simp] theorem endSessions_kept (h₀ : Kept μ s₀ s) (hm : 8589968150 ||| μ = μ := by rfl) :
    Kept μ s₀ (endSessions s) := by
  refine kept_lift h₀ hm ?_
  clear h₀ hm
  unfold endSessions; simp (maxDischargeDepth := 60) +contextual

@[simp] theorem resetGate_kept {w : Nat} (h₀ : Kept μ s₀ s) (hm : 65600 ||| μ = μ := by rfl) :
    Kept μ s₀ (resetGate w s) := by
  refine kept_lift h₀ hm ?_
  clear h₀ hm
  unfold resetGate; simp (maxDischargeDepth := 60) +contextual

@[simp] theorem disarmAll_kept (h₀ : Kept μ s₀ s) (hm : 8590082838 ||| μ = μ := by rfl) :
    Kept μ s₀ (disarmAll s) := by
  refine kept_lift h₀ hm ?_
  clear h₀ hm
  unfold disarmAll; simp (maxDischargeDepth := 60) +contextual

@[simp] theorem wingReset_kept {cold : Bool} {w : Nat} (h₀ : Kept μ s₀ s) (hm : 2015838030 ||| μ = μ := by rfl) :
    Kept μ s₀ (wingReset cold w s) := by
  refine kept_lift h₀ hm ?_
  clear h₀ hm
  have h₀ := kept_refl (m := 2015838030) s
  have h1 : Kept 2015838030 s (resetGate w (resetMac cold w (resetIng cold w (resetLanes w s)))) :=
    resetGate_kept (resetMac_kept (resetIng_kept (resetLanes_kept h₀)))
  unfold wingReset
  exact regPutF_kept (regPutF_kept (modReplica_kept (kept_trans h1
    ⟨⟨rfl, rfl, Nat.le_refl _, id, fun h => tabWf_filter _ h, fun h => tabWf_drop _ h⟩,
      fun p hp => by cases p <;> first | rfl | exact absurd hp (by decide)⟩)))

@[simp] theorem porCold_kept {w : Nat} (h₀ : Kept μ s₀ s) (hm : 10 ||| μ = μ := by rfl) :
    Kept μ s₀ (porCold w s) := by
  refine kept_lift h₀ hm ?_
  clear h₀ hm
  unfold porCold
  exact kept_foldl_mem (fun u i hi hu => regSet_kept hu rfl (Or.inl rfl)) (by simp (maxDischargeDepth := 60))

@[simp] theorem porCause_kept {r : ResetReq} {w : Nat} (h₀ : Kept μ s₀ s) (hm : 2 ||| μ = μ := by rfl) :
    Kept μ s₀ (porCause r w s) := by
  refine kept_lift h₀ hm ?_
  clear h₀ hm
  unfold porCause; simp (maxDischargeDepth := 60) +contextual

@[simp] theorem resetPart_kept {r : ResetReq} (h₀ : Kept μ s₀ s) (hm : 17133731806 ||| μ = μ := by rfl) :
    Kept μ s₀ (resetPart r s) := by
  refine kept_lift h₀ hm ?_
  clear h₀ hm
  have h₀ := kept_refl (m := 17133731806) s
  unfold resetPart; extract_lets s1 s2 s3
  have h1 : Kept 17133731806 s s1 := endSessions_kept (disarmAll_kept (auditAbandon_kept h₀))
  have h2 : Kept 17133731806 s s2 := eachWing_kept (fun w u hu => porCause_kept (kept_ite
    (fun _ => porCold_kept (wingReset_kept hu)) (fun _ => regPutF_kept (wingReset_kept hu)))) h1
  have h3 : Kept 17133731806 s s3 := updateReset_kept (resumeCounters_kept (auditSpan_kept (kept_ite (fun _ => auditCold_kept h2) (fun _ => h2))))
  clear_value s3
  exact kept_trans h3 ⟨⟨rfl, rfl, Nat.le_refl _, fun h => by dsimp only; split <;> first | rfl | exact h, id, id⟩,
    fun p hp => by cases p <;> first | rfl | exact absurd hp (by decide)⟩

@[simp] theorem restartAlone_kept {w : Nat} (h₀ : Kept μ s₀ s) (hm : 17132158814 ||| μ = μ := by rfl) :
    Kept μ s₀ (restartAlone w s) := by
  refine kept_lift h₀ hm ?_
  clear h₀ hm
  unfold restartAlone; simp (maxDischargeDepth := 60) +contextual

@[simp] theorem resetAsk_kept {r : ResetReq} (h₀ : Kept μ s₀ s) (hm : 17133731806 ||| μ = μ := by rfl) :
    Kept μ s₀ (resetAsk r s) := by
  refine kept_lift h₀ hm ?_
  clear h₀ hm
  unfold resetAsk; simp (maxDischargeDepth := 60) +contextual

@[simp] theorem powerFail_kept (h₀ : Kept μ s₀ s) (hm : 8726647582 ||| μ = μ := by rfl) :
    Kept μ s₀ (powerFail s) := by
  refine kept_lift h₀ hm ?_
  clear h₀ hm
  unfold powerFail; simp (maxDischargeDepth := 60) +contextual

end Sys2Proof.Machine
end

