-- ==== Sys2Proof/Laws/KeptRegRead.lean ====
section
/-! SUPPORT. What the functions of Machine/RegRead.lean leave as it was. -/

namespace Sys2Proof.Machine

set_option Elab.async false

variable {μ : Nat} {s₀ s : State}

@[simp] theorem regRead_kept {a : Nat} (h₀ : Kept μ s₀ s) (hm : 4294967296 ||| μ = μ := by rfl) :
    Kept μ s₀ (regRead a s).2 := by
  refine kept_lift h₀ hm ?_
  clear h₀ hm
  unfold regRead; repeat' split
  all_goals simp (maxDischargeDepth := 60) +contextual [*]

end Sys2Proof.Machine
end

