-- ==== Sys2Proof/Laws/KeptMailbox.lean ====
section
/-! SUPPORT. What the functions of Machine/Mailbox.lean leave as it was. -/

namespace Sys2Proof.Machine

set_option Elab.async false

variable {μ : Nat} {s₀ s : State}

@[simp] theorem msgBusy_kept {m : Msg} (h₀ : Kept μ s₀ s) (hm : 8589967886 ||| μ = μ := by rfl) :
    Kept μ s₀ (msgBusy m s) := by
  refine kept_lift h₀ hm ?_
  clear h₀ hm
  unfold msgBusy; repeat' split
  all_goals simp (maxDischargeDepth := 60) +contextual [*]

@[simp] theorem msgQueue_kept {m : Msg} (h₀ : Kept μ s₀ s) (hm : 8589967886 ||| μ = μ := by rfl) :
    Kept μ s₀ (msgQueue m s) := by
  refine kept_lift h₀ hm ?_
  clear h₀ hm
  unfold msgQueue; dsimp only; repeat' split
  all_goals simp (maxDischargeDepth := 60) +contextual [*]

@[simp] theorem replyOnly_kept {n reqId obj status : Nat} {body : Bytes} (h₀ : Kept μ s₀ s) (hm : 32768 ||| μ = μ := by rfl) :
    Kept μ s₀ (replyOnly n reqId obj status body s) := by
  refine kept_lift h₀ hm ?_
  clear h₀ hm
  unfold replyOnly; simp (maxDischargeDepth := 60) +contextual

@[simp] theorem mailboxSubmit_kept {w slot : Nat} (h₀ : Kept μ s₀ s) (hm : 8589967886 ||| μ = μ := by rfl) :
    Kept μ s₀ (mailboxSubmit w slot s) := by
  refine kept_lift h₀ hm ?_
  clear h₀ hm
  unfold mailboxSubmit; simp (maxDischargeDepth := 60) +contextual

@[simp] theorem mailboxGo_kept {w slot : Nat} (h₀ : Kept μ s₀ s) (hm : 8589967886 ||| μ = μ := by rfl) :
    Kept μ s₀ (mailboxGo w slot s) := by
  refine kept_lift h₀ hm ?_
  clear h₀ hm
  unfold mailboxGo; simp (maxDischargeDepth := 60) +contextual

@[simp] theorem execMailboxGo_goes {t w slot : Nat} (h₀ : Kept μ s₀ (atTime t s)) (hm : 8589967886 ||| μ = μ := by rfl) :
    Goes (execMailboxGo t w slot s) (Kept μ s₀) := by
  refine goes_lift h₀ hm ?_
  clear h₀ hm
  unfold execMailboxGo; simp (maxDischargeDepth := 60) +contextual 

@[simp] theorem ackApply_kept {n seq : Nat} (h₀ : Kept μ s₀ s) (hm : 32768 ||| μ = μ := by rfl) :
    Kept μ s₀ (ackApply n seq s) := by
  refine kept_lift h₀ hm ?_
  clear h₀ hm
  unfold ackApply; simp (maxDischargeDepth := 60) +contextual

@[simp] theorem messageComplete_kept {n : Nat} {p : Partial} (h₀ : Kept μ s₀ s) (hm : 8590033422 ||| μ = μ := by rfl) :
    Kept μ s₀ (messageComplete n p s) := by
  refine kept_lift h₀ hm ?_
  clear h₀ hm
  unfold messageComplete; simp (maxDischargeDepth := 60) +contextual

@[simp] theorem segmentJoin_kept {n : Nat} {g : EmpSegment} (h₀ : Kept μ s₀ s) (hm : 8590033422 ||| μ = μ := by rfl) :
    Kept μ s₀ (segmentJoin n g s) := by
  refine kept_lift h₀ hm ?_
  clear h₀ hm
  unfold segmentJoin; simp (maxDischargeDepth := 60) +contextual

@[simp] theorem execSegmentReceive_goes {t n : Nat} {seg : EmpSegment} (h₀ : Kept μ s₀ (atTime t s)) (hm : 8590033422 ||| μ = μ := by rfl) :
    Goes (execSegmentReceive t n seg s) (Kept μ s₀) := by
  refine goes_lift h₀ hm ?_
  clear h₀ hm
  unfold execSegmentReceive; dsimp only; repeat' split
  all_goals simp (maxDischargeDepth := 60) +contextual [*]

@[simp] theorem execIncomplete_goes {t n reqId : Nat} (h₀ : Kept μ s₀ (atTime t s)) (hm : 8589968150 ||| μ = μ := by rfl) :
    Goes (execIncomplete t n reqId s) (Kept μ s₀) := by
  refine goes_lift h₀ hm ?_
  clear h₀ hm
  unfold execIncomplete; dsimp only; repeat' split
  all_goals simp (maxDischargeDepth := 60) +contextual [*]

end Sys2Proof.Machine
end

