-- ==== Sys2Proof/Laws/KeptUplink.lean ====
section
/-! SUPPORT. What the functions of Machine/Uplink.lean leave as it was. -/

namespace Sys2Proof.Machine

set_option Elab.async false

variable {μ : Nat} {s₀ s : State}

@[simp] theorem execUplinkLinkUp_goes {t pn : Nat} (h₀ : Kept μ s₀ (atTime t s)) (hm : 8589935382 ||| μ = μ := by rfl) :
    Goes (execUplinkLinkUp t pn s) (Kept μ s₀) := by
  refine goes_lift h₀ hm ?_
  clear h₀ hm
  unfold execUplinkLinkUp; simp (maxDischargeDepth := 60) +contextual 

@[simp] theorem execUplinkLinkDown_goes {t pn : Nat} (h₀ : Kept μ s₀ (atTime t s)) (hm : 9127330590 ||| μ = μ := by rfl) :
    Goes (execUplinkLinkDown t pn s) (Kept μ s₀) := by
  refine goes_lift h₀ hm ?_
  clear h₀ hm
  unfold execUplinkLinkDown; simp (maxDischargeDepth := 60) +contextual 

@[simp] theorem execPortSilent_goes {t pn : Nat} (h₀ : Kept μ s₀ (atTime t s)) (hm : 8589935382 ||| μ = μ := by rfl) :
    Goes (execPortSilent t pn s) (Kept μ s₀) := by
  refine goes_lift h₀ hm ?_
  clear h₀ hm
  unfold execPortSilent; simp (maxDischargeDepth := 60) +contextual 

@[simp] theorem prpJudge_kept {w : Nat} {b : Bytes} (h₀ : Kept μ s₀ s) (hm : 1073741824 ||| μ = μ := by rfl) :
    Kept μ s₀ (prpJudge w b s).2 := by
  refine kept_lift h₀ hm ?_
  clear h₀ hm
  unfold prpJudge; dsimp only; repeat' split
  all_goals simp (maxDischargeDepth := 60) +contextual [*]

@[simp] theorem prpCompare_kept {pn : Nat} {b : Bytes} {e : PrpEntry} (h₀ : Kept μ s₀ s) (hm : 8589935382 ||| μ = μ := by rfl) :
    Kept μ s₀ (prpCompare pn b e s) := by
  refine kept_lift h₀ hm ?_
  clear h₀ hm
  unfold prpCompare; repeat' split
  all_goals simp (maxDischargeDepth := 60) +contextual [*]

@[simp] theorem lanDeliver_kept {pn : Nat} {b : Bytes} {trailer : Bool} {flags : Nat} (h₀ : Kept μ s₀ s) (hm : 8589935118 ||| μ = μ := by rfl) :
    Kept μ s₀ (lanDeliver pn b trailer flags s) := by
  refine kept_lift h₀ hm ?_
  clear h₀ hm
  unfold lanDeliver; simp (maxDischargeDepth := 60) +contextual

@[simp] theorem lanSort_kept {pn : Nat} {b : Bytes} {trailer : Bool} {flags : Nat} (h₀ : Kept μ s₀ s) (hm : 8589935118 ||| μ = μ := by rfl) :
    Kept μ s₀ (lanSort pn b trailer flags s) := by
  refine kept_lift h₀ hm ?_
  clear h₀ hm
  unfold lanSort; repeat' split
  all_goals simp (maxDischargeDepth := 60) +contextual [*]

@[simp] theorem prpFrame_kept {pn : Nat} {b : Bytes} (h₀ : Kept μ s₀ s) (hm : 9663677214 ||| μ = μ := by rfl) :
    Kept μ s₀ (prpFrame pn b s) := by
  refine kept_lift h₀ hm ?_
  clear h₀ hm
  unfold prpFrame; dsimp only; repeat' split
  all_goals simp (maxDischargeDepth := 60) +contextual [*]

@[simp] theorem execPrpReceive_goes {t pn : Nat} {f : UplinkFrame} (h₀ : Kept μ s₀ (atTime t s)) (hm : 10200548126 ||| μ = μ := by rfl) :
    Goes (execPrpReceive t pn f s) (Kept μ s₀) := by
  refine goes_lift h₀ hm ?_
  clear h₀ hm
  unfold execPrpReceive; simp (maxDischargeDepth := 60) +contextual 

@[simp] theorem execSupervisionSend_goes {t w : Nat} (h₀ : Kept μ s₀ (atTime t s)) (hm : 1610612740 ||| μ = μ := by rfl) :
    Goes (execSupervisionSend t w s) (Kept μ s₀) := by
  refine goes_lift h₀ hm ?_
  clear h₀ hm
  unfold execSupervisionSend; simp (maxDischargeDepth := 60) +contextual 

@[simp] theorem lanSendOn_kept {ports : List Nat} {seq : Option Nat} {frame : Bytes} (h₀ : Kept μ s₀ s) (hm : 536870916 ||| μ = μ := by rfl) :
    Kept μ s₀ (lanSendOn ports seq frame s) := by
  refine kept_lift h₀ hm ?_
  clear h₀ hm
  unfold lanSendOn; simp (maxDischargeDepth := 60) +contextual

@[simp] theorem execUplinkTransmitDescriptor_goes {t pn : Nat} (h₀ : Kept μ s₀ (atTime t s)) (hm : 10200547854 ||| μ = μ := by rfl) :
    Goes (execUplinkTransmitDescriptor t pn s) (Kept μ s₀) := by
  refine goes_lift h₀ hm ?_
  clear h₀ hm
  unfold execUplinkTransmitDescriptor; simp (maxDischargeDepth := 60) +contextual 

@[simp] theorem entryLead_kept {w e : Nat} {x : Entry} (h₀ : Kept μ s₀ s) (hm : 9126810398 ||| μ = μ := by rfl) :
    Kept μ s₀ (entryLead w e x s) := by
  refine kept_lift h₀ hm ?_
  clear h₀ hm
  unfold entryLead; simp (maxDischargeDepth := 60) +contextual

@[simp] theorem execTimedLaunchLead_goes {t pn e : Nat} (h₀ : Kept μ s₀ (atTime t s)) (hm : 9126810398 ||| μ = μ := by rfl) :
    Goes (execTimedLaunchLead t pn e s) (Kept μ s₀) := by
  refine goes_lift h₀ hm ?_
  clear h₀ hm
  unfold execTimedLaunchLead; dsimp only; repeat' split
  all_goals simp (maxDischargeDepth := 60) +contextual [*]

@[simp] theorem launchSend_kept {pn : Nat} {l : LanLaunch} (h₀ : Kept μ s₀ s) (hm : 10200552222 ||| μ = μ := by rfl) :
    Kept μ s₀ (launchSend pn l s) := by
  refine kept_lift h₀ hm ?_
  clear h₀ hm
  unfold launchSend; repeat' split
  all_goals simp (maxDischargeDepth := 60) +contextual [*]

@[simp] theorem execTimedLaunchSend_goes {t pn e : Nat} (h₀ : Kept μ s₀ (atTime t s)) (hm : 10200552222 ||| μ = μ := by rfl) :
    Goes (execTimedLaunchSend t pn e s) (Kept μ s₀) := by
  refine goes_lift h₀ hm ?_
  clear h₀ hm
  unfold execTimedLaunchSend; dsimp only; repeat' split
  all_goals simp (maxDischargeDepth := 60) +contextual [*]

@[simp] theorem copySend_kept {slot pn : Nat} {x : Slot} {seq : Option Nat} (h₀ : Kept μ s₀ s) (hm : 536887300 ||| μ = μ := by rfl) :
    Kept μ s₀ (copySend slot pn x seq s) := by
  refine kept_lift h₀ hm ?_
  clear h₀ hm
  unfold copySend; simp (maxDischargeDepth := 60) +contextual

@[simp] theorem execArmedUplinkCopy_goes {t slot pn : Nat} (h₀ : Kept μ s₀ (atTime t s)) (hm : 1610629124 ||| μ = μ := by rfl) :
    Goes (execArmedUplinkCopy t slot pn s) (Kept μ s₀) := by
  refine goes_lift h₀ hm ?_
  clear h₀ hm
  unfold execArmedUplinkCopy; simp (maxDischargeDepth := 60) +contextual 

@[simp] theorem execRunADrill_goes {t : Nat} {via : Via} {group : Nat} {leaseSigOk : Bool} (h₀ : Kept μ s₀ (atTime t s)) (hm : 8590033694 ||| μ = μ := by rfl) :
    Goes (execRunADrill t via group leaseSigOk s) (Kept μ s₀) := by
  refine goes_lift h₀ hm ?_
  clear h₀ hm
  unfold execRunADrill; simp (maxDischargeDepth := 60) +contextual 

end Sys2Proof.Machine
end

