-- ==== Sys2Proof/Laws/KeptRegWrite.lean ====
section
/-! SUPPORT. What the functions of Machine/RegWrite.lean leave as it was. -/

namespace Sys2Proof.Machine

set_option Elab.async false

variable {μ : Nat} {s₀ s : State}

@[simp] theorem regStore_kept {a : Nat} {v : Word} (h₀ : Kept μ s₀ s) (hm : 10 ||| μ = μ := by rfl) :
    Kept μ s₀ (regStore a v s) := by
  refine kept_lift h₀ hm ?_
  clear h₀ hm
  unfold regStore; repeat' split
  all_goals simp (maxDischargeDepth := 60) +contextual [*]

@[simp] theorem pinsRelease_kept {w mask why : Nat} (h₀ : Kept μ s₀ s) (hm : 8589935382 ||| μ = μ := by rfl) :
    Kept μ s₀ (pinsRelease w mask why s) := by
  refine kept_lift h₀ hm ?_
  clear h₀ hm
  unfold pinsRelease; simp (maxDischargeDepth := 60) +contextual

@[simp] theorem porCtlWrite_kept {w : Nat} {v : Word} (h₀ : Kept μ s₀ s) (hm : 17133731806 ||| μ = μ := by rfl) :
    Kept μ s₀ (porCtlWrite w v s) := by
  refine kept_lift h₀ hm ?_
  clear h₀ hm
  unfold porCtlWrite; simp (maxDischargeDepth := 60) +contextual

@[simp] theorem enGuard_kept {a : Nat} {ok : State → Bool} (h₀ : Kept μ s₀ s) (hm : 10 ||| μ = μ := by rfl) :
    Kept μ s₀ (enGuard a ok s) := by
  unfold enGuard
  exact kept_ite (fun _ => h₀) (fun _ => regPutF_kept h₀ (or_sub rfl hm) (Or.inl (or_sub rfl hm)))

@[simp] theorem directoryRestore_kept {w : Nat} (h₀ : Kept μ s₀ s) (hm : 2097160 ||| μ = μ := by rfl) :
    Kept μ s₀ (directoryRestore w s) := by
  refine kept_lift h₀ hm ?_
  clear h₀ hm
  have h₀ := kept_refl (m := 2097160) s
  unfold directoryRestore; extract_lets x
  refine kept_ite (fun _ => h₀) (fun _ => kept_foldl (fun u a hu => ?_) (ingSet_kept h₀))
  extract_lets slot s1 q
  have h1 : Kept 2097160 s s1 := dramWrite_kept (dramWrite_kept hu)
  split <;> simp [h1]

@[simp] theorem ingCtlWrite_kept {w : Nat} {v : Word} (h₀ : Kept μ s₀ s) (hm : 2099471 ||| μ = μ := by rfl) :
    Kept μ s₀ (ingCtlWrite w v s) := by
  refine kept_lift h₀ hm ?_
  clear h₀ hm
  unfold ingCtlWrite; simp (maxDischargeDepth := 60) +contextual

@[simp] theorem naCtlWrite_kept {w : Nat} {v : Word} (h₀ : Kept μ s₀ s) (hm : 16777226 ||| μ = μ := by rfl) :
    Kept μ s₀ (naCtlWrite w v s) := by
  refine kept_lift h₀ hm ?_
  clear h₀ hm
  unfold naCtlWrite; simp (maxDischargeDepth := 60) +contextual

@[simp] theorem nfcCtlWrite_kept {w : Nat} {v : Word} (h₀ : Kept μ s₀ s) (hm : 8657046303 ||| μ = μ := by rfl) :
    Kept μ s₀ (nfcCtlWrite w v s) := by
  refine kept_lift h₀ hm ?_
  clear h₀ hm
  unfold nfcCtlWrite; simp (maxDischargeDepth := 60) +contextual

@[simp] theorem airCfgWrite_kept {w p : Nat} {v : Word} (h₀ : Kept μ s₀ s) (hm : 8590334751 ||| μ = μ := by rfl) :
    Kept μ s₀ (airCfgWrite w p v s) := by
  refine kept_lift h₀ hm ?_
  clear h₀ hm
  unfold airCfgWrite; simp (maxDischargeDepth := 60) +contextual

@[simp] theorem uplCfgWrite_kept {w l : Nat} {v : Word} (h₀ : Kept μ s₀ s) (hm : 9127332639 ||| μ = μ := by rfl) :
    Kept μ s₀ (uplCfgWrite w l v s) := by
  refine kept_lift h₀ hm ?_
  clear h₀ hm
  unfold uplCfgWrite; simp (maxDischargeDepth := 60) +contextual

@[simp] theorem ttWrite_kept {w e word : Nat} {v : Word} (h₀ : Kept μ s₀ s) (hm : 10220352414 ||| μ = μ := by rfl) :
    Kept μ s₀ (ttWrite w e word v s) := by
  refine kept_lift h₀ hm ?_
  clear h₀ hm
  unfold ttWrite; simp (maxDischargeDepth := 60) +contextual

@[simp] theorem nbrCtlWrite_kept {w : Nat} {v : Word} (h₀ : Kept μ s₀ s) (hm : 264459 ||| μ = μ := by rfl) :
    Kept μ s₀ (nbrCtlWrite w v s) := by
  refine kept_lift h₀ hm ?_
  clear h₀ hm
  unfold nbrCtlWrite; simp (maxDischargeDepth := 60) +contextual

@[simp] theorem gbCtlWrite_kept {w : Nat} {v : Word} (h₀ : Kept μ s₀ s) (hm : 2361615 ||| μ = μ := by rfl) :
    Kept μ s₀ (gbCtlWrite w v s) := by
  refine kept_lift h₀ hm ?_
  clear h₀ hm
  unfold gbCtlWrite; simp (maxDischargeDepth := 60) +contextual

@[simp] theorem ringCfgWrite_kept {w : Nat} {v : Word} (h₀ : Kept μ s₀ s) (hm : 10 ||| μ = μ := by rfl) :
    Kept μ s₀ (ringCfgWrite w v s) := by
  refine kept_lift h₀ hm ?_
  clear h₀ hm
  unfold ringCfgWrite; simp (maxDischargeDepth := 60) +contextual

@[simp] theorem mbxCtlWrite_kept {w : Nat} {v : Word} (h₀ : Kept μ s₀ s) (hm : 8589967886 ||| μ = μ := by rfl) :
    Kept μ s₀ (mbxCtlWrite w v s) := by
  refine kept_lift h₀ hm ?_
  clear h₀ hm
  unfold mbxCtlWrite; simp (maxDischargeDepth := 60) +contextual

@[simp] theorem regBlockWrite_kept {w blk off : Nat} {v : Word} (h₀ : Kept μ s₀ s) (hm : 17133731807 ||| μ = μ := by rfl) :
    Kept μ s₀ (regBlockWrite w blk off v s) := by
  refine kept_lift h₀ hm ?_
  clear h₀ hm
  have h₀ := kept_refl (m := 17133731807) s
  unfold regBlockWrite; extract_lets a t
  iterate 24 refine kept_ite (fun _ => by simp (maxDischargeDepth := 60) +contextual) (fun _ => ?_)
  exact regStore_kept h₀

@[simp] theorem regWrite_kept {a : Nat} {v : Word} (h₀ : Kept μ s₀ s) (hm : 17133731807 ||| μ = μ := by rfl) :
    Kept μ s₀ (regWrite a v s) := by
  refine kept_lift h₀ hm ?_
  clear h₀ hm
  unfold regWrite; repeat' split
  all_goals simp (maxDischargeDepth := 60) +contextual [*]

@[simp] theorem fieldWrite_kept {a hi lo v : Nat} (h₀ : Kept μ s₀ s) (hm : 17133731807 ||| μ = μ := by rfl) :
    Kept μ s₀ (fieldWrite a hi lo v s) := by
  refine kept_lift h₀ hm ?_
  clear h₀ hm
  unfold fieldWrite; repeat' split
  all_goals simp (maxDischargeDepth := 60) +contextual [*]

@[simp] theorem applyWrite_kept {rq a t0 : Nat} {v : Word} (h₀ : Kept μ s₀ s) (hm : 17133731807 ||| μ = μ := by rfl) :
    Kept μ s₀ (applyWrite rq a t0 v s) := by
  refine kept_lift h₀ hm ?_
  clear h₀ hm
  unfold applyWrite; simp (maxDischargeDepth := 60) +contextual

@[simp] theorem execRegisterWrite_goes {t rq addr t0 : Nat} {v : Word} (h₀ : Kept μ s₀ (atTime t s)) (hm : 17133731807 ||| μ = μ := by rfl) :
    Goes (execRegisterWrite t rq addr t0 v s) (Kept μ s₀) := by
  refine goes_lift h₀ hm ?_
  clear h₀ hm
  unfold execRegisterWrite; repeat' split
  all_goals simp (maxDischargeDepth := 60) +contextual [*]

@[simp] theorem execRemoteRegisterReadDone_goes {t rq addr t0 : Nat} (h₀ : Kept μ s₀ (atTime t s)) (hm : 4294967364 ||| μ = μ := by rfl) :
    Goes (execRemoteRegisterReadDone t rq addr t0 s) (Kept μ s₀) := by
  refine goes_lift h₀ hm ?_
  clear h₀ hm
  unfold execRemoteRegisterReadDone; repeat' split
  all_goals simp (maxDischargeDepth := 60) +contextual [*]

end Sys2Proof.Machine
end

