-- ==== Sys2Proof/Laws/KeptDictionary.lean ====
section
/-! SUPPORT. What the functions of Machine/Dictionary.lean leave as it was. -/

namespace Sys2Proof.Machine

set_option Elab.async false

variable {μ : Nat} {s₀ s : State}

@[simp] theorem fieldsWrite_kept {v : Nat} (l : List (Nat × Nat × Nat)) (h₀ : Kept μ s₀ s) (hm : 17133731807 ||| μ = μ := by rfl) :
    Kept μ s₀ (fieldsWrite v l s).2 := by
  induction l generalizing s with
  | nil => exact h₀
  | cons q qs ih =>
    obtain ⟨a, hi, lo⟩ := q
    exact kept_ite_snd (fun _ => ih (fieldWrite_kept h₀ (or_sub rfl hm))) (fun _ => busError_kept h₀ (or_sub rfl hm))

@[simp] theorem restoreFields_kept {w : Nat} (h₀ : Kept μ s₀ s) (hm : 17133731807 ||| μ = μ := by rfl) :
    Kept μ s₀ (restoreFields w s) := by
  refine kept_lift h₀ hm ?_
  clear h₀ hm
  unfold restoreFields; simp (maxDischargeDepth := 60) +contextual

@[simp] theorem objBytes_kept {d : ObjDef} {n : Nat} (h₀ : Kept μ s₀ s) (hm : 4294967296 ||| μ = μ := by rfl) :
    Kept μ s₀ (objBytes d n s).2 := by
  refine kept_lift h₀ hm ?_
  clear h₀ hm
  unfold objBytes; repeat' split
  all_goals simp (maxDischargeDepth := 60) +contextual [*]

@[simp] theorem candidateSet_kept {old new : Nat} (h₀ : Kept μ s₀ s) (hm : 8590197534 ||| μ = μ := by rfl) :
    Kept μ s₀ (candidateSet old new s) := by
  refine kept_lift h₀ hm ?_
  clear h₀ hm
  unfold candidateSet; repeat' split
  all_goals simp (maxDischargeDepth := 60) +contextual [*]

@[simp] theorem configChange_kept {s1 : State} (h₀ : Kept μ s₀ s) (hm : 83886108 ||| μ = μ := by rfl) :
    Kept μ s₀ (configChange s1 s) := by
  refine kept_lift h₀ hm ?_
  clear h₀ hm
  unfold configChange; extract_lets ends s2 s3 s4 b
  have h2 : Kept 83886108 s s2 := eachWing_kept (fun w u hu => kept_foldl (fun v i hv => dramWrite_kept hv) hu) (kept_refl s)
  have h3 : Kept 83886108 s s3 := kept_foldl (fun u e hu => closeReady_kept hu) (kept_mk h2 (Nat.le_refl _))
  have h4 : Kept 83886108 s s4 := objPut_kept (kept_mk h3 (Nat.le_refl _))
  exact eachWing_kept (fun w u hu => sealConfig_kept hu) (auditMod_kept h4)

@[simp] theorem setEffect_kept {n old : Nat} (h₀ : Kept μ s₀ s) (hm : 8674085662 ||| μ = μ := by rfl) :
    Kept μ s₀ (setEffect n old s) := by
  refine kept_lift h₀ hm ?_
  clear h₀ hm
  have h₀ := kept_refl (m := 8674085662) s
  unfold setEffect
  refine kept_ite (fun _ => kept_mk h₀ (Nat.le_refl _)) (fun _ => kept_ite (fun _ => candidateSet_kept h₀) (fun _ => kept_ite
    (fun _ => candidateHold_kept h₀) (fun _ => kept_ite (fun _ => configChange_kept h₀) (fun _ => kept_ite
      (fun _ => auditSpan_kept h₀) (fun _ => kept_ite (fun _ => regPutF_kept h₀) (fun _ => h₀))))))

@[simp] theorem setKept_kept {d : ObjDef} {n : Nat} {val : Bytes} (h₀ : Kept μ s₀ s) (hm : 17133731839 ||| μ = μ := by rfl) :
    Kept μ s₀ (setKept d n val s).2.2 := by
  refine kept_lift h₀ hm ?_
  clear h₀ hm
  have h₀ := kept_refl (m := 17133731839) s
  unfold setKept; extract_lets old s1 r
  have hr : Kept 17133731839 s r.2 := fieldsWrite_kept _ (commitOne_kept (objKeep_kept h₀))
  exact kept_ite_body (fun _ => setEffect_kept hr) (fun _ => hr)

@[simp] theorem setEntry_kept {n : Nat} {val : Bytes} (h₀ : Kept μ s₀ s) (hm : 10220352414 ||| μ = μ := by rfl) :
    Kept μ s₀ (setEntry n val s).2.2 := by
  refine kept_lift h₀ hm ?_
  clear h₀ hm
  unfold setEntry; simp (maxDischargeDepth := 60) +contextual

@[simp] theorem optWrite_kept {ww : Nat} {v : Word} (h₀ : Kept μ s₀ s) (hm : 134283264 ||| μ = μ := by rfl) :
    Kept μ s₀ (optWrite ww v s) := by
  refine kept_lift h₀ hm ?_
  clear h₀ hm
  unfold optWrite; simp (maxDischargeDepth := 60) +contextual

@[simp] theorem optAfter_kept {ww : Nat} {v : Word} {hold : Bool} {c : Bool × State} (hc : Kept μ s₀ c.2) (hm : 134283264 ||| μ = μ := by rfl) :
    Kept μ s₀ (optAfter ww v hold c).2.2 := by
  unfold optAfter; exact kept_ite_body (fun _ => hc) (fun _ => checked_kept (fun u hu => optWrite_kept hu hm) hc)

@[simp] theorem optSet_kept {ww : Nat} {v : Word} (h₀ : Kept μ s₀ s) (hm : 8724218646 ||| μ = μ := by rfl) :
    Kept μ s₀ (optSet ww v s).2.2 := by
  refine kept_lift h₀ hm ?_
  clear h₀ hm
  have h₀ := kept_refl (m := 8724218646) s
  exact optAfter_kept (energyCheck_kept h₀)

@[simp] theorem setBody_kept {d : ObjDef} {n : Nat} {val : Bytes} (h₀ : Kept μ s₀ s) (hm : 17133731839 ||| μ = μ := by rfl) :
    Kept μ s₀ (setBody d n val s).2.2 := by
  refine kept_lift h₀ hm ?_
  clear h₀ hm
  unfold setBody; simp (maxDischargeDepth := 60) +contextual

end Sys2Proof.Machine
end

