-- ==== Sys2Proof/Laws/KeptEmp.lean ====
section
/-! SUPPORT. What the functions of Machine/Emp.lean leave as it was. -/

namespace Sys2Proof.Machine

set_option Elab.async false

variable {μ : Nat} {s₀ s : State}

@[simp] theorem execDtlsHandshake_goes {t iface source : Nat} {chain : ClientChain} (h₀ : Kept μ s₀ (atTime t s)) (hm : 8589968150 ||| μ = μ := by rfl) :
    Goes (execDtlsHandshake t iface source chain s) (Kept μ s₀) := by
  refine goes_lift h₀ hm ?_
  clear h₀ hm
  unfold execDtlsHandshake; simp (maxDischargeDepth := 60) +contextual 

@[simp] theorem sessionDrop_kept {n : Nat} (h₀ : Kept μ s₀ s) (hm : 32768 ||| μ = μ := by rfl) :
    Kept μ s₀ (sessionDrop n s) := by
  refine kept_lift h₀ hm ?_
  clear h₀ hm
  unfold sessionDrop; simp (maxDischargeDepth := 60) +contextual

@[simp] theorem execSessionEnd_goes {t n why : Nat} (h₀ : Kept μ s₀ (atTime t s)) (hm : 8589968150 ||| μ = μ := by rfl) :
    Goes (execSessionEnd t n why s) (Kept μ s₀) := by
  refine goes_lift h₀ hm ?_
  clear h₀ hm
  unfold execSessionEnd; simp (maxDischargeDepth := 60) +contextual 

@[simp] theorem getBody_kept {d : ObjDef} {n : Nat} (h₀ : Kept μ s₀ s) (hm : 4294967300 ||| μ = μ := by rfl) :
    Kept μ s₀ (getBody d n s).2.2 := by
  refine kept_lift h₀ hm ?_
  clear h₀ hm
  unfold getBody; simp (maxDischargeDepth := 60) +contextual

@[simp] theorem execGetObj_goes {t : Nat} {via : Via} {obj : Nat} (h₀ : Kept μ s₀ (atTime t s)) (hm : 12885000718 ||| μ = μ := by rfl) :
    Goes (execGetObj t via obj s) (Kept μ s₀) := by
  refine goes_lift h₀ hm ?_
  clear h₀ hm
  unfold execGetObj; dsimp only; repeat' split
  all_goals simp (maxDischargeDepth := 60) +contextual [*]

@[simp] theorem setServe_kept {via : Via} {d : ObjDef} {n : Nat} {val : Bytes} (h₀ : Kept μ s₀ s) (hm : 17133731839 ||| μ = μ := by rfl) :
    Kept μ s₀ (setServe via d n val s).2.2 := by
  refine kept_lift h₀ hm ?_
  clear h₀ hm
  unfold setServe; simp (maxDischargeDepth := 60) +contextual

@[simp] theorem execSetObj_goes {t : Nat} {via : Via} {obj : Nat} {val : Bytes} (h₀ : Kept μ s₀ (atTime t s)) (hm : 17133731839 ||| μ = μ := by rfl) :
    Goes (execSetObj t via obj val s) (Kept μ s₀) := by
  refine goes_lift h₀ hm ?_
  clear h₀ hm
  unfold execSetObj; dsimp only; repeat' split
  all_goals simp (maxDischargeDepth := 60) +contextual [*]

@[simp] theorem execUnreachable_goes {t : Nat} {via : Via} {obj : Nat} (h₀ : Kept μ s₀ (atTime t s)) (hm : 17133731839 ||| μ = μ := by rfl) :
    Goes (execUnreachable t via obj s) (Kept μ s₀) := by
  refine goes_lift h₀ hm ?_
  clear h₀ hm
  unfold execUnreachable; dsimp only; repeat' split
  all_goals simp (maxDischargeDepth := 60) +contextual [*]

@[simp] theorem subMake_kept {n obj : Nat} {d : Option ObjDef} {b : Bytes} (h₀ : Kept μ s₀ s) (hm : 32768 ||| μ = μ := by rfl) :
    Kept μ s₀ (subMake n obj d b s).2.2 := by
  refine kept_lift h₀ hm ?_
  clear h₀ hm
  unfold subMake; simp (maxDischargeDepth := 60) +contextual

@[simp] theorem execSubscribe_goes {t n obj : Nat} {body : Bytes} (h₀ : Kept μ s₀ (atTime t s)) (hm : 8590033422 ||| μ = μ := by rfl) :
    Goes (execSubscribe t n obj body s) (Kept μ s₀) := by
  refine goes_lift h₀ hm ?_
  clear h₀ hm
  unfold execSubscribe; simp (maxDischargeDepth := 60) +contextual 

@[simp] theorem execUnsubscribe_goes {t n sub : Nat} (h₀ : Kept μ s₀ (atTime t s)) (hm : 8590033422 ||| μ = μ := by rfl) :
    Goes (execUnsubscribe t n sub s) (Kept μ s₀) := by
  refine goes_lift h₀ hm ?_
  clear h₀ hm
  unfold execUnsubscribe; simp (maxDischargeDepth := 60) +contextual 

@[simp] theorem notifyLost_kept {n k : Nat} (h₀ : Kept μ s₀ s) (hm : 8589968150 ||| μ = μ := by rfl) :
    Kept μ s₀ (notifyLost n k s) := by
  refine kept_lift h₀ hm ?_
  clear h₀ hm
  unfold notifyLost; simp (maxDischargeDepth := 60) +contextual

@[simp] theorem notifyQueue_kept {n : Nat} {l : List Notif} (h₀ : Kept μ s₀ s) (hm : 8589968150 ||| μ = μ := by rfl) :
    Kept μ s₀ (notifyQueue n l s) := by
  refine kept_lift h₀ hm ?_
  clear h₀ hm
  unfold notifyQueue; simp (maxDischargeDepth := 60) +contextual

@[simp] theorem notifySend_kept {n : Nat} (h₀ : Kept μ s₀ s) (hm : 32768 ||| μ = μ := by rfl) :
    Kept μ s₀ (notifySend n s) := by
  refine kept_lift h₀ hm ?_
  clear h₀ hm
  unfold notifySend; dsimp only; repeat' split
  all_goals simp (maxDischargeDepth := 60) +contextual [*]

@[simp] theorem execNotify_goes {t n : Nat} (h₀ : Kept μ s₀ (atTime t s)) (hm : 8589968150 ||| μ = μ := by rfl) :
    Goes (execNotify t n s) (Kept μ s₀) := by
  refine goes_lift h₀ hm ?_
  clear h₀ hm
  unfold execNotify; simp (maxDischargeDepth := 60) +contextual 

@[simp] theorem execAck_goes {t n seq : Nat} (h₀ : Kept μ s₀ (atTime t s)) (hm : 32768 ||| μ = μ := by rfl) :
    Goes (execAck t n seq s) (Kept μ s₀) := by
  refine goes_lift h₀ hm ?_
  clear h₀ hm
  unfold execAck; simp (maxDischargeDepth := 60) +contextual 

@[simp] theorem execNotifyRetransmit_goes {t n seq : Nat} (h₀ : Kept μ s₀ (atTime t s)) (hm : 8589968150 ||| μ = μ := by rfl) :
    Goes (execNotifyRetransmit t n seq s) (Kept μ s₀) := by
  refine goes_lift h₀ hm ?_
  clear h₀ hm
  unfold execNotifyRetransmit; dsimp only; repeat' split
  all_goals simp (maxDischargeDepth := 60) +contextual [*]

end Sys2Proof.Machine
end

