-- ==== Sys2Proof/Laws/KeptPower.lean ====
section
/-! SUPPORT. What the functions of Machine/Power.lean leave as it was. -/

namespace Sys2Proof.Machine

set_option Elab.async false

variable {μ : Nat} {s₀ s : State}

@[simp] theorem loseLog_kept {w : Nat} (h₀ : Kept μ s₀ s) (hm : 134217984 ||| μ = μ := by rfl) :
    Kept μ s₀ (loseLog w s) := by
  refine kept_lift h₀ hm ?_
  clear h₀ hm
  unfold loseLog; simp (maxDischargeDepth := 60) +contextual

@[simp] theorem keepLost_kept (h₀ : Kept μ s₀ s) (hm : 16 ||| μ = μ := by rfl) :
    Kept μ s₀ (keepLost s) := by
  refine kept_lift h₀ hm ?_
  clear h₀ hm
  unfold keepLost; simp (maxDischargeDepth := 60) +contextual

@[simp] theorem execRailTrip_goes {t rail : Nat} (h₀ : Kept μ s₀ (atTime t s)) (hm : 17133731806 ||| μ = μ := by rfl) :
    Goes (execRailTrip t rail s) (Kept μ s₀) := by
  refine goes_lift h₀ hm ?_
  clear h₀ hm
  unfold execRailTrip; simp (maxDischargeDepth := 60) +contextual 

@[simp] theorem execWingRailsInRange_goes {t : Nat} (h₀ : Kept μ s₀ (atTime t s)) (hm : 134217728 ||| μ = μ := by rfl) :
    Goes (execWingRailsInRange t s) (Kept μ s₀) := by
  refine goes_lift h₀ hm ?_
  clear h₀ hm
  unfold execWingRailsInRange; simp (maxDischargeDepth := 60) +contextual 

@[simp] theorem execVanaTrip_goes {t : Nat} (h₀ : Kept μ s₀ (atTime t s)) (hm : 76312 ||| μ = μ := by rfl) :
    Goes (execVanaTrip t s) (Kept μ s₀) := by
  refine goes_lift h₀ hm ?_
  clear h₀ hm
  unfold execVanaTrip; simp (maxDischargeDepth := 60) +contextual 

@[simp] theorem execVanaReturn_goes {t : Nat} (h₀ : Kept μ s₀ (atTime t s)) (hm : 65536 ||| μ = μ := by rfl) :
    Goes (execVanaReturn t s) (Kept μ s₀) := by
  refine goes_lift h₀ hm ?_
  clear h₀ hm
  unfold execVanaReturn; simp (maxDischargeDepth := 60) +contextual 

@[simp] theorem execStrongroomPowerLost_goes {t : Nat} (h₀ : Kept μ s₀ (atTime t s)) (hm : 8590011230 ||| μ = μ := by rfl) :
    Goes (execStrongroomPowerLost t s) (Kept μ s₀) := by
  refine goes_lift h₀ hm ?_
  clear h₀ hm
  unfold execStrongroomPowerLost; simp (maxDischargeDepth := 60) +contextual 

@[simp] theorem execPowerFailDeclared_goes {t since : Nat} (h₀ : Kept μ s₀ (atTime t s)) (hm : 8726649631 ||| μ = μ := by rfl) :
    Goes (execPowerFailDeclared t since s) (Kept μ s₀) := by
  refine goes_lift h₀ hm ?_
  clear h₀ hm
  unfold execPowerFailDeclared; simp (maxDischargeDepth := 60) +contextual 

@[simp] theorem execGraceEnd_goes {t : Nat} (h₀ : Kept μ s₀ (atTime t s)) (hm : 151126150 ||| μ = μ := by rfl) :
    Goes (execGraceEnd t s) (Kept μ s₀) := by
  refine goes_lift h₀ hm ?_
  clear h₀ hm
  unfold execGraceEnd; dsimp only; repeat' split
  all_goals simp (maxDischargeDepth := 60) +contextual [*]

@[simp] theorem quietDone_kept (h₀ : Kept μ s₀ s) (hm : 17133731806 ||| μ = μ := by rfl) :
    Kept μ s₀ (quietDone s) := by
  refine kept_lift h₀ hm ?_
  clear h₀ hm
  unfold quietDone; dsimp only; repeat' split
  all_goals simp (maxDischargeDepth := 60) +contextual [*]

@[simp] theorem wingQuiet_kept {w : Nat} (h₀ : Kept μ s₀ s) (hm : 17133731806 ||| μ = μ := by rfl) :
    Kept μ s₀ (wingQuiet w s) := by
  refine kept_lift h₀ hm ?_
  clear h₀ hm
  unfold wingQuiet; simp (maxDischargeDepth := 60) +contextual

@[simp] theorem failFlushStart_kept {w : Nat} (h₀ : Kept μ s₀ s) (hm : 17133731806 ||| μ = μ := by rfl) :
    Kept μ s₀ (failFlushStart w s) := by
  refine kept_lift h₀ hm ?_
  clear h₀ hm
  unfold failFlushStart; simp (maxDischargeDepth := 60) +contextual

@[simp] theorem execPowerFailFlush_goes {t w : Nat} (h₀ : Kept μ s₀ (atTime t s)) (hm : 17133731806 ||| μ = μ := by rfl) :
    Goes (execPowerFailFlush t w s) (Kept μ s₀) := by
  refine goes_lift h₀ hm ?_
  clear h₀ hm
  unfold execPowerFailFlush; dsimp only; repeat' split
  all_goals simp (maxDischargeDepth := 60) +contextual [*]

@[simp] theorem execPowerFailRecovery_goes {t since : Nat} (h₀ : Kept μ s₀ (atTime t s)) (hm : 17133731806 ||| μ = μ := by rfl) :
    Goes (execPowerFailRecovery t since s) (Kept μ s₀) := by
  refine goes_lift h₀ hm ?_
  clear h₀ hm
  unfold execPowerFailRecovery; simp (maxDischargeDepth := 60) +contextual 

@[simp] theorem execHoldupPublish_goes {t mv : Nat} (h₀ : Kept μ s₀ (atTime t s)) (hm : 8724153110 ||| μ = μ := by rfl) :
    Goes (execHoldupPublish t mv s) (Kept μ s₀) := by
  refine goes_lift h₀ hm ?_
  clear h₀ hm
  unfold execHoldupPublish; dsimp only; repeat' split
  all_goals simp (maxDischargeDepth := 60) +contextual [*]

@[simp] theorem execWarm_goes {t w : Nat} (h₀ : Kept μ s₀ (atTime t s)) (hm : 17133731806 ||| μ = μ := by rfl) :
    Goes (execWarm t w s) (Kept μ s₀) := by
  refine goes_lift h₀ hm ?_
  clear h₀ hm
  unfold execWarm; simp (maxDischargeDepth := 60) +contextual 

@[simp] theorem execCold_goes {t w : Nat} (h₀ : Kept μ s₀ (atTime t s)) (hm : 17133731806 ||| μ = μ := by rfl) :
    Goes (execCold t w s) (Kept μ s₀) := by
  refine goes_lift h₀ hm ?_
  clear h₀ hm
  unfold execCold; simp (maxDischargeDepth := 60) +contextual 

@[simp] theorem execResetThePart_goes {t : Nat} {via : Via} {kind : Nat} (h₀ : Kept μ s₀ (atTime t s)) (hm : 17133731806 ||| μ = μ := by rfl) :
    Goes (execResetThePart t via kind s) (Kept μ s₀) := by
  refine goes_lift h₀ hm ?_
  clear h₀ hm
  unfold execResetThePart; simp (maxDischargeDepth := 60) +contextual 

@[simp] theorem execRstnLow_goes {t release : Nat} (h₀ : Kept μ s₀ (atTime t s)) (hm : 17133731806 ||| μ = μ := by rfl) :
    Goes (execRstnLow t release s) (Kept μ s₀) := by
  refine goes_lift h₀ hm ?_
  clear h₀ hm
  unfold execRstnLow; simp (maxDischargeDepth := 60) +contextual 

@[simp] theorem execPorterWatchdog_goes {t w : Nat} (h₀ : Kept μ s₀ (atTime t s)) (hm : 17133731806 ||| μ = μ := by rfl) :
    Goes (execPorterWatchdog t w s) (Kept μ s₀) := by
  refine goes_lift h₀ hm ?_
  clear h₀ hm
  unfold execPorterWatchdog; simp (maxDischargeDepth := 60) +contextual 

@[simp] theorem execThermalTrip_goes {t : Nat} (h₀ : Kept μ s₀ (atTime t s)) (hm : 8726647582 ||| μ = μ := by rfl) :
    Goes (execThermalTrip t s) (Kept μ s₀) := by
  refine goes_lift h₀ hm ?_
  clear h₀ hm
  unfold execThermalTrip; simp (maxDischargeDepth := 60) +contextual 

@[simp] theorem execJunctionBelowRecover_goes {t : Nat} (h₀ : Kept μ s₀ (atTime t s)) (hm : 134217728 ||| μ = μ := by rfl) :
    Goes (execJunctionBelowRecover t s) (Kept μ s₀) := by
  refine goes_lift h₀ hm ?_
  clear h₀ hm
  unfold execJunctionBelowRecover; simp (maxDischargeDepth := 60) +contextual 

@[simp] theorem execQuiesceEnd_goes {t : Nat} (h₀ : Kept μ s₀ (atTime t s)) (hm : 17133731806 ||| μ = μ := by rfl) :
    Goes (execQuiesceEnd t s) (Kept μ s₀) := by
  refine goes_lift h₀ hm ?_
  clear h₀ hm
  unfold execQuiesceEnd; dsimp only; repeat' split
  all_goals simp (maxDischargeDepth := 60) +contextual [*]

@[simp] theorem failLockLost_kept {w : Nat} (h₀ : Kept μ s₀ s) (hm : 17133731806 ||| μ = μ := by rfl) :
    Kept μ s₀ (failLockLost w s) := by
  refine kept_lift h₀ hm ?_
  clear h₀ hm
  unfold failLockLost; repeat' split
  all_goals simp (maxDischargeDepth := 60) +contextual [*]

@[simp] theorem execPllLockLost_goes {t w pll : Nat} (h₀ : Kept μ s₀ (atTime t s)) (hm : 17133731806 ||| μ = μ := by rfl) :
    Goes (execPllLockLost t w pll s) (Kept μ s₀) := by
  refine goes_lift h₀ hm ?_
  clear h₀ hm
  unfold execPllLockLost; simp (maxDischargeDepth := 60) +contextual 

@[simp] theorem logResume_kept {w : Nat} (h₀ : Kept μ s₀ s) (hm : 8589935382 ||| μ = μ := by rfl) :
    Kept μ s₀ (logResume w s) := by
  refine kept_lift h₀ hm ?_
  clear h₀ hm
  unfold logResume; repeat' split
  all_goals simp (maxDischargeDepth := 60) +contextual [*]

@[simp] theorem enginesStart_kept {w : Nat} (h₀ : Kept μ s₀ s) (hm : 17142120415 ||| μ = μ := by rfl) :
    Kept μ s₀ (enginesStart w s) := by
  refine kept_lift h₀ hm ?_
  clear h₀ hm
  unfold enginesStart; simp (maxSteps := 1000000) (maxDischargeDepth := 60) +contextual

@[simp] theorem startComplete_kept (h₀ : Kept μ s₀ s) (hm : 10871636758 ||| μ = μ := by rfl) :
    Kept μ s₀ (startComplete s) := by
  refine kept_lift h₀ hm ?_
  clear h₀ hm
  unfold startComplete; simp (maxDischargeDepth := 60) +contextual

@[simp] theorem domainStart_kept {w k : Nat} (h₀ : Kept μ s₀ s) (hm : 17142120415 ||| μ = μ := by rfl) :
    Kept μ s₀ (domainStart w k s) := by
  refine kept_lift h₀ hm ?_
  clear h₀ hm
  unfold domainStart; simp (maxDischargeDepth := 60) +contextual

@[simp] theorem execDomainRelease_goes {t w k locked : Nat} (h₀ : Kept μ s₀ (atTime t s)) (hm : 17142120415 ||| μ = μ := by rfl) :
    Goes (execDomainRelease t w k locked s) (Kept μ s₀) := by
  refine goes_lift h₀ hm ?_
  clear h₀ hm
  unfold execDomainRelease; simp (maxDischargeDepth := 60) +contextual 

@[simp] theorem execStretchEnd_goes {t : Nat} (h₀ : Kept μ s₀ (atTime t s)) (hm : 134217728 ||| μ = μ := by rfl) :
    Goes (execStretchEnd t s) (Kept μ s₀) := by
  refine goes_lift h₀ hm ?_
  clear h₀ hm
  unfold execStretchEnd; simp (maxDischargeDepth := 60) +contextual 

@[simp] theorem execDramTrainingDone_goes {t w : Nat} {ok : Bool} {trcd taa trfc trc : Nat} (h₀ : Kept μ s₀ (atTime t s)) (hm : 8992588566 ||| μ = μ := by rfl) :
    Goes (execDramTrainingDone t w ok trcd taa trfc trc s) (Kept μ s₀) := by
  refine goes_lift h₀ hm ?_
  clear h₀ hm
  unfold execDramTrainingDone; simp (maxDischargeDepth := 60) +contextual 

@[simp] theorem shadowsWrite_kept {words : List Nat} (h₀ : Kept μ s₀ s) (hm : 2 ||| μ = μ := by rfl) :
    Kept μ s₀ (shadowsWrite words s) := by
  refine kept_lift h₀ hm ?_
  clear h₀ hm
  have h₀ := kept_refl (m := 2) s
  unfold shadowsWrite
  refine eachWing_kept (fun w u hu => kept_foldl_mem (fun v i hi hv => ?_) hu) h₀
  have hi := List.mem_range.1 hi
  exact regSet_kept hv rfl (Or.inr fun v => by simp only [porOpt, logRingCfg, regA]; omega)

@[simp] theorem optApply_kept (h₀ : Kept μ s₀ s) (hm : 8589935382 ||| μ = μ := by rfl) :
    Kept μ s₀ (optApply s) := by
  refine kept_lift h₀ hm ?_
  clear h₀ hm
  unfold optApply; repeat' split
  all_goals simp (maxDischargeDepth := 60) +contextual [*]

@[simp] theorem optLost_kept {bad : List Nat} (h₀ : Kept μ s₀ s) (hm : 134283776 ||| μ = μ := by rfl) :
    Kept μ s₀ (optLost bad s) := by
  refine kept_lift h₀ hm ?_
  clear h₀ hm
  unfold optLost; simp (maxDischargeDepth := 60) +contextual

@[simp] theorem execOptionLoad_goes {t : Nat} {bad : List Nat} (h₀ : Kept μ s₀ (atTime t s)) (hm : 8724218654 ||| μ = μ := by rfl) :
    Goes (execOptionLoad t bad s) (Kept μ s₀) := by
  refine goes_lift h₀ hm ?_
  clear h₀ hm
  unfold execOptionLoad; simp (maxDischargeDepth := 60) +contextual 

@[simp] theorem execOptionLoadNoLink_goes {t : Nat} (h₀ : Kept μ s₀ (atTime t s)) (hm : 8724153110 ||| μ = μ := by rfl) :
    Goes (execOptionLoadNoLink t s) (Kept μ s₀) := by
  refine goes_lift h₀ hm ?_
  clear h₀ hm
  unfold execOptionLoadNoLink; simp (maxDischargeDepth := 60) +contextual 

@[simp] theorem execOptionWordSet_goes {t : Nat} {via : Via} {ww : Nat} {v : Word} (h₀ : Kept μ s₀ (atTime t s)) (hm : 8724251422 ||| μ = μ := by rfl) :
    Goes (execOptionWordSet t via ww v s) (Kept μ s₀) := by
  refine goes_lift h₀ hm ?_
  clear h₀ hm
  unfold execOptionWordSet; simp (maxDischargeDepth := 60) +contextual 

@[simp] theorem execReleaseHeldPinGroups_goes {t : Nat} {via : Option Via} {w mask : Nat} (h₀ : Kept μ s₀ (atTime t s)) (hm : 8590033758 ||| μ = μ := by rfl) :
    Goes (execReleaseHeldPinGroups t via w mask s) (Kept μ s₀) := by
  refine goes_lift h₀ hm ?_
  clear h₀ hm
  unfold execReleaseHeldPinGroups; repeat' split
  all_goals simp (maxDischargeDepth := 60) +contextual [*]

@[simp] theorem execImageHashDone_goes {t : Nat} {hash : Nat} (h₀ : Kept μ s₀ (atTime t s)) (hm : 134217728 ||| μ = μ := by rfl) :
    Goes (execImageHashDone t hash s) (Kept μ s₀) := by
  refine goes_lift h₀ hm ?_
  clear h₀ hm
  unfold execImageHashDone; simp (maxDischargeDepth := 60) +contextual 

end Sys2Proof.Machine
end

