-- ==== Sys2Proof/Laws/KeptUpdate.lean ====
section
/-! SUPPORT. What the functions of Machine/Update.lean leave as it was. -/

namespace Sys2Proof.Machine

set_option Elab.async false

variable {μ : Nat} {s₀ s : State}

@[simp] theorem updServe_kept {via : Via} {n : Nat} {keeper : Bool} {f : State → Nat × Bytes × State} (hf : ∀ u, Kept μ s₀ u → Kept μ s₀ (f u).2.2) (h₀ : Kept μ s₀ s) (hm : 8590033422 ||| μ = μ := by rfl) :
    Kept μ s₀ (updServe via n keeper f s) := by
  unfold updServe; simp (maxDischargeDepth := 60) +contextual [hm, h₀, hf]

@[simp] theorem powered_kept {f : State → Nat × Bytes × State} (hf : ∀ u, Kept μ s₀ u → Kept μ s₀ (f u).2.2) (h₀ : Kept μ s₀ s) :
    Kept μ s₀ (powered f s).2.2 := by
  unfold powered; repeat' split
  all_goals simp (maxDischargeDepth := 60) +contextual [*]

@[simp] theorem imageErase_kept {n : Nat} (h₀ : Kept μ s₀ s) (hm : 67108864 ||| μ = μ := by rfl) :
    Kept μ s₀ (imageErase n s) := by
  refine kept_lift h₀ hm ?_
  clear h₀ hm
  unfold imageErase; simp (maxDischargeDepth := 60) +contextual

@[simp] theorem dropDownload_kept (h₀ : Kept μ s₀ s) (hm : 2214592512 ||| μ = μ := by rfl) :
    Kept μ s₀ (dropDownload s) := by
  refine kept_lift h₀ hm ?_
  clear h₀ hm
  unfold dropDownload; simp (maxDischargeDepth := 60) +contextual

@[simp] theorem beginBody_kept {h : Bytes} (h₀ : Kept μ s₀ s) (hm : 10804593470 ||| μ = μ := by rfl) :
    Kept μ s₀ (beginBody h s).2.2 := by
  refine kept_lift h₀ hm ?_
  clear h₀ hm
  unfold beginBody; repeat' split
  all_goals simp (maxDischargeDepth := 60) +contextual [*]

@[simp] theorem execBeginDownload_goes {t : Nat} {via : Via} {header : Bytes} (h₀ : Kept μ s₀ (atTime t s)) (hm : 10804626238 ||| μ = μ := by rfl) :
    Goes (execBeginDownload t via header s) (Kept μ s₀) := by
  refine goes_lift h₀ hm ?_
  clear h₀ hm
  unfold execBeginDownload; simp (maxDischargeDepth := 60) +contextual 

@[simp] theorem chunkQueue_kept {via : Via} {c : Nat} {data : Bytes} (h₀ : Kept μ s₀ s) (hm : 10804527894 ||| μ = μ := by rfl) :
    Kept μ s₀ (chunkQueue via c data s) := by
  refine kept_lift h₀ hm ?_
  clear h₀ hm
  unfold chunkQueue; simp (maxDischargeDepth := 60) +contextual

@[simp] theorem chunkBody_kept {st c : Nat} {data : Bytes} (h₀ : Kept μ s₀ s) (hm : 10737484606 ||| μ = μ := by rfl) :
    Kept μ s₀ (chunkBody st c data s).2.2 := by
  refine kept_lift h₀ hm ?_
  clear h₀ hm
  unfold chunkBody; simp (maxDischargeDepth := 60) +contextual

@[simp] theorem execWriteChunk_goes {t : Nat} {via : Via} {c : Nat} {data : Bytes} (h₀ : Kept μ s₀ (atTime t s)) (hm : 10804626238 ||| μ = μ := by rfl) :
    Goes (execWriteChunk t via c data s) (Kept μ s₀) := by
  refine goes_lift h₀ hm ?_
  clear h₀ hm
  unfold execWriteChunk; simp (maxDischargeDepth := 60) +contextual 

@[simp] theorem execAbandonDownload_goes {t : Nat} {via : Via} (h₀ : Kept μ s₀ (atTime t s)) (hm : 10804625966 ||| μ = μ := by rfl) :
    Goes (execAbandonDownload t via s) (Kept μ s₀) := by
  refine goes_lift h₀ hm ?_
  clear h₀ hm
  unfold execAbandonDownload; simp (maxDischargeDepth := 60) +contextual 

@[simp] theorem keeperAsked_kept {r : Nat × Nat × Nat} (h₀ : Kept μ s₀ s) (hm : 65544 ||| μ = μ := by rfl) :
    Kept μ s₀ (keeperAsked r s) := by
  refine kept_lift h₀ hm ?_
  clear h₀ hm
  unfold keeperAsked; simp (maxDischargeDepth := 60) +contextual

@[simp] theorem verifyBody_kept (h₀ : Kept μ s₀ s) (hm : 10737484574 ||| μ = μ := by rfl) :
    Kept μ s₀ (verifyBody s).2.2 := by
  refine kept_lift h₀ hm ?_
  clear h₀ hm
  unfold verifyBody; simp (maxDischargeDepth := 60) +contextual

@[simp] theorem execVerify_goes {t : Nat} {via : Via} (h₀ : Kept μ s₀ (atTime t s)) (hm : 10737517342 ||| μ = μ := by rfl) :
    Goes (execVerify t via s) (Kept μ s₀) := by
  refine goes_lift h₀ hm ?_
  clear h₀ hm
  unfold execVerify; simp (maxDischargeDepth := 60) +contextual 

@[simp] theorem execVerifyHead_goes {t : Nat} {head sig : Bytes} (h₀ : Kept μ s₀ (atTime t s)) (hm : 2147549192 ||| μ = μ := by rfl) :
    Goes (execVerifyHead t head sig s) (Kept μ s₀) := by
  refine goes_lift h₀ hm ?_
  clear h₀ hm
  unfold execVerifyHead; simp (maxDischargeDepth := 60) +contextual 

@[simp] theorem execVerifyLms_goes {t : Nat} {sig : Bytes} (h₀ : Kept μ s₀ (atTime t s)) (hm : 2147549192 ||| μ = μ := by rfl) :
    Goes (execVerifyLms t sig s) (Kept μ s₀) := by
  refine goes_lift h₀ hm ?_
  clear h₀ hm
  unfold execVerifyLms; simp (maxDischargeDepth := 60) +contextual 

@[simp] theorem execDownloadRecord_goes {t : Nat} {header : Bytes} (h₀ : Kept μ s₀ (atTime t s)) (hm : 65576 ||| μ = μ := by rfl) :
    Goes (execDownloadRecord t header s) (Kept μ s₀) := by
  refine goes_lift h₀ hm ?_
  clear h₀ hm
  unfold execDownloadRecord; simp (maxDischargeDepth := 60) +contextual 

@[simp] theorem execCounterRead_goes {t : Nat} (h₀ : Kept μ s₀ (atTime t s)) (hm : 65544 ||| μ = μ := by rfl) :
    Goes (execCounterRead t s) (Kept μ s₀) := by
  refine goes_lift h₀ hm ?_
  clear h₀ hm
  unfold execCounterRead; simp (maxDischargeDepth := 60) +contextual 

@[simp] theorem execStartTheSlotWrite_goes {t : Nat} {via : Via} (h₀ : Kept μ s₀ (atTime t s)) (hm : 10737517070 ||| μ = μ := by rfl) :
    Goes (execStartTheSlotWrite t via s) (Kept μ s₀) := by
  refine goes_lift h₀ hm ?_
  clear h₀ hm
  unfold execStartTheSlotWrite; simp (maxDischargeDepth := 60) +contextual 

@[simp] theorem slotWritten_kept {slot : Nat} (h₀ : Kept μ s₀ s) (hm : 6442450944 ||| μ = μ := by rfl) :
    Kept μ s₀ (slotWritten slot s).2 := by
  refine kept_lift h₀ hm ?_
  clear h₀ hm
  unfold slotWritten; simp (maxDischargeDepth := 60) +contextual

@[simp] theorem execSlotWriteDone_goes {t : Nat} (h₀ : Kept μ s₀ (atTime t s)) (hm : 6442450944 ||| μ = μ := by rfl) :
    Goes (execSlotWriteDone t s) (Kept μ s₀) := by
  refine goes_lift h₀ hm ?_
  clear h₀ hm
  unfold execSlotWriteDone; dsimp only; repeat' split
  all_goals simp (maxDischargeDepth := 60) +contextual [*]

@[simp] theorem activateAfter_kept {slot : Nat} {c : Bool × State} (hc : Kept μ s₀ c.2) (hm : 10737484574 ||| μ = μ := by rfl) :
    Kept μ s₀ (activateAfter slot c).2.2 := by
  refine kept_lift hc hm ?_
  clear hc hm
  obtain ⟨ok, s⟩ := c
  have hc := kept_refl (m := 10737484574) s
  unfold activateAfter
  exact kept_ite_body (fun _ => raise_kept (kept_mk (reqServed_kept (ptrCommit_kept hc)) (Nat.le_refl _))) (fun _ => hc)

@[simp] theorem activateBody_kept {slot : Nat} (h₀ : Kept μ s₀ s) (hm : 10737484574 ||| μ = μ := by rfl) :
    Kept μ s₀ (activateBody slot s).2.2 := by
  refine kept_lift h₀ hm ?_
  clear h₀ hm
  unfold activateBody; simp (maxDischargeDepth := 60) +contextual

@[simp] theorem execCommitTheActivation_goes {t : Nat} {via : Via} (h₀ : Kept μ s₀ (atTime t s)) (hm : 10737517342 ||| μ = μ := by rfl) :
    Goes (execCommitTheActivation t via s) (Kept μ s₀) := by
  refine goes_lift h₀ hm ?_
  clear h₀ hm
  unfold execCommitTheActivation; simp (maxDischargeDepth := 60) +contextual 

@[simp] theorem execActivationReset_goes {t : Nat} (h₀ : Kept μ s₀ (atTime t s)) (hm : 17133731806 ||| μ = μ := by rfl) :
    Goes (execActivationReset t s) (Kept μ s₀) := by
  refine goes_lift h₀ hm ?_
  clear h₀ hm
  unfold execActivationReset; dsimp only; repeat' split
  all_goals simp (maxDischargeDepth := 60) +contextual [*]

@[simp] theorem tokenCheck_kept (h₀ : Kept μ s₀ s) (hm : 10737419030 ||| μ = μ := by rfl) :
    Kept μ s₀ (tokenCheck s) := by
  refine kept_lift h₀ hm ?_
  clear h₀ hm
  unfold tokenCheck; simp (maxDischargeDepth := 60) +contextual

@[simp] theorem execWarmTokenCheck_goes {t : Nat} (h₀ : Kept μ s₀ (atTime t s)) (hm : 10737484574 ||| μ = μ := by rfl) :
    Goes (execWarmTokenCheck t s) (Kept μ s₀) := by
  refine goes_lift h₀ hm ?_
  clear h₀ hm
  unfold execWarmTokenCheck; simp (maxDischargeDepth := 60) +contextual 

@[simp] theorem tokenSeal_kept {slot : Nat} (h₀ : Kept μ s₀ s) (hm : 134283264 ||| μ = μ := by rfl) :
    Kept μ s₀ (tokenSeal slot s) := by
  refine kept_lift h₀ hm ?_
  clear h₀ hm
  unfold tokenSeal; simp (maxDischargeDepth := 60) +contextual

@[simp] theorem imageTake_kept {slot d : Nat} (h₀ : Kept μ s₀ s) (hm : 2281701376 ||| μ = μ := by rfl) :
    Kept μ s₀ (imageTake slot d s) := by
  refine kept_lift h₀ hm ?_
  clear h₀ hm
  unfold imageTake; simp (maxDischargeDepth := 60) +contextual

@[simp] theorem trialStep_kept (h₀ : Kept μ s₀ s) (hm : 10737484566 ||| μ = μ := by rfl) :
    Kept μ s₀ (trialStep s) := by
  refine kept_lift h₀ hm ?_
  clear h₀ hm
  unfold trialStep; simp (maxDischargeDepth := 60) +contextual

@[simp] theorem tryPrev_kept {failed : Nat} (h₀ : Kept μ s₀ s) (hm : 10871702294 ||| μ = μ := by rfl) :
    Kept μ s₀ (tryPrev failed s) := by
  refine kept_lift h₀ hm ?_
  clear h₀ hm
  unfold tryPrev; simp (maxDischargeDepth := 60) +contextual

@[simp] theorem loadActive_kept (h₀ : Kept μ s₀ s) (hm : 10871702294 ||| μ = μ := by rfl) :
    Kept μ s₀ (loadActive s) := by
  refine kept_lift h₀ hm ?_
  clear h₀ hm
  unfold loadActive; simp (maxDischargeDepth := 60) +contextual

@[simp] theorem startRead_kept {bad : List Nat} (h₀ : Kept μ s₀ s) (hm : 2147549696 ||| μ = μ := by rfl) :
    Kept μ s₀ (startRead bad s) := by
  refine kept_lift h₀ hm ?_
  clear h₀ hm
  unfold startRead; simp (maxDischargeDepth := 60) +contextual

@[simp] theorem imageStep_kept (h₀ : Kept μ s₀ s) (hm : 10871702302 ||| μ = μ := by rfl) :
    Kept μ s₀ (imageStep s) := by
  refine kept_lift h₀ hm ?_
  clear h₀ hm
  unfold imageStep; simp (maxDischargeDepth := 60) +contextual

@[simp] theorem execStart_goes {t : Nat} {slotA slotB : Bytes} {bad : List Nat} (h₀ : Kept μ s₀ (atTime t s)) (hm : 10871702302 ||| μ = μ := by rfl) :
    Goes (execStart t slotA slotB bad s) (Kept μ s₀) := by
  refine goes_lift h₀ hm ?_
  clear h₀ hm
  unfold execStart; simp (maxDischargeDepth := 60) +contextual 

@[simp] theorem execTrialTimeEnd_goes {t : Nat} (h₀ : Kept μ s₀ (atTime t s)) (hm : 17133731806 ||| μ = μ := by rfl) :
    Goes (execTrialTimeEnd t s) (Kept μ s₀) := by
  refine goes_lift h₀ hm ?_
  clear h₀ hm
  unfold execTrialTimeEnd; dsimp only; repeat' split
  all_goals simp (maxDischargeDepth := 60) +contextual [*]

@[simp] theorem confirmBody_kept {arg : Nat} (h₀ : Kept μ s₀ s) (hm : 10737484574 ||| μ = μ := by rfl) :
    Kept μ s₀ (confirmBody arg s).2.2 := by
  refine kept_lift h₀ hm ?_
  clear h₀ hm
  unfold confirmBody; simp (maxDischargeDepth := 60) +contextual

@[simp] theorem execConfirm_goes {t : Nat} {via : Via} {arg : Nat} (h₀ : Kept μ s₀ (atTime t s)) (hm : 10737517342 ||| μ = μ := by rfl) :
    Goes (execConfirm t via arg s) (Kept μ s₀) := by
  refine goes_lift h₀ hm ?_
  clear h₀ hm
  unfold execConfirm; repeat' split
  all_goals simp (maxDischargeDepth := 60) +contextual [*]

@[simp] theorem shutEnter_kept {a b : Nat} (h₀ : Kept μ s₀ s) (hm : 17133731806 ||| μ = μ := by rfl) :
    Kept μ s₀ (shutEnter a b s) := by
  refine kept_lift h₀ hm ?_
  clear h₀ hm
  unfold shutEnter; simp (maxDischargeDepth := 60) +contextual

@[simp] theorem execShuttered_goes {t : Nat} (h₀ : Kept μ s₀ (atTime t s)) (hm : 17133731806 ||| μ = μ := by rfl) :
    Goes (execShuttered t s) (Kept μ s₀) := by
  refine goes_lift h₀ hm ?_
  clear h₀ hm
  unfold execShuttered; dsimp only; repeat' split
  all_goals simp (maxDischargeDepth := 60) +contextual [*]

@[simp] theorem execEnterTheRecoveryLoader_goes {t : Nat} {via : Via} (h₀ : Kept μ s₀ (atTime t s)) (hm : 17133731806 ||| μ = μ := by rfl) :
    Goes (execEnterTheRecoveryLoader t via s) (Kept μ s₀) := by
  refine goes_lift h₀ hm ?_
  clear h₀ hm
  unfold execEnterTheRecoveryLoader; simp (maxDischargeDepth := 60) +contextual 

end Sys2Proof.Machine
end

