-- ==== Sys2Proof/Laws/KeptMram.lean ====
section
/-! SUPPORT. What the functions of Machine/Mram.lean leave as it was. -/

namespace Sys2Proof.Machine

set_option Elab.async false

variable {μ : Nat} {s₀ s : State}

@[simp] theorem wordBad_kept {rq off : Nat} (h₀ : Kept μ s₀ s) (hm : 4295033408 ||| μ = μ := by rfl) :
    Kept μ s₀ (wordBad rq off s) := by
  refine kept_lift h₀ hm ?_
  clear h₀ hm
  unfold wordBad; simp (maxDischargeDepth := 60) +contextual

@[simp] theorem execGuardRead_goes {t rq off : Nat} {ok : Bool} (h₀ : Kept μ s₀ (atTime t s)) (hm : 12884968278 ||| μ = μ := by rfl) :
    Goes (execGuardRead t rq off ok s) (Kept μ s₀) := by
  refine goes_lift h₀ hm ?_
  clear h₀ hm
  unfold execGuardRead; dsimp only; repeat' split
  all_goals simp (maxDischargeDepth := 60) +contextual [*]

@[simp] theorem execRequestResubmit_goes {t w slot : Nat} (h₀ : Kept μ s₀ (atTime t s)) (hm : 8590003039 ||| μ = μ := by rfl) :
    Goes (execRequestResubmit t w slot s) (Kept μ s₀) := by
  refine goes_lift h₀ hm ?_
  clear h₀ hm
  unfold execRequestResubmit; simp (maxDischargeDepth := 60) +contextual 

end Sys2Proof.Machine
end

