-- ==== Sys2Proof/Laws/State.lean ====
section
/-! SUPPORT. The fields each shared operation leaves as they were, one lemma per field. -/

namespace Sys2Proof.Machine

set_option Elab.async false

variable {s : State}

/-! `passTime` -/

@[simp] theorem passTime_regs {d : Nat} : (passTime d s).regs = s.regs := rfl
@[simp] theorem passTime_cnt {d : Nat} : (passTime d s).cnt = s.cnt := rfl
@[simp] theorem passTime_objs {d : Nat} : (passTime d s).objs = s.objs := rfl
@[simp] theorem passTime_octs {d : Nat} : (passTime d s).octs = s.octs := rfl
@[simp] theorem passTime_fab {d : Nat} : (passTime d s).fab = s.fab := rfl
@[simp] theorem passTime_mode {d : Nat} : (passTime d s).mode = s.mode := rfl
@[simp] theorem passTime_log {d : Nat} : (passTime d s).log = s.log := rfl
@[simp] theorem passTime_bell {d : Nat} : (passTime d s).bell = s.bell := rfl
@[simp] theorem passTime_tally {d : Nat} : (passTime d s).tally = s.tally := rfl
@[simp] theorem passTime_tt {d : Nat} : (passTime d s).tt = s.tt := rfl
@[simp] theorem passTime_cap {d : Nat} : (passTime d s).cap = s.cap := rfl
@[simp] theorem passTime_armed {d : Nat} : (passTime d s).armed = s.armed := rfl
@[simp] theorem passTime_emp {d : Nat} : (passTime d s).emp = s.emp := rfl
@[simp] theorem passTime_sr {d : Nat} : (passTime d s).sr = s.sr := rfl
@[simp] theorem passTime_air {d : Nat} : (passTime d s).air = s.air := rfl
@[simp] theorem passTime_mac {d : Nat} : (passTime d s).mac = s.mac := rfl
@[simp] theorem passTime_ptp {d : Nat} : (passTime d s).ptp = s.ptp := rfl
@[simp] theorem passTime_lease {d : Nat} : (passTime d s).lease = s.lease := rfl
@[simp] theorem passTime_ing {d : Nat} : (passTime d s).ing = s.ing := rfl
@[simp] theorem passTime_bill {d : Nat} : (passTime d s).bill = s.bill := rfl
@[simp] theorem passTime_prepay {d : Nat} : (passTime d s).prepay = s.prepay := rfl
@[simp] theorem passTime_audit {d : Nat} : (passTime d s).audit = s.audit := rfl
@[simp] theorem passTime_nand {d : Nat} : (passTime d s).nand = s.nand := rfl
@[simp] theorem passTime_store {d : Nat} : (passTime d s).store = s.store := rfl
@[simp] theorem passTime_power {d : Nat} : (passTime d s).power = s.power := rfl
@[simp] theorem passTime_ddr {d : Nat} : (passTime d s).ddr = s.ddr := rfl
@[simp] theorem passTime_lans {d : Nat} : (passTime d s).lans = s.lans := rfl
@[simp] theorem passTime_pairs {d : Nat} : (passTime d s).pairs = s.pairs := rfl
@[simp] theorem passTime_upd {d : Nat} : (passTime d s).upd = s.upd := rfl
@[simp] theorem passTime_free {d : Nat} : (passTime d s).free = s.free := rfl
@[simp] theorem passTime_clash {d : Nat} : (passTime d s).clash = s.clash := rfl
@[simp] theorem passTime_part {d : Nat} : (passTime d s).part = s.part := rfl
@[simp] theorem passTime_pending {d : Nat} : (passTime d s).pending = s.pending := rfl
@[simp] theorem passTime_dram {d : Nat} : (passTime d s).dram = s.dram := rfl

/-! `atTime` -/

@[simp] theorem atTime_regs {t : Nat} : (atTime t s).regs = s.regs := (atTime_kept (kept_refl (m := 2313) s)).same .regs rfl
@[simp] theorem atTime_cnt {t : Nat} : (atTime t s).cnt = s.cnt := (atTime_kept (kept_refl (m := 2313) s)).same .cnt rfl
@[simp] theorem atTime_objs {t : Nat} : (atTime t s).objs = s.objs := (atTime_kept (kept_refl (m := 2313) s)).same .objs rfl
@[simp] theorem atTime_octs {t : Nat} : (atTime t s).octs = s.octs := (atTime_kept (kept_refl (m := 2313) s)).same .octs rfl
@[simp] theorem atTime_fab {t : Nat} : (atTime t s).fab = s.fab := (atTime_kept (kept_refl (m := 2313) s)).same .fab rfl
@[simp] theorem atTime_mode {t : Nat} : (atTime t s).mode = s.mode := (atTime_kept (kept_refl (m := 2313) s)).same .mode rfl
@[simp] theorem atTime_bell {t : Nat} : (atTime t s).bell = s.bell := (atTime_kept (kept_refl (m := 2313) s)).same .bell rfl
@[simp] theorem atTime_tally {t : Nat} : (atTime t s).tally = s.tally := (atTime_kept (kept_refl (m := 2313) s)).same .tally rfl
@[simp] theorem atTime_tt {t : Nat} : (atTime t s).tt = s.tt := (atTime_kept (kept_refl (m := 2313) s)).same .tt rfl
@[simp] theorem atTime_cap {t : Nat} : (atTime t s).cap = s.cap := (atTime_kept (kept_refl (m := 2313) s)).same .cap rfl
@[simp] theorem atTime_armed {t : Nat} : (atTime t s).armed = s.armed := (atTime_kept (kept_refl (m := 2313) s)).same .armed rfl
@[simp] theorem atTime_emp {t : Nat} : (atTime t s).emp = s.emp := (atTime_kept (kept_refl (m := 2313) s)).same .emp rfl
@[simp] theorem atTime_sr {t : Nat} : (atTime t s).sr = s.sr := (atTime_kept (kept_refl (m := 2313) s)).same .sr rfl
@[simp] theorem atTime_air {t : Nat} : (atTime t s).air = s.air := (atTime_kept (kept_refl (m := 2313) s)).same .air rfl
@[simp] theorem atTime_mac {t : Nat} : (atTime t s).mac = s.mac := (atTime_kept (kept_refl (m := 2313) s)).same .mac rfl
@[simp] theorem atTime_ptp {t : Nat} : (atTime t s).ptp = s.ptp := (atTime_kept (kept_refl (m := 2313) s)).same .ptp rfl
@[simp] theorem atTime_lease {t : Nat} : (atTime t s).lease = s.lease := (atTime_kept (kept_refl (m := 2313) s)).same .lease rfl
@[simp] theorem atTime_ing {t : Nat} : (atTime t s).ing = s.ing := (atTime_kept (kept_refl (m := 2313) s)).same .ing rfl
@[simp] theorem atTime_bill {t : Nat} : (atTime t s).bill = s.bill := (atTime_kept (kept_refl (m := 2313) s)).same .bill rfl
@[simp] theorem atTime_prepay {t : Nat} : (atTime t s).prepay = s.prepay := (atTime_kept (kept_refl (m := 2313) s)).same .prepay rfl
@[simp] theorem atTime_audit {t : Nat} : (atTime t s).audit = s.audit := (atTime_kept (kept_refl (m := 2313) s)).same .audit rfl
@[simp] theorem atTime_nand {t : Nat} : (atTime t s).nand = s.nand := (atTime_kept (kept_refl (m := 2313) s)).same .nand rfl
@[simp] theorem atTime_store {t : Nat} : (atTime t s).store = s.store := (atTime_kept (kept_refl (m := 2313) s)).same .store rfl
@[simp] theorem atTime_power {t : Nat} : (atTime t s).power = s.power := (atTime_kept (kept_refl (m := 2313) s)).same .power rfl
@[simp] theorem atTime_ddr {t : Nat} : (atTime t s).ddr = s.ddr := (atTime_kept (kept_refl (m := 2313) s)).same .ddr rfl
@[simp] theorem atTime_lans {t : Nat} : (atTime t s).lans = s.lans := (atTime_kept (kept_refl (m := 2313) s)).same .lans rfl
@[simp] theorem atTime_pairs {t : Nat} : (atTime t s).pairs = s.pairs := (atTime_kept (kept_refl (m := 2313) s)).same .pairs rfl
@[simp] theorem atTime_upd {t : Nat} : (atTime t s).upd = s.upd := (atTime_kept (kept_refl (m := 2313) s)).same .upd rfl
@[simp] theorem atTime_free {t : Nat} : (atTime t s).free = s.free := (atTime_kept (kept_refl (m := 2313) s)).same .free rfl
@[simp] theorem atTime_clash {t : Nat} : (atTime t s).clash = s.clash := (atTime_kept (kept_refl (m := 2313) s)).same .clash rfl
@[simp] theorem atTime_part {t : Nat} : (atTime t s).part = s.part := (atTime_kept (kept_refl (m := 2313) s)).follows.part
@[simp] theorem atTime_pending {t : Nat} : (atTime t s).pending = s.pending := (atTime_kept (kept_refl (m := 2313) s)).follows.pending

/-! `modReplica` -/

@[simp] theorem modReplica_clk {w : Nat} {f : Replica → Replica} : (modReplica w f s).clk = s.clk := rfl
@[simp] theorem modReplica_regs {w : Nat} {f : Replica → Replica} : (modReplica w f s).regs = s.regs := rfl
@[simp] theorem modReplica_cnt {w : Nat} {f : Replica → Replica} : (modReplica w f s).cnt = s.cnt := rfl
@[simp] theorem modReplica_objs {w : Nat} {f : Replica → Replica} : (modReplica w f s).objs = s.objs := rfl
@[simp] theorem modReplica_octs {w : Nat} {f : Replica → Replica} : (modReplica w f s).octs = s.octs := rfl
@[simp] theorem modReplica_fab {w : Nat} {f : Replica → Replica} : (modReplica w f s).fab = s.fab := rfl
@[simp] theorem modReplica_mode {w : Nat} {f : Replica → Replica} : (modReplica w f s).mode = s.mode := rfl
@[simp] theorem modReplica_log {w : Nat} {f : Replica → Replica} : (modReplica w f s).log = s.log := rfl
@[simp] theorem modReplica_bell {w : Nat} {f : Replica → Replica} : (modReplica w f s).bell = s.bell := rfl
@[simp] theorem modReplica_tally {w : Nat} {f : Replica → Replica} : (modReplica w f s).tally = s.tally := rfl
@[simp] theorem modReplica_tt {w : Nat} {f : Replica → Replica} : (modReplica w f s).tt = s.tt := rfl
@[simp] theorem modReplica_cap {w : Nat} {f : Replica → Replica} : (modReplica w f s).cap = s.cap := rfl
@[simp] theorem modReplica_armed {w : Nat} {f : Replica → Replica} : (modReplica w f s).armed = s.armed := rfl
@[simp] theorem modReplica_emp {w : Nat} {f : Replica → Replica} : (modReplica w f s).emp = s.emp := rfl
@[simp] theorem modReplica_sr {w : Nat} {f : Replica → Replica} : (modReplica w f s).sr = s.sr := rfl
@[simp] theorem modReplica_air {w : Nat} {f : Replica → Replica} : (modReplica w f s).air = s.air := rfl
@[simp] theorem modReplica_mac {w : Nat} {f : Replica → Replica} : (modReplica w f s).mac = s.mac := rfl
@[simp] theorem modReplica_ptp {w : Nat} {f : Replica → Replica} : (modReplica w f s).ptp = s.ptp := rfl
@[simp] theorem modReplica_lease {w : Nat} {f : Replica → Replica} : (modReplica w f s).lease = s.lease := rfl
@[simp] theorem modReplica_ing {w : Nat} {f : Replica → Replica} : (modReplica w f s).ing = s.ing := rfl
@[simp] theorem modReplica_bill {w : Nat} {f : Replica → Replica} : (modReplica w f s).bill = s.bill := rfl
@[simp] theorem modReplica_prepay {w : Nat} {f : Replica → Replica} : (modReplica w f s).prepay = s.prepay := rfl
@[simp] theorem modReplica_audit {w : Nat} {f : Replica → Replica} : (modReplica w f s).audit = s.audit := rfl
@[simp] theorem modReplica_nand {w : Nat} {f : Replica → Replica} : (modReplica w f s).nand = s.nand := rfl
@[simp] theorem modReplica_store {w : Nat} {f : Replica → Replica} : (modReplica w f s).store = s.store := rfl
@[simp] theorem modReplica_power {w : Nat} {f : Replica → Replica} : (modReplica w f s).power = s.power := rfl
@[simp] theorem modReplica_ddr {w : Nat} {f : Replica → Replica} : (modReplica w f s).ddr = s.ddr := rfl
@[simp] theorem modReplica_lans {w : Nat} {f : Replica → Replica} : (modReplica w f s).lans = s.lans := rfl
@[simp] theorem modReplica_pairs {w : Nat} {f : Replica → Replica} : (modReplica w f s).pairs = s.pairs := rfl
@[simp] theorem modReplica_upd {w : Nat} {f : Replica → Replica} : (modReplica w f s).upd = s.upd := rfl
@[simp] theorem modReplica_free {w : Nat} {f : Replica → Replica} : (modReplica w f s).free = s.free := rfl
@[simp] theorem modReplica_clash {w : Nat} {f : Replica → Replica} : (modReplica w f s).clash = s.clash := rfl
@[simp] theorem modReplica_part {w : Nat} {f : Replica → Replica} : (modReplica w f s).part = s.part := rfl
@[simp] theorem modReplica_pending {w : Nat} {f : Replica → Replica} : (modReplica w f s).pending = s.pending := rfl
@[simp] theorem modReplica_dram {w : Nat} {f : Replica → Replica} : (modReplica w f s).dram = s.dram := rfl

/-! `regSet` -/

@[simp] theorem regSet_clk {a : Nat} {v : Word} : (regSet a v s).clk = s.clk := rfl
@[simp] theorem regSet_cnt {a : Nat} {v : Word} : (regSet a v s).cnt = s.cnt := rfl
@[simp] theorem regSet_objs {a : Nat} {v : Word} : (regSet a v s).objs = s.objs := rfl
@[simp] theorem regSet_octs {a : Nat} {v : Word} : (regSet a v s).octs = s.octs := rfl
@[simp] theorem regSet_fab {a : Nat} {v : Word} : (regSet a v s).fab = s.fab := rfl
@[simp] theorem regSet_mode {a : Nat} {v : Word} : (regSet a v s).mode = s.mode := rfl
@[simp] theorem regSet_log {a : Nat} {v : Word} : (regSet a v s).log = s.log := rfl
@[simp] theorem regSet_bell {a : Nat} {v : Word} : (regSet a v s).bell = s.bell := rfl
@[simp] theorem regSet_tally {a : Nat} {v : Word} : (regSet a v s).tally = s.tally := rfl
@[simp] theorem regSet_mat {a : Nat} {v : Word} : (regSet a v s).mat = s.mat := rfl
@[simp] theorem regSet_tt {a : Nat} {v : Word} : (regSet a v s).tt = s.tt := rfl
@[simp] theorem regSet_cap {a : Nat} {v : Word} : (regSet a v s).cap = s.cap := rfl
@[simp] theorem regSet_armed {a : Nat} {v : Word} : (regSet a v s).armed = s.armed := rfl
@[simp] theorem regSet_emp {a : Nat} {v : Word} : (regSet a v s).emp = s.emp := rfl
@[simp] theorem regSet_sr {a : Nat} {v : Word} : (regSet a v s).sr = s.sr := rfl
@[simp] theorem regSet_air {a : Nat} {v : Word} : (regSet a v s).air = s.air := rfl
@[simp] theorem regSet_mac {a : Nat} {v : Word} : (regSet a v s).mac = s.mac := rfl
@[simp] theorem regSet_ptp {a : Nat} {v : Word} : (regSet a v s).ptp = s.ptp := rfl
@[simp] theorem regSet_lease {a : Nat} {v : Word} : (regSet a v s).lease = s.lease := rfl
@[simp] theorem regSet_ing {a : Nat} {v : Word} : (regSet a v s).ing = s.ing := rfl
@[simp] theorem regSet_bill {a : Nat} {v : Word} : (regSet a v s).bill = s.bill := rfl
@[simp] theorem regSet_prepay {a : Nat} {v : Word} : (regSet a v s).prepay = s.prepay := rfl
@[simp] theorem regSet_audit {a : Nat} {v : Word} : (regSet a v s).audit = s.audit := rfl
@[simp] theorem regSet_nand {a : Nat} {v : Word} : (regSet a v s).nand = s.nand := rfl
@[simp] theorem regSet_store {a : Nat} {v : Word} : (regSet a v s).store = s.store := rfl
@[simp] theorem regSet_power {a : Nat} {v : Word} : (regSet a v s).power = s.power := rfl
@[simp] theorem regSet_ddr {a : Nat} {v : Word} : (regSet a v s).ddr = s.ddr := rfl
@[simp] theorem regSet_lans {a : Nat} {v : Word} : (regSet a v s).lans = s.lans := rfl
@[simp] theorem regSet_pairs {a : Nat} {v : Word} : (regSet a v s).pairs = s.pairs := rfl
@[simp] theorem regSet_upd {a : Nat} {v : Word} : (regSet a v s).upd = s.upd := rfl
@[simp] theorem regSet_free {a : Nat} {v : Word} : (regSet a v s).free = s.free := rfl
@[simp] theorem regSet_clash {a : Nat} {v : Word} : (regSet a v s).clash = s.clash := rfl
@[simp] theorem regSet_part {a : Nat} {v : Word} : (regSet a v s).part = s.part := rfl
@[simp] theorem regSet_pending {a : Nat} {v : Word} : (regSet a v s).pending = s.pending := rfl
@[simp] theorem regSet_dram {a : Nat} {v : Word} : (regSet a v s).dram = s.dram := rfl

/-! `regPutF` -/

@[simp] theorem regPutF_clk {a hi lo v : Nat} : (regPutF a hi lo v s).clk = s.clk := rfl
@[simp] theorem regPutF_cnt {a hi lo v : Nat} : (regPutF a hi lo v s).cnt = s.cnt := rfl
@[simp] theorem regPutF_objs {a hi lo v : Nat} : (regPutF a hi lo v s).objs = s.objs := rfl
@[simp] theorem regPutF_octs {a hi lo v : Nat} : (regPutF a hi lo v s).octs = s.octs := rfl
@[simp] theorem regPutF_fab {a hi lo v : Nat} : (regPutF a hi lo v s).fab = s.fab := rfl
@[simp] theorem regPutF_mode {a hi lo v : Nat} : (regPutF a hi lo v s).mode = s.mode := rfl
@[simp] theorem regPutF_log {a hi lo v : Nat} : (regPutF a hi lo v s).log = s.log := rfl
@[simp] theorem regPutF_bell {a hi lo v : Nat} : (regPutF a hi lo v s).bell = s.bell := rfl
@[simp] theorem regPutF_tally {a hi lo v : Nat} : (regPutF a hi lo v s).tally = s.tally := rfl
@[simp] theorem regPutF_mat {a hi lo v : Nat} : (regPutF a hi lo v s).mat = s.mat := rfl
@[simp] theorem regPutF_tt {a hi lo v : Nat} : (regPutF a hi lo v s).tt = s.tt := rfl
@[simp] theorem regPutF_cap {a hi lo v : Nat} : (regPutF a hi lo v s).cap = s.cap := rfl
@[simp] theorem regPutF_armed {a hi lo v : Nat} : (regPutF a hi lo v s).armed = s.armed := rfl
@[simp] theorem regPutF_emp {a hi lo v : Nat} : (regPutF a hi lo v s).emp = s.emp := rfl
@[simp] theorem regPutF_sr {a hi lo v : Nat} : (regPutF a hi lo v s).sr = s.sr := rfl
@[simp] theorem regPutF_air {a hi lo v : Nat} : (regPutF a hi lo v s).air = s.air := rfl
@[simp] theorem regPutF_mac {a hi lo v : Nat} : (regPutF a hi lo v s).mac = s.mac := rfl
@[simp] theorem regPutF_ptp {a hi lo v : Nat} : (regPutF a hi lo v s).ptp = s.ptp := rfl
@[simp] theorem regPutF_lease {a hi lo v : Nat} : (regPutF a hi lo v s).lease = s.lease := rfl
@[simp] theorem regPutF_ing {a hi lo v : Nat} : (regPutF a hi lo v s).ing = s.ing := rfl
@[simp] theorem regPutF_bill {a hi lo v : Nat} : (regPutF a hi lo v s).bill = s.bill := rfl
@[simp] theorem regPutF_prepay {a hi lo v : Nat} : (regPutF a hi lo v s).prepay = s.prepay := rfl
@[simp] theorem regPutF_audit {a hi lo v : Nat} : (regPutF a hi lo v s).audit = s.audit := rfl
@[simp] theorem regPutF_nand {a hi lo v : Nat} : (regPutF a hi lo v s).nand = s.nand := rfl
@[simp] theorem regPutF_store {a hi lo v : Nat} : (regPutF a hi lo v s).store = s.store := rfl
@[simp] theorem regPutF_power {a hi lo v : Nat} : (regPutF a hi lo v s).power = s.power := rfl
@[simp] theorem regPutF_ddr {a hi lo v : Nat} : (regPutF a hi lo v s).ddr = s.ddr := rfl
@[simp] theorem regPutF_lans {a hi lo v : Nat} : (regPutF a hi lo v s).lans = s.lans := rfl
@[simp] theorem regPutF_pairs {a hi lo v : Nat} : (regPutF a hi lo v s).pairs = s.pairs := rfl
@[simp] theorem regPutF_upd {a hi lo v : Nat} : (regPutF a hi lo v s).upd = s.upd := rfl
@[simp] theorem regPutF_free {a hi lo v : Nat} : (regPutF a hi lo v s).free = s.free := rfl
@[simp] theorem regPutF_clash {a hi lo v : Nat} : (regPutF a hi lo v s).clash = s.clash := rfl
@[simp] theorem regPutF_part {a hi lo v : Nat} : (regPutF a hi lo v s).part = s.part := rfl
@[simp] theorem regPutF_pending {a hi lo v : Nat} : (regPutF a hi lo v s).pending = s.pending := rfl
@[simp] theorem regPutF_dram {a hi lo v : Nat} : (regPutF a hi lo v s).dram = s.dram := rfl

/-! `markSet` -/

@[simp] theorem markSet_clk {a b : Nat} : (markSet a b s).clk = s.clk := rfl
@[simp] theorem markSet_regs {a b : Nat} : (markSet a b s).regs = s.regs := rfl
@[simp] theorem markSet_cnt {a b : Nat} : (markSet a b s).cnt = s.cnt := rfl
@[simp] theorem markSet_objs {a b : Nat} : (markSet a b s).objs = s.objs := rfl
@[simp] theorem markSet_octs {a b : Nat} : (markSet a b s).octs = s.octs := rfl
@[simp] theorem markSet_fab {a b : Nat} : (markSet a b s).fab = s.fab := rfl
@[simp] theorem markSet_mode {a b : Nat} : (markSet a b s).mode = s.mode := rfl
@[simp] theorem markSet_log {a b : Nat} : (markSet a b s).log = s.log := rfl
@[simp] theorem markSet_bell {a b : Nat} : (markSet a b s).bell = s.bell := rfl
@[simp] theorem markSet_tally {a b : Nat} : (markSet a b s).tally = s.tally := rfl
@[simp] theorem markSet_mat {a b : Nat} : (markSet a b s).mat = s.mat := rfl
@[simp] theorem markSet_tt {a b : Nat} : (markSet a b s).tt = s.tt := rfl
@[simp] theorem markSet_cap {a b : Nat} : (markSet a b s).cap = s.cap := rfl
@[simp] theorem markSet_armed {a b : Nat} : (markSet a b s).armed = s.armed := rfl
@[simp] theorem markSet_emp {a b : Nat} : (markSet a b s).emp = s.emp := rfl
@[simp] theorem markSet_sr {a b : Nat} : (markSet a b s).sr = s.sr := rfl
@[simp] theorem markSet_air {a b : Nat} : (markSet a b s).air = s.air := rfl
@[simp] theorem markSet_mac {a b : Nat} : (markSet a b s).mac = s.mac := rfl
@[simp] theorem markSet_ptp {a b : Nat} : (markSet a b s).ptp = s.ptp := rfl
@[simp] theorem markSet_lease {a b : Nat} : (markSet a b s).lease = s.lease := rfl
@[simp] theorem markSet_ing {a b : Nat} : (markSet a b s).ing = s.ing := rfl
@[simp] theorem markSet_bill {a b : Nat} : (markSet a b s).bill = s.bill := rfl
@[simp] theorem markSet_prepay {a b : Nat} : (markSet a b s).prepay = s.prepay := rfl
@[simp] theorem markSet_audit {a b : Nat} : (markSet a b s).audit = s.audit := rfl
@[simp] theorem markSet_nand {a b : Nat} : (markSet a b s).nand = s.nand := rfl
@[simp] theorem markSet_store {a b : Nat} : (markSet a b s).store = s.store := rfl
@[simp] theorem markSet_power {a b : Nat} : (markSet a b s).power = s.power := rfl
@[simp] theorem markSet_ddr {a b : Nat} : (markSet a b s).ddr = s.ddr := rfl
@[simp] theorem markSet_lans {a b : Nat} : (markSet a b s).lans = s.lans := rfl
@[simp] theorem markSet_pairs {a b : Nat} : (markSet a b s).pairs = s.pairs := rfl
@[simp] theorem markSet_upd {a b : Nat} : (markSet a b s).upd = s.upd := rfl
@[simp] theorem markSet_free {a b : Nat} : (markSet a b s).free = s.free := rfl
@[simp] theorem markSet_part {a b : Nat} : (markSet a b s).part = s.part := rfl
@[simp] theorem markSet_pending {a b : Nat} : (markSet a b s).pending = s.pending := rfl
@[simp] theorem markSet_dram {a b : Nat} : (markSet a b s).dram = s.dram := rfl

/-! `cntSet` -/

@[simp] theorem cntSet_clk {w n v : Nat} : (cntSet w n v s).clk = s.clk := rfl
@[simp] theorem cntSet_regs {w n v : Nat} : (cntSet w n v s).regs = s.regs := rfl
@[simp] theorem cntSet_objs {w n v : Nat} : (cntSet w n v s).objs = s.objs := rfl
@[simp] theorem cntSet_octs {w n v : Nat} : (cntSet w n v s).octs = s.octs := rfl
@[simp] theorem cntSet_fab {w n v : Nat} : (cntSet w n v s).fab = s.fab := rfl
@[simp] theorem cntSet_mode {w n v : Nat} : (cntSet w n v s).mode = s.mode := rfl
@[simp] theorem cntSet_log {w n v : Nat} : (cntSet w n v s).log = s.log := rfl
@[simp] theorem cntSet_bell {w n v : Nat} : (cntSet w n v s).bell = s.bell := rfl
@[simp] theorem cntSet_tally {w n v : Nat} : (cntSet w n v s).tally = s.tally := rfl
@[simp] theorem cntSet_mat {w n v : Nat} : (cntSet w n v s).mat = s.mat := rfl
@[simp] theorem cntSet_tt {w n v : Nat} : (cntSet w n v s).tt = s.tt := rfl
@[simp] theorem cntSet_cap {w n v : Nat} : (cntSet w n v s).cap = s.cap := rfl
@[simp] theorem cntSet_armed {w n v : Nat} : (cntSet w n v s).armed = s.armed := rfl
@[simp] theorem cntSet_emp {w n v : Nat} : (cntSet w n v s).emp = s.emp := rfl
@[simp] theorem cntSet_sr {w n v : Nat} : (cntSet w n v s).sr = s.sr := rfl
@[simp] theorem cntSet_air {w n v : Nat} : (cntSet w n v s).air = s.air := rfl
@[simp] theorem cntSet_mac {w n v : Nat} : (cntSet w n v s).mac = s.mac := rfl
@[simp] theorem cntSet_ptp {w n v : Nat} : (cntSet w n v s).ptp = s.ptp := rfl
@[simp] theorem cntSet_lease {w n v : Nat} : (cntSet w n v s).lease = s.lease := rfl
@[simp] theorem cntSet_ing {w n v : Nat} : (cntSet w n v s).ing = s.ing := rfl
@[simp] theorem cntSet_bill {w n v : Nat} : (cntSet w n v s).bill = s.bill := rfl
@[simp] theorem cntSet_prepay {w n v : Nat} : (cntSet w n v s).prepay = s.prepay := rfl
@[simp] theorem cntSet_audit {w n v : Nat} : (cntSet w n v s).audit = s.audit := rfl
@[simp] theorem cntSet_nand {w n v : Nat} : (cntSet w n v s).nand = s.nand := rfl
@[simp] theorem cntSet_store {w n v : Nat} : (cntSet w n v s).store = s.store := rfl
@[simp] theorem cntSet_power {w n v : Nat} : (cntSet w n v s).power = s.power := rfl
@[simp] theorem cntSet_ddr {w n v : Nat} : (cntSet w n v s).ddr = s.ddr := rfl
@[simp] theorem cntSet_lans {w n v : Nat} : (cntSet w n v s).lans = s.lans := rfl
@[simp] theorem cntSet_pairs {w n v : Nat} : (cntSet w n v s).pairs = s.pairs := rfl
@[simp] theorem cntSet_upd {w n v : Nat} : (cntSet w n v s).upd = s.upd := rfl
@[simp] theorem cntSet_free {w n v : Nat} : (cntSet w n v s).free = s.free := rfl
@[simp] theorem cntSet_clash {w n v : Nat} : (cntSet w n v s).clash = s.clash := rfl
@[simp] theorem cntSet_part {w n v : Nat} : (cntSet w n v s).part = s.part := rfl
@[simp] theorem cntSet_pending {w n v : Nat} : (cntSet w n v s).pending = s.pending := rfl
@[simp] theorem cntSet_dram {w n v : Nat} : (cntSet w n v s).dram = s.dram := rfl

/-! `countBy` -/

@[simp] theorem countBy_clk {w n k : Nat} : (countBy w n k s).clk = s.clk := rfl
@[simp] theorem countBy_regs {w n k : Nat} : (countBy w n k s).regs = s.regs := rfl
@[simp] theorem countBy_objs {w n k : Nat} : (countBy w n k s).objs = s.objs := rfl
@[simp] theorem countBy_octs {w n k : Nat} : (countBy w n k s).octs = s.octs := rfl
@[simp] theorem countBy_fab {w n k : Nat} : (countBy w n k s).fab = s.fab := rfl
@[simp] theorem countBy_mode {w n k : Nat} : (countBy w n k s).mode = s.mode := rfl
@[simp] theorem countBy_log {w n k : Nat} : (countBy w n k s).log = s.log := rfl
@[simp] theorem countBy_bell {w n k : Nat} : (countBy w n k s).bell = s.bell := rfl
@[simp] theorem countBy_tally {w n k : Nat} : (countBy w n k s).tally = s.tally := rfl
@[simp] theorem countBy_mat {w n k : Nat} : (countBy w n k s).mat = s.mat := rfl
@[simp] theorem countBy_tt {w n k : Nat} : (countBy w n k s).tt = s.tt := rfl
@[simp] theorem countBy_cap {w n k : Nat} : (countBy w n k s).cap = s.cap := rfl
@[simp] theorem countBy_armed {w n k : Nat} : (countBy w n k s).armed = s.armed := rfl
@[simp] theorem countBy_emp {w n k : Nat} : (countBy w n k s).emp = s.emp := rfl
@[simp] theorem countBy_sr {w n k : Nat} : (countBy w n k s).sr = s.sr := rfl
@[simp] theorem countBy_air {w n k : Nat} : (countBy w n k s).air = s.air := rfl
@[simp] theorem countBy_mac {w n k : Nat} : (countBy w n k s).mac = s.mac := rfl
@[simp] theorem countBy_ptp {w n k : Nat} : (countBy w n k s).ptp = s.ptp := rfl
@[simp] theorem countBy_lease {w n k : Nat} : (countBy w n k s).lease = s.lease := rfl
@[simp] theorem countBy_ing {w n k : Nat} : (countBy w n k s).ing = s.ing := rfl
@[simp] theorem countBy_bill {w n k : Nat} : (countBy w n k s).bill = s.bill := rfl
@[simp] theorem countBy_prepay {w n k : Nat} : (countBy w n k s).prepay = s.prepay := rfl
@[simp] theorem countBy_audit {w n k : Nat} : (countBy w n k s).audit = s.audit := rfl
@[simp] theorem countBy_nand {w n k : Nat} : (countBy w n k s).nand = s.nand := rfl
@[simp] theorem countBy_store {w n k : Nat} : (countBy w n k s).store = s.store := rfl
@[simp] theorem countBy_power {w n k : Nat} : (countBy w n k s).power = s.power := rfl
@[simp] theorem countBy_ddr {w n k : Nat} : (countBy w n k s).ddr = s.ddr := rfl
@[simp] theorem countBy_lans {w n k : Nat} : (countBy w n k s).lans = s.lans := rfl
@[simp] theorem countBy_pairs {w n k : Nat} : (countBy w n k s).pairs = s.pairs := rfl
@[simp] theorem countBy_upd {w n k : Nat} : (countBy w n k s).upd = s.upd := rfl
@[simp] theorem countBy_free {w n k : Nat} : (countBy w n k s).free = s.free := rfl
@[simp] theorem countBy_clash {w n k : Nat} : (countBy w n k s).clash = s.clash := rfl
@[simp] theorem countBy_part {w n k : Nat} : (countBy w n k s).part = s.part := rfl
@[simp] theorem countBy_pending {w n k : Nat} : (countBy w n k s).pending = s.pending := rfl
@[simp] theorem countBy_dram {w n k : Nat} : (countBy w n k s).dram = s.dram := rfl

/-! `count` -/

@[simp] theorem count_clk {w n : Nat} : (count w n s).clk = s.clk := rfl
@[simp] theorem count_regs {w n : Nat} : (count w n s).regs = s.regs := rfl
@[simp] theorem count_objs {w n : Nat} : (count w n s).objs = s.objs := rfl
@[simp] theorem count_octs {w n : Nat} : (count w n s).octs = s.octs := rfl
@[simp] theorem count_fab {w n : Nat} : (count w n s).fab = s.fab := rfl
@[simp] theorem count_mode {w n : Nat} : (count w n s).mode = s.mode := rfl
@[simp] theorem count_log {w n : Nat} : (count w n s).log = s.log := rfl
@[simp] theorem count_bell {w n : Nat} : (count w n s).bell = s.bell := rfl
@[simp] theorem count_tally {w n : Nat} : (count w n s).tally = s.tally := rfl
@[simp] theorem count_mat {w n : Nat} : (count w n s).mat = s.mat := rfl
@[simp] theorem count_tt {w n : Nat} : (count w n s).tt = s.tt := rfl
@[simp] theorem count_cap {w n : Nat} : (count w n s).cap = s.cap := rfl
@[simp] theorem count_armed {w n : Nat} : (count w n s).armed = s.armed := rfl
@[simp] theorem count_emp {w n : Nat} : (count w n s).emp = s.emp := rfl
@[simp] theorem count_sr {w n : Nat} : (count w n s).sr = s.sr := rfl
@[simp] theorem count_air {w n : Nat} : (count w n s).air = s.air := rfl
@[simp] theorem count_mac {w n : Nat} : (count w n s).mac = s.mac := rfl
@[simp] theorem count_ptp {w n : Nat} : (count w n s).ptp = s.ptp := rfl
@[simp] theorem count_lease {w n : Nat} : (count w n s).lease = s.lease := rfl
@[simp] theorem count_ing {w n : Nat} : (count w n s).ing = s.ing := rfl
@[simp] theorem count_bill {w n : Nat} : (count w n s).bill = s.bill := rfl
@[simp] theorem count_prepay {w n : Nat} : (count w n s).prepay = s.prepay := rfl
@[simp] theorem count_audit {w n : Nat} : (count w n s).audit = s.audit := rfl
@[simp] theorem count_nand {w n : Nat} : (count w n s).nand = s.nand := rfl
@[simp] theorem count_store {w n : Nat} : (count w n s).store = s.store := rfl
@[simp] theorem count_power {w n : Nat} : (count w n s).power = s.power := rfl
@[simp] theorem count_ddr {w n : Nat} : (count w n s).ddr = s.ddr := rfl
@[simp] theorem count_lans {w n : Nat} : (count w n s).lans = s.lans := rfl
@[simp] theorem count_pairs {w n : Nat} : (count w n s).pairs = s.pairs := rfl
@[simp] theorem count_upd {w n : Nat} : (count w n s).upd = s.upd := rfl
@[simp] theorem count_free {w n : Nat} : (count w n s).free = s.free := rfl
@[simp] theorem count_clash {w n : Nat} : (count w n s).clash = s.clash := rfl
@[simp] theorem count_part {w n : Nat} : (count w n s).part = s.part := rfl
@[simp] theorem count_pending {w n : Nat} : (count w n s).pending = s.pending := rfl
@[simp] theorem count_dram {w n : Nat} : (count w n s).dram = s.dram := rfl

/-! `dramWrite` -/

@[simp] theorem dramWrite_clk {a : Nat} {b : Bytes} : (dramWrite a b s).clk = s.clk := rfl
@[simp] theorem dramWrite_regs {a : Nat} {b : Bytes} : (dramWrite a b s).regs = s.regs := rfl
@[simp] theorem dramWrite_cnt {a : Nat} {b : Bytes} : (dramWrite a b s).cnt = s.cnt := rfl
@[simp] theorem dramWrite_objs {a : Nat} {b : Bytes} : (dramWrite a b s).objs = s.objs := rfl
@[simp] theorem dramWrite_octs {a : Nat} {b : Bytes} : (dramWrite a b s).octs = s.octs := rfl
@[simp] theorem dramWrite_fab {a : Nat} {b : Bytes} : (dramWrite a b s).fab = s.fab := rfl
@[simp] theorem dramWrite_mode {a : Nat} {b : Bytes} : (dramWrite a b s).mode = s.mode := rfl
@[simp] theorem dramWrite_log {a : Nat} {b : Bytes} : (dramWrite a b s).log = s.log := rfl
@[simp] theorem dramWrite_bell {a : Nat} {b : Bytes} : (dramWrite a b s).bell = s.bell := rfl
@[simp] theorem dramWrite_tally {a : Nat} {b : Bytes} : (dramWrite a b s).tally = s.tally := rfl
@[simp] theorem dramWrite_mat {a : Nat} {b : Bytes} : (dramWrite a b s).mat = s.mat := rfl
@[simp] theorem dramWrite_tt {a : Nat} {b : Bytes} : (dramWrite a b s).tt = s.tt := rfl
@[simp] theorem dramWrite_cap {a : Nat} {b : Bytes} : (dramWrite a b s).cap = s.cap := rfl
@[simp] theorem dramWrite_armed {a : Nat} {b : Bytes} : (dramWrite a b s).armed = s.armed := rfl
@[simp] theorem dramWrite_emp {a : Nat} {b : Bytes} : (dramWrite a b s).emp = s.emp := rfl
@[simp] theorem dramWrite_sr {a : Nat} {b : Bytes} : (dramWrite a b s).sr = s.sr := rfl
@[simp] theorem dramWrite_air {a : Nat} {b : Bytes} : (dramWrite a b s).air = s.air := rfl
@[simp] theorem dramWrite_mac {a : Nat} {b : Bytes} : (dramWrite a b s).mac = s.mac := rfl
@[simp] theorem dramWrite_ptp {a : Nat} {b : Bytes} : (dramWrite a b s).ptp = s.ptp := rfl
@[simp] theorem dramWrite_lease {a : Nat} {b : Bytes} : (dramWrite a b s).lease = s.lease := rfl
@[simp] theorem dramWrite_ing {a : Nat} {b : Bytes} : (dramWrite a b s).ing = s.ing := rfl
@[simp] theorem dramWrite_bill {a : Nat} {b : Bytes} : (dramWrite a b s).bill = s.bill := rfl
@[simp] theorem dramWrite_prepay {a : Nat} {b : Bytes} : (dramWrite a b s).prepay = s.prepay := rfl
@[simp] theorem dramWrite_audit {a : Nat} {b : Bytes} : (dramWrite a b s).audit = s.audit := rfl
@[simp] theorem dramWrite_nand {a : Nat} {b : Bytes} : (dramWrite a b s).nand = s.nand := rfl
@[simp] theorem dramWrite_store {a : Nat} {b : Bytes} : (dramWrite a b s).store = s.store := rfl
@[simp] theorem dramWrite_power {a : Nat} {b : Bytes} : (dramWrite a b s).power = s.power := rfl
@[simp] theorem dramWrite_ddr {a : Nat} {b : Bytes} : (dramWrite a b s).ddr = s.ddr := rfl
@[simp] theorem dramWrite_lans {a : Nat} {b : Bytes} : (dramWrite a b s).lans = s.lans := rfl
@[simp] theorem dramWrite_pairs {a : Nat} {b : Bytes} : (dramWrite a b s).pairs = s.pairs := rfl
@[simp] theorem dramWrite_upd {a : Nat} {b : Bytes} : (dramWrite a b s).upd = s.upd := rfl
@[simp] theorem dramWrite_free {a : Nat} {b : Bytes} : (dramWrite a b s).free = s.free := rfl
@[simp] theorem dramWrite_clash {a : Nat} {b : Bytes} : (dramWrite a b s).clash = s.clash := rfl
@[simp] theorem dramWrite_part {a : Nat} {b : Bytes} : (dramWrite a b s).part = s.part := rfl
@[simp] theorem dramWrite_pending {a : Nat} {b : Bytes} : (dramWrite a b s).pending = s.pending := rfl

/-! `objPut` -/

@[simp] theorem objPut_clk {n v : Nat} : (objPut n v s).clk = s.clk := rfl
@[simp] theorem objPut_regs {n v : Nat} : (objPut n v s).regs = s.regs := rfl
@[simp] theorem objPut_cnt {n v : Nat} : (objPut n v s).cnt = s.cnt := rfl
@[simp] theorem objPut_octs {n v : Nat} : (objPut n v s).octs = s.octs := rfl
@[simp] theorem objPut_fab {n v : Nat} : (objPut n v s).fab = s.fab := rfl
@[simp] theorem objPut_mode {n v : Nat} : (objPut n v s).mode = s.mode := rfl
@[simp] theorem objPut_log {n v : Nat} : (objPut n v s).log = s.log := rfl
@[simp] theorem objPut_bell {n v : Nat} : (objPut n v s).bell = s.bell := rfl
@[simp] theorem objPut_tally {n v : Nat} : (objPut n v s).tally = s.tally := rfl
@[simp] theorem objPut_mat {n v : Nat} : (objPut n v s).mat = s.mat := rfl
@[simp] theorem objPut_tt {n v : Nat} : (objPut n v s).tt = s.tt := rfl
@[simp] theorem objPut_cap {n v : Nat} : (objPut n v s).cap = s.cap := rfl
@[simp] theorem objPut_armed {n v : Nat} : (objPut n v s).armed = s.armed := rfl
@[simp] theorem objPut_emp {n v : Nat} : (objPut n v s).emp = s.emp := rfl
@[simp] theorem objPut_sr {n v : Nat} : (objPut n v s).sr = s.sr := rfl
@[simp] theorem objPut_air {n v : Nat} : (objPut n v s).air = s.air := rfl
@[simp] theorem objPut_mac {n v : Nat} : (objPut n v s).mac = s.mac := rfl
@[simp] theorem objPut_ptp {n v : Nat} : (objPut n v s).ptp = s.ptp := rfl
@[simp] theorem objPut_lease {n v : Nat} : (objPut n v s).lease = s.lease := rfl
@[simp] theorem objPut_ing {n v : Nat} : (objPut n v s).ing = s.ing := rfl
@[simp] theorem objPut_bill {n v : Nat} : (objPut n v s).bill = s.bill := rfl
@[simp] theorem objPut_prepay {n v : Nat} : (objPut n v s).prepay = s.prepay := rfl
@[simp] theorem objPut_audit {n v : Nat} : (objPut n v s).audit = s.audit := rfl
@[simp] theorem objPut_nand {n v : Nat} : (objPut n v s).nand = s.nand := rfl
@[simp] theorem objPut_store {n v : Nat} : (objPut n v s).store = s.store := rfl
@[simp] theorem objPut_power {n v : Nat} : (objPut n v s).power = s.power := rfl
@[simp] theorem objPut_ddr {n v : Nat} : (objPut n v s).ddr = s.ddr := rfl
@[simp] theorem objPut_lans {n v : Nat} : (objPut n v s).lans = s.lans := rfl
@[simp] theorem objPut_pairs {n v : Nat} : (objPut n v s).pairs = s.pairs := rfl
@[simp] theorem objPut_upd {n v : Nat} : (objPut n v s).upd = s.upd := rfl
@[simp] theorem objPut_free {n v : Nat} : (objPut n v s).free = s.free := rfl
@[simp] theorem objPut_clash {n v : Nat} : (objPut n v s).clash = s.clash := rfl
@[simp] theorem objPut_part {n v : Nat} : (objPut n v s).part = s.part := rfl
@[simp] theorem objPut_pending {n v : Nat} : (objPut n v s).pending = s.pending := rfl
@[simp] theorem objPut_dram {n v : Nat} : (objPut n v s).dram = s.dram := rfl

/-! `octPut` -/

@[simp] theorem octPut_clk {n : Nat} {b : Bytes} : (octPut n b s).clk = s.clk := rfl
@[simp] theorem octPut_regs {n : Nat} {b : Bytes} : (octPut n b s).regs = s.regs := rfl
@[simp] theorem octPut_cnt {n : Nat} {b : Bytes} : (octPut n b s).cnt = s.cnt := rfl
@[simp] theorem octPut_objs {n : Nat} {b : Bytes} : (octPut n b s).objs = s.objs := rfl
@[simp] theorem octPut_fab {n : Nat} {b : Bytes} : (octPut n b s).fab = s.fab := rfl
@[simp] theorem octPut_mode {n : Nat} {b : Bytes} : (octPut n b s).mode = s.mode := rfl
@[simp] theorem octPut_log {n : Nat} {b : Bytes} : (octPut n b s).log = s.log := rfl
@[simp] theorem octPut_bell {n : Nat} {b : Bytes} : (octPut n b s).bell = s.bell := rfl
@[simp] theorem octPut_tally {n : Nat} {b : Bytes} : (octPut n b s).tally = s.tally := rfl
@[simp] theorem octPut_mat {n : Nat} {b : Bytes} : (octPut n b s).mat = s.mat := rfl
@[simp] theorem octPut_tt {n : Nat} {b : Bytes} : (octPut n b s).tt = s.tt := rfl
@[simp] theorem octPut_cap {n : Nat} {b : Bytes} : (octPut n b s).cap = s.cap := rfl
@[simp] theorem octPut_armed {n : Nat} {b : Bytes} : (octPut n b s).armed = s.armed := rfl
@[simp] theorem octPut_emp {n : Nat} {b : Bytes} : (octPut n b s).emp = s.emp := rfl
@[simp] theorem octPut_sr {n : Nat} {b : Bytes} : (octPut n b s).sr = s.sr := rfl
@[simp] theorem octPut_air {n : Nat} {b : Bytes} : (octPut n b s).air = s.air := rfl
@[simp] theorem octPut_mac {n : Nat} {b : Bytes} : (octPut n b s).mac = s.mac := rfl
@[simp] theorem octPut_ptp {n : Nat} {b : Bytes} : (octPut n b s).ptp = s.ptp := rfl
@[simp] theorem octPut_lease {n : Nat} {b : Bytes} : (octPut n b s).lease = s.lease := rfl
@[simp] theorem octPut_ing {n : Nat} {b : Bytes} : (octPut n b s).ing = s.ing := rfl
@[simp] theorem octPut_bill {n : Nat} {b : Bytes} : (octPut n b s).bill = s.bill := rfl
@[simp] theorem octPut_prepay {n : Nat} {b : Bytes} : (octPut n b s).prepay = s.prepay := rfl
@[simp] theorem octPut_audit {n : Nat} {b : Bytes} : (octPut n b s).audit = s.audit := rfl
@[simp] theorem octPut_nand {n : Nat} {b : Bytes} : (octPut n b s).nand = s.nand := rfl
@[simp] theorem octPut_store {n : Nat} {b : Bytes} : (octPut n b s).store = s.store := rfl
@[simp] theorem octPut_power {n : Nat} {b : Bytes} : (octPut n b s).power = s.power := rfl
@[simp] theorem octPut_ddr {n : Nat} {b : Bytes} : (octPut n b s).ddr = s.ddr := rfl
@[simp] theorem octPut_lans {n : Nat} {b : Bytes} : (octPut n b s).lans = s.lans := rfl
@[simp] theorem octPut_pairs {n : Nat} {b : Bytes} : (octPut n b s).pairs = s.pairs := rfl
@[simp] theorem octPut_upd {n : Nat} {b : Bytes} : (octPut n b s).upd = s.upd := rfl
@[simp] theorem octPut_free {n : Nat} {b : Bytes} : (octPut n b s).free = s.free := rfl
@[simp] theorem octPut_clash {n : Nat} {b : Bytes} : (octPut n b s).clash = s.clash := rfl
@[simp] theorem octPut_part {n : Nat} {b : Bytes} : (octPut n b s).part = s.part := rfl
@[simp] theorem octPut_pending {n : Nat} {b : Bytes} : (octPut n b s).pending = s.pending := rfl
@[simp] theorem octPut_dram {n : Nat} {b : Bytes} : (octPut n b s).dram = s.dram := rfl

/-! `commitPush` -/

@[simp] theorem commitPush_clk {c : Commit} : (commitPush c s).clk = s.clk := (commitPush_kept (kept_refl (m := 65536) s)).same .clk rfl
@[simp] theorem commitPush_regs {c : Commit} : (commitPush c s).regs = s.regs := (commitPush_kept (kept_refl (m := 65536) s)).same .regs rfl
@[simp] theorem commitPush_cnt {c : Commit} : (commitPush c s).cnt = s.cnt := (commitPush_kept (kept_refl (m := 65536) s)).same .cnt rfl
@[simp] theorem commitPush_objs {c : Commit} : (commitPush c s).objs = s.objs := (commitPush_kept (kept_refl (m := 65536) s)).same .objs rfl
@[simp] theorem commitPush_octs {c : Commit} : (commitPush c s).octs = s.octs := (commitPush_kept (kept_refl (m := 65536) s)).same .octs rfl
@[simp] theorem commitPush_fab {c : Commit} : (commitPush c s).fab = s.fab := (commitPush_kept (kept_refl (m := 65536) s)).same .fab rfl
@[simp] theorem commitPush_mode {c : Commit} : (commitPush c s).mode = s.mode := (commitPush_kept (kept_refl (m := 65536) s)).same .mode rfl
@[simp] theorem commitPush_log {c : Commit} : (commitPush c s).log = s.log := (commitPush_kept (kept_refl (m := 65536) s)).same .log rfl
@[simp] theorem commitPush_bell {c : Commit} : (commitPush c s).bell = s.bell := (commitPush_kept (kept_refl (m := 65536) s)).same .bell rfl
@[simp] theorem commitPush_tally {c : Commit} : (commitPush c s).tally = s.tally := (commitPush_kept (kept_refl (m := 65536) s)).same .tally rfl
@[simp] theorem commitPush_mat {c : Commit} : (commitPush c s).mat = s.mat := (commitPush_kept (kept_refl (m := 65536) s)).same .mat rfl
@[simp] theorem commitPush_tt {c : Commit} : (commitPush c s).tt = s.tt := (commitPush_kept (kept_refl (m := 65536) s)).same .tt rfl
@[simp] theorem commitPush_cap {c : Commit} : (commitPush c s).cap = s.cap := (commitPush_kept (kept_refl (m := 65536) s)).same .cap rfl
@[simp] theorem commitPush_armed {c : Commit} : (commitPush c s).armed = s.armed := (commitPush_kept (kept_refl (m := 65536) s)).same .armed rfl
@[simp] theorem commitPush_emp {c : Commit} : (commitPush c s).emp = s.emp := (commitPush_kept (kept_refl (m := 65536) s)).same .emp rfl
@[simp] theorem commitPush_air {c : Commit} : (commitPush c s).air = s.air := (commitPush_kept (kept_refl (m := 65536) s)).same .air rfl
@[simp] theorem commitPush_mac {c : Commit} : (commitPush c s).mac = s.mac := (commitPush_kept (kept_refl (m := 65536) s)).same .mac rfl
@[simp] theorem commitPush_ptp {c : Commit} : (commitPush c s).ptp = s.ptp := (commitPush_kept (kept_refl (m := 65536) s)).same .ptp rfl
@[simp] theorem commitPush_lease {c : Commit} : (commitPush c s).lease = s.lease := (commitPush_kept (kept_refl (m := 65536) s)).same .lease rfl
@[simp] theorem commitPush_ing {c : Commit} : (commitPush c s).ing = s.ing := (commitPush_kept (kept_refl (m := 65536) s)).same .ing rfl
@[simp] theorem commitPush_bill {c : Commit} : (commitPush c s).bill = s.bill := (commitPush_kept (kept_refl (m := 65536) s)).same .bill rfl
@[simp] theorem commitPush_prepay {c : Commit} : (commitPush c s).prepay = s.prepay := (commitPush_kept (kept_refl (m := 65536) s)).same .prepay rfl
@[simp] theorem commitPush_audit {c : Commit} : (commitPush c s).audit = s.audit := (commitPush_kept (kept_refl (m := 65536) s)).same .audit rfl
@[simp] theorem commitPush_nand {c : Commit} : (commitPush c s).nand = s.nand := (commitPush_kept (kept_refl (m := 65536) s)).same .nand rfl
@[simp] theorem commitPush_store {c : Commit} : (commitPush c s).store = s.store := (commitPush_kept (kept_refl (m := 65536) s)).same .store rfl
@[simp] theorem commitPush_power {c : Commit} : (commitPush c s).power = s.power := (commitPush_kept (kept_refl (m := 65536) s)).same .power rfl
@[simp] theorem commitPush_ddr {c : Commit} : (commitPush c s).ddr = s.ddr := (commitPush_kept (kept_refl (m := 65536) s)).same .ddr rfl
@[simp] theorem commitPush_lans {c : Commit} : (commitPush c s).lans = s.lans := (commitPush_kept (kept_refl (m := 65536) s)).same .lans rfl
@[simp] theorem commitPush_pairs {c : Commit} : (commitPush c s).pairs = s.pairs := (commitPush_kept (kept_refl (m := 65536) s)).same .pairs rfl
@[simp] theorem commitPush_upd {c : Commit} : (commitPush c s).upd = s.upd := (commitPush_kept (kept_refl (m := 65536) s)).same .upd rfl
@[simp] theorem commitPush_free {c : Commit} : (commitPush c s).free = s.free := (commitPush_kept (kept_refl (m := 65536) s)).same .free rfl
@[simp] theorem commitPush_clash {c : Commit} : (commitPush c s).clash = s.clash := (commitPush_kept (kept_refl (m := 65536) s)).same .clash rfl
@[simp] theorem commitPush_part {c : Commit} : (commitPush c s).part = s.part := (commitPush_kept (kept_refl (m := 65536) s)).follows.part
@[simp] theorem commitPush_pending {c : Commit} : (commitPush c s).pending = s.pending := (commitPush_kept (kept_refl (m := 65536) s)).follows.pending
@[simp] theorem commitPush_dram {c : Commit} : (commitPush c s).dram = s.dram := by simp only [commitPush] <;> (repeat' split) <;> rfl

/-! `commitOne` -/

@[simp] theorem commitOne_clk  : (commitOne s).clk = s.clk := (commitOne_kept (kept_refl (m := 65536) s)).same .clk rfl
@[simp] theorem commitOne_regs  : (commitOne s).regs = s.regs := (commitOne_kept (kept_refl (m := 65536) s)).same .regs rfl
@[simp] theorem commitOne_cnt  : (commitOne s).cnt = s.cnt := (commitOne_kept (kept_refl (m := 65536) s)).same .cnt rfl
@[simp] theorem commitOne_objs  : (commitOne s).objs = s.objs := (commitOne_kept (kept_refl (m := 65536) s)).same .objs rfl
@[simp] theorem commitOne_octs  : (commitOne s).octs = s.octs := (commitOne_kept (kept_refl (m := 65536) s)).same .octs rfl
@[simp] theorem commitOne_fab  : (commitOne s).fab = s.fab := (commitOne_kept (kept_refl (m := 65536) s)).same .fab rfl
@[simp] theorem commitOne_mode  : (commitOne s).mode = s.mode := (commitOne_kept (kept_refl (m := 65536) s)).same .mode rfl
@[simp] theorem commitOne_log  : (commitOne s).log = s.log := (commitOne_kept (kept_refl (m := 65536) s)).same .log rfl
@[simp] theorem commitOne_bell  : (commitOne s).bell = s.bell := (commitOne_kept (kept_refl (m := 65536) s)).same .bell rfl
@[simp] theorem commitOne_tally  : (commitOne s).tally = s.tally := (commitOne_kept (kept_refl (m := 65536) s)).same .tally rfl
@[simp] theorem commitOne_mat  : (commitOne s).mat = s.mat := (commitOne_kept (kept_refl (m := 65536) s)).same .mat rfl
@[simp] theorem commitOne_tt  : (commitOne s).tt = s.tt := (commitOne_kept (kept_refl (m := 65536) s)).same .tt rfl
@[simp] theorem commitOne_cap  : (commitOne s).cap = s.cap := (commitOne_kept (kept_refl (m := 65536) s)).same .cap rfl
@[simp] theorem commitOne_armed  : (commitOne s).armed = s.armed := (commitOne_kept (kept_refl (m := 65536) s)).same .armed rfl
@[simp] theorem commitOne_emp  : (commitOne s).emp = s.emp := (commitOne_kept (kept_refl (m := 65536) s)).same .emp rfl
@[simp] theorem commitOne_air  : (commitOne s).air = s.air := (commitOne_kept (kept_refl (m := 65536) s)).same .air rfl
@[simp] theorem commitOne_mac  : (commitOne s).mac = s.mac := (commitOne_kept (kept_refl (m := 65536) s)).same .mac rfl
@[simp] theorem commitOne_ptp  : (commitOne s).ptp = s.ptp := (commitOne_kept (kept_refl (m := 65536) s)).same .ptp rfl
@[simp] theorem commitOne_lease  : (commitOne s).lease = s.lease := (commitOne_kept (kept_refl (m := 65536) s)).same .lease rfl
@[simp] theorem commitOne_ing  : (commitOne s).ing = s.ing := (commitOne_kept (kept_refl (m := 65536) s)).same .ing rfl
@[simp] theorem commitOne_bill  : (commitOne s).bill = s.bill := (commitOne_kept (kept_refl (m := 65536) s)).same .bill rfl
@[simp] theorem commitOne_prepay  : (commitOne s).prepay = s.prepay := (commitOne_kept (kept_refl (m := 65536) s)).same .prepay rfl
@[simp] theorem commitOne_audit  : (commitOne s).audit = s.audit := (commitOne_kept (kept_refl (m := 65536) s)).same .audit rfl
@[simp] theorem commitOne_nand  : (commitOne s).nand = s.nand := (commitOne_kept (kept_refl (m := 65536) s)).same .nand rfl
@[simp] theorem commitOne_store  : (commitOne s).store = s.store := (commitOne_kept (kept_refl (m := 65536) s)).same .store rfl
@[simp] theorem commitOne_power  : (commitOne s).power = s.power := (commitOne_kept (kept_refl (m := 65536) s)).same .power rfl
@[simp] theorem commitOne_ddr  : (commitOne s).ddr = s.ddr := (commitOne_kept (kept_refl (m := 65536) s)).same .ddr rfl
@[simp] theorem commitOne_lans  : (commitOne s).lans = s.lans := (commitOne_kept (kept_refl (m := 65536) s)).same .lans rfl
@[simp] theorem commitOne_pairs  : (commitOne s).pairs = s.pairs := (commitOne_kept (kept_refl (m := 65536) s)).same .pairs rfl
@[simp] theorem commitOne_upd  : (commitOne s).upd = s.upd := (commitOne_kept (kept_refl (m := 65536) s)).same .upd rfl
@[simp] theorem commitOne_free  : (commitOne s).free = s.free := (commitOne_kept (kept_refl (m := 65536) s)).same .free rfl
@[simp] theorem commitOne_clash  : (commitOne s).clash = s.clash := (commitOne_kept (kept_refl (m := 65536) s)).same .clash rfl
@[simp] theorem commitOne_part  : (commitOne s).part = s.part := (commitOne_kept (kept_refl (m := 65536) s)).follows.part
@[simp] theorem commitOne_pending  : (commitOne s).pending = s.pending := (commitOne_kept (kept_refl (m := 65536) s)).follows.pending
@[simp] theorem commitOne_dram  : (commitOne s).dram = s.dram := commitPush_dram

/-! `logSet` -/

@[simp] theorem logSet_clk {w : Nat} {l : LogWing} : (logSet w l s).clk = s.clk := rfl
@[simp] theorem logSet_regs {w : Nat} {l : LogWing} : (logSet w l s).regs = s.regs := rfl
@[simp] theorem logSet_cnt {w : Nat} {l : LogWing} : (logSet w l s).cnt = s.cnt := rfl
@[simp] theorem logSet_objs {w : Nat} {l : LogWing} : (logSet w l s).objs = s.objs := rfl
@[simp] theorem logSet_octs {w : Nat} {l : LogWing} : (logSet w l s).octs = s.octs := rfl
@[simp] theorem logSet_fab {w : Nat} {l : LogWing} : (logSet w l s).fab = s.fab := rfl
@[simp] theorem logSet_mode {w : Nat} {l : LogWing} : (logSet w l s).mode = s.mode := rfl
@[simp] theorem logSet_bell {w : Nat} {l : LogWing} : (logSet w l s).bell = s.bell := rfl
@[simp] theorem logSet_tally {w : Nat} {l : LogWing} : (logSet w l s).tally = s.tally := rfl
@[simp] theorem logSet_mat {w : Nat} {l : LogWing} : (logSet w l s).mat = s.mat := rfl
@[simp] theorem logSet_tt {w : Nat} {l : LogWing} : (logSet w l s).tt = s.tt := rfl
@[simp] theorem logSet_cap {w : Nat} {l : LogWing} : (logSet w l s).cap = s.cap := rfl
@[simp] theorem logSet_armed {w : Nat} {l : LogWing} : (logSet w l s).armed = s.armed := rfl
@[simp] theorem logSet_emp {w : Nat} {l : LogWing} : (logSet w l s).emp = s.emp := rfl
@[simp] theorem logSet_sr {w : Nat} {l : LogWing} : (logSet w l s).sr = s.sr := rfl
@[simp] theorem logSet_air {w : Nat} {l : LogWing} : (logSet w l s).air = s.air := rfl
@[simp] theorem logSet_mac {w : Nat} {l : LogWing} : (logSet w l s).mac = s.mac := rfl
@[simp] theorem logSet_ptp {w : Nat} {l : LogWing} : (logSet w l s).ptp = s.ptp := rfl
@[simp] theorem logSet_lease {w : Nat} {l : LogWing} : (logSet w l s).lease = s.lease := rfl
@[simp] theorem logSet_ing {w : Nat} {l : LogWing} : (logSet w l s).ing = s.ing := rfl
@[simp] theorem logSet_bill {w : Nat} {l : LogWing} : (logSet w l s).bill = s.bill := rfl
@[simp] theorem logSet_prepay {w : Nat} {l : LogWing} : (logSet w l s).prepay = s.prepay := rfl
@[simp] theorem logSet_audit {w : Nat} {l : LogWing} : (logSet w l s).audit = s.audit := rfl
@[simp] theorem logSet_nand {w : Nat} {l : LogWing} : (logSet w l s).nand = s.nand := rfl
@[simp] theorem logSet_store {w : Nat} {l : LogWing} : (logSet w l s).store = s.store := rfl
@[simp] theorem logSet_power {w : Nat} {l : LogWing} : (logSet w l s).power = s.power := rfl
@[simp] theorem logSet_ddr {w : Nat} {l : LogWing} : (logSet w l s).ddr = s.ddr := rfl
@[simp] theorem logSet_lans {w : Nat} {l : LogWing} : (logSet w l s).lans = s.lans := rfl
@[simp] theorem logSet_pairs {w : Nat} {l : LogWing} : (logSet w l s).pairs = s.pairs := rfl
@[simp] theorem logSet_upd {w : Nat} {l : LogWing} : (logSet w l s).upd = s.upd := rfl
@[simp] theorem logSet_free {w : Nat} {l : LogWing} : (logSet w l s).free = s.free := rfl
@[simp] theorem logSet_clash {w : Nat} {l : LogWing} : (logSet w l s).clash = s.clash := rfl
@[simp] theorem logSet_part {w : Nat} {l : LogWing} : (logSet w l s).part = s.part := rfl
@[simp] theorem logSet_pending {w : Nat} {l : LogWing} : (logSet w l s).pending = s.pending := rfl
@[simp] theorem logSet_dram {w : Nat} {l : LogWing} : (logSet w l s).dram = s.dram := rfl

/-! `sessSet` -/

@[simp] theorem sessSet_clk {n : Nat} {x : Session} : (sessSet n x s).clk = s.clk := rfl
@[simp] theorem sessSet_regs {n : Nat} {x : Session} : (sessSet n x s).regs = s.regs := rfl
@[simp] theorem sessSet_cnt {n : Nat} {x : Session} : (sessSet n x s).cnt = s.cnt := rfl
@[simp] theorem sessSet_objs {n : Nat} {x : Session} : (sessSet n x s).objs = s.objs := rfl
@[simp] theorem sessSet_octs {n : Nat} {x : Session} : (sessSet n x s).octs = s.octs := rfl
@[simp] theorem sessSet_fab {n : Nat} {x : Session} : (sessSet n x s).fab = s.fab := rfl
@[simp] theorem sessSet_mode {n : Nat} {x : Session} : (sessSet n x s).mode = s.mode := rfl
@[simp] theorem sessSet_log {n : Nat} {x : Session} : (sessSet n x s).log = s.log := rfl
@[simp] theorem sessSet_bell {n : Nat} {x : Session} : (sessSet n x s).bell = s.bell := rfl
@[simp] theorem sessSet_tally {n : Nat} {x : Session} : (sessSet n x s).tally = s.tally := rfl
@[simp] theorem sessSet_mat {n : Nat} {x : Session} : (sessSet n x s).mat = s.mat := rfl
@[simp] theorem sessSet_tt {n : Nat} {x : Session} : (sessSet n x s).tt = s.tt := rfl
@[simp] theorem sessSet_cap {n : Nat} {x : Session} : (sessSet n x s).cap = s.cap := rfl
@[simp] theorem sessSet_armed {n : Nat} {x : Session} : (sessSet n x s).armed = s.armed := rfl
@[simp] theorem sessSet_sr {n : Nat} {x : Session} : (sessSet n x s).sr = s.sr := rfl
@[simp] theorem sessSet_air {n : Nat} {x : Session} : (sessSet n x s).air = s.air := rfl
@[simp] theorem sessSet_mac {n : Nat} {x : Session} : (sessSet n x s).mac = s.mac := rfl
@[simp] theorem sessSet_ptp {n : Nat} {x : Session} : (sessSet n x s).ptp = s.ptp := rfl
@[simp] theorem sessSet_lease {n : Nat} {x : Session} : (sessSet n x s).lease = s.lease := rfl
@[simp] theorem sessSet_ing {n : Nat} {x : Session} : (sessSet n x s).ing = s.ing := rfl
@[simp] theorem sessSet_bill {n : Nat} {x : Session} : (sessSet n x s).bill = s.bill := rfl
@[simp] theorem sessSet_prepay {n : Nat} {x : Session} : (sessSet n x s).prepay = s.prepay := rfl
@[simp] theorem sessSet_audit {n : Nat} {x : Session} : (sessSet n x s).audit = s.audit := rfl
@[simp] theorem sessSet_nand {n : Nat} {x : Session} : (sessSet n x s).nand = s.nand := rfl
@[simp] theorem sessSet_store {n : Nat} {x : Session} : (sessSet n x s).store = s.store := rfl
@[simp] theorem sessSet_power {n : Nat} {x : Session} : (sessSet n x s).power = s.power := rfl
@[simp] theorem sessSet_ddr {n : Nat} {x : Session} : (sessSet n x s).ddr = s.ddr := rfl
@[simp] theorem sessSet_lans {n : Nat} {x : Session} : (sessSet n x s).lans = s.lans := rfl
@[simp] theorem sessSet_pairs {n : Nat} {x : Session} : (sessSet n x s).pairs = s.pairs := rfl
@[simp] theorem sessSet_upd {n : Nat} {x : Session} : (sessSet n x s).upd = s.upd := rfl
@[simp] theorem sessSet_free {n : Nat} {x : Session} : (sessSet n x s).free = s.free := rfl
@[simp] theorem sessSet_clash {n : Nat} {x : Session} : (sessSet n x s).clash = s.clash := rfl
@[simp] theorem sessSet_part {n : Nat} {x : Session} : (sessSet n x s).part = s.part := rfl
@[simp] theorem sessSet_pending {n : Nat} {x : Session} : (sessSet n x s).pending = s.pending := rfl
@[simp] theorem sessSet_dram {n : Nat} {x : Session} : (sessSet n x s).dram = s.dram := rfl

/-! `demandFlushAt` -/

@[simp] theorem demandFlushAt_clk {at_ w : Nat} : (demandFlushAt at_ w s).clk = s.clk := (demandFlushAt_kept (kept_refl (m := 256) s)).same .clk rfl
@[simp] theorem demandFlushAt_regs {at_ w : Nat} : (demandFlushAt at_ w s).regs = s.regs := (demandFlushAt_kept (kept_refl (m := 256) s)).same .regs rfl
@[simp] theorem demandFlushAt_cnt {at_ w : Nat} : (demandFlushAt at_ w s).cnt = s.cnt := (demandFlushAt_kept (kept_refl (m := 256) s)).same .cnt rfl
@[simp] theorem demandFlushAt_objs {at_ w : Nat} : (demandFlushAt at_ w s).objs = s.objs := (demandFlushAt_kept (kept_refl (m := 256) s)).same .objs rfl
@[simp] theorem demandFlushAt_octs {at_ w : Nat} : (demandFlushAt at_ w s).octs = s.octs := (demandFlushAt_kept (kept_refl (m := 256) s)).same .octs rfl
@[simp] theorem demandFlushAt_fab {at_ w : Nat} : (demandFlushAt at_ w s).fab = s.fab := (demandFlushAt_kept (kept_refl (m := 256) s)).same .fab rfl
@[simp] theorem demandFlushAt_mode {at_ w : Nat} : (demandFlushAt at_ w s).mode = s.mode := (demandFlushAt_kept (kept_refl (m := 256) s)).same .mode rfl
@[simp] theorem demandFlushAt_bell {at_ w : Nat} : (demandFlushAt at_ w s).bell = s.bell := (demandFlushAt_kept (kept_refl (m := 256) s)).same .bell rfl
@[simp] theorem demandFlushAt_tally {at_ w : Nat} : (demandFlushAt at_ w s).tally = s.tally := (demandFlushAt_kept (kept_refl (m := 256) s)).same .tally rfl
@[simp] theorem demandFlushAt_mat {at_ w : Nat} : (demandFlushAt at_ w s).mat = s.mat := (demandFlushAt_kept (kept_refl (m := 256) s)).same .mat rfl
@[simp] theorem demandFlushAt_tt {at_ w : Nat} : (demandFlushAt at_ w s).tt = s.tt := (demandFlushAt_kept (kept_refl (m := 256) s)).same .tt rfl
@[simp] theorem demandFlushAt_cap {at_ w : Nat} : (demandFlushAt at_ w s).cap = s.cap := (demandFlushAt_kept (kept_refl (m := 256) s)).same .cap rfl
@[simp] theorem demandFlushAt_armed {at_ w : Nat} : (demandFlushAt at_ w s).armed = s.armed := (demandFlushAt_kept (kept_refl (m := 256) s)).same .armed rfl
@[simp] theorem demandFlushAt_emp {at_ w : Nat} : (demandFlushAt at_ w s).emp = s.emp := (demandFlushAt_kept (kept_refl (m := 256) s)).same .emp rfl
@[simp] theorem demandFlushAt_sr {at_ w : Nat} : (demandFlushAt at_ w s).sr = s.sr := (demandFlushAt_kept (kept_refl (m := 256) s)).same .sr rfl
@[simp] theorem demandFlushAt_air {at_ w : Nat} : (demandFlushAt at_ w s).air = s.air := (demandFlushAt_kept (kept_refl (m := 256) s)).same .air rfl
@[simp] theorem demandFlushAt_mac {at_ w : Nat} : (demandFlushAt at_ w s).mac = s.mac := (demandFlushAt_kept (kept_refl (m := 256) s)).same .mac rfl
@[simp] theorem demandFlushAt_ptp {at_ w : Nat} : (demandFlushAt at_ w s).ptp = s.ptp := (demandFlushAt_kept (kept_refl (m := 256) s)).same .ptp rfl
@[simp] theorem demandFlushAt_lease {at_ w : Nat} : (demandFlushAt at_ w s).lease = s.lease := (demandFlushAt_kept (kept_refl (m := 256) s)).same .lease rfl
@[simp] theorem demandFlushAt_ing {at_ w : Nat} : (demandFlushAt at_ w s).ing = s.ing := (demandFlushAt_kept (kept_refl (m := 256) s)).same .ing rfl
@[simp] theorem demandFlushAt_bill {at_ w : Nat} : (demandFlushAt at_ w s).bill = s.bill := (demandFlushAt_kept (kept_refl (m := 256) s)).same .bill rfl
@[simp] theorem demandFlushAt_prepay {at_ w : Nat} : (demandFlushAt at_ w s).prepay = s.prepay := (demandFlushAt_kept (kept_refl (m := 256) s)).same .prepay rfl
@[simp] theorem demandFlushAt_audit {at_ w : Nat} : (demandFlushAt at_ w s).audit = s.audit := (demandFlushAt_kept (kept_refl (m := 256) s)).same .audit rfl
@[simp] theorem demandFlushAt_nand {at_ w : Nat} : (demandFlushAt at_ w s).nand = s.nand := (demandFlushAt_kept (kept_refl (m := 256) s)).same .nand rfl
@[simp] theorem demandFlushAt_store {at_ w : Nat} : (demandFlushAt at_ w s).store = s.store := (demandFlushAt_kept (kept_refl (m := 256) s)).same .store rfl
@[simp] theorem demandFlushAt_power {at_ w : Nat} : (demandFlushAt at_ w s).power = s.power := (demandFlushAt_kept (kept_refl (m := 256) s)).same .power rfl
@[simp] theorem demandFlushAt_ddr {at_ w : Nat} : (demandFlushAt at_ w s).ddr = s.ddr := (demandFlushAt_kept (kept_refl (m := 256) s)).same .ddr rfl
@[simp] theorem demandFlushAt_lans {at_ w : Nat} : (demandFlushAt at_ w s).lans = s.lans := (demandFlushAt_kept (kept_refl (m := 256) s)).same .lans rfl
@[simp] theorem demandFlushAt_pairs {at_ w : Nat} : (demandFlushAt at_ w s).pairs = s.pairs := (demandFlushAt_kept (kept_refl (m := 256) s)).same .pairs rfl
@[simp] theorem demandFlushAt_upd {at_ w : Nat} : (demandFlushAt at_ w s).upd = s.upd := (demandFlushAt_kept (kept_refl (m := 256) s)).same .upd rfl
@[simp] theorem demandFlushAt_free {at_ w : Nat} : (demandFlushAt at_ w s).free = s.free := (demandFlushAt_kept (kept_refl (m := 256) s)).same .free rfl
@[simp] theorem demandFlushAt_clash {at_ w : Nat} : (demandFlushAt at_ w s).clash = s.clash := (demandFlushAt_kept (kept_refl (m := 256) s)).same .clash rfl
@[simp] theorem demandFlushAt_part {at_ w : Nat} : (demandFlushAt at_ w s).part = s.part := (demandFlushAt_kept (kept_refl (m := 256) s)).follows.part
@[simp] theorem demandFlushAt_pending {at_ w : Nat} : (demandFlushAt at_ w s).pending = s.pending := (demandFlushAt_kept (kept_refl (m := 256) s)).follows.pending
@[simp] theorem demandFlushAt_dram {at_ w : Nat} : (demandFlushAt at_ w s).dram = s.dram := by simp only [demandFlushAt] <;> (repeat' split) <;> rfl

/-! `demandFlush` -/

@[simp] theorem demandFlush_clk {w : Nat} : (demandFlush w s).clk = s.clk := (demandFlush_kept (kept_refl (m := 256) s)).same .clk rfl
@[simp] theorem demandFlush_regs {w : Nat} : (demandFlush w s).regs = s.regs := (demandFlush_kept (kept_refl (m := 256) s)).same .regs rfl
@[simp] theorem demandFlush_cnt {w : Nat} : (demandFlush w s).cnt = s.cnt := (demandFlush_kept (kept_refl (m := 256) s)).same .cnt rfl
@[simp] theorem demandFlush_objs {w : Nat} : (demandFlush w s).objs = s.objs := (demandFlush_kept (kept_refl (m := 256) s)).same .objs rfl
@[simp] theorem demandFlush_octs {w : Nat} : (demandFlush w s).octs = s.octs := (demandFlush_kept (kept_refl (m := 256) s)).same .octs rfl
@[simp] theorem demandFlush_fab {w : Nat} : (demandFlush w s).fab = s.fab := (demandFlush_kept (kept_refl (m := 256) s)).same .fab rfl
@[simp] theorem demandFlush_mode {w : Nat} : (demandFlush w s).mode = s.mode := (demandFlush_kept (kept_refl (m := 256) s)).same .mode rfl
@[simp] theorem demandFlush_bell {w : Nat} : (demandFlush w s).bell = s.bell := (demandFlush_kept (kept_refl (m := 256) s)).same .bell rfl
@[simp] theorem demandFlush_tally {w : Nat} : (demandFlush w s).tally = s.tally := (demandFlush_kept (kept_refl (m := 256) s)).same .tally rfl
@[simp] theorem demandFlush_mat {w : Nat} : (demandFlush w s).mat = s.mat := (demandFlush_kept (kept_refl (m := 256) s)).same .mat rfl
@[simp] theorem demandFlush_tt {w : Nat} : (demandFlush w s).tt = s.tt := (demandFlush_kept (kept_refl (m := 256) s)).same .tt rfl
@[simp] theorem demandFlush_cap {w : Nat} : (demandFlush w s).cap = s.cap := (demandFlush_kept (kept_refl (m := 256) s)).same .cap rfl
@[simp] theorem demandFlush_armed {w : Nat} : (demandFlush w s).armed = s.armed := (demandFlush_kept (kept_refl (m := 256) s)).same .armed rfl
@[simp] theorem demandFlush_emp {w : Nat} : (demandFlush w s).emp = s.emp := (demandFlush_kept (kept_refl (m := 256) s)).same .emp rfl
@[simp] theorem demandFlush_sr {w : Nat} : (demandFlush w s).sr = s.sr := (demandFlush_kept (kept_refl (m := 256) s)).same .sr rfl
@[simp] theorem demandFlush_air {w : Nat} : (demandFlush w s).air = s.air := (demandFlush_kept (kept_refl (m := 256) s)).same .air rfl
@[simp] theorem demandFlush_mac {w : Nat} : (demandFlush w s).mac = s.mac := (demandFlush_kept (kept_refl (m := 256) s)).same .mac rfl
@[simp] theorem demandFlush_ptp {w : Nat} : (demandFlush w s).ptp = s.ptp := (demandFlush_kept (kept_refl (m := 256) s)).same .ptp rfl
@[simp] theorem demandFlush_lease {w : Nat} : (demandFlush w s).lease = s.lease := (demandFlush_kept (kept_refl (m := 256) s)).same .lease rfl
@[simp] theorem demandFlush_ing {w : Nat} : (demandFlush w s).ing = s.ing := (demandFlush_kept (kept_refl (m := 256) s)).same .ing rfl
@[simp] theorem demandFlush_bill {w : Nat} : (demandFlush w s).bill = s.bill := (demandFlush_kept (kept_refl (m := 256) s)).same .bill rfl
@[simp] theorem demandFlush_prepay {w : Nat} : (demandFlush w s).prepay = s.prepay := (demandFlush_kept (kept_refl (m := 256) s)).same .prepay rfl
@[simp] theorem demandFlush_audit {w : Nat} : (demandFlush w s).audit = s.audit := (demandFlush_kept (kept_refl (m := 256) s)).same .audit rfl
@[simp] theorem demandFlush_nand {w : Nat} : (demandFlush w s).nand = s.nand := (demandFlush_kept (kept_refl (m := 256) s)).same .nand rfl
@[simp] theorem demandFlush_store {w : Nat} : (demandFlush w s).store = s.store := (demandFlush_kept (kept_refl (m := 256) s)).same .store rfl
@[simp] theorem demandFlush_power {w : Nat} : (demandFlush w s).power = s.power := (demandFlush_kept (kept_refl (m := 256) s)).same .power rfl
@[simp] theorem demandFlush_ddr {w : Nat} : (demandFlush w s).ddr = s.ddr := (demandFlush_kept (kept_refl (m := 256) s)).same .ddr rfl
@[simp] theorem demandFlush_lans {w : Nat} : (demandFlush w s).lans = s.lans := (demandFlush_kept (kept_refl (m := 256) s)).same .lans rfl
@[simp] theorem demandFlush_pairs {w : Nat} : (demandFlush w s).pairs = s.pairs := (demandFlush_kept (kept_refl (m := 256) s)).same .pairs rfl
@[simp] theorem demandFlush_upd {w : Nat} : (demandFlush w s).upd = s.upd := (demandFlush_kept (kept_refl (m := 256) s)).same .upd rfl
@[simp] theorem demandFlush_free {w : Nat} : (demandFlush w s).free = s.free := (demandFlush_kept (kept_refl (m := 256) s)).same .free rfl
@[simp] theorem demandFlush_clash {w : Nat} : (demandFlush w s).clash = s.clash := (demandFlush_kept (kept_refl (m := 256) s)).same .clash rfl
@[simp] theorem demandFlush_part {w : Nat} : (demandFlush w s).part = s.part := (demandFlush_kept (kept_refl (m := 256) s)).follows.part
@[simp] theorem demandFlush_pending {w : Nat} : (demandFlush w s).pending = s.pending := (demandFlush_kept (kept_refl (m := 256) s)).follows.pending
@[simp] theorem demandFlush_dram {w : Nat} : (demandFlush w s).dram = s.dram := demandFlushAt_dram

/-! `faultFlush` -/

@[simp] theorem faultFlush_clk {w : Nat} : (faultFlush w s).clk = s.clk := (faultFlush_kept (kept_refl (m := 256) s)).same .clk rfl
@[simp] theorem faultFlush_regs {w : Nat} : (faultFlush w s).regs = s.regs := (faultFlush_kept (kept_refl (m := 256) s)).same .regs rfl
@[simp] theorem faultFlush_cnt {w : Nat} : (faultFlush w s).cnt = s.cnt := (faultFlush_kept (kept_refl (m := 256) s)).same .cnt rfl
@[simp] theorem faultFlush_objs {w : Nat} : (faultFlush w s).objs = s.objs := (faultFlush_kept (kept_refl (m := 256) s)).same .objs rfl
@[simp] theorem faultFlush_octs {w : Nat} : (faultFlush w s).octs = s.octs := (faultFlush_kept (kept_refl (m := 256) s)).same .octs rfl
@[simp] theorem faultFlush_fab {w : Nat} : (faultFlush w s).fab = s.fab := (faultFlush_kept (kept_refl (m := 256) s)).same .fab rfl
@[simp] theorem faultFlush_mode {w : Nat} : (faultFlush w s).mode = s.mode := (faultFlush_kept (kept_refl (m := 256) s)).same .mode rfl
@[simp] theorem faultFlush_bell {w : Nat} : (faultFlush w s).bell = s.bell := (faultFlush_kept (kept_refl (m := 256) s)).same .bell rfl
@[simp] theorem faultFlush_tally {w : Nat} : (faultFlush w s).tally = s.tally := (faultFlush_kept (kept_refl (m := 256) s)).same .tally rfl
@[simp] theorem faultFlush_mat {w : Nat} : (faultFlush w s).mat = s.mat := (faultFlush_kept (kept_refl (m := 256) s)).same .mat rfl
@[simp] theorem faultFlush_tt {w : Nat} : (faultFlush w s).tt = s.tt := (faultFlush_kept (kept_refl (m := 256) s)).same .tt rfl
@[simp] theorem faultFlush_cap {w : Nat} : (faultFlush w s).cap = s.cap := (faultFlush_kept (kept_refl (m := 256) s)).same .cap rfl
@[simp] theorem faultFlush_armed {w : Nat} : (faultFlush w s).armed = s.armed := (faultFlush_kept (kept_refl (m := 256) s)).same .armed rfl
@[simp] theorem faultFlush_emp {w : Nat} : (faultFlush w s).emp = s.emp := (faultFlush_kept (kept_refl (m := 256) s)).same .emp rfl
@[simp] theorem faultFlush_sr {w : Nat} : (faultFlush w s).sr = s.sr := (faultFlush_kept (kept_refl (m := 256) s)).same .sr rfl
@[simp] theorem faultFlush_air {w : Nat} : (faultFlush w s).air = s.air := (faultFlush_kept (kept_refl (m := 256) s)).same .air rfl
@[simp] theorem faultFlush_mac {w : Nat} : (faultFlush w s).mac = s.mac := (faultFlush_kept (kept_refl (m := 256) s)).same .mac rfl
@[simp] theorem faultFlush_ptp {w : Nat} : (faultFlush w s).ptp = s.ptp := (faultFlush_kept (kept_refl (m := 256) s)).same .ptp rfl
@[simp] theorem faultFlush_lease {w : Nat} : (faultFlush w s).lease = s.lease := (faultFlush_kept (kept_refl (m := 256) s)).same .lease rfl
@[simp] theorem faultFlush_ing {w : Nat} : (faultFlush w s).ing = s.ing := (faultFlush_kept (kept_refl (m := 256) s)).same .ing rfl
@[simp] theorem faultFlush_bill {w : Nat} : (faultFlush w s).bill = s.bill := (faultFlush_kept (kept_refl (m := 256) s)).same .bill rfl
@[simp] theorem faultFlush_prepay {w : Nat} : (faultFlush w s).prepay = s.prepay := (faultFlush_kept (kept_refl (m := 256) s)).same .prepay rfl
@[simp] theorem faultFlush_audit {w : Nat} : (faultFlush w s).audit = s.audit := (faultFlush_kept (kept_refl (m := 256) s)).same .audit rfl
@[simp] theorem faultFlush_nand {w : Nat} : (faultFlush w s).nand = s.nand := (faultFlush_kept (kept_refl (m := 256) s)).same .nand rfl
@[simp] theorem faultFlush_store {w : Nat} : (faultFlush w s).store = s.store := (faultFlush_kept (kept_refl (m := 256) s)).same .store rfl
@[simp] theorem faultFlush_power {w : Nat} : (faultFlush w s).power = s.power := (faultFlush_kept (kept_refl (m := 256) s)).same .power rfl
@[simp] theorem faultFlush_ddr {w : Nat} : (faultFlush w s).ddr = s.ddr := (faultFlush_kept (kept_refl (m := 256) s)).same .ddr rfl
@[simp] theorem faultFlush_lans {w : Nat} : (faultFlush w s).lans = s.lans := (faultFlush_kept (kept_refl (m := 256) s)).same .lans rfl
@[simp] theorem faultFlush_pairs {w : Nat} : (faultFlush w s).pairs = s.pairs := (faultFlush_kept (kept_refl (m := 256) s)).same .pairs rfl
@[simp] theorem faultFlush_upd {w : Nat} : (faultFlush w s).upd = s.upd := (faultFlush_kept (kept_refl (m := 256) s)).same .upd rfl
@[simp] theorem faultFlush_free {w : Nat} : (faultFlush w s).free = s.free := (faultFlush_kept (kept_refl (m := 256) s)).same .free rfl
@[simp] theorem faultFlush_clash {w : Nat} : (faultFlush w s).clash = s.clash := (faultFlush_kept (kept_refl (m := 256) s)).same .clash rfl
@[simp] theorem faultFlush_part {w : Nat} : (faultFlush w s).part = s.part := (faultFlush_kept (kept_refl (m := 256) s)).follows.part
@[simp] theorem faultFlush_pending {w : Nat} : (faultFlush w s).pending = s.pending := (faultFlush_kept (kept_refl (m := 256) s)).follows.pending
@[simp] theorem faultFlush_dram {w : Nat} : (faultFlush w s).dram = s.dram := demandFlushAt_dram

/-! `deliver` -/

@[simp] theorem deliver_clk {w src : Nat} : (deliver w src s).clk = s.clk := (deliver_kept (kept_refl (m := 516) s)).same .clk rfl
@[simp] theorem deliver_regs {w src : Nat} : (deliver w src s).regs = s.regs := (deliver_kept (kept_refl (m := 516) s)).same .regs rfl
@[simp] theorem deliver_objs {w src : Nat} : (deliver w src s).objs = s.objs := (deliver_kept (kept_refl (m := 516) s)).same .objs rfl
@[simp] theorem deliver_octs {w src : Nat} : (deliver w src s).octs = s.octs := (deliver_kept (kept_refl (m := 516) s)).same .octs rfl
@[simp] theorem deliver_fab {w src : Nat} : (deliver w src s).fab = s.fab := (deliver_kept (kept_refl (m := 516) s)).same .fab rfl
@[simp] theorem deliver_mode {w src : Nat} : (deliver w src s).mode = s.mode := (deliver_kept (kept_refl (m := 516) s)).same .mode rfl
@[simp] theorem deliver_log {w src : Nat} : (deliver w src s).log = s.log := (deliver_kept (kept_refl (m := 516) s)).same .log rfl
@[simp] theorem deliver_tally {w src : Nat} : (deliver w src s).tally = s.tally := (deliver_kept (kept_refl (m := 516) s)).same .tally rfl
@[simp] theorem deliver_mat {w src : Nat} : (deliver w src s).mat = s.mat := (deliver_kept (kept_refl (m := 516) s)).same .mat rfl
@[simp] theorem deliver_tt {w src : Nat} : (deliver w src s).tt = s.tt := (deliver_kept (kept_refl (m := 516) s)).same .tt rfl
@[simp] theorem deliver_cap {w src : Nat} : (deliver w src s).cap = s.cap := (deliver_kept (kept_refl (m := 516) s)).same .cap rfl
@[simp] theorem deliver_armed {w src : Nat} : (deliver w src s).armed = s.armed := (deliver_kept (kept_refl (m := 516) s)).same .armed rfl
@[simp] theorem deliver_emp {w src : Nat} : (deliver w src s).emp = s.emp := (deliver_kept (kept_refl (m := 516) s)).same .emp rfl
@[simp] theorem deliver_sr {w src : Nat} : (deliver w src s).sr = s.sr := (deliver_kept (kept_refl (m := 516) s)).same .sr rfl
@[simp] theorem deliver_air {w src : Nat} : (deliver w src s).air = s.air := (deliver_kept (kept_refl (m := 516) s)).same .air rfl
@[simp] theorem deliver_mac {w src : Nat} : (deliver w src s).mac = s.mac := (deliver_kept (kept_refl (m := 516) s)).same .mac rfl
@[simp] theorem deliver_ptp {w src : Nat} : (deliver w src s).ptp = s.ptp := (deliver_kept (kept_refl (m := 516) s)).same .ptp rfl
@[simp] theorem deliver_lease {w src : Nat} : (deliver w src s).lease = s.lease := (deliver_kept (kept_refl (m := 516) s)).same .lease rfl
@[simp] theorem deliver_ing {w src : Nat} : (deliver w src s).ing = s.ing := (deliver_kept (kept_refl (m := 516) s)).same .ing rfl
@[simp] theorem deliver_bill {w src : Nat} : (deliver w src s).bill = s.bill := (deliver_kept (kept_refl (m := 516) s)).same .bill rfl
@[simp] theorem deliver_prepay {w src : Nat} : (deliver w src s).prepay = s.prepay := (deliver_kept (kept_refl (m := 516) s)).same .prepay rfl
@[simp] theorem deliver_audit {w src : Nat} : (deliver w src s).audit = s.audit := (deliver_kept (kept_refl (m := 516) s)).same .audit rfl
@[simp] theorem deliver_nand {w src : Nat} : (deliver w src s).nand = s.nand := (deliver_kept (kept_refl (m := 516) s)).same .nand rfl
@[simp] theorem deliver_store {w src : Nat} : (deliver w src s).store = s.store := (deliver_kept (kept_refl (m := 516) s)).same .store rfl
@[simp] theorem deliver_power {w src : Nat} : (deliver w src s).power = s.power := (deliver_kept (kept_refl (m := 516) s)).same .power rfl
@[simp] theorem deliver_ddr {w src : Nat} : (deliver w src s).ddr = s.ddr := (deliver_kept (kept_refl (m := 516) s)).same .ddr rfl
@[simp] theorem deliver_lans {w src : Nat} : (deliver w src s).lans = s.lans := (deliver_kept (kept_refl (m := 516) s)).same .lans rfl
@[simp] theorem deliver_pairs {w src : Nat} : (deliver w src s).pairs = s.pairs := (deliver_kept (kept_refl (m := 516) s)).same .pairs rfl
@[simp] theorem deliver_upd {w src : Nat} : (deliver w src s).upd = s.upd := (deliver_kept (kept_refl (m := 516) s)).same .upd rfl
@[simp] theorem deliver_free {w src : Nat} : (deliver w src s).free = s.free := (deliver_kept (kept_refl (m := 516) s)).same .free rfl
@[simp] theorem deliver_clash {w src : Nat} : (deliver w src s).clash = s.clash := (deliver_kept (kept_refl (m := 516) s)).same .clash rfl
@[simp] theorem deliver_part {w src : Nat} : (deliver w src s).part = s.part := (deliver_kept (kept_refl (m := 516) s)).follows.part
@[simp] theorem deliver_pending {w src : Nat} : (deliver w src s).pending = s.pending := (deliver_kept (kept_refl (m := 516) s)).follows.pending
@[simp] theorem deliver_dram {w src : Nat} : (deliver w src s).dram = s.dram := by simp only [deliver] <;> (repeat' split) <;> rfl

/-! `bell` -/

@[simp] theorem bell_clk {w src : Nat} : (bell w src s).clk = s.clk := (bell_kept (kept_refl (m := 8589935110) s)).same .clk rfl
@[simp] theorem bell_objs {w src : Nat} : (bell w src s).objs = s.objs := (bell_kept (kept_refl (m := 8589935110) s)).same .objs rfl
@[simp] theorem bell_octs {w src : Nat} : (bell w src s).octs = s.octs := (bell_kept (kept_refl (m := 8589935110) s)).same .octs rfl
@[simp] theorem bell_fab {w src : Nat} : (bell w src s).fab = s.fab := (bell_kept (kept_refl (m := 8589935110) s)).same .fab rfl
@[simp] theorem bell_mode {w src : Nat} : (bell w src s).mode = s.mode := (bell_kept (kept_refl (m := 8589935110) s)).same .mode rfl
@[simp] theorem bell_log {w src : Nat} : (bell w src s).log = s.log := (bell_kept (kept_refl (m := 8589935110) s)).same .log rfl
@[simp] theorem bell_tally {w src : Nat} : (bell w src s).tally = s.tally := (bell_kept (kept_refl (m := 8589935110) s)).same .tally rfl
@[simp] theorem bell_mat {w src : Nat} : (bell w src s).mat = s.mat := (bell_kept (kept_refl (m := 8589935110) s)).same .mat rfl
@[simp] theorem bell_tt {w src : Nat} : (bell w src s).tt = s.tt := (bell_kept (kept_refl (m := 8589935110) s)).same .tt rfl
@[simp] theorem bell_cap {w src : Nat} : (bell w src s).cap = s.cap := (bell_kept (kept_refl (m := 8589935110) s)).same .cap rfl
@[simp] theorem bell_armed {w src : Nat} : (bell w src s).armed = s.armed := (bell_kept (kept_refl (m := 8589935110) s)).same .armed rfl
@[simp] theorem bell_emp {w src : Nat} : (bell w src s).emp = s.emp := (bell_kept (kept_refl (m := 8589935110) s)).same .emp rfl
@[simp] theorem bell_sr {w src : Nat} : (bell w src s).sr = s.sr := (bell_kept (kept_refl (m := 8589935110) s)).same .sr rfl
@[simp] theorem bell_air {w src : Nat} : (bell w src s).air = s.air := (bell_kept (kept_refl (m := 8589935110) s)).same .air rfl
@[simp] theorem bell_mac {w src : Nat} : (bell w src s).mac = s.mac := (bell_kept (kept_refl (m := 8589935110) s)).same .mac rfl
@[simp] theorem bell_ptp {w src : Nat} : (bell w src s).ptp = s.ptp := (bell_kept (kept_refl (m := 8589935110) s)).same .ptp rfl
@[simp] theorem bell_lease {w src : Nat} : (bell w src s).lease = s.lease := (bell_kept (kept_refl (m := 8589935110) s)).same .lease rfl
@[simp] theorem bell_ing {w src : Nat} : (bell w src s).ing = s.ing := (bell_kept (kept_refl (m := 8589935110) s)).same .ing rfl
@[simp] theorem bell_bill {w src : Nat} : (bell w src s).bill = s.bill := (bell_kept (kept_refl (m := 8589935110) s)).same .bill rfl
@[simp] theorem bell_prepay {w src : Nat} : (bell w src s).prepay = s.prepay := (bell_kept (kept_refl (m := 8589935110) s)).same .prepay rfl
@[simp] theorem bell_audit {w src : Nat} : (bell w src s).audit = s.audit := (bell_kept (kept_refl (m := 8589935110) s)).same .audit rfl
@[simp] theorem bell_nand {w src : Nat} : (bell w src s).nand = s.nand := (bell_kept (kept_refl (m := 8589935110) s)).same .nand rfl
@[simp] theorem bell_store {w src : Nat} : (bell w src s).store = s.store := (bell_kept (kept_refl (m := 8589935110) s)).same .store rfl
@[simp] theorem bell_power {w src : Nat} : (bell w src s).power = s.power := (bell_kept (kept_refl (m := 8589935110) s)).same .power rfl
@[simp] theorem bell_ddr {w src : Nat} : (bell w src s).ddr = s.ddr := (bell_kept (kept_refl (m := 8589935110) s)).same .ddr rfl
@[simp] theorem bell_lans {w src : Nat} : (bell w src s).lans = s.lans := (bell_kept (kept_refl (m := 8589935110) s)).same .lans rfl
@[simp] theorem bell_pairs {w src : Nat} : (bell w src s).pairs = s.pairs := (bell_kept (kept_refl (m := 8589935110) s)).same .pairs rfl
@[simp] theorem bell_upd {w src : Nat} : (bell w src s).upd = s.upd := (bell_kept (kept_refl (m := 8589935110) s)).same .upd rfl
@[simp] theorem bell_free {w src : Nat} : (bell w src s).free = s.free := (bell_kept (kept_refl (m := 8589935110) s)).same .free rfl
@[simp] theorem bell_part {w src : Nat} : (bell w src s).part = s.part := (bell_kept (kept_refl (m := 8589935110) s)).follows.part
@[simp] theorem bell_pending {w src : Nat} : (bell w src s).pending = s.pending := (bell_kept (kept_refl (m := 8589935110) s)).follows.pending
@[simp] theorem bell_dram {w src : Nat} : (bell w src s).dram = s.dram := by unfold bell; dsimp only; split <;> simp

/-! `stat` -/

@[simp] theorem stat_clk {w a b src : Nat} : (stat w a b src s).clk = s.clk := bell_clk.trans regPutF_clk
@[simp] theorem stat_objs {w a b src : Nat} : (stat w a b src s).objs = s.objs := bell_objs.trans regPutF_objs
@[simp] theorem stat_octs {w a b src : Nat} : (stat w a b src s).octs = s.octs := bell_octs.trans regPutF_octs
@[simp] theorem stat_fab {w a b src : Nat} : (stat w a b src s).fab = s.fab := bell_fab.trans regPutF_fab
@[simp] theorem stat_mode {w a b src : Nat} : (stat w a b src s).mode = s.mode := bell_mode.trans regPutF_mode
@[simp] theorem stat_log {w a b src : Nat} : (stat w a b src s).log = s.log := bell_log.trans regPutF_log
@[simp] theorem stat_tally {w a b src : Nat} : (stat w a b src s).tally = s.tally := bell_tally.trans regPutF_tally
@[simp] theorem stat_mat {w a b src : Nat} : (stat w a b src s).mat = s.mat := bell_mat.trans regPutF_mat
@[simp] theorem stat_tt {w a b src : Nat} : (stat w a b src s).tt = s.tt := bell_tt.trans regPutF_tt
@[simp] theorem stat_cap {w a b src : Nat} : (stat w a b src s).cap = s.cap := bell_cap.trans regPutF_cap
@[simp] theorem stat_armed {w a b src : Nat} : (stat w a b src s).armed = s.armed := bell_armed.trans regPutF_armed
@[simp] theorem stat_emp {w a b src : Nat} : (stat w a b src s).emp = s.emp := bell_emp.trans regPutF_emp
@[simp] theorem stat_sr {w a b src : Nat} : (stat w a b src s).sr = s.sr := bell_sr.trans regPutF_sr
@[simp] theorem stat_air {w a b src : Nat} : (stat w a b src s).air = s.air := bell_air.trans regPutF_air
@[simp] theorem stat_mac {w a b src : Nat} : (stat w a b src s).mac = s.mac := bell_mac.trans regPutF_mac
@[simp] theorem stat_ptp {w a b src : Nat} : (stat w a b src s).ptp = s.ptp := bell_ptp.trans regPutF_ptp
@[simp] theorem stat_lease {w a b src : Nat} : (stat w a b src s).lease = s.lease := bell_lease.trans regPutF_lease
@[simp] theorem stat_ing {w a b src : Nat} : (stat w a b src s).ing = s.ing := bell_ing.trans regPutF_ing
@[simp] theorem stat_bill {w a b src : Nat} : (stat w a b src s).bill = s.bill := bell_bill.trans regPutF_bill
@[simp] theorem stat_prepay {w a b src : Nat} : (stat w a b src s).prepay = s.prepay := bell_prepay.trans regPutF_prepay
@[simp] theorem stat_audit {w a b src : Nat} : (stat w a b src s).audit = s.audit := bell_audit.trans regPutF_audit
@[simp] theorem stat_nand {w a b src : Nat} : (stat w a b src s).nand = s.nand := bell_nand.trans regPutF_nand
@[simp] theorem stat_store {w a b src : Nat} : (stat w a b src s).store = s.store := bell_store.trans regPutF_store
@[simp] theorem stat_power {w a b src : Nat} : (stat w a b src s).power = s.power := bell_power.trans regPutF_power
@[simp] theorem stat_ddr {w a b src : Nat} : (stat w a b src s).ddr = s.ddr := bell_ddr.trans regPutF_ddr
@[simp] theorem stat_lans {w a b src : Nat} : (stat w a b src s).lans = s.lans := bell_lans.trans regPutF_lans
@[simp] theorem stat_pairs {w a b src : Nat} : (stat w a b src s).pairs = s.pairs := bell_pairs.trans regPutF_pairs
@[simp] theorem stat_upd {w a b src : Nat} : (stat w a b src s).upd = s.upd := bell_upd.trans regPutF_upd
@[simp] theorem stat_free {w a b src : Nat} : (stat w a b src s).free = s.free := bell_free.trans regPutF_free
@[simp] theorem stat_part {w a b src : Nat} : (stat w a b src s).part = s.part := bell_part.trans regPutF_part
@[simp] theorem stat_pending {w a b src : Nat} : (stat w a b src s).pending = s.pending := bell_pending.trans regPutF_pending
@[simp] theorem stat_dram {w a b src : Nat} : (stat w a b src s).dram = s.dram := bell_dram.trans regPutF_dram

/-! `raiseRec` -/

@[simp] theorem raiseRec_clk {w code src p0 p1 : Nat} : (raiseRec w code src p0 p1 s).clk = s.clk := (raiseRec_kept (kept_refl (m := 260) s)).same .clk rfl
@[simp] theorem raiseRec_regs {w code src p0 p1 : Nat} : (raiseRec w code src p0 p1 s).regs = s.regs := (raiseRec_kept (kept_refl (m := 260) s)).same .regs rfl
@[simp] theorem raiseRec_objs {w code src p0 p1 : Nat} : (raiseRec w code src p0 p1 s).objs = s.objs := (raiseRec_kept (kept_refl (m := 260) s)).same .objs rfl
@[simp] theorem raiseRec_octs {w code src p0 p1 : Nat} : (raiseRec w code src p0 p1 s).octs = s.octs := (raiseRec_kept (kept_refl (m := 260) s)).same .octs rfl
@[simp] theorem raiseRec_fab {w code src p0 p1 : Nat} : (raiseRec w code src p0 p1 s).fab = s.fab := (raiseRec_kept (kept_refl (m := 260) s)).same .fab rfl
@[simp] theorem raiseRec_mode {w code src p0 p1 : Nat} : (raiseRec w code src p0 p1 s).mode = s.mode := (raiseRec_kept (kept_refl (m := 260) s)).same .mode rfl
@[simp] theorem raiseRec_bell {w code src p0 p1 : Nat} : (raiseRec w code src p0 p1 s).bell = s.bell := (raiseRec_kept (kept_refl (m := 260) s)).same .bell rfl
@[simp] theorem raiseRec_tally {w code src p0 p1 : Nat} : (raiseRec w code src p0 p1 s).tally = s.tally := (raiseRec_kept (kept_refl (m := 260) s)).same .tally rfl
@[simp] theorem raiseRec_mat {w code src p0 p1 : Nat} : (raiseRec w code src p0 p1 s).mat = s.mat := (raiseRec_kept (kept_refl (m := 260) s)).same .mat rfl
@[simp] theorem raiseRec_tt {w code src p0 p1 : Nat} : (raiseRec w code src p0 p1 s).tt = s.tt := (raiseRec_kept (kept_refl (m := 260) s)).same .tt rfl
@[simp] theorem raiseRec_cap {w code src p0 p1 : Nat} : (raiseRec w code src p0 p1 s).cap = s.cap := (raiseRec_kept (kept_refl (m := 260) s)).same .cap rfl
@[simp] theorem raiseRec_armed {w code src p0 p1 : Nat} : (raiseRec w code src p0 p1 s).armed = s.armed := (raiseRec_kept (kept_refl (m := 260) s)).same .armed rfl
@[simp] theorem raiseRec_emp {w code src p0 p1 : Nat} : (raiseRec w code src p0 p1 s).emp = s.emp := (raiseRec_kept (kept_refl (m := 260) s)).same .emp rfl
@[simp] theorem raiseRec_sr {w code src p0 p1 : Nat} : (raiseRec w code src p0 p1 s).sr = s.sr := (raiseRec_kept (kept_refl (m := 260) s)).same .sr rfl
@[simp] theorem raiseRec_air {w code src p0 p1 : Nat} : (raiseRec w code src p0 p1 s).air = s.air := (raiseRec_kept (kept_refl (m := 260) s)).same .air rfl
@[simp] theorem raiseRec_mac {w code src p0 p1 : Nat} : (raiseRec w code src p0 p1 s).mac = s.mac := (raiseRec_kept (kept_refl (m := 260) s)).same .mac rfl
@[simp] theorem raiseRec_ptp {w code src p0 p1 : Nat} : (raiseRec w code src p0 p1 s).ptp = s.ptp := (raiseRec_kept (kept_refl (m := 260) s)).same .ptp rfl
@[simp] theorem raiseRec_lease {w code src p0 p1 : Nat} : (raiseRec w code src p0 p1 s).lease = s.lease := (raiseRec_kept (kept_refl (m := 260) s)).same .lease rfl
@[simp] theorem raiseRec_ing {w code src p0 p1 : Nat} : (raiseRec w code src p0 p1 s).ing = s.ing := (raiseRec_kept (kept_refl (m := 260) s)).same .ing rfl
@[simp] theorem raiseRec_bill {w code src p0 p1 : Nat} : (raiseRec w code src p0 p1 s).bill = s.bill := (raiseRec_kept (kept_refl (m := 260) s)).same .bill rfl
@[simp] theorem raiseRec_prepay {w code src p0 p1 : Nat} : (raiseRec w code src p0 p1 s).prepay = s.prepay := (raiseRec_kept (kept_refl (m := 260) s)).same .prepay rfl
@[simp] theorem raiseRec_audit {w code src p0 p1 : Nat} : (raiseRec w code src p0 p1 s).audit = s.audit := (raiseRec_kept (kept_refl (m := 260) s)).same .audit rfl
@[simp] theorem raiseRec_nand {w code src p0 p1 : Nat} : (raiseRec w code src p0 p1 s).nand = s.nand := (raiseRec_kept (kept_refl (m := 260) s)).same .nand rfl
@[simp] theorem raiseRec_store {w code src p0 p1 : Nat} : (raiseRec w code src p0 p1 s).store = s.store := (raiseRec_kept (kept_refl (m := 260) s)).same .store rfl
@[simp] theorem raiseRec_power {w code src p0 p1 : Nat} : (raiseRec w code src p0 p1 s).power = s.power := (raiseRec_kept (kept_refl (m := 260) s)).same .power rfl
@[simp] theorem raiseRec_ddr {w code src p0 p1 : Nat} : (raiseRec w code src p0 p1 s).ddr = s.ddr := (raiseRec_kept (kept_refl (m := 260) s)).same .ddr rfl
@[simp] theorem raiseRec_lans {w code src p0 p1 : Nat} : (raiseRec w code src p0 p1 s).lans = s.lans := (raiseRec_kept (kept_refl (m := 260) s)).same .lans rfl
@[simp] theorem raiseRec_pairs {w code src p0 p1 : Nat} : (raiseRec w code src p0 p1 s).pairs = s.pairs := (raiseRec_kept (kept_refl (m := 260) s)).same .pairs rfl
@[simp] theorem raiseRec_upd {w code src p0 p1 : Nat} : (raiseRec w code src p0 p1 s).upd = s.upd := (raiseRec_kept (kept_refl (m := 260) s)).same .upd rfl
@[simp] theorem raiseRec_free {w code src p0 p1 : Nat} : (raiseRec w code src p0 p1 s).free = s.free := (raiseRec_kept (kept_refl (m := 260) s)).same .free rfl
@[simp] theorem raiseRec_clash {w code src p0 p1 : Nat} : (raiseRec w code src p0 p1 s).clash = s.clash := (raiseRec_kept (kept_refl (m := 260) s)).same .clash rfl
@[simp] theorem raiseRec_part {w code src p0 p1 : Nat} : (raiseRec w code src p0 p1 s).part = s.part := (raiseRec_kept (kept_refl (m := 260) s)).follows.part
@[simp] theorem raiseRec_pending {w code src p0 p1 : Nat} : (raiseRec w code src p0 p1 s).pending = s.pending := (raiseRec_kept (kept_refl (m := 260) s)).follows.pending

/-! `recentNote` -/

@[simp] theorem recentNote_clk {key gap n : Nat} : (recentNote key gap n s).clk = s.clk := rfl
@[simp] theorem recentNote_regs {key gap n : Nat} : (recentNote key gap n s).regs = s.regs := rfl
@[simp] theorem recentNote_cnt {key gap n : Nat} : (recentNote key gap n s).cnt = s.cnt := rfl
@[simp] theorem recentNote_objs {key gap n : Nat} : (recentNote key gap n s).objs = s.objs := rfl
@[simp] theorem recentNote_octs {key gap n : Nat} : (recentNote key gap n s).octs = s.octs := rfl
@[simp] theorem recentNote_fab {key gap n : Nat} : (recentNote key gap n s).fab = s.fab := rfl
@[simp] theorem recentNote_mode {key gap n : Nat} : (recentNote key gap n s).mode = s.mode := rfl
@[simp] theorem recentNote_bell {key gap n : Nat} : (recentNote key gap n s).bell = s.bell := rfl
@[simp] theorem recentNote_tally {key gap n : Nat} : (recentNote key gap n s).tally = s.tally := rfl
@[simp] theorem recentNote_mat {key gap n : Nat} : (recentNote key gap n s).mat = s.mat := rfl
@[simp] theorem recentNote_tt {key gap n : Nat} : (recentNote key gap n s).tt = s.tt := rfl
@[simp] theorem recentNote_cap {key gap n : Nat} : (recentNote key gap n s).cap = s.cap := rfl
@[simp] theorem recentNote_armed {key gap n : Nat} : (recentNote key gap n s).armed = s.armed := rfl
@[simp] theorem recentNote_emp {key gap n : Nat} : (recentNote key gap n s).emp = s.emp := rfl
@[simp] theorem recentNote_sr {key gap n : Nat} : (recentNote key gap n s).sr = s.sr := rfl
@[simp] theorem recentNote_air {key gap n : Nat} : (recentNote key gap n s).air = s.air := rfl
@[simp] theorem recentNote_mac {key gap n : Nat} : (recentNote key gap n s).mac = s.mac := rfl
@[simp] theorem recentNote_ptp {key gap n : Nat} : (recentNote key gap n s).ptp = s.ptp := rfl
@[simp] theorem recentNote_lease {key gap n : Nat} : (recentNote key gap n s).lease = s.lease := rfl
@[simp] theorem recentNote_ing {key gap n : Nat} : (recentNote key gap n s).ing = s.ing := rfl
@[simp] theorem recentNote_bill {key gap n : Nat} : (recentNote key gap n s).bill = s.bill := rfl
@[simp] theorem recentNote_prepay {key gap n : Nat} : (recentNote key gap n s).prepay = s.prepay := rfl
@[simp] theorem recentNote_audit {key gap n : Nat} : (recentNote key gap n s).audit = s.audit := rfl
@[simp] theorem recentNote_nand {key gap n : Nat} : (recentNote key gap n s).nand = s.nand := rfl
@[simp] theorem recentNote_store {key gap n : Nat} : (recentNote key gap n s).store = s.store := rfl
@[simp] theorem recentNote_power {key gap n : Nat} : (recentNote key gap n s).power = s.power := rfl
@[simp] theorem recentNote_ddr {key gap n : Nat} : (recentNote key gap n s).ddr = s.ddr := rfl
@[simp] theorem recentNote_lans {key gap n : Nat} : (recentNote key gap n s).lans = s.lans := rfl
@[simp] theorem recentNote_pairs {key gap n : Nat} : (recentNote key gap n s).pairs = s.pairs := rfl
@[simp] theorem recentNote_upd {key gap n : Nat} : (recentNote key gap n s).upd = s.upd := rfl
@[simp] theorem recentNote_free {key gap n : Nat} : (recentNote key gap n s).free = s.free := rfl
@[simp] theorem recentNote_clash {key gap n : Nat} : (recentNote key gap n s).clash = s.clash := rfl
@[simp] theorem recentNote_part {key gap n : Nat} : (recentNote key gap n s).part = s.part := rfl
@[simp] theorem recentNote_pending {key gap n : Nat} : (recentNote key gap n s).pending = s.pending := rfl
@[simp] theorem recentNote_dram {key gap n : Nat} : (recentNote key gap n s).dram = s.dram := rfl

/-! `onceNote` -/

@[simp] theorem onceNote_clk {key : Nat} : (onceNote key s).clk = s.clk := rfl
@[simp] theorem onceNote_regs {key : Nat} : (onceNote key s).regs = s.regs := rfl
@[simp] theorem onceNote_cnt {key : Nat} : (onceNote key s).cnt = s.cnt := rfl
@[simp] theorem onceNote_objs {key : Nat} : (onceNote key s).objs = s.objs := rfl
@[simp] theorem onceNote_octs {key : Nat} : (onceNote key s).octs = s.octs := rfl
@[simp] theorem onceNote_fab {key : Nat} : (onceNote key s).fab = s.fab := rfl
@[simp] theorem onceNote_mode {key : Nat} : (onceNote key s).mode = s.mode := rfl
@[simp] theorem onceNote_bell {key : Nat} : (onceNote key s).bell = s.bell := rfl
@[simp] theorem onceNote_tally {key : Nat} : (onceNote key s).tally = s.tally := rfl
@[simp] theorem onceNote_mat {key : Nat} : (onceNote key s).mat = s.mat := rfl
@[simp] theorem onceNote_tt {key : Nat} : (onceNote key s).tt = s.tt := rfl
@[simp] theorem onceNote_cap {key : Nat} : (onceNote key s).cap = s.cap := rfl
@[simp] theorem onceNote_armed {key : Nat} : (onceNote key s).armed = s.armed := rfl
@[simp] theorem onceNote_emp {key : Nat} : (onceNote key s).emp = s.emp := rfl
@[simp] theorem onceNote_sr {key : Nat} : (onceNote key s).sr = s.sr := rfl
@[simp] theorem onceNote_air {key : Nat} : (onceNote key s).air = s.air := rfl
@[simp] theorem onceNote_mac {key : Nat} : (onceNote key s).mac = s.mac := rfl
@[simp] theorem onceNote_ptp {key : Nat} : (onceNote key s).ptp = s.ptp := rfl
@[simp] theorem onceNote_lease {key : Nat} : (onceNote key s).lease = s.lease := rfl
@[simp] theorem onceNote_ing {key : Nat} : (onceNote key s).ing = s.ing := rfl
@[simp] theorem onceNote_bill {key : Nat} : (onceNote key s).bill = s.bill := rfl
@[simp] theorem onceNote_prepay {key : Nat} : (onceNote key s).prepay = s.prepay := rfl
@[simp] theorem onceNote_audit {key : Nat} : (onceNote key s).audit = s.audit := rfl
@[simp] theorem onceNote_nand {key : Nat} : (onceNote key s).nand = s.nand := rfl
@[simp] theorem onceNote_store {key : Nat} : (onceNote key s).store = s.store := rfl
@[simp] theorem onceNote_power {key : Nat} : (onceNote key s).power = s.power := rfl
@[simp] theorem onceNote_ddr {key : Nat} : (onceNote key s).ddr = s.ddr := rfl
@[simp] theorem onceNote_lans {key : Nat} : (onceNote key s).lans = s.lans := rfl
@[simp] theorem onceNote_pairs {key : Nat} : (onceNote key s).pairs = s.pairs := rfl
@[simp] theorem onceNote_upd {key : Nat} : (onceNote key s).upd = s.upd := rfl
@[simp] theorem onceNote_free {key : Nat} : (onceNote key s).free = s.free := rfl
@[simp] theorem onceNote_clash {key : Nat} : (onceNote key s).clash = s.clash := rfl
@[simp] theorem onceNote_part {key : Nat} : (onceNote key s).part = s.part := rfl
@[simp] theorem onceNote_pending {key : Nat} : (onceNote key s).pending = s.pending := rfl
@[simp] theorem onceNote_dram {key : Nat} : (onceNote key s).dram = s.dram := rfl

/-! `sendFirst` -/

@[simp] theorem sendFirst_clk {w : Nat} : (sendFirst w s).clk = s.clk := (sendFirst_kept (kept_refl (m := 8589935382) s)).same .clk rfl
@[simp] theorem sendFirst_octs {w : Nat} : (sendFirst w s).octs = s.octs := (sendFirst_kept (kept_refl (m := 8589935382) s)).same .octs rfl
@[simp] theorem sendFirst_fab {w : Nat} : (sendFirst w s).fab = s.fab := (sendFirst_kept (kept_refl (m := 8589935382) s)).same .fab rfl
@[simp] theorem sendFirst_mode {w : Nat} : (sendFirst w s).mode = s.mode := (sendFirst_kept (kept_refl (m := 8589935382) s)).same .mode rfl
@[simp] theorem sendFirst_tally {w : Nat} : (sendFirst w s).tally = s.tally := (sendFirst_kept (kept_refl (m := 8589935382) s)).same .tally rfl
@[simp] theorem sendFirst_mat {w : Nat} : (sendFirst w s).mat = s.mat := (sendFirst_kept (kept_refl (m := 8589935382) s)).same .mat rfl
@[simp] theorem sendFirst_tt {w : Nat} : (sendFirst w s).tt = s.tt := (sendFirst_kept (kept_refl (m := 8589935382) s)).same .tt rfl
@[simp] theorem sendFirst_cap {w : Nat} : (sendFirst w s).cap = s.cap := (sendFirst_kept (kept_refl (m := 8589935382) s)).same .cap rfl
@[simp] theorem sendFirst_armed {w : Nat} : (sendFirst w s).armed = s.armed := (sendFirst_kept (kept_refl (m := 8589935382) s)).same .armed rfl
@[simp] theorem sendFirst_emp {w : Nat} : (sendFirst w s).emp = s.emp := (sendFirst_kept (kept_refl (m := 8589935382) s)).same .emp rfl
@[simp] theorem sendFirst_sr {w : Nat} : (sendFirst w s).sr = s.sr := (sendFirst_kept (kept_refl (m := 8589935382) s)).same .sr rfl
@[simp] theorem sendFirst_air {w : Nat} : (sendFirst w s).air = s.air := (sendFirst_kept (kept_refl (m := 8589935382) s)).same .air rfl
@[simp] theorem sendFirst_mac {w : Nat} : (sendFirst w s).mac = s.mac := (sendFirst_kept (kept_refl (m := 8589935382) s)).same .mac rfl
@[simp] theorem sendFirst_ptp {w : Nat} : (sendFirst w s).ptp = s.ptp := (sendFirst_kept (kept_refl (m := 8589935382) s)).same .ptp rfl
@[simp] theorem sendFirst_lease {w : Nat} : (sendFirst w s).lease = s.lease := (sendFirst_kept (kept_refl (m := 8589935382) s)).same .lease rfl
@[simp] theorem sendFirst_ing {w : Nat} : (sendFirst w s).ing = s.ing := (sendFirst_kept (kept_refl (m := 8589935382) s)).same .ing rfl
@[simp] theorem sendFirst_bill {w : Nat} : (sendFirst w s).bill = s.bill := (sendFirst_kept (kept_refl (m := 8589935382) s)).same .bill rfl
@[simp] theorem sendFirst_prepay {w : Nat} : (sendFirst w s).prepay = s.prepay := (sendFirst_kept (kept_refl (m := 8589935382) s)).same .prepay rfl
@[simp] theorem sendFirst_audit {w : Nat} : (sendFirst w s).audit = s.audit := (sendFirst_kept (kept_refl (m := 8589935382) s)).same .audit rfl
@[simp] theorem sendFirst_nand {w : Nat} : (sendFirst w s).nand = s.nand := (sendFirst_kept (kept_refl (m := 8589935382) s)).same .nand rfl
@[simp] theorem sendFirst_store {w : Nat} : (sendFirst w s).store = s.store := (sendFirst_kept (kept_refl (m := 8589935382) s)).same .store rfl
@[simp] theorem sendFirst_power {w : Nat} : (sendFirst w s).power = s.power := (sendFirst_kept (kept_refl (m := 8589935382) s)).same .power rfl
@[simp] theorem sendFirst_ddr {w : Nat} : (sendFirst w s).ddr = s.ddr := (sendFirst_kept (kept_refl (m := 8589935382) s)).same .ddr rfl
@[simp] theorem sendFirst_lans {w : Nat} : (sendFirst w s).lans = s.lans := (sendFirst_kept (kept_refl (m := 8589935382) s)).same .lans rfl
@[simp] theorem sendFirst_pairs {w : Nat} : (sendFirst w s).pairs = s.pairs := (sendFirst_kept (kept_refl (m := 8589935382) s)).same .pairs rfl
@[simp] theorem sendFirst_upd {w : Nat} : (sendFirst w s).upd = s.upd := (sendFirst_kept (kept_refl (m := 8589935382) s)).same .upd rfl
@[simp] theorem sendFirst_free {w : Nat} : (sendFirst w s).free = s.free := (sendFirst_kept (kept_refl (m := 8589935382) s)).same .free rfl
@[simp] theorem sendFirst_part {w : Nat} : (sendFirst w s).part = s.part := (sendFirst_kept (kept_refl (m := 8589935382) s)).follows.part
@[simp] theorem sendFirst_pending {w : Nat} : (sendFirst w s).pending = s.pending := (sendFirst_kept (kept_refl (m := 8589935382) s)).follows.pending

/-! `overwrite` -/

@[simp] theorem overwrite_clk {w : Nat} {lost : Bool} : (overwrite w lost s).clk = s.clk := (overwrite_kept (kept_refl (m := 8589935366) s)).same .clk rfl
@[simp] theorem overwrite_objs {w : Nat} {lost : Bool} : (overwrite w lost s).objs = s.objs := (overwrite_kept (kept_refl (m := 8589935366) s)).same .objs rfl
@[simp] theorem overwrite_octs {w : Nat} {lost : Bool} : (overwrite w lost s).octs = s.octs := (overwrite_kept (kept_refl (m := 8589935366) s)).same .octs rfl
@[simp] theorem overwrite_fab {w : Nat} {lost : Bool} : (overwrite w lost s).fab = s.fab := (overwrite_kept (kept_refl (m := 8589935366) s)).same .fab rfl
@[simp] theorem overwrite_mode {w : Nat} {lost : Bool} : (overwrite w lost s).mode = s.mode := (overwrite_kept (kept_refl (m := 8589935366) s)).same .mode rfl
@[simp] theorem overwrite_tally {w : Nat} {lost : Bool} : (overwrite w lost s).tally = s.tally := (overwrite_kept (kept_refl (m := 8589935366) s)).same .tally rfl
@[simp] theorem overwrite_mat {w : Nat} {lost : Bool} : (overwrite w lost s).mat = s.mat := (overwrite_kept (kept_refl (m := 8589935366) s)).same .mat rfl
@[simp] theorem overwrite_tt {w : Nat} {lost : Bool} : (overwrite w lost s).tt = s.tt := (overwrite_kept (kept_refl (m := 8589935366) s)).same .tt rfl
@[simp] theorem overwrite_cap {w : Nat} {lost : Bool} : (overwrite w lost s).cap = s.cap := (overwrite_kept (kept_refl (m := 8589935366) s)).same .cap rfl
@[simp] theorem overwrite_armed {w : Nat} {lost : Bool} : (overwrite w lost s).armed = s.armed := (overwrite_kept (kept_refl (m := 8589935366) s)).same .armed rfl
@[simp] theorem overwrite_emp {w : Nat} {lost : Bool} : (overwrite w lost s).emp = s.emp := (overwrite_kept (kept_refl (m := 8589935366) s)).same .emp rfl
@[simp] theorem overwrite_sr {w : Nat} {lost : Bool} : (overwrite w lost s).sr = s.sr := (overwrite_kept (kept_refl (m := 8589935366) s)).same .sr rfl
@[simp] theorem overwrite_air {w : Nat} {lost : Bool} : (overwrite w lost s).air = s.air := (overwrite_kept (kept_refl (m := 8589935366) s)).same .air rfl
@[simp] theorem overwrite_mac {w : Nat} {lost : Bool} : (overwrite w lost s).mac = s.mac := (overwrite_kept (kept_refl (m := 8589935366) s)).same .mac rfl
@[simp] theorem overwrite_ptp {w : Nat} {lost : Bool} : (overwrite w lost s).ptp = s.ptp := (overwrite_kept (kept_refl (m := 8589935366) s)).same .ptp rfl
@[simp] theorem overwrite_lease {w : Nat} {lost : Bool} : (overwrite w lost s).lease = s.lease := (overwrite_kept (kept_refl (m := 8589935366) s)).same .lease rfl
@[simp] theorem overwrite_ing {w : Nat} {lost : Bool} : (overwrite w lost s).ing = s.ing := (overwrite_kept (kept_refl (m := 8589935366) s)).same .ing rfl
@[simp] theorem overwrite_bill {w : Nat} {lost : Bool} : (overwrite w lost s).bill = s.bill := (overwrite_kept (kept_refl (m := 8589935366) s)).same .bill rfl
@[simp] theorem overwrite_prepay {w : Nat} {lost : Bool} : (overwrite w lost s).prepay = s.prepay := (overwrite_kept (kept_refl (m := 8589935366) s)).same .prepay rfl
@[simp] theorem overwrite_audit {w : Nat} {lost : Bool} : (overwrite w lost s).audit = s.audit := (overwrite_kept (kept_refl (m := 8589935366) s)).same .audit rfl
@[simp] theorem overwrite_nand {w : Nat} {lost : Bool} : (overwrite w lost s).nand = s.nand := (overwrite_kept (kept_refl (m := 8589935366) s)).same .nand rfl
@[simp] theorem overwrite_store {w : Nat} {lost : Bool} : (overwrite w lost s).store = s.store := (overwrite_kept (kept_refl (m := 8589935366) s)).same .store rfl
@[simp] theorem overwrite_power {w : Nat} {lost : Bool} : (overwrite w lost s).power = s.power := (overwrite_kept (kept_refl (m := 8589935366) s)).same .power rfl
@[simp] theorem overwrite_ddr {w : Nat} {lost : Bool} : (overwrite w lost s).ddr = s.ddr := (overwrite_kept (kept_refl (m := 8589935366) s)).same .ddr rfl
@[simp] theorem overwrite_lans {w : Nat} {lost : Bool} : (overwrite w lost s).lans = s.lans := (overwrite_kept (kept_refl (m := 8589935366) s)).same .lans rfl
@[simp] theorem overwrite_pairs {w : Nat} {lost : Bool} : (overwrite w lost s).pairs = s.pairs := (overwrite_kept (kept_refl (m := 8589935366) s)).same .pairs rfl
@[simp] theorem overwrite_upd {w : Nat} {lost : Bool} : (overwrite w lost s).upd = s.upd := (overwrite_kept (kept_refl (m := 8589935366) s)).same .upd rfl
@[simp] theorem overwrite_free {w : Nat} {lost : Bool} : (overwrite w lost s).free = s.free := (overwrite_kept (kept_refl (m := 8589935366) s)).same .free rfl
@[simp] theorem overwrite_part {w : Nat} {lost : Bool} : (overwrite w lost s).part = s.part := (overwrite_kept (kept_refl (m := 8589935366) s)).follows.part
@[simp] theorem overwrite_pending {w : Nat} {lost : Bool} : (overwrite w lost s).pending = s.pending := (overwrite_kept (kept_refl (m := 8589935366) s)).follows.pending

/-! `raiseOne` -/

@[simp] theorem raiseOne_clk {w code src p0 p1 : Nat} : (raiseOne w code src p0 p1 s).clk = s.clk := (raiseOne_kept (kept_refl (m := 8589935382) s)).same .clk rfl
@[simp] theorem raiseOne_octs {w code src p0 p1 : Nat} : (raiseOne w code src p0 p1 s).octs = s.octs := (raiseOne_kept (kept_refl (m := 8589935382) s)).same .octs rfl
@[simp] theorem raiseOne_fab {w code src p0 p1 : Nat} : (raiseOne w code src p0 p1 s).fab = s.fab := (raiseOne_kept (kept_refl (m := 8589935382) s)).same .fab rfl
@[simp] theorem raiseOne_mode {w code src p0 p1 : Nat} : (raiseOne w code src p0 p1 s).mode = s.mode := (raiseOne_kept (kept_refl (m := 8589935382) s)).same .mode rfl
@[simp] theorem raiseOne_tally {w code src p0 p1 : Nat} : (raiseOne w code src p0 p1 s).tally = s.tally := (raiseOne_kept (kept_refl (m := 8589935382) s)).same .tally rfl
@[simp] theorem raiseOne_mat {w code src p0 p1 : Nat} : (raiseOne w code src p0 p1 s).mat = s.mat := (raiseOne_kept (kept_refl (m := 8589935382) s)).same .mat rfl
@[simp] theorem raiseOne_tt {w code src p0 p1 : Nat} : (raiseOne w code src p0 p1 s).tt = s.tt := (raiseOne_kept (kept_refl (m := 8589935382) s)).same .tt rfl
@[simp] theorem raiseOne_cap {w code src p0 p1 : Nat} : (raiseOne w code src p0 p1 s).cap = s.cap := (raiseOne_kept (kept_refl (m := 8589935382) s)).same .cap rfl
@[simp] theorem raiseOne_armed {w code src p0 p1 : Nat} : (raiseOne w code src p0 p1 s).armed = s.armed := (raiseOne_kept (kept_refl (m := 8589935382) s)).same .armed rfl
@[simp] theorem raiseOne_emp {w code src p0 p1 : Nat} : (raiseOne w code src p0 p1 s).emp = s.emp := (raiseOne_kept (kept_refl (m := 8589935382) s)).same .emp rfl
@[simp] theorem raiseOne_sr {w code src p0 p1 : Nat} : (raiseOne w code src p0 p1 s).sr = s.sr := (raiseOne_kept (kept_refl (m := 8589935382) s)).same .sr rfl
@[simp] theorem raiseOne_air {w code src p0 p1 : Nat} : (raiseOne w code src p0 p1 s).air = s.air := (raiseOne_kept (kept_refl (m := 8589935382) s)).same .air rfl
@[simp] theorem raiseOne_mac {w code src p0 p1 : Nat} : (raiseOne w code src p0 p1 s).mac = s.mac := (raiseOne_kept (kept_refl (m := 8589935382) s)).same .mac rfl
@[simp] theorem raiseOne_ptp {w code src p0 p1 : Nat} : (raiseOne w code src p0 p1 s).ptp = s.ptp := (raiseOne_kept (kept_refl (m := 8589935382) s)).same .ptp rfl
@[simp] theorem raiseOne_lease {w code src p0 p1 : Nat} : (raiseOne w code src p0 p1 s).lease = s.lease := (raiseOne_kept (kept_refl (m := 8589935382) s)).same .lease rfl
@[simp] theorem raiseOne_ing {w code src p0 p1 : Nat} : (raiseOne w code src p0 p1 s).ing = s.ing := (raiseOne_kept (kept_refl (m := 8589935382) s)).same .ing rfl
@[simp] theorem raiseOne_bill {w code src p0 p1 : Nat} : (raiseOne w code src p0 p1 s).bill = s.bill := (raiseOne_kept (kept_refl (m := 8589935382) s)).same .bill rfl
@[simp] theorem raiseOne_prepay {w code src p0 p1 : Nat} : (raiseOne w code src p0 p1 s).prepay = s.prepay := (raiseOne_kept (kept_refl (m := 8589935382) s)).same .prepay rfl
@[simp] theorem raiseOne_audit {w code src p0 p1 : Nat} : (raiseOne w code src p0 p1 s).audit = s.audit := (raiseOne_kept (kept_refl (m := 8589935382) s)).same .audit rfl
@[simp] theorem raiseOne_nand {w code src p0 p1 : Nat} : (raiseOne w code src p0 p1 s).nand = s.nand := (raiseOne_kept (kept_refl (m := 8589935382) s)).same .nand rfl
@[simp] theorem raiseOne_store {w code src p0 p1 : Nat} : (raiseOne w code src p0 p1 s).store = s.store := (raiseOne_kept (kept_refl (m := 8589935382) s)).same .store rfl
@[simp] theorem raiseOne_power {w code src p0 p1 : Nat} : (raiseOne w code src p0 p1 s).power = s.power := (raiseOne_kept (kept_refl (m := 8589935382) s)).same .power rfl
@[simp] theorem raiseOne_ddr {w code src p0 p1 : Nat} : (raiseOne w code src p0 p1 s).ddr = s.ddr := (raiseOne_kept (kept_refl (m := 8589935382) s)).same .ddr rfl
@[simp] theorem raiseOne_lans {w code src p0 p1 : Nat} : (raiseOne w code src p0 p1 s).lans = s.lans := (raiseOne_kept (kept_refl (m := 8589935382) s)).same .lans rfl
@[simp] theorem raiseOne_pairs {w code src p0 p1 : Nat} : (raiseOne w code src p0 p1 s).pairs = s.pairs := (raiseOne_kept (kept_refl (m := 8589935382) s)).same .pairs rfl
@[simp] theorem raiseOne_upd {w code src p0 p1 : Nat} : (raiseOne w code src p0 p1 s).upd = s.upd := (raiseOne_kept (kept_refl (m := 8589935382) s)).same .upd rfl
@[simp] theorem raiseOne_free {w code src p0 p1 : Nat} : (raiseOne w code src p0 p1 s).free = s.free := (raiseOne_kept (kept_refl (m := 8589935382) s)).same .free rfl
@[simp] theorem raiseOne_part {w code src p0 p1 : Nat} : (raiseOne w code src p0 p1 s).part = s.part := (raiseOne_kept (kept_refl (m := 8589935382) s)).follows.part
@[simp] theorem raiseOne_pending {w code src p0 p1 : Nat} : (raiseOne w code src p0 p1 s).pending = s.pending := (raiseOne_kept (kept_refl (m := 8589935382) s)).follows.pending

/-! `raise` -/

@[simp] theorem raise_clk {w code src p0 p1 : Nat} : (raise w code src p0 p1 s).clk = s.clk := (raise_kept (kept_refl (m := 8589935382) s)).same .clk rfl
@[simp] theorem raise_octs {w code src p0 p1 : Nat} : (raise w code src p0 p1 s).octs = s.octs := (raise_kept (kept_refl (m := 8589935382) s)).same .octs rfl
@[simp] theorem raise_fab {w code src p0 p1 : Nat} : (raise w code src p0 p1 s).fab = s.fab := (raise_kept (kept_refl (m := 8589935382) s)).same .fab rfl
@[simp] theorem raise_mode {w code src p0 p1 : Nat} : (raise w code src p0 p1 s).mode = s.mode := (raise_kept (kept_refl (m := 8589935382) s)).same .mode rfl
@[simp] theorem raise_tally {w code src p0 p1 : Nat} : (raise w code src p0 p1 s).tally = s.tally := (raise_kept (kept_refl (m := 8589935382) s)).same .tally rfl
@[simp] theorem raise_mat {w code src p0 p1 : Nat} : (raise w code src p0 p1 s).mat = s.mat := (raise_kept (kept_refl (m := 8589935382) s)).same .mat rfl
@[simp] theorem raise_tt {w code src p0 p1 : Nat} : (raise w code src p0 p1 s).tt = s.tt := (raise_kept (kept_refl (m := 8589935382) s)).same .tt rfl
@[simp] theorem raise_cap {w code src p0 p1 : Nat} : (raise w code src p0 p1 s).cap = s.cap := (raise_kept (kept_refl (m := 8589935382) s)).same .cap rfl
@[simp] theorem raise_armed {w code src p0 p1 : Nat} : (raise w code src p0 p1 s).armed = s.armed := (raise_kept (kept_refl (m := 8589935382) s)).same .armed rfl
@[simp] theorem raise_emp {w code src p0 p1 : Nat} : (raise w code src p0 p1 s).emp = s.emp := (raise_kept (kept_refl (m := 8589935382) s)).same .emp rfl
@[simp] theorem raise_sr {w code src p0 p1 : Nat} : (raise w code src p0 p1 s).sr = s.sr := (raise_kept (kept_refl (m := 8589935382) s)).same .sr rfl
@[simp] theorem raise_air {w code src p0 p1 : Nat} : (raise w code src p0 p1 s).air = s.air := (raise_kept (kept_refl (m := 8589935382) s)).same .air rfl
@[simp] theorem raise_mac {w code src p0 p1 : Nat} : (raise w code src p0 p1 s).mac = s.mac := (raise_kept (kept_refl (m := 8589935382) s)).same .mac rfl
@[simp] theorem raise_ptp {w code src p0 p1 : Nat} : (raise w code src p0 p1 s).ptp = s.ptp := (raise_kept (kept_refl (m := 8589935382) s)).same .ptp rfl
@[simp] theorem raise_lease {w code src p0 p1 : Nat} : (raise w code src p0 p1 s).lease = s.lease := (raise_kept (kept_refl (m := 8589935382) s)).same .lease rfl
@[simp] theorem raise_ing {w code src p0 p1 : Nat} : (raise w code src p0 p1 s).ing = s.ing := (raise_kept (kept_refl (m := 8589935382) s)).same .ing rfl
@[simp] theorem raise_bill {w code src p0 p1 : Nat} : (raise w code src p0 p1 s).bill = s.bill := (raise_kept (kept_refl (m := 8589935382) s)).same .bill rfl
@[simp] theorem raise_prepay {w code src p0 p1 : Nat} : (raise w code src p0 p1 s).prepay = s.prepay := (raise_kept (kept_refl (m := 8589935382) s)).same .prepay rfl
@[simp] theorem raise_audit {w code src p0 p1 : Nat} : (raise w code src p0 p1 s).audit = s.audit := (raise_kept (kept_refl (m := 8589935382) s)).same .audit rfl
@[simp] theorem raise_nand {w code src p0 p1 : Nat} : (raise w code src p0 p1 s).nand = s.nand := (raise_kept (kept_refl (m := 8589935382) s)).same .nand rfl
@[simp] theorem raise_store {w code src p0 p1 : Nat} : (raise w code src p0 p1 s).store = s.store := (raise_kept (kept_refl (m := 8589935382) s)).same .store rfl
@[simp] theorem raise_power {w code src p0 p1 : Nat} : (raise w code src p0 p1 s).power = s.power := (raise_kept (kept_refl (m := 8589935382) s)).same .power rfl
@[simp] theorem raise_ddr {w code src p0 p1 : Nat} : (raise w code src p0 p1 s).ddr = s.ddr := (raise_kept (kept_refl (m := 8589935382) s)).same .ddr rfl
@[simp] theorem raise_lans {w code src p0 p1 : Nat} : (raise w code src p0 p1 s).lans = s.lans := (raise_kept (kept_refl (m := 8589935382) s)).same .lans rfl
@[simp] theorem raise_pairs {w code src p0 p1 : Nat} : (raise w code src p0 p1 s).pairs = s.pairs := (raise_kept (kept_refl (m := 8589935382) s)).same .pairs rfl
@[simp] theorem raise_upd {w code src p0 p1 : Nat} : (raise w code src p0 p1 s).upd = s.upd := (raise_kept (kept_refl (m := 8589935382) s)).same .upd rfl
@[simp] theorem raise_free {w code src p0 p1 : Nat} : (raise w code src p0 p1 s).free = s.free := (raise_kept (kept_refl (m := 8589935382) s)).same .free rfl
@[simp] theorem raise_part {w code src p0 p1 : Nat} : (raise w code src p0 p1 s).part = s.part := (raise_kept (kept_refl (m := 8589935382) s)).follows.part
@[simp] theorem raise_pending {w code src p0 p1 : Nat} : (raise w code src p0 p1 s).pending = s.pending := (raise_kept (kept_refl (m := 8589935382) s)).follows.pending

/-! `raiseOnce` -/

@[simp] theorem raiseOnce_clk {key gap w code src p0 p1 : Nat} : (raiseOnce key gap w code src p0 p1 s).clk = s.clk := (raiseOnce_kept (kept_refl (m := 8589935382) s)).same .clk rfl
@[simp] theorem raiseOnce_octs {key gap w code src p0 p1 : Nat} : (raiseOnce key gap w code src p0 p1 s).octs = s.octs := (raiseOnce_kept (kept_refl (m := 8589935382) s)).same .octs rfl
@[simp] theorem raiseOnce_fab {key gap w code src p0 p1 : Nat} : (raiseOnce key gap w code src p0 p1 s).fab = s.fab := (raiseOnce_kept (kept_refl (m := 8589935382) s)).same .fab rfl
@[simp] theorem raiseOnce_mode {key gap w code src p0 p1 : Nat} : (raiseOnce key gap w code src p0 p1 s).mode = s.mode := (raiseOnce_kept (kept_refl (m := 8589935382) s)).same .mode rfl
@[simp] theorem raiseOnce_tally {key gap w code src p0 p1 : Nat} : (raiseOnce key gap w code src p0 p1 s).tally = s.tally := (raiseOnce_kept (kept_refl (m := 8589935382) s)).same .tally rfl
@[simp] theorem raiseOnce_mat {key gap w code src p0 p1 : Nat} : (raiseOnce key gap w code src p0 p1 s).mat = s.mat := (raiseOnce_kept (kept_refl (m := 8589935382) s)).same .mat rfl
@[simp] theorem raiseOnce_tt {key gap w code src p0 p1 : Nat} : (raiseOnce key gap w code src p0 p1 s).tt = s.tt := (raiseOnce_kept (kept_refl (m := 8589935382) s)).same .tt rfl
@[simp] theorem raiseOnce_cap {key gap w code src p0 p1 : Nat} : (raiseOnce key gap w code src p0 p1 s).cap = s.cap := (raiseOnce_kept (kept_refl (m := 8589935382) s)).same .cap rfl
@[simp] theorem raiseOnce_armed {key gap w code src p0 p1 : Nat} : (raiseOnce key gap w code src p0 p1 s).armed = s.armed := (raiseOnce_kept (kept_refl (m := 8589935382) s)).same .armed rfl
@[simp] theorem raiseOnce_emp {key gap w code src p0 p1 : Nat} : (raiseOnce key gap w code src p0 p1 s).emp = s.emp := (raiseOnce_kept (kept_refl (m := 8589935382) s)).same .emp rfl
@[simp] theorem raiseOnce_sr {key gap w code src p0 p1 : Nat} : (raiseOnce key gap w code src p0 p1 s).sr = s.sr := (raiseOnce_kept (kept_refl (m := 8589935382) s)).same .sr rfl
@[simp] theorem raiseOnce_air {key gap w code src p0 p1 : Nat} : (raiseOnce key gap w code src p0 p1 s).air = s.air := (raiseOnce_kept (kept_refl (m := 8589935382) s)).same .air rfl
@[simp] theorem raiseOnce_mac {key gap w code src p0 p1 : Nat} : (raiseOnce key gap w code src p0 p1 s).mac = s.mac := (raiseOnce_kept (kept_refl (m := 8589935382) s)).same .mac rfl
@[simp] theorem raiseOnce_ptp {key gap w code src p0 p1 : Nat} : (raiseOnce key gap w code src p0 p1 s).ptp = s.ptp := (raiseOnce_kept (kept_refl (m := 8589935382) s)).same .ptp rfl
@[simp] theorem raiseOnce_lease {key gap w code src p0 p1 : Nat} : (raiseOnce key gap w code src p0 p1 s).lease = s.lease := (raiseOnce_kept (kept_refl (m := 8589935382) s)).same .lease rfl
@[simp] theorem raiseOnce_ing {key gap w code src p0 p1 : Nat} : (raiseOnce key gap w code src p0 p1 s).ing = s.ing := (raiseOnce_kept (kept_refl (m := 8589935382) s)).same .ing rfl
@[simp] theorem raiseOnce_bill {key gap w code src p0 p1 : Nat} : (raiseOnce key gap w code src p0 p1 s).bill = s.bill := (raiseOnce_kept (kept_refl (m := 8589935382) s)).same .bill rfl
@[simp] theorem raiseOnce_prepay {key gap w code src p0 p1 : Nat} : (raiseOnce key gap w code src p0 p1 s).prepay = s.prepay := (raiseOnce_kept (kept_refl (m := 8589935382) s)).same .prepay rfl
@[simp] theorem raiseOnce_audit {key gap w code src p0 p1 : Nat} : (raiseOnce key gap w code src p0 p1 s).audit = s.audit := (raiseOnce_kept (kept_refl (m := 8589935382) s)).same .audit rfl
@[simp] theorem raiseOnce_nand {key gap w code src p0 p1 : Nat} : (raiseOnce key gap w code src p0 p1 s).nand = s.nand := (raiseOnce_kept (kept_refl (m := 8589935382) s)).same .nand rfl
@[simp] theorem raiseOnce_store {key gap w code src p0 p1 : Nat} : (raiseOnce key gap w code src p0 p1 s).store = s.store := (raiseOnce_kept (kept_refl (m := 8589935382) s)).same .store rfl
@[simp] theorem raiseOnce_power {key gap w code src p0 p1 : Nat} : (raiseOnce key gap w code src p0 p1 s).power = s.power := (raiseOnce_kept (kept_refl (m := 8589935382) s)).same .power rfl
@[simp] theorem raiseOnce_ddr {key gap w code src p0 p1 : Nat} : (raiseOnce key gap w code src p0 p1 s).ddr = s.ddr := (raiseOnce_kept (kept_refl (m := 8589935382) s)).same .ddr rfl
@[simp] theorem raiseOnce_lans {key gap w code src p0 p1 : Nat} : (raiseOnce key gap w code src p0 p1 s).lans = s.lans := (raiseOnce_kept (kept_refl (m := 8589935382) s)).same .lans rfl
@[simp] theorem raiseOnce_pairs {key gap w code src p0 p1 : Nat} : (raiseOnce key gap w code src p0 p1 s).pairs = s.pairs := (raiseOnce_kept (kept_refl (m := 8589935382) s)).same .pairs rfl
@[simp] theorem raiseOnce_upd {key gap w code src p0 p1 : Nat} : (raiseOnce key gap w code src p0 p1 s).upd = s.upd := (raiseOnce_kept (kept_refl (m := 8589935382) s)).same .upd rfl
@[simp] theorem raiseOnce_free {key gap w code src p0 p1 : Nat} : (raiseOnce key gap w code src p0 p1 s).free = s.free := (raiseOnce_kept (kept_refl (m := 8589935382) s)).same .free rfl
@[simp] theorem raiseOnce_part {key gap w code src p0 p1 : Nat} : (raiseOnce key gap w code src p0 p1 s).part = s.part := (raiseOnce_kept (kept_refl (m := 8589935382) s)).follows.part
@[simp] theorem raiseOnce_pending {key gap w code src p0 p1 : Nat} : (raiseOnce key gap w code src p0 p1 s).pending = s.pending := (raiseOnce_kept (kept_refl (m := 8589935382) s)).follows.pending

/-! `raiseRate` -/

@[simp] theorem raiseRate_clk {key gap w code src p0 n : Nat} : (raiseRate key gap w code src p0 n s).clk = s.clk := (raiseRate_kept (kept_refl (m := 8589935382) s)).same .clk rfl
@[simp] theorem raiseRate_octs {key gap w code src p0 n : Nat} : (raiseRate key gap w code src p0 n s).octs = s.octs := (raiseRate_kept (kept_refl (m := 8589935382) s)).same .octs rfl
@[simp] theorem raiseRate_fab {key gap w code src p0 n : Nat} : (raiseRate key gap w code src p0 n s).fab = s.fab := (raiseRate_kept (kept_refl (m := 8589935382) s)).same .fab rfl
@[simp] theorem raiseRate_mode {key gap w code src p0 n : Nat} : (raiseRate key gap w code src p0 n s).mode = s.mode := (raiseRate_kept (kept_refl (m := 8589935382) s)).same .mode rfl
@[simp] theorem raiseRate_tally {key gap w code src p0 n : Nat} : (raiseRate key gap w code src p0 n s).tally = s.tally := (raiseRate_kept (kept_refl (m := 8589935382) s)).same .tally rfl
@[simp] theorem raiseRate_mat {key gap w code src p0 n : Nat} : (raiseRate key gap w code src p0 n s).mat = s.mat := (raiseRate_kept (kept_refl (m := 8589935382) s)).same .mat rfl
@[simp] theorem raiseRate_tt {key gap w code src p0 n : Nat} : (raiseRate key gap w code src p0 n s).tt = s.tt := (raiseRate_kept (kept_refl (m := 8589935382) s)).same .tt rfl
@[simp] theorem raiseRate_cap {key gap w code src p0 n : Nat} : (raiseRate key gap w code src p0 n s).cap = s.cap := (raiseRate_kept (kept_refl (m := 8589935382) s)).same .cap rfl
@[simp] theorem raiseRate_armed {key gap w code src p0 n : Nat} : (raiseRate key gap w code src p0 n s).armed = s.armed := (raiseRate_kept (kept_refl (m := 8589935382) s)).same .armed rfl
@[simp] theorem raiseRate_emp {key gap w code src p0 n : Nat} : (raiseRate key gap w code src p0 n s).emp = s.emp := (raiseRate_kept (kept_refl (m := 8589935382) s)).same .emp rfl
@[simp] theorem raiseRate_sr {key gap w code src p0 n : Nat} : (raiseRate key gap w code src p0 n s).sr = s.sr := (raiseRate_kept (kept_refl (m := 8589935382) s)).same .sr rfl
@[simp] theorem raiseRate_air {key gap w code src p0 n : Nat} : (raiseRate key gap w code src p0 n s).air = s.air := (raiseRate_kept (kept_refl (m := 8589935382) s)).same .air rfl
@[simp] theorem raiseRate_mac {key gap w code src p0 n : Nat} : (raiseRate key gap w code src p0 n s).mac = s.mac := (raiseRate_kept (kept_refl (m := 8589935382) s)).same .mac rfl
@[simp] theorem raiseRate_ptp {key gap w code src p0 n : Nat} : (raiseRate key gap w code src p0 n s).ptp = s.ptp := (raiseRate_kept (kept_refl (m := 8589935382) s)).same .ptp rfl
@[simp] theorem raiseRate_lease {key gap w code src p0 n : Nat} : (raiseRate key gap w code src p0 n s).lease = s.lease := (raiseRate_kept (kept_refl (m := 8589935382) s)).same .lease rfl
@[simp] theorem raiseRate_ing {key gap w code src p0 n : Nat} : (raiseRate key gap w code src p0 n s).ing = s.ing := (raiseRate_kept (kept_refl (m := 8589935382) s)).same .ing rfl
@[simp] theorem raiseRate_bill {key gap w code src p0 n : Nat} : (raiseRate key gap w code src p0 n s).bill = s.bill := (raiseRate_kept (kept_refl (m := 8589935382) s)).same .bill rfl
@[simp] theorem raiseRate_prepay {key gap w code src p0 n : Nat} : (raiseRate key gap w code src p0 n s).prepay = s.prepay := (raiseRate_kept (kept_refl (m := 8589935382) s)).same .prepay rfl
@[simp] theorem raiseRate_audit {key gap w code src p0 n : Nat} : (raiseRate key gap w code src p0 n s).audit = s.audit := (raiseRate_kept (kept_refl (m := 8589935382) s)).same .audit rfl
@[simp] theorem raiseRate_nand {key gap w code src p0 n : Nat} : (raiseRate key gap w code src p0 n s).nand = s.nand := (raiseRate_kept (kept_refl (m := 8589935382) s)).same .nand rfl
@[simp] theorem raiseRate_store {key gap w code src p0 n : Nat} : (raiseRate key gap w code src p0 n s).store = s.store := (raiseRate_kept (kept_refl (m := 8589935382) s)).same .store rfl
@[simp] theorem raiseRate_power {key gap w code src p0 n : Nat} : (raiseRate key gap w code src p0 n s).power = s.power := (raiseRate_kept (kept_refl (m := 8589935382) s)).same .power rfl
@[simp] theorem raiseRate_ddr {key gap w code src p0 n : Nat} : (raiseRate key gap w code src p0 n s).ddr = s.ddr := (raiseRate_kept (kept_refl (m := 8589935382) s)).same .ddr rfl
@[simp] theorem raiseRate_lans {key gap w code src p0 n : Nat} : (raiseRate key gap w code src p0 n s).lans = s.lans := (raiseRate_kept (kept_refl (m := 8589935382) s)).same .lans rfl
@[simp] theorem raiseRate_pairs {key gap w code src p0 n : Nat} : (raiseRate key gap w code src p0 n s).pairs = s.pairs := (raiseRate_kept (kept_refl (m := 8589935382) s)).same .pairs rfl
@[simp] theorem raiseRate_upd {key gap w code src p0 n : Nat} : (raiseRate key gap w code src p0 n s).upd = s.upd := (raiseRate_kept (kept_refl (m := 8589935382) s)).same .upd rfl
@[simp] theorem raiseRate_free {key gap w code src p0 n : Nat} : (raiseRate key gap w code src p0 n s).free = s.free := (raiseRate_kept (kept_refl (m := 8589935382) s)).same .free rfl
@[simp] theorem raiseRate_part {key gap w code src p0 n : Nat} : (raiseRate key gap w code src p0 n s).part = s.part := (raiseRate_kept (kept_refl (m := 8589935382) s)).follows.part
@[simp] theorem raiseRate_pending {key gap w code src p0 n : Nat} : (raiseRate key gap w code src p0 n s).pending = s.pending := (raiseRate_kept (kept_refl (m := 8589935382) s)).follows.pending

/-! `mramAppend` -/

@[simp] theorem mramAppend_clk {x : Nat} {r : LogRec} : (mramAppend x r s).clk = s.clk := rfl
@[simp] theorem mramAppend_regs {x : Nat} {r : LogRec} : (mramAppend x r s).regs = s.regs := rfl
@[simp] theorem mramAppend_cnt {x : Nat} {r : LogRec} : (mramAppend x r s).cnt = s.cnt := rfl
@[simp] theorem mramAppend_objs {x : Nat} {r : LogRec} : (mramAppend x r s).objs = s.objs := rfl
@[simp] theorem mramAppend_octs {x : Nat} {r : LogRec} : (mramAppend x r s).octs = s.octs := rfl
@[simp] theorem mramAppend_fab {x : Nat} {r : LogRec} : (mramAppend x r s).fab = s.fab := rfl
@[simp] theorem mramAppend_mode {x : Nat} {r : LogRec} : (mramAppend x r s).mode = s.mode := rfl
@[simp] theorem mramAppend_bell {x : Nat} {r : LogRec} : (mramAppend x r s).bell = s.bell := rfl
@[simp] theorem mramAppend_tally {x : Nat} {r : LogRec} : (mramAppend x r s).tally = s.tally := rfl
@[simp] theorem mramAppend_mat {x : Nat} {r : LogRec} : (mramAppend x r s).mat = s.mat := rfl
@[simp] theorem mramAppend_tt {x : Nat} {r : LogRec} : (mramAppend x r s).tt = s.tt := rfl
@[simp] theorem mramAppend_cap {x : Nat} {r : LogRec} : (mramAppend x r s).cap = s.cap := rfl
@[simp] theorem mramAppend_armed {x : Nat} {r : LogRec} : (mramAppend x r s).armed = s.armed := rfl
@[simp] theorem mramAppend_emp {x : Nat} {r : LogRec} : (mramAppend x r s).emp = s.emp := rfl
@[simp] theorem mramAppend_sr {x : Nat} {r : LogRec} : (mramAppend x r s).sr = s.sr := rfl
@[simp] theorem mramAppend_air {x : Nat} {r : LogRec} : (mramAppend x r s).air = s.air := rfl
@[simp] theorem mramAppend_mac {x : Nat} {r : LogRec} : (mramAppend x r s).mac = s.mac := rfl
@[simp] theorem mramAppend_ptp {x : Nat} {r : LogRec} : (mramAppend x r s).ptp = s.ptp := rfl
@[simp] theorem mramAppend_lease {x : Nat} {r : LogRec} : (mramAppend x r s).lease = s.lease := rfl
@[simp] theorem mramAppend_ing {x : Nat} {r : LogRec} : (mramAppend x r s).ing = s.ing := rfl
@[simp] theorem mramAppend_bill {x : Nat} {r : LogRec} : (mramAppend x r s).bill = s.bill := rfl
@[simp] theorem mramAppend_prepay {x : Nat} {r : LogRec} : (mramAppend x r s).prepay = s.prepay := rfl
@[simp] theorem mramAppend_audit {x : Nat} {r : LogRec} : (mramAppend x r s).audit = s.audit := rfl
@[simp] theorem mramAppend_nand {x : Nat} {r : LogRec} : (mramAppend x r s).nand = s.nand := rfl
@[simp] theorem mramAppend_store {x : Nat} {r : LogRec} : (mramAppend x r s).store = s.store := rfl
@[simp] theorem mramAppend_power {x : Nat} {r : LogRec} : (mramAppend x r s).power = s.power := rfl
@[simp] theorem mramAppend_ddr {x : Nat} {r : LogRec} : (mramAppend x r s).ddr = s.ddr := rfl
@[simp] theorem mramAppend_lans {x : Nat} {r : LogRec} : (mramAppend x r s).lans = s.lans := rfl
@[simp] theorem mramAppend_pairs {x : Nat} {r : LogRec} : (mramAppend x r s).pairs = s.pairs := rfl
@[simp] theorem mramAppend_upd {x : Nat} {r : LogRec} : (mramAppend x r s).upd = s.upd := rfl
@[simp] theorem mramAppend_free {x : Nat} {r : LogRec} : (mramAppend x r s).free = s.free := rfl
@[simp] theorem mramAppend_clash {x : Nat} {r : LogRec} : (mramAppend x r s).clash = s.clash := rfl
@[simp] theorem mramAppend_part {x : Nat} {r : LogRec} : (mramAppend x r s).part = s.part := rfl
@[simp] theorem mramAppend_pending {x : Nat} {r : LogRec} : (mramAppend x r s).pending = s.pending := rfl
@[simp] theorem mramAppend_dram {x : Nat} {r : LogRec} : (mramAppend x r s).dram = s.dram := rfl

/-! `keeperRaise` -/

@[simp] theorem keeperRaise_clk {code src p0 p1 : Nat} : (keeperRaise code src p0 p1 s).clk = s.clk := (keeperRaise_kept (kept_refl (m := 256) s)).same .clk rfl
@[simp] theorem keeperRaise_regs {code src p0 p1 : Nat} : (keeperRaise code src p0 p1 s).regs = s.regs := (keeperRaise_kept (kept_refl (m := 256) s)).same .regs rfl
@[simp] theorem keeperRaise_cnt {code src p0 p1 : Nat} : (keeperRaise code src p0 p1 s).cnt = s.cnt := (keeperRaise_kept (kept_refl (m := 256) s)).same .cnt rfl
@[simp] theorem keeperRaise_objs {code src p0 p1 : Nat} : (keeperRaise code src p0 p1 s).objs = s.objs := (keeperRaise_kept (kept_refl (m := 256) s)).same .objs rfl
@[simp] theorem keeperRaise_octs {code src p0 p1 : Nat} : (keeperRaise code src p0 p1 s).octs = s.octs := (keeperRaise_kept (kept_refl (m := 256) s)).same .octs rfl
@[simp] theorem keeperRaise_fab {code src p0 p1 : Nat} : (keeperRaise code src p0 p1 s).fab = s.fab := (keeperRaise_kept (kept_refl (m := 256) s)).same .fab rfl
@[simp] theorem keeperRaise_mode {code src p0 p1 : Nat} : (keeperRaise code src p0 p1 s).mode = s.mode := (keeperRaise_kept (kept_refl (m := 256) s)).same .mode rfl
@[simp] theorem keeperRaise_bell {code src p0 p1 : Nat} : (keeperRaise code src p0 p1 s).bell = s.bell := (keeperRaise_kept (kept_refl (m := 256) s)).same .bell rfl
@[simp] theorem keeperRaise_tally {code src p0 p1 : Nat} : (keeperRaise code src p0 p1 s).tally = s.tally := (keeperRaise_kept (kept_refl (m := 256) s)).same .tally rfl
@[simp] theorem keeperRaise_mat {code src p0 p1 : Nat} : (keeperRaise code src p0 p1 s).mat = s.mat := (keeperRaise_kept (kept_refl (m := 256) s)).same .mat rfl
@[simp] theorem keeperRaise_tt {code src p0 p1 : Nat} : (keeperRaise code src p0 p1 s).tt = s.tt := (keeperRaise_kept (kept_refl (m := 256) s)).same .tt rfl
@[simp] theorem keeperRaise_cap {code src p0 p1 : Nat} : (keeperRaise code src p0 p1 s).cap = s.cap := (keeperRaise_kept (kept_refl (m := 256) s)).same .cap rfl
@[simp] theorem keeperRaise_armed {code src p0 p1 : Nat} : (keeperRaise code src p0 p1 s).armed = s.armed := (keeperRaise_kept (kept_refl (m := 256) s)).same .armed rfl
@[simp] theorem keeperRaise_emp {code src p0 p1 : Nat} : (keeperRaise code src p0 p1 s).emp = s.emp := (keeperRaise_kept (kept_refl (m := 256) s)).same .emp rfl
@[simp] theorem keeperRaise_sr {code src p0 p1 : Nat} : (keeperRaise code src p0 p1 s).sr = s.sr := (keeperRaise_kept (kept_refl (m := 256) s)).same .sr rfl
@[simp] theorem keeperRaise_air {code src p0 p1 : Nat} : (keeperRaise code src p0 p1 s).air = s.air := (keeperRaise_kept (kept_refl (m := 256) s)).same .air rfl
@[simp] theorem keeperRaise_mac {code src p0 p1 : Nat} : (keeperRaise code src p0 p1 s).mac = s.mac := (keeperRaise_kept (kept_refl (m := 256) s)).same .mac rfl
@[simp] theorem keeperRaise_ptp {code src p0 p1 : Nat} : (keeperRaise code src p0 p1 s).ptp = s.ptp := (keeperRaise_kept (kept_refl (m := 256) s)).same .ptp rfl
@[simp] theorem keeperRaise_lease {code src p0 p1 : Nat} : (keeperRaise code src p0 p1 s).lease = s.lease := (keeperRaise_kept (kept_refl (m := 256) s)).same .lease rfl
@[simp] theorem keeperRaise_ing {code src p0 p1 : Nat} : (keeperRaise code src p0 p1 s).ing = s.ing := (keeperRaise_kept (kept_refl (m := 256) s)).same .ing rfl
@[simp] theorem keeperRaise_bill {code src p0 p1 : Nat} : (keeperRaise code src p0 p1 s).bill = s.bill := (keeperRaise_kept (kept_refl (m := 256) s)).same .bill rfl
@[simp] theorem keeperRaise_prepay {code src p0 p1 : Nat} : (keeperRaise code src p0 p1 s).prepay = s.prepay := (keeperRaise_kept (kept_refl (m := 256) s)).same .prepay rfl
@[simp] theorem keeperRaise_audit {code src p0 p1 : Nat} : (keeperRaise code src p0 p1 s).audit = s.audit := (keeperRaise_kept (kept_refl (m := 256) s)).same .audit rfl
@[simp] theorem keeperRaise_nand {code src p0 p1 : Nat} : (keeperRaise code src p0 p1 s).nand = s.nand := (keeperRaise_kept (kept_refl (m := 256) s)).same .nand rfl
@[simp] theorem keeperRaise_store {code src p0 p1 : Nat} : (keeperRaise code src p0 p1 s).store = s.store := (keeperRaise_kept (kept_refl (m := 256) s)).same .store rfl
@[simp] theorem keeperRaise_power {code src p0 p1 : Nat} : (keeperRaise code src p0 p1 s).power = s.power := (keeperRaise_kept (kept_refl (m := 256) s)).same .power rfl
@[simp] theorem keeperRaise_ddr {code src p0 p1 : Nat} : (keeperRaise code src p0 p1 s).ddr = s.ddr := (keeperRaise_kept (kept_refl (m := 256) s)).same .ddr rfl
@[simp] theorem keeperRaise_lans {code src p0 p1 : Nat} : (keeperRaise code src p0 p1 s).lans = s.lans := (keeperRaise_kept (kept_refl (m := 256) s)).same .lans rfl
@[simp] theorem keeperRaise_pairs {code src p0 p1 : Nat} : (keeperRaise code src p0 p1 s).pairs = s.pairs := (keeperRaise_kept (kept_refl (m := 256) s)).same .pairs rfl
@[simp] theorem keeperRaise_upd {code src p0 p1 : Nat} : (keeperRaise code src p0 p1 s).upd = s.upd := (keeperRaise_kept (kept_refl (m := 256) s)).same .upd rfl
@[simp] theorem keeperRaise_free {code src p0 p1 : Nat} : (keeperRaise code src p0 p1 s).free = s.free := (keeperRaise_kept (kept_refl (m := 256) s)).same .free rfl
@[simp] theorem keeperRaise_clash {code src p0 p1 : Nat} : (keeperRaise code src p0 p1 s).clash = s.clash := (keeperRaise_kept (kept_refl (m := 256) s)).same .clash rfl
@[simp] theorem keeperRaise_part {code src p0 p1 : Nat} : (keeperRaise code src p0 p1 s).part = s.part := (keeperRaise_kept (kept_refl (m := 256) s)).follows.part
@[simp] theorem keeperRaise_pending {code src p0 p1 : Nat} : (keeperRaise code src p0 p1 s).pending = s.pending := (keeperRaise_kept (kept_refl (m := 256) s)).follows.pending
@[simp] theorem keeperRaise_dram {code src p0 p1 : Nat} : (keeperRaise code src p0 p1 s).dram = s.dram := by simp only [keeperRaise] <;> (repeat' split) <;> rfl

/-! `srRaise` -/

@[simp] theorem srRaise_clk {k : Nat} : (srRaise k s).clk = s.clk := (srRaise_kept (kept_refl (m := 512) s)).same .clk rfl
@[simp] theorem srRaise_regs {k : Nat} : (srRaise k s).regs = s.regs := (srRaise_kept (kept_refl (m := 512) s)).same .regs rfl
@[simp] theorem srRaise_cnt {k : Nat} : (srRaise k s).cnt = s.cnt := (srRaise_kept (kept_refl (m := 512) s)).same .cnt rfl
@[simp] theorem srRaise_objs {k : Nat} : (srRaise k s).objs = s.objs := (srRaise_kept (kept_refl (m := 512) s)).same .objs rfl
@[simp] theorem srRaise_octs {k : Nat} : (srRaise k s).octs = s.octs := (srRaise_kept (kept_refl (m := 512) s)).same .octs rfl
@[simp] theorem srRaise_fab {k : Nat} : (srRaise k s).fab = s.fab := (srRaise_kept (kept_refl (m := 512) s)).same .fab rfl
@[simp] theorem srRaise_mode {k : Nat} : (srRaise k s).mode = s.mode := (srRaise_kept (kept_refl (m := 512) s)).same .mode rfl
@[simp] theorem srRaise_log {k : Nat} : (srRaise k s).log = s.log := (srRaise_kept (kept_refl (m := 512) s)).same .log rfl
@[simp] theorem srRaise_tally {k : Nat} : (srRaise k s).tally = s.tally := (srRaise_kept (kept_refl (m := 512) s)).same .tally rfl
@[simp] theorem srRaise_mat {k : Nat} : (srRaise k s).mat = s.mat := (srRaise_kept (kept_refl (m := 512) s)).same .mat rfl
@[simp] theorem srRaise_tt {k : Nat} : (srRaise k s).tt = s.tt := (srRaise_kept (kept_refl (m := 512) s)).same .tt rfl
@[simp] theorem srRaise_cap {k : Nat} : (srRaise k s).cap = s.cap := (srRaise_kept (kept_refl (m := 512) s)).same .cap rfl
@[simp] theorem srRaise_armed {k : Nat} : (srRaise k s).armed = s.armed := (srRaise_kept (kept_refl (m := 512) s)).same .armed rfl
@[simp] theorem srRaise_emp {k : Nat} : (srRaise k s).emp = s.emp := (srRaise_kept (kept_refl (m := 512) s)).same .emp rfl
@[simp] theorem srRaise_sr {k : Nat} : (srRaise k s).sr = s.sr := (srRaise_kept (kept_refl (m := 512) s)).same .sr rfl
@[simp] theorem srRaise_air {k : Nat} : (srRaise k s).air = s.air := (srRaise_kept (kept_refl (m := 512) s)).same .air rfl
@[simp] theorem srRaise_mac {k : Nat} : (srRaise k s).mac = s.mac := (srRaise_kept (kept_refl (m := 512) s)).same .mac rfl
@[simp] theorem srRaise_ptp {k : Nat} : (srRaise k s).ptp = s.ptp := (srRaise_kept (kept_refl (m := 512) s)).same .ptp rfl
@[simp] theorem srRaise_lease {k : Nat} : (srRaise k s).lease = s.lease := (srRaise_kept (kept_refl (m := 512) s)).same .lease rfl
@[simp] theorem srRaise_ing {k : Nat} : (srRaise k s).ing = s.ing := (srRaise_kept (kept_refl (m := 512) s)).same .ing rfl
@[simp] theorem srRaise_bill {k : Nat} : (srRaise k s).bill = s.bill := (srRaise_kept (kept_refl (m := 512) s)).same .bill rfl
@[simp] theorem srRaise_prepay {k : Nat} : (srRaise k s).prepay = s.prepay := (srRaise_kept (kept_refl (m := 512) s)).same .prepay rfl
@[simp] theorem srRaise_audit {k : Nat} : (srRaise k s).audit = s.audit := (srRaise_kept (kept_refl (m := 512) s)).same .audit rfl
@[simp] theorem srRaise_nand {k : Nat} : (srRaise k s).nand = s.nand := (srRaise_kept (kept_refl (m := 512) s)).same .nand rfl
@[simp] theorem srRaise_store {k : Nat} : (srRaise k s).store = s.store := (srRaise_kept (kept_refl (m := 512) s)).same .store rfl
@[simp] theorem srRaise_power {k : Nat} : (srRaise k s).power = s.power := (srRaise_kept (kept_refl (m := 512) s)).same .power rfl
@[simp] theorem srRaise_ddr {k : Nat} : (srRaise k s).ddr = s.ddr := (srRaise_kept (kept_refl (m := 512) s)).same .ddr rfl
@[simp] theorem srRaise_lans {k : Nat} : (srRaise k s).lans = s.lans := (srRaise_kept (kept_refl (m := 512) s)).same .lans rfl
@[simp] theorem srRaise_pairs {k : Nat} : (srRaise k s).pairs = s.pairs := (srRaise_kept (kept_refl (m := 512) s)).same .pairs rfl
@[simp] theorem srRaise_upd {k : Nat} : (srRaise k s).upd = s.upd := (srRaise_kept (kept_refl (m := 512) s)).same .upd rfl
@[simp] theorem srRaise_free {k : Nat} : (srRaise k s).free = s.free := (srRaise_kept (kept_refl (m := 512) s)).same .free rfl
@[simp] theorem srRaise_clash {k : Nat} : (srRaise k s).clash = s.clash := (srRaise_kept (kept_refl (m := 512) s)).same .clash rfl
@[simp] theorem srRaise_part {k : Nat} : (srRaise k s).part = s.part := (srRaise_kept (kept_refl (m := 512) s)).follows.part
@[simp] theorem srRaise_pending {k : Nat} : (srRaise k s).pending = s.pending := (srRaise_kept (kept_refl (m := 512) s)).follows.pending
@[simp] theorem srRaise_dram {k : Nat} : (srRaise k s).dram = s.dram := by simp only [srRaise] <;> (repeat' split) <;> rfl

/-! `storeResponse` -/

@[simp] theorem storeResponse_clk {n reqId obj status : Nat} {body : Bytes} : (storeResponse n reqId obj status body s).clk = s.clk := (storeResponse_kept (kept_refl (m := 32768) s)).same .clk rfl
@[simp] theorem storeResponse_regs {n reqId obj status : Nat} {body : Bytes} : (storeResponse n reqId obj status body s).regs = s.regs := (storeResponse_kept (kept_refl (m := 32768) s)).same .regs rfl
@[simp] theorem storeResponse_cnt {n reqId obj status : Nat} {body : Bytes} : (storeResponse n reqId obj status body s).cnt = s.cnt := (storeResponse_kept (kept_refl (m := 32768) s)).same .cnt rfl
@[simp] theorem storeResponse_objs {n reqId obj status : Nat} {body : Bytes} : (storeResponse n reqId obj status body s).objs = s.objs := (storeResponse_kept (kept_refl (m := 32768) s)).same .objs rfl
@[simp] theorem storeResponse_octs {n reqId obj status : Nat} {body : Bytes} : (storeResponse n reqId obj status body s).octs = s.octs := (storeResponse_kept (kept_refl (m := 32768) s)).same .octs rfl
@[simp] theorem storeResponse_fab {n reqId obj status : Nat} {body : Bytes} : (storeResponse n reqId obj status body s).fab = s.fab := (storeResponse_kept (kept_refl (m := 32768) s)).same .fab rfl
@[simp] theorem storeResponse_mode {n reqId obj status : Nat} {body : Bytes} : (storeResponse n reqId obj status body s).mode = s.mode := (storeResponse_kept (kept_refl (m := 32768) s)).same .mode rfl
@[simp] theorem storeResponse_log {n reqId obj status : Nat} {body : Bytes} : (storeResponse n reqId obj status body s).log = s.log := (storeResponse_kept (kept_refl (m := 32768) s)).same .log rfl
@[simp] theorem storeResponse_bell {n reqId obj status : Nat} {body : Bytes} : (storeResponse n reqId obj status body s).bell = s.bell := (storeResponse_kept (kept_refl (m := 32768) s)).same .bell rfl
@[simp] theorem storeResponse_tally {n reqId obj status : Nat} {body : Bytes} : (storeResponse n reqId obj status body s).tally = s.tally := (storeResponse_kept (kept_refl (m := 32768) s)).same .tally rfl
@[simp] theorem storeResponse_mat {n reqId obj status : Nat} {body : Bytes} : (storeResponse n reqId obj status body s).mat = s.mat := (storeResponse_kept (kept_refl (m := 32768) s)).same .mat rfl
@[simp] theorem storeResponse_tt {n reqId obj status : Nat} {body : Bytes} : (storeResponse n reqId obj status body s).tt = s.tt := (storeResponse_kept (kept_refl (m := 32768) s)).same .tt rfl
@[simp] theorem storeResponse_cap {n reqId obj status : Nat} {body : Bytes} : (storeResponse n reqId obj status body s).cap = s.cap := (storeResponse_kept (kept_refl (m := 32768) s)).same .cap rfl
@[simp] theorem storeResponse_armed {n reqId obj status : Nat} {body : Bytes} : (storeResponse n reqId obj status body s).armed = s.armed := (storeResponse_kept (kept_refl (m := 32768) s)).same .armed rfl
@[simp] theorem storeResponse_sr {n reqId obj status : Nat} {body : Bytes} : (storeResponse n reqId obj status body s).sr = s.sr := (storeResponse_kept (kept_refl (m := 32768) s)).same .sr rfl
@[simp] theorem storeResponse_air {n reqId obj status : Nat} {body : Bytes} : (storeResponse n reqId obj status body s).air = s.air := (storeResponse_kept (kept_refl (m := 32768) s)).same .air rfl
@[simp] theorem storeResponse_mac {n reqId obj status : Nat} {body : Bytes} : (storeResponse n reqId obj status body s).mac = s.mac := (storeResponse_kept (kept_refl (m := 32768) s)).same .mac rfl
@[simp] theorem storeResponse_ptp {n reqId obj status : Nat} {body : Bytes} : (storeResponse n reqId obj status body s).ptp = s.ptp := (storeResponse_kept (kept_refl (m := 32768) s)).same .ptp rfl
@[simp] theorem storeResponse_lease {n reqId obj status : Nat} {body : Bytes} : (storeResponse n reqId obj status body s).lease = s.lease := (storeResponse_kept (kept_refl (m := 32768) s)).same .lease rfl
@[simp] theorem storeResponse_ing {n reqId obj status : Nat} {body : Bytes} : (storeResponse n reqId obj status body s).ing = s.ing := (storeResponse_kept (kept_refl (m := 32768) s)).same .ing rfl
@[simp] theorem storeResponse_bill {n reqId obj status : Nat} {body : Bytes} : (storeResponse n reqId obj status body s).bill = s.bill := (storeResponse_kept (kept_refl (m := 32768) s)).same .bill rfl
@[simp] theorem storeResponse_prepay {n reqId obj status : Nat} {body : Bytes} : (storeResponse n reqId obj status body s).prepay = s.prepay := (storeResponse_kept (kept_refl (m := 32768) s)).same .prepay rfl
@[simp] theorem storeResponse_audit {n reqId obj status : Nat} {body : Bytes} : (storeResponse n reqId obj status body s).audit = s.audit := (storeResponse_kept (kept_refl (m := 32768) s)).same .audit rfl
@[simp] theorem storeResponse_nand {n reqId obj status : Nat} {body : Bytes} : (storeResponse n reqId obj status body s).nand = s.nand := (storeResponse_kept (kept_refl (m := 32768) s)).same .nand rfl
@[simp] theorem storeResponse_store {n reqId obj status : Nat} {body : Bytes} : (storeResponse n reqId obj status body s).store = s.store := (storeResponse_kept (kept_refl (m := 32768) s)).same .store rfl
@[simp] theorem storeResponse_power {n reqId obj status : Nat} {body : Bytes} : (storeResponse n reqId obj status body s).power = s.power := (storeResponse_kept (kept_refl (m := 32768) s)).same .power rfl
@[simp] theorem storeResponse_ddr {n reqId obj status : Nat} {body : Bytes} : (storeResponse n reqId obj status body s).ddr = s.ddr := (storeResponse_kept (kept_refl (m := 32768) s)).same .ddr rfl
@[simp] theorem storeResponse_lans {n reqId obj status : Nat} {body : Bytes} : (storeResponse n reqId obj status body s).lans = s.lans := (storeResponse_kept (kept_refl (m := 32768) s)).same .lans rfl
@[simp] theorem storeResponse_pairs {n reqId obj status : Nat} {body : Bytes} : (storeResponse n reqId obj status body s).pairs = s.pairs := (storeResponse_kept (kept_refl (m := 32768) s)).same .pairs rfl
@[simp] theorem storeResponse_upd {n reqId obj status : Nat} {body : Bytes} : (storeResponse n reqId obj status body s).upd = s.upd := (storeResponse_kept (kept_refl (m := 32768) s)).same .upd rfl
@[simp] theorem storeResponse_free {n reqId obj status : Nat} {body : Bytes} : (storeResponse n reqId obj status body s).free = s.free := (storeResponse_kept (kept_refl (m := 32768) s)).same .free rfl
@[simp] theorem storeResponse_clash {n reqId obj status : Nat} {body : Bytes} : (storeResponse n reqId obj status body s).clash = s.clash := (storeResponse_kept (kept_refl (m := 32768) s)).same .clash rfl
@[simp] theorem storeResponse_part {n reqId obj status : Nat} {body : Bytes} : (storeResponse n reqId obj status body s).part = s.part := (storeResponse_kept (kept_refl (m := 32768) s)).follows.part
@[simp] theorem storeResponse_pending {n reqId obj status : Nat} {body : Bytes} : (storeResponse n reqId obj status body s).pending = s.pending := (storeResponse_kept (kept_refl (m := 32768) s)).follows.pending
@[simp] theorem storeResponse_dram {n reqId obj status : Nat} {body : Bytes} : (storeResponse n reqId obj status body s).dram = s.dram := by simp only [storeResponse] <;> (repeat' split) <;> rfl

/-! `mailboxRespond` -/

@[simp] theorem mailboxRespond_clk {w slot id obj status : Nat} {body : Bytes} : (mailboxRespond w slot id obj status body s).clk = s.clk := (mailboxRespond_kept (kept_refl (m := 8589935118) s)).same .clk rfl
@[simp] theorem mailboxRespond_objs {w slot id obj status : Nat} {body : Bytes} : (mailboxRespond w slot id obj status body s).objs = s.objs := (mailboxRespond_kept (kept_refl (m := 8589935118) s)).same .objs rfl
@[simp] theorem mailboxRespond_octs {w slot id obj status : Nat} {body : Bytes} : (mailboxRespond w slot id obj status body s).octs = s.octs := (mailboxRespond_kept (kept_refl (m := 8589935118) s)).same .octs rfl
@[simp] theorem mailboxRespond_fab {w slot id obj status : Nat} {body : Bytes} : (mailboxRespond w slot id obj status body s).fab = s.fab := (mailboxRespond_kept (kept_refl (m := 8589935118) s)).same .fab rfl
@[simp] theorem mailboxRespond_mode {w slot id obj status : Nat} {body : Bytes} : (mailboxRespond w slot id obj status body s).mode = s.mode := (mailboxRespond_kept (kept_refl (m := 8589935118) s)).same .mode rfl
@[simp] theorem mailboxRespond_log {w slot id obj status : Nat} {body : Bytes} : (mailboxRespond w slot id obj status body s).log = s.log := (mailboxRespond_kept (kept_refl (m := 8589935118) s)).same .log rfl
@[simp] theorem mailboxRespond_tally {w slot id obj status : Nat} {body : Bytes} : (mailboxRespond w slot id obj status body s).tally = s.tally := (mailboxRespond_kept (kept_refl (m := 8589935118) s)).same .tally rfl
@[simp] theorem mailboxRespond_mat {w slot id obj status : Nat} {body : Bytes} : (mailboxRespond w slot id obj status body s).mat = s.mat := (mailboxRespond_kept (kept_refl (m := 8589935118) s)).same .mat rfl
@[simp] theorem mailboxRespond_tt {w slot id obj status : Nat} {body : Bytes} : (mailboxRespond w slot id obj status body s).tt = s.tt := (mailboxRespond_kept (kept_refl (m := 8589935118) s)).same .tt rfl
@[simp] theorem mailboxRespond_cap {w slot id obj status : Nat} {body : Bytes} : (mailboxRespond w slot id obj status body s).cap = s.cap := (mailboxRespond_kept (kept_refl (m := 8589935118) s)).same .cap rfl
@[simp] theorem mailboxRespond_armed {w slot id obj status : Nat} {body : Bytes} : (mailboxRespond w slot id obj status body s).armed = s.armed := (mailboxRespond_kept (kept_refl (m := 8589935118) s)).same .armed rfl
@[simp] theorem mailboxRespond_emp {w slot id obj status : Nat} {body : Bytes} : (mailboxRespond w slot id obj status body s).emp = s.emp := (mailboxRespond_kept (kept_refl (m := 8589935118) s)).same .emp rfl
@[simp] theorem mailboxRespond_sr {w slot id obj status : Nat} {body : Bytes} : (mailboxRespond w slot id obj status body s).sr = s.sr := (mailboxRespond_kept (kept_refl (m := 8589935118) s)).same .sr rfl
@[simp] theorem mailboxRespond_air {w slot id obj status : Nat} {body : Bytes} : (mailboxRespond w slot id obj status body s).air = s.air := (mailboxRespond_kept (kept_refl (m := 8589935118) s)).same .air rfl
@[simp] theorem mailboxRespond_mac {w slot id obj status : Nat} {body : Bytes} : (mailboxRespond w slot id obj status body s).mac = s.mac := (mailboxRespond_kept (kept_refl (m := 8589935118) s)).same .mac rfl
@[simp] theorem mailboxRespond_ptp {w slot id obj status : Nat} {body : Bytes} : (mailboxRespond w slot id obj status body s).ptp = s.ptp := (mailboxRespond_kept (kept_refl (m := 8589935118) s)).same .ptp rfl
@[simp] theorem mailboxRespond_lease {w slot id obj status : Nat} {body : Bytes} : (mailboxRespond w slot id obj status body s).lease = s.lease := (mailboxRespond_kept (kept_refl (m := 8589935118) s)).same .lease rfl
@[simp] theorem mailboxRespond_ing {w slot id obj status : Nat} {body : Bytes} : (mailboxRespond w slot id obj status body s).ing = s.ing := (mailboxRespond_kept (kept_refl (m := 8589935118) s)).same .ing rfl
@[simp] theorem mailboxRespond_bill {w slot id obj status : Nat} {body : Bytes} : (mailboxRespond w slot id obj status body s).bill = s.bill := (mailboxRespond_kept (kept_refl (m := 8589935118) s)).same .bill rfl
@[simp] theorem mailboxRespond_prepay {w slot id obj status : Nat} {body : Bytes} : (mailboxRespond w slot id obj status body s).prepay = s.prepay := (mailboxRespond_kept (kept_refl (m := 8589935118) s)).same .prepay rfl
@[simp] theorem mailboxRespond_audit {w slot id obj status : Nat} {body : Bytes} : (mailboxRespond w slot id obj status body s).audit = s.audit := (mailboxRespond_kept (kept_refl (m := 8589935118) s)).same .audit rfl
@[simp] theorem mailboxRespond_nand {w slot id obj status : Nat} {body : Bytes} : (mailboxRespond w slot id obj status body s).nand = s.nand := (mailboxRespond_kept (kept_refl (m := 8589935118) s)).same .nand rfl
@[simp] theorem mailboxRespond_store {w slot id obj status : Nat} {body : Bytes} : (mailboxRespond w slot id obj status body s).store = s.store := (mailboxRespond_kept (kept_refl (m := 8589935118) s)).same .store rfl
@[simp] theorem mailboxRespond_power {w slot id obj status : Nat} {body : Bytes} : (mailboxRespond w slot id obj status body s).power = s.power := (mailboxRespond_kept (kept_refl (m := 8589935118) s)).same .power rfl
@[simp] theorem mailboxRespond_ddr {w slot id obj status : Nat} {body : Bytes} : (mailboxRespond w slot id obj status body s).ddr = s.ddr := (mailboxRespond_kept (kept_refl (m := 8589935118) s)).same .ddr rfl
@[simp] theorem mailboxRespond_lans {w slot id obj status : Nat} {body : Bytes} : (mailboxRespond w slot id obj status body s).lans = s.lans := (mailboxRespond_kept (kept_refl (m := 8589935118) s)).same .lans rfl
@[simp] theorem mailboxRespond_pairs {w slot id obj status : Nat} {body : Bytes} : (mailboxRespond w slot id obj status body s).pairs = s.pairs := (mailboxRespond_kept (kept_refl (m := 8589935118) s)).same .pairs rfl
@[simp] theorem mailboxRespond_upd {w slot id obj status : Nat} {body : Bytes} : (mailboxRespond w slot id obj status body s).upd = s.upd := (mailboxRespond_kept (kept_refl (m := 8589935118) s)).same .upd rfl
@[simp] theorem mailboxRespond_free {w slot id obj status : Nat} {body : Bytes} : (mailboxRespond w slot id obj status body s).free = s.free := (mailboxRespond_kept (kept_refl (m := 8589935118) s)).same .free rfl
@[simp] theorem mailboxRespond_part {w slot id obj status : Nat} {body : Bytes} : (mailboxRespond w slot id obj status body s).part = s.part := (mailboxRespond_kept (kept_refl (m := 8589935118) s)).follows.part
@[simp] theorem mailboxRespond_pending {w slot id obj status : Nat} {body : Bytes} : (mailboxRespond w slot id obj status body s).pending = s.pending := (mailboxRespond_kept (kept_refl (m := 8589935118) s)).follows.pending

/-! `slotServed` -/

@[simp] theorem slotServed_clk {k seq status : Nat} {body : Bytes} : (slotServed k seq status body s).clk = s.clk := (slotServed_kept (kept_refl (m := 65544) s)).same .clk rfl
@[simp] theorem slotServed_regs {k seq status : Nat} {body : Bytes} : (slotServed k seq status body s).regs = s.regs := (slotServed_kept (kept_refl (m := 65544) s)).same .regs rfl
@[simp] theorem slotServed_cnt {k seq status : Nat} {body : Bytes} : (slotServed k seq status body s).cnt = s.cnt := (slotServed_kept (kept_refl (m := 65544) s)).same .cnt rfl
@[simp] theorem slotServed_objs {k seq status : Nat} {body : Bytes} : (slotServed k seq status body s).objs = s.objs := (slotServed_kept (kept_refl (m := 65544) s)).same .objs rfl
@[simp] theorem slotServed_octs {k seq status : Nat} {body : Bytes} : (slotServed k seq status body s).octs = s.octs := (slotServed_kept (kept_refl (m := 65544) s)).same .octs rfl
@[simp] theorem slotServed_fab {k seq status : Nat} {body : Bytes} : (slotServed k seq status body s).fab = s.fab := (slotServed_kept (kept_refl (m := 65544) s)).same .fab rfl
@[simp] theorem slotServed_mode {k seq status : Nat} {body : Bytes} : (slotServed k seq status body s).mode = s.mode := (slotServed_kept (kept_refl (m := 65544) s)).same .mode rfl
@[simp] theorem slotServed_log {k seq status : Nat} {body : Bytes} : (slotServed k seq status body s).log = s.log := (slotServed_kept (kept_refl (m := 65544) s)).same .log rfl
@[simp] theorem slotServed_bell {k seq status : Nat} {body : Bytes} : (slotServed k seq status body s).bell = s.bell := (slotServed_kept (kept_refl (m := 65544) s)).same .bell rfl
@[simp] theorem slotServed_tally {k seq status : Nat} {body : Bytes} : (slotServed k seq status body s).tally = s.tally := (slotServed_kept (kept_refl (m := 65544) s)).same .tally rfl
@[simp] theorem slotServed_mat {k seq status : Nat} {body : Bytes} : (slotServed k seq status body s).mat = s.mat := (slotServed_kept (kept_refl (m := 65544) s)).same .mat rfl
@[simp] theorem slotServed_tt {k seq status : Nat} {body : Bytes} : (slotServed k seq status body s).tt = s.tt := (slotServed_kept (kept_refl (m := 65544) s)).same .tt rfl
@[simp] theorem slotServed_cap {k seq status : Nat} {body : Bytes} : (slotServed k seq status body s).cap = s.cap := (slotServed_kept (kept_refl (m := 65544) s)).same .cap rfl
@[simp] theorem slotServed_armed {k seq status : Nat} {body : Bytes} : (slotServed k seq status body s).armed = s.armed := (slotServed_kept (kept_refl (m := 65544) s)).same .armed rfl
@[simp] theorem slotServed_emp {k seq status : Nat} {body : Bytes} : (slotServed k seq status body s).emp = s.emp := (slotServed_kept (kept_refl (m := 65544) s)).same .emp rfl
@[simp] theorem slotServed_air {k seq status : Nat} {body : Bytes} : (slotServed k seq status body s).air = s.air := (slotServed_kept (kept_refl (m := 65544) s)).same .air rfl
@[simp] theorem slotServed_mac {k seq status : Nat} {body : Bytes} : (slotServed k seq status body s).mac = s.mac := (slotServed_kept (kept_refl (m := 65544) s)).same .mac rfl
@[simp] theorem slotServed_ptp {k seq status : Nat} {body : Bytes} : (slotServed k seq status body s).ptp = s.ptp := (slotServed_kept (kept_refl (m := 65544) s)).same .ptp rfl
@[simp] theorem slotServed_lease {k seq status : Nat} {body : Bytes} : (slotServed k seq status body s).lease = s.lease := (slotServed_kept (kept_refl (m := 65544) s)).same .lease rfl
@[simp] theorem slotServed_ing {k seq status : Nat} {body : Bytes} : (slotServed k seq status body s).ing = s.ing := (slotServed_kept (kept_refl (m := 65544) s)).same .ing rfl
@[simp] theorem slotServed_bill {k seq status : Nat} {body : Bytes} : (slotServed k seq status body s).bill = s.bill := (slotServed_kept (kept_refl (m := 65544) s)).same .bill rfl
@[simp] theorem slotServed_prepay {k seq status : Nat} {body : Bytes} : (slotServed k seq status body s).prepay = s.prepay := (slotServed_kept (kept_refl (m := 65544) s)).same .prepay rfl
@[simp] theorem slotServed_audit {k seq status : Nat} {body : Bytes} : (slotServed k seq status body s).audit = s.audit := (slotServed_kept (kept_refl (m := 65544) s)).same .audit rfl
@[simp] theorem slotServed_nand {k seq status : Nat} {body : Bytes} : (slotServed k seq status body s).nand = s.nand := (slotServed_kept (kept_refl (m := 65544) s)).same .nand rfl
@[simp] theorem slotServed_store {k seq status : Nat} {body : Bytes} : (slotServed k seq status body s).store = s.store := (slotServed_kept (kept_refl (m := 65544) s)).same .store rfl
@[simp] theorem slotServed_power {k seq status : Nat} {body : Bytes} : (slotServed k seq status body s).power = s.power := (slotServed_kept (kept_refl (m := 65544) s)).same .power rfl
@[simp] theorem slotServed_ddr {k seq status : Nat} {body : Bytes} : (slotServed k seq status body s).ddr = s.ddr := (slotServed_kept (kept_refl (m := 65544) s)).same .ddr rfl
@[simp] theorem slotServed_lans {k seq status : Nat} {body : Bytes} : (slotServed k seq status body s).lans = s.lans := (slotServed_kept (kept_refl (m := 65544) s)).same .lans rfl
@[simp] theorem slotServed_pairs {k seq status : Nat} {body : Bytes} : (slotServed k seq status body s).pairs = s.pairs := (slotServed_kept (kept_refl (m := 65544) s)).same .pairs rfl
@[simp] theorem slotServed_upd {k seq status : Nat} {body : Bytes} : (slotServed k seq status body s).upd = s.upd := (slotServed_kept (kept_refl (m := 65544) s)).same .upd rfl
@[simp] theorem slotServed_free {k seq status : Nat} {body : Bytes} : (slotServed k seq status body s).free = s.free := (slotServed_kept (kept_refl (m := 65544) s)).same .free rfl
@[simp] theorem slotServed_clash {k seq status : Nat} {body : Bytes} : (slotServed k seq status body s).clash = s.clash := (slotServed_kept (kept_refl (m := 65544) s)).same .clash rfl
@[simp] theorem slotServed_part {k seq status : Nat} {body : Bytes} : (slotServed k seq status body s).part = s.part := (slotServed_kept (kept_refl (m := 65544) s)).follows.part
@[simp] theorem slotServed_pending {k seq status : Nat} {body : Bytes} : (slotServed k seq status body s).pending = s.pending := (slotServed_kept (kept_refl (m := 65544) s)).follows.pending

/-! `answer` -/

@[simp] theorem answer_clk {via : Via} {obj status : Nat} {body : Bytes} : (answer via obj status body s).clk = s.clk := (answer_kept (kept_refl (m := 8590033422) s)).same .clk rfl
@[simp] theorem answer_objs {via : Via} {obj status : Nat} {body : Bytes} : (answer via obj status body s).objs = s.objs := (answer_kept (kept_refl (m := 8590033422) s)).same .objs rfl
@[simp] theorem answer_octs {via : Via} {obj status : Nat} {body : Bytes} : (answer via obj status body s).octs = s.octs := (answer_kept (kept_refl (m := 8590033422) s)).same .octs rfl
@[simp] theorem answer_fab {via : Via} {obj status : Nat} {body : Bytes} : (answer via obj status body s).fab = s.fab := (answer_kept (kept_refl (m := 8590033422) s)).same .fab rfl
@[simp] theorem answer_mode {via : Via} {obj status : Nat} {body : Bytes} : (answer via obj status body s).mode = s.mode := (answer_kept (kept_refl (m := 8590033422) s)).same .mode rfl
@[simp] theorem answer_log {via : Via} {obj status : Nat} {body : Bytes} : (answer via obj status body s).log = s.log := (answer_kept (kept_refl (m := 8590033422) s)).same .log rfl
@[simp] theorem answer_tally {via : Via} {obj status : Nat} {body : Bytes} : (answer via obj status body s).tally = s.tally := (answer_kept (kept_refl (m := 8590033422) s)).same .tally rfl
@[simp] theorem answer_mat {via : Via} {obj status : Nat} {body : Bytes} : (answer via obj status body s).mat = s.mat := (answer_kept (kept_refl (m := 8590033422) s)).same .mat rfl
@[simp] theorem answer_tt {via : Via} {obj status : Nat} {body : Bytes} : (answer via obj status body s).tt = s.tt := (answer_kept (kept_refl (m := 8590033422) s)).same .tt rfl
@[simp] theorem answer_cap {via : Via} {obj status : Nat} {body : Bytes} : (answer via obj status body s).cap = s.cap := (answer_kept (kept_refl (m := 8590033422) s)).same .cap rfl
@[simp] theorem answer_armed {via : Via} {obj status : Nat} {body : Bytes} : (answer via obj status body s).armed = s.armed := (answer_kept (kept_refl (m := 8590033422) s)).same .armed rfl
@[simp] theorem answer_air {via : Via} {obj status : Nat} {body : Bytes} : (answer via obj status body s).air = s.air := (answer_kept (kept_refl (m := 8590033422) s)).same .air rfl
@[simp] theorem answer_mac {via : Via} {obj status : Nat} {body : Bytes} : (answer via obj status body s).mac = s.mac := (answer_kept (kept_refl (m := 8590033422) s)).same .mac rfl
@[simp] theorem answer_ptp {via : Via} {obj status : Nat} {body : Bytes} : (answer via obj status body s).ptp = s.ptp := (answer_kept (kept_refl (m := 8590033422) s)).same .ptp rfl
@[simp] theorem answer_lease {via : Via} {obj status : Nat} {body : Bytes} : (answer via obj status body s).lease = s.lease := (answer_kept (kept_refl (m := 8590033422) s)).same .lease rfl
@[simp] theorem answer_ing {via : Via} {obj status : Nat} {body : Bytes} : (answer via obj status body s).ing = s.ing := (answer_kept (kept_refl (m := 8590033422) s)).same .ing rfl
@[simp] theorem answer_bill {via : Via} {obj status : Nat} {body : Bytes} : (answer via obj status body s).bill = s.bill := (answer_kept (kept_refl (m := 8590033422) s)).same .bill rfl
@[simp] theorem answer_prepay {via : Via} {obj status : Nat} {body : Bytes} : (answer via obj status body s).prepay = s.prepay := (answer_kept (kept_refl (m := 8590033422) s)).same .prepay rfl
@[simp] theorem answer_audit {via : Via} {obj status : Nat} {body : Bytes} : (answer via obj status body s).audit = s.audit := (answer_kept (kept_refl (m := 8590033422) s)).same .audit rfl
@[simp] theorem answer_nand {via : Via} {obj status : Nat} {body : Bytes} : (answer via obj status body s).nand = s.nand := (answer_kept (kept_refl (m := 8590033422) s)).same .nand rfl
@[simp] theorem answer_store {via : Via} {obj status : Nat} {body : Bytes} : (answer via obj status body s).store = s.store := (answer_kept (kept_refl (m := 8590033422) s)).same .store rfl
@[simp] theorem answer_power {via : Via} {obj status : Nat} {body : Bytes} : (answer via obj status body s).power = s.power := (answer_kept (kept_refl (m := 8590033422) s)).same .power rfl
@[simp] theorem answer_ddr {via : Via} {obj status : Nat} {body : Bytes} : (answer via obj status body s).ddr = s.ddr := (answer_kept (kept_refl (m := 8590033422) s)).same .ddr rfl
@[simp] theorem answer_lans {via : Via} {obj status : Nat} {body : Bytes} : (answer via obj status body s).lans = s.lans := (answer_kept (kept_refl (m := 8590033422) s)).same .lans rfl
@[simp] theorem answer_pairs {via : Via} {obj status : Nat} {body : Bytes} : (answer via obj status body s).pairs = s.pairs := (answer_kept (kept_refl (m := 8590033422) s)).same .pairs rfl
@[simp] theorem answer_upd {via : Via} {obj status : Nat} {body : Bytes} : (answer via obj status body s).upd = s.upd := (answer_kept (kept_refl (m := 8590033422) s)).same .upd rfl
@[simp] theorem answer_free {via : Via} {obj status : Nat} {body : Bytes} : (answer via obj status body s).free = s.free := (answer_kept (kept_refl (m := 8590033422) s)).same .free rfl
@[simp] theorem answer_part {via : Via} {obj status : Nat} {body : Bytes} : (answer via obj status body s).part = s.part := (answer_kept (kept_refl (m := 8590033422) s)).follows.part
@[simp] theorem answer_pending {via : Via} {obj status : Nat} {body : Bytes} : (answer via obj status body s).pending = s.pending := (answer_kept (kept_refl (m := 8590033422) s)).follows.pending

/-! `reqServed` -/

@[simp] theorem reqServed_clk {w kind status : Nat} {body : Bytes} : (reqServed w kind status body s).clk = s.clk := (reqServed_kept (kept_refl (m := 65544) s)).same .clk rfl
@[simp] theorem reqServed_regs {w kind status : Nat} {body : Bytes} : (reqServed w kind status body s).regs = s.regs := (reqServed_kept (kept_refl (m := 65544) s)).same .regs rfl
@[simp] theorem reqServed_cnt {w kind status : Nat} {body : Bytes} : (reqServed w kind status body s).cnt = s.cnt := (reqServed_kept (kept_refl (m := 65544) s)).same .cnt rfl
@[simp] theorem reqServed_objs {w kind status : Nat} {body : Bytes} : (reqServed w kind status body s).objs = s.objs := (reqServed_kept (kept_refl (m := 65544) s)).same .objs rfl
@[simp] theorem reqServed_octs {w kind status : Nat} {body : Bytes} : (reqServed w kind status body s).octs = s.octs := (reqServed_kept (kept_refl (m := 65544) s)).same .octs rfl
@[simp] theorem reqServed_fab {w kind status : Nat} {body : Bytes} : (reqServed w kind status body s).fab = s.fab := (reqServed_kept (kept_refl (m := 65544) s)).same .fab rfl
@[simp] theorem reqServed_mode {w kind status : Nat} {body : Bytes} : (reqServed w kind status body s).mode = s.mode := (reqServed_kept (kept_refl (m := 65544) s)).same .mode rfl
@[simp] theorem reqServed_log {w kind status : Nat} {body : Bytes} : (reqServed w kind status body s).log = s.log := (reqServed_kept (kept_refl (m := 65544) s)).same .log rfl
@[simp] theorem reqServed_bell {w kind status : Nat} {body : Bytes} : (reqServed w kind status body s).bell = s.bell := (reqServed_kept (kept_refl (m := 65544) s)).same .bell rfl
@[simp] theorem reqServed_tally {w kind status : Nat} {body : Bytes} : (reqServed w kind status body s).tally = s.tally := (reqServed_kept (kept_refl (m := 65544) s)).same .tally rfl
@[simp] theorem reqServed_mat {w kind status : Nat} {body : Bytes} : (reqServed w kind status body s).mat = s.mat := (reqServed_kept (kept_refl (m := 65544) s)).same .mat rfl
@[simp] theorem reqServed_tt {w kind status : Nat} {body : Bytes} : (reqServed w kind status body s).tt = s.tt := (reqServed_kept (kept_refl (m := 65544) s)).same .tt rfl
@[simp] theorem reqServed_cap {w kind status : Nat} {body : Bytes} : (reqServed w kind status body s).cap = s.cap := (reqServed_kept (kept_refl (m := 65544) s)).same .cap rfl
@[simp] theorem reqServed_armed {w kind status : Nat} {body : Bytes} : (reqServed w kind status body s).armed = s.armed := (reqServed_kept (kept_refl (m := 65544) s)).same .armed rfl
@[simp] theorem reqServed_emp {w kind status : Nat} {body : Bytes} : (reqServed w kind status body s).emp = s.emp := (reqServed_kept (kept_refl (m := 65544) s)).same .emp rfl
@[simp] theorem reqServed_air {w kind status : Nat} {body : Bytes} : (reqServed w kind status body s).air = s.air := (reqServed_kept (kept_refl (m := 65544) s)).same .air rfl
@[simp] theorem reqServed_mac {w kind status : Nat} {body : Bytes} : (reqServed w kind status body s).mac = s.mac := (reqServed_kept (kept_refl (m := 65544) s)).same .mac rfl
@[simp] theorem reqServed_ptp {w kind status : Nat} {body : Bytes} : (reqServed w kind status body s).ptp = s.ptp := (reqServed_kept (kept_refl (m := 65544) s)).same .ptp rfl
@[simp] theorem reqServed_lease {w kind status : Nat} {body : Bytes} : (reqServed w kind status body s).lease = s.lease := (reqServed_kept (kept_refl (m := 65544) s)).same .lease rfl
@[simp] theorem reqServed_ing {w kind status : Nat} {body : Bytes} : (reqServed w kind status body s).ing = s.ing := (reqServed_kept (kept_refl (m := 65544) s)).same .ing rfl
@[simp] theorem reqServed_bill {w kind status : Nat} {body : Bytes} : (reqServed w kind status body s).bill = s.bill := (reqServed_kept (kept_refl (m := 65544) s)).same .bill rfl
@[simp] theorem reqServed_prepay {w kind status : Nat} {body : Bytes} : (reqServed w kind status body s).prepay = s.prepay := (reqServed_kept (kept_refl (m := 65544) s)).same .prepay rfl
@[simp] theorem reqServed_audit {w kind status : Nat} {body : Bytes} : (reqServed w kind status body s).audit = s.audit := (reqServed_kept (kept_refl (m := 65544) s)).same .audit rfl
@[simp] theorem reqServed_nand {w kind status : Nat} {body : Bytes} : (reqServed w kind status body s).nand = s.nand := (reqServed_kept (kept_refl (m := 65544) s)).same .nand rfl
@[simp] theorem reqServed_store {w kind status : Nat} {body : Bytes} : (reqServed w kind status body s).store = s.store := (reqServed_kept (kept_refl (m := 65544) s)).same .store rfl
@[simp] theorem reqServed_power {w kind status : Nat} {body : Bytes} : (reqServed w kind status body s).power = s.power := (reqServed_kept (kept_refl (m := 65544) s)).same .power rfl
@[simp] theorem reqServed_ddr {w kind status : Nat} {body : Bytes} : (reqServed w kind status body s).ddr = s.ddr := (reqServed_kept (kept_refl (m := 65544) s)).same .ddr rfl
@[simp] theorem reqServed_lans {w kind status : Nat} {body : Bytes} : (reqServed w kind status body s).lans = s.lans := (reqServed_kept (kept_refl (m := 65544) s)).same .lans rfl
@[simp] theorem reqServed_pairs {w kind status : Nat} {body : Bytes} : (reqServed w kind status body s).pairs = s.pairs := (reqServed_kept (kept_refl (m := 65544) s)).same .pairs rfl
@[simp] theorem reqServed_upd {w kind status : Nat} {body : Bytes} : (reqServed w kind status body s).upd = s.upd := (reqServed_kept (kept_refl (m := 65544) s)).same .upd rfl
@[simp] theorem reqServed_free {w kind status : Nat} {body : Bytes} : (reqServed w kind status body s).free = s.free := (reqServed_kept (kept_refl (m := 65544) s)).same .free rfl
@[simp] theorem reqServed_clash {w kind status : Nat} {body : Bytes} : (reqServed w kind status body s).clash = s.clash := (reqServed_kept (kept_refl (m := 65544) s)).same .clash rfl
@[simp] theorem reqServed_part {w kind status : Nat} {body : Bytes} : (reqServed w kind status body s).part = s.part := (reqServed_kept (kept_refl (m := 65544) s)).follows.part
@[simp] theorem reqServed_pending {w kind status : Nat} {body : Bytes} : (reqServed w kind status body s).pending = s.pending := (reqServed_kept (kept_refl (m := 65544) s)).follows.pending

end Sys2Proof.Machine
end

