-- ==== Sys2Proof/Laws/Regs.lean ====
section
/-! SUPPORT. Registers after the shared operations: a raise or a Bell Board source changes flag registers, LOG_STAT and
SRG_STAT alone; a field written reads as written. -/

namespace Sys2Proof.Machine

set_option Elab.async false

variable {s : State}

/-- A register that no raise and no Bell Board source changes. -/
def Quiet (a : Nat) : Prop := ∀ w, a ≠ bbStat w 0 ∧ a ≠ bbStat w 1 ∧ a ≠ bbSrstat w ∧ a ≠ logStat w ∧ a ≠ srgStat w


@[simp] theorem quiet_porCtl {w : Nat} : Quiet (porCtl w) := fun v => by
  simp only [porCtl, bbStat, bbSrstat, logStat, srgStat, regA]; omega

@[simp] theorem quiet_porStat {w : Nat} : Quiet (porStat w) := fun v => by
  simp only [porStat, bbStat, bbSrstat, logStat, srgStat, regA]; omega

@[simp] theorem quiet_porPinhold {w : Nat} : Quiet (porPinhold w) := fun v => by
  simp only [porPinhold, bbStat, bbSrstat, logStat, srgStat, regA]; omega

@[simp] theorem quiet_porHoldup {w : Nat} : Quiet (porHoldup w) := fun v => by
  simp only [porHoldup, bbStat, bbSrstat, logStat, srgStat, regA]; omega

@[simp] theorem quiet_bbSwset {w : Nat} : Quiet (bbSwset w) := fun v => by
  simp only [bbSwset, bbStat, bbSrstat, logStat, srgStat, regA]; omega

@[simp] theorem quiet_talFrzAt {w : Nat} : Quiet (talFrzAt w) := fun v => by
  simp only [talFrzAt, bbStat, bbSrstat, logStat, srgStat, regA]; omega

@[simp] theorem quiet_talFrzStat {w : Nat} : Quiet (talFrzStat w) := fun v => by
  simp only [talFrzStat, bbStat, bbSrstat, logStat, srgStat, regA]; omega

@[simp] theorem quiet_talSwinc {w : Nat} : Quiet (talSwinc w) := fun v => by
  simp only [talSwinc, bbStat, bbSrstat, logStat, srgStat, regA]; omega

@[simp] theorem quiet_corId {w : Nat} : Quiet (corId w) := fun v => by
  simp only [corId, bbStat, bbSrstat, logStat, srgStat, regA]; omega

@[simp] theorem quiet_corLink {w : Nat} : Quiet (corLink w) := fun v => by
  simp only [corLink, bbStat, bbSrstat, logStat, srgStat, regA]; omega

@[simp] theorem quiet_corCyc {w : Nat} : Quiet (corCyc w) := fun v => by
  simp only [corCyc, bbStat, bbSrstat, logStat, srgStat, regA]; omega

@[simp] theorem quiet_airRxcfg {w p : Nat} : Quiet (airRxcfg w p) := fun v => by
  simp only [airRxcfg, bbStat, bbSrstat, logStat, srgStat, regA]; omega

@[simp] theorem quiet_airTxcfg {w p : Nat} : Quiet (airTxcfg w p) := fun v => by
  simp only [airTxcfg, bbStat, bbSrstat, logStat, srgStat, regA]; omega

@[simp] theorem quiet_airSpicfg {w p : Nat} : Quiet (airSpicfg w p) := fun v => by
  simp only [airSpicfg, bbStat, bbSrstat, logStat, srgStat, regA]; omega

@[simp] theorem quiet_airSpi {w p : Nat} : Quiet (airSpi w p) := fun v => by
  simp only [airSpi, bbStat, bbSrstat, logStat, srgStat, regA]; omega

@[simp] theorem quiet_airStat {w p : Nat} : Quiet (airStat w p) := fun v => by
  simp only [airStat, bbStat, bbSrstat, logStat, srgStat, regA]; omega

@[simp] theorem quiet_airLanes {w p : Nat} : Quiet (airLanes w p) := fun v => by
  simp only [airLanes, bbStat, bbSrstat, logStat, srgStat, regA]; omega

@[simp] theorem quiet_macCfg {w : Nat} : Quiet (macCfg w) := fun v => by
  simp only [macCfg, bbStat, bbSrstat, logStat, srgStat, regA]; omega

@[simp] theorem quiet_macStat {w : Nat} : Quiet (macStat w) := fun v => by
  simp only [macStat, bbStat, bbSrstat, logStat, srgStat, regA]; omega

@[simp] theorem quiet_macNbrCtl {w : Nat} : Quiet (macNbrCtl w) := fun v => by
  simp only [macNbrCtl, bbStat, bbSrstat, logStat, srgStat, regA]; omega

@[simp] theorem quiet_macAtBase {w : Nat} : Quiet (macAtBase w) := fun v => by
  simp only [macAtBase, bbStat, bbSrstat, logStat, srgStat, regA]; omega

@[simp] theorem quiet_macSqCfg {w : Nat} : Quiet (macSqCfg w) := fun v => by
  simp only [macSqCfg, bbStat, bbSrstat, logStat, srgStat, regA]; omega

@[simp] theorem quiet_macSqPtr {w : Nat} : Quiet (macSqPtr w) := fun v => by
  simp only [macSqPtr, bbStat, bbSrstat, logStat, srgStat, regA]; omega

@[simp] theorem quiet_macRqCfg {w : Nat} : Quiet (macRqCfg w) := fun v => by
  simp only [macRqCfg, bbStat, bbSrstat, logStat, srgStat, regA]; omega

@[simp] theorem quiet_macRqPtr {w : Nat} : Quiet (macRqPtr w) := fun v => by
  simp only [macRqPtr, bbStat, bbSrstat, logStat, srgStat, regA]; omega

@[simp] theorem quiet_ingCtl {w : Nat} : Quiet (ingCtl w) := fun v => by
  simp only [ingCtl, bbStat, bbSrstat, logStat, srgStat, regA]; omega

@[simp] theorem quiet_ingStat {w : Nat} : Quiet (ingStat w) := fun v => by
  simp only [ingStat, bbStat, bbSrstat, logStat, srgStat, regA]; omega

@[simp] theorem quiet_ingDirCfg {w : Nat} : Quiet (ingDirCfg w) := fun v => by
  simp only [ingDirCfg, bbStat, bbSrstat, logStat, srgStat, regA]; omega

@[simp] theorem quiet_ingStgCfg {w : Nat} : Quiet (ingStgCfg w) := fun v => by
  simp only [ingStgCfg, bbStat, bbSrstat, logStat, srgStat, regA]; omega

@[simp] theorem quiet_ingStgPtr {w : Nat} : Quiet (ingStgPtr w) := fun v => by
  simp only [ingStgPtr, bbStat, bbSrstat, logStat, srgStat, regA]; omega

@[simp] theorem quiet_ingStgRel {w : Nat} : Quiet (ingStgRel w) := fun v => by
  simp only [ingStgRel, bbStat, bbSrstat, logStat, srgStat, regA]; omega

@[simp] theorem quiet_ingXqCfg {w : Nat} : Quiet (ingXqCfg w) := fun v => by
  simp only [ingXqCfg, bbStat, bbSrstat, logStat, srgStat, regA]; omega

@[simp] theorem quiet_ingXqPtr {w : Nat} : Quiet (ingXqPtr w) := fun v => by
  simp only [ingXqPtr, bbStat, bbSrstat, logStat, srgStat, regA]; omega

@[simp] theorem quiet_ingLobCfg {w : Nat} : Quiet (ingLobCfg w) := fun v => by
  simp only [ingLobCfg, bbStat, bbSrstat, logStat, srgStat, regA]; omega

@[simp] theorem quiet_ingLobPtr {w : Nat} : Quiet (ingLobPtr w) := fun v => by
  simp only [ingLobPtr, bbStat, bbSrstat, logStat, srgStat, regA]; omega

@[simp] theorem quiet_ingGbCtl {w : Nat} : Quiet (ingGbCtl w) := fun v => by
  simp only [ingGbCtl, bbStat, bbSrstat, logStat, srgStat, regA]; omega

@[simp] theorem quiet_ingGbDst {w : Nat} : Quiet (ingGbDst w) := fun v => by
  simp only [ingGbDst, bbStat, bbSrstat, logStat, srgStat, regA]; omega

@[simp] theorem quiet_ingGbArg {w : Nat} : Quiet (ingGbArg w) := fun v => by
  simp only [ingGbArg, bbStat, bbSrstat, logStat, srgStat, regA]; omega

@[simp] theorem quiet_naCtl {w : Nat} : Quiet (naCtl w) := fun v => by
  simp only [naCtl, bbStat, bbSrstat, logStat, srgStat, regA]; omega

@[simp] theorem quiet_naStat {w : Nat} : Quiet (naStat w) := fun v => by
  simp only [naStat, bbStat, bbSrstat, logStat, srgStat, regA]; omega

@[simp] theorem quiet_naEpCfg {w : Nat} : Quiet (naEpCfg w) := fun v => by
  simp only [naEpCfg, bbStat, bbSrstat, logStat, srgStat, regA]; omega

@[simp] theorem quiet_naWsCfg {w : Nat} : Quiet (naWsCfg w) := fun v => by
  simp only [naWsCfg, bbStat, bbSrstat, logStat, srgStat, regA]; omega

@[simp] theorem quiet_naJob {w : Nat} : Quiet (naJob w) := fun v => by
  simp only [naJob, bbStat, bbSrstat, logStat, srgStat, regA]; omega

@[simp] theorem quiet_ddrTiming {w : Nat} : Quiet (ddrTiming w) := fun v => by
  simp only [ddrTiming, bbStat, bbSrstat, logStat, srgStat, regA]; omega

@[simp] theorem quiet_nfcCtl {w : Nat} : Quiet (nfcCtl w) := fun v => by
  simp only [nfcCtl, bbStat, bbSrstat, logStat, srgStat, regA]; omega

@[simp] theorem quiet_nfcStat {w : Nat} : Quiet (nfcStat w) := fun v => by
  simp only [nfcStat, bbStat, bbSrstat, logStat, srgStat, regA]; omega

@[simp] theorem quiet_nfcMapCfg {w : Nat} : Quiet (nfcMapCfg w) := fun v => by
  simp only [nfcMapCfg, bbStat, bbSrstat, logStat, srgStat, regA]; omega

@[simp] theorem quiet_nfcBufCfg {w : Nat} : Quiet (nfcBufCfg w) := fun v => by
  simp only [nfcBufCfg, bbStat, bbSrstat, logStat, srgStat, regA]; omega

@[simp] theorem quiet_nfcGeom {w : Nat} : Quiet (nfcGeom w) := fun v => by
  simp only [nfcGeom, bbStat, bbSrstat, logStat, srgStat, regA]; omega

@[simp] theorem quiet_uplRqCfg {w p : Nat} : Quiet (uplRqCfg w p) := fun v => by
  simp only [uplRqCfg, bbStat, bbSrstat, logStat, srgStat, regA]; omega

@[simp] theorem quiet_uplRqPtr {w p : Nat} : Quiet (uplRqPtr w p) := fun v => by
  simp only [uplRqPtr, bbStat, bbSrstat, logStat, srgStat, regA]; omega

@[simp] theorem quiet_uplPtime {w : Nat} : Quiet (uplPtime w) := fun v => by
  simp only [uplPtime, bbStat, bbSrstat, logStat, srgStat, regA]; omega

@[simp] theorem quiet_uplClkstat {w : Nat} : Quiet (uplClkstat w) := fun v => by
  simp only [uplClkstat, bbStat, bbSrstat, logStat, srgStat, regA]; omega

@[simp] theorem quiet_ttMat {w : Nat} : Quiet (ttMat w) := fun v => by
  simp only [ttMat, bbStat, bbSrstat, logStat, srgStat, regA]; omega

@[simp] theorem quiet_ttMatinc {w : Nat} : Quiet (ttMatinc w) := fun v => by
  simp only [ttMatinc, bbStat, bbSrstat, logStat, srgStat, regA]; omega

@[simp] theorem quiet_ttStat {w : Nat} : Quiet (ttStat w) := fun v => by
  simp only [ttStat, bbStat, bbSrstat, logStat, srgStat, regA]; omega

@[simp] theorem quiet_logCtl {w : Nat} : Quiet (logCtl w) := fun v => by
  simp only [logCtl, bbStat, bbSrstat, logStat, srgStat, regA]; omega

@[simp] theorem quiet_logCfg {w : Nat} : Quiet (logCfg w) := fun v => by
  simp only [logCfg, bbStat, bbSrstat, logStat, srgStat, regA]; omega

@[simp] theorem quiet_logSeq {w : Nat} : Quiet (logSeq w) := fun v => by
  simp only [logSeq, bbStat, bbSrstat, logStat, srgStat, regA]; omega

@[simp] theorem quiet_logRingCfg {w : Nat} : Quiet (logRingCfg w) := fun v => by
  simp only [logRingCfg, bbStat, bbSrstat, logStat, srgStat, regA]; omega

@[simp] theorem quiet_logSwraise {w : Nat} : Quiet (logSwraise w) := fun v => by
  simp only [logSwraise, bbStat, bbSrstat, logStat, srgStat, regA]; omega

@[simp] theorem quiet_mbxCtl {w : Nat} : Quiet (mbxCtl w) := fun v => by
  simp only [mbxCtl, bbStat, bbSrstat, logStat, srgStat, regA]; omega

@[simp] theorem quiet_mbxStat {w : Nat} : Quiet (mbxStat w) := fun v => by
  simp only [mbxStat, bbStat, bbSrstat, logStat, srgStat, regA]; omega

@[simp] theorem regGet_regSet_same {a : Nat} {v : Word} : regGet (regSet a v s) a = v := tabGet_put_same _ _ _ _

@[simp] theorem regGet_of_regs {u : State} {a : Nat} (h : u.regs = s.regs) : regGet u a = regGet s a := by
  simp only [regGet, h]

@[simp] theorem regF_of_regGet {u : State} {a hi lo : Nat} (h : regGet u a = regGet s a) : regF u a hi lo = regF s a hi lo := by
  simp only [regF, h]

theorem flagOf_cases (w src : Nat) : (flagOf w src).1 = bbStat w 0 ∨ (flagOf w src).1 = bbStat w 1 ∨ (flagOf w src).1 = bbSrstat w := by
  unfold flagOf; repeat' split
  all_goals simp

theorem quiet_flag {a w src : Nat} (h : Quiet a) : (flagOf w src).1 ≠ a := by
  intro e
  have k := h w
  rcases flagOf_cases w src with f | f | f <;> rw [f] at e <;> simp [e] at k

@[simp] theorem bell_regGet {a w src : Nat} (h : Quiet a) : regGet (bell w src s) a = regGet s a := by
  unfold bell; dsimp only; split
  · rfl
  · rw [regGet_of_regs deliver_regs]
    exact (regGet_regSet_ne (quiet_flag h)).trans rfl

@[simp] theorem regPutF_regGet_other {a b hi lo v : Nat} (h : b ≠ a) : regGet (regPutF b hi lo v s) a = regGet s a :=
  regGet_regSet_ne h

@[simp] theorem stat_regGet_other {a b w k src : Nat} (h : Quiet a) (hb : b ≠ a) : regGet (stat w b k src s) a = regGet s a := by
  rw [stat, bell_regGet h, regPutF_regGet_other hb]; rfl

theorem ringWrite_regGet {w a : Nat} {l : List LogRec} : regGet (ringWrite w l s) a = regGet s a := by
  unfold ringWrite; split
  · exact (ringPlaces_kept _ _ (Nat.two_pow_pos _) _ _).2.1 _
  · rfl

theorem raiseRec_regGet {w code src p0 p1 a : Nat} : regGet (raiseRec w code src p0 p1 s) a = regGet s a := by
  unfold raiseRec; dsimp only
  rw [ringWrite_regGet]; rfl

theorem logSet_regGet {w a : Nat} {l : LogWing} : regGet (logSet w l s) a = regGet s a := rfl

@[simp] theorem count_regGet {w n a : Nat} : regGet (count w n s) a = regGet s a := rfl

theorem overwrite_regGet {w a : Nat} {lost : Bool} (h : Quiet a) : regGet (overwrite w lost s) a = regGet s a := by
  unfold overwrite; split
  · exact (regGet_of_regs recentNote_regs).trans ((stat_regGet_other h (Ne.symm (h w).2.2.2.1)).trans count_regGet)
  · rfl

theorem flushRecord_regGet {w a : Nat} {r : LogRec} (h : Quiet a) : regGet (flushRecord w r s) a = regGet s a := by
  unfold flushRecord; split
  · simp only [regGet, mramAppend_regs]
  · extract_lets s1
    have h1 : regGet s1 a = regGet s a := by
      simp only [s1, regGet, objPut_regs, keeperRaise_regs]
    clear_value s1
    split
    · exact count_regGet.trans ((stat_regGet_other h (Ne.symm (h _).2.2.2.2)).trans h1)
    · exact h1

theorem flushWrite_regGet {w n a : Nat} (h : Quiet a) : regGet (flushWrite w n s) a = regGet s a := by
  have fold : ∀ (l : List LogRec) (u : State), regGet (l.foldl (fun s r => flushRecord w r s) u) a = regGet u a := by
    intro l
    induction l with
    | nil => exact fun _ => rfl
    | cons r l ih => exact fun u => (ih _).trans (flushRecord_regGet h)
  exact fold _ s

theorem sendFirst_regGet {w a : Nat} (h : Quiet a) : regGet (sendFirst w s) a = regGet s a := by
  unfold sendFirst; repeat' split
  all_goals first
    | rfl
    | exact flushWrite_regGet h

theorem raiseOne_regGet {w code src p0 p1 a : Nat} (h : Quiet a) : regGet (raiseOne w code src p0 p1 s) a = regGet s a := by
  unfold raiseOne
  rw [overwrite_regGet h, raiseRec_regGet, sendFirst_regGet h]

@[simp] theorem demandFlush_regGet {w a : Nat} : regGet (demandFlush w s) a = regGet s a := by
  simp [regGet]

@[simp] theorem raise_regGet {w code src p0 p1 a : Nat} (h : Quiet a) : regGet (raise w code src p0 p1 s) a = regGet s a := by
  unfold raise; extract_lets lost s1 s2 s3
  have h1 : regGet s1 a = regGet s a := raiseOne_regGet h
  have h2 : regGet s2 a = regGet s a := by
    simp only [s2]; split
    · exact (raiseOne_regGet h).trans h1
    · exact h1
  have h3 : regGet s3 a = regGet s a := by
    simp only [s3]; split
    · exact (bell_regGet h).trans h2
    · exact h2
  split
  · exact demandFlush_regGet.trans h3
  · exact h3

@[simp] theorem raiseOnce_regGet {key gap w code src p0 p1 a : Nat} (h : Quiet a) :
    regGet (raiseOnce key gap w code src p0 p1 s) a = regGet s a := by
  unfold raiseOnce; split
  · rw [raise_regGet h]; rfl
  · rfl

@[simp] theorem raiseRate_regGet {key gap w code src p0 total a : Nat} (h : Quiet a) :
    regGet (raiseRate key gap w code src p0 total s) a = regGet s a := by
  unfold raiseRate; rw [raiseOnce_regGet h]; rfl

@[simp] theorem srRaise_regGet {k a : Nat} : regGet (srRaise k s) a = regGet s a := by
  unfold srRaise; split <;> rfl

end Sys2Proof.Machine
end

