-- ==== Sys2Proof/Laws/Bits.lean ====
section
/-! SUPPORT. Bit fields: a field replaced reads as what replaced it, every field apart from it as before. -/

namespace Sys2Proof.Machine

set_option Elab.async false

theorem setBits_low {n hi lo v : Nat} (h : lo ≤ hi) : setBits n hi lo v % 2 ^ lo = n % 2 ^ lo := by
  have e : 2 ^ (hi + 1) = 2 ^ (hi + 1 - lo) * 2 ^ lo := by rw [← Nat.pow_add]; congr 1; omega
  unfold setBits
  rw [e, ← Nat.mul_assoc, ← Nat.add_mul, Nat.add_comm, Nat.add_mul_mod_self_right, Nat.mod_mod]

theorem setBits_div {n hi lo v : Nat} (h : lo ≤ hi) :
    setBits n hi lo v / 2 ^ lo = n / 2 ^ (hi + 1) * 2 ^ (hi + 1 - lo) + v % 2 ^ (hi + 1 - lo) := by
  have e : 2 ^ (hi + 1) = 2 ^ (hi + 1 - lo) * 2 ^ lo := by rw [← Nat.pow_add]; congr 1; omega
  unfold setBits
  rw [e, ← Nat.mul_assoc, ← Nat.add_mul, Nat.add_comm, Nat.add_mul_div_right _ _ (Nat.two_pow_pos lo),
    Nat.div_eq_of_lt (Nat.mod_lt _ (Nat.two_pow_pos lo)), Nat.zero_add]

theorem setBits_high {n hi lo v : Nat} (h : lo ≤ hi) : setBits n hi lo v / 2 ^ (hi + 1) = n / 2 ^ (hi + 1) := by
  have e : 2 ^ (hi + 1) = 2 ^ lo * 2 ^ (hi + 1 - lo) := by rw [← Nat.pow_add]; congr 1; omega
  have k : setBits n hi lo v / 2 ^ (hi + 1) = setBits n hi lo v / 2 ^ lo / 2 ^ (hi + 1 - lo) := by
    rw [e, Nat.div_div_eq_div_mul]
  rw [k, setBits_div h, Nat.add_comm, Nat.add_mul_div_right _ _ (Nat.two_pow_pos _),
    Nat.div_eq_of_lt (Nat.mod_lt _ (Nat.two_pow_pos _)), Nat.zero_add]

/-- A field replaced reads as the low bits of what replaced it. -/
@[simp] theorem bits_setBits_same {n hi lo v : Nat} (h : lo ≤ hi) : bits (setBits n hi lo v) hi lo = v % 2 ^ (hi + 1 - lo) := by
  rw [bits, setBits_div h, Nat.add_comm, Nat.add_mul_mod_self_right, Nat.mod_mod]

theorem bits_of_mod {n m hi lo : Nat} (h : lo ≤ hi) (e : n % 2 ^ (hi + 1) = m % 2 ^ (hi + 1)) : bits n hi lo = bits m hi lo := by
  have k : ∀ x, bits x hi lo = x % 2 ^ (hi + 1) / 2 ^ lo := fun x => by
    have : 2 ^ (hi + 1) = 2 ^ lo * 2 ^ (hi + 1 - lo) := by rw [← Nat.pow_add]; congr 1; omega
    rw [bits, this, Nat.mod_mul_right_div_self]
  rw [k, k, e]

/-- A field apart from the one replaced reads as before. -/
theorem bits_setBits_other {n hi lo v hi' lo' : Nat} (h : lo ≤ hi) (h' : lo' ≤ hi') (a : hi < lo' ∨ hi' < lo) :
    bits (setBits n hi lo v) hi' lo' = bits n hi' lo' := by
  rcases a with a | a
  · have k : ∀ x, x / 2 ^ lo' = x / 2 ^ (hi + 1) / 2 ^ (lo' - (hi + 1)) := fun x => by
      rw [Nat.div_div_eq_div_mul, ← Nat.pow_add]; congr 2; omega
    rw [bits, bits, k, k n, setBits_high h]
  · refine bits_of_mod h' ?_
    have e : 2 ^ (hi' + 1) ∣ 2 ^ lo := Nat.pow_dvd_pow 2 (by omega)
    rw [← Nat.mod_mod_of_dvd _ e, setBits_low h, Nat.mod_mod_of_dvd _ e]

theorem setBits_lt {n hi lo v : Nat} (h : lo ≤ hi) (k : hi < 64) (hn : n < 2 ^ 64) : setBits n hi lo v < 2 ^ 64 := by
  have e : (2 : Nat) ^ 64 = 2 ^ (hi + 1) * 2 ^ (64 - (hi + 1)) := by rw [← Nat.pow_add]; congr 1; omega
  rw [e] at hn ⊢
  have d : n / 2 ^ (hi + 1) < 2 ^ (64 - (hi + 1)) := Nat.div_lt_of_lt_mul hn
  rw [Nat.mul_comm]
  refine (Nat.div_lt_iff_lt_mul (Nat.two_pow_pos _)).1 ?_
  rw [setBits_high h]
  exact d

variable {s : State}

theorem regGet_regPutF_same {a hi lo v : Nat} (h : lo ≤ hi) (k : hi < 64) :
    (regGet (regPutF a hi lo v s) a).toNat = setBits (regGet s a).toNat hi lo v := by
  rw [regPutF, regGet_regSet_same, BitVec.toNat_ofNat, Nat.mod_eq_of_lt (setBits_lt h k (regGet s a).isLt)]

/-- A register field written reads as written. -/
@[simp] theorem regF_regPutF_same {a hi lo v : Nat} (h : lo ≤ hi) (k : hi < 64) :
    regF (regPutF a hi lo v s) a hi lo = v % 2 ^ (hi + 1 - lo) := by
  rw [regF, regGet_regPutF_same h k, bits_setBits_same h]

/-- Another field of the same register reads as before. -/
theorem regF_regPutF_field {a hi lo v hi' lo' : Nat} (h : lo ≤ hi) (k : hi < 64) (h' : lo' ≤ hi') (d : hi < lo' ∨ hi' < lo) :
    regF (regPutF a hi lo v s) a hi' lo' = regF s a hi' lo' := by
  rw [regF, regGet_regPutF_same h k, bits_setBits_other h h' d, regF]

/-- Another register reads as before. -/
theorem regF_regPutF_other {a b hi lo v hi' lo' : Nat} (h : b ≠ a) : regF (regPutF b hi lo v s) a hi' lo' = regF s a hi' lo' :=
  regF_of_regGet (regPutF_regGet_other h)

end Sys2Proof.Machine
end

