-- ==== Sys2Proof/Laws/Answer.lean ====
section
/-! SUPPORT. Serving and answering a request, and raising an event, said once: what a request that passes its checks
leaves, and that a raised event is in the Logbook. -/

namespace Sys2Proof.Machine

set_option Elab.async false

variable {s : State}

/-- A request that passes the checks of R358 is answered with what its own meaning gives. -/
theorem serve_reaches {via : Via} {n : Nat} {f : State → Nat × Bytes × State} (h : reaches s via n = true) :
    serve via n f s = answer via n (f s).1 (f s).2.1 (f s).2.2 := by
  simp only [reaches, Bool.and_eq_true, Bool.not_eq_true'] at h
  obtain ⟨⟨⟨h1, h2⟩, h4⟩, h3⟩ := h
  unfold serve
  rw [h1, h2, h4]
  split at h3
  · rename_i d e
    rw [e]
    simp only [Bool.and_eq_true, Bool.or_eq_true, bne_iff_ne] at h3
    simp only [Bool.not_true, Bool.or_self, Bool.false_eq_true, if_false]
    rw [if_neg]
    rintro (k | ⟨k, l⟩)
    · exact h3.1 k
    · rcases h3.2 with m | m
      · exact m k
      · exact m l
  · cases h3

/-- A request by a path that is not open changes nothing (R353). -/
theorem serve_shut {via : Via} {n : Nat} {f : State → Nat × Bytes × State} (h : viaOpen s via = false) : serve via n f s = s := by
  simp [serve, h]

theorem storeResponse_reply {n id obj st : Nat} {b : Bytes} : (storeResponse n id obj st b s).emp.reply = s.emp.reply := by
  unfold storeResponse; dsimp only; split
  · simp only [sessSet]
  · rfl

/-- The state an answer starts from: the message out of the queue, the reply noted. -/
def replied (via : Via) (obj st : Nat) (b : Bytes) (s : State) : State :=
  { s with emp := { s.emp with
      queue := (takeMsg via s.emp.queue).2
      reply := some { via := some via, reqId := ((takeMsg via s.emp.queue).1.map (·.reqId)).getD 0, obj := obj
                      status := st, body := b } } }

theorem answer_session {n obj st : Nat} {b : Bytes} : answer (.session n) obj st b s =
    storeResponse n (((takeMsg (.session n) s.emp.queue).1.map (·.reqId)).getD 0) obj st b (replied (.session n) obj st b s) := by
  unfold answer replied; rfl

theorem answer_mailbox {w k obj st : Nat} {b : Bytes} : answer (.mailbox w k) obj st b s =
    mailboxRespond w k (((takeMsg (.mailbox w k) s.emp.queue).1.map (·.reqId)).getD 0) obj st b
      (replied (.mailbox w k) obj st b s) := by
  unfold answer replied; rfl

theorem answer_slot {k obj st : Nat} {b : Bytes} : answer (.slot k) obj st b s =
    slotServed k (leAt (reqSlot s k).words 0 8) (reqStatus (leAt (reqSlot s k).words 8 2) st) b (replied (.slot k) obj st b s) := by
  unfold answer replied; rfl

/-- The Concierge's answer is the last one. -/
theorem answer_reply {via : Via} {n st : Nat} {b : Bytes} : ∃ r, (answer via n st b s).emp.reply = some r ∧
    r.via = some via ∧ r.obj = n ∧ r.status = st ∧ r.body = b := by
  cases via with
  | session k =>
    rw [answer_session, storeResponse_reply]
    exact ⟨_, rfl, rfl, rfl, rfl, rfl⟩
  | mailbox w k =>
    rw [answer_mailbox, mailboxRespond_emp]
    exact ⟨_, rfl, rfl, rfl, rfl, rfl⟩
  | slot k =>
    rw [answer_slot, slotServed_emp]
    exact ⟨_, rfl, rfl, rfl, rfl, rfl⟩

@[simp] theorem answer_answered {via : Via} {n st : Nat} {b : Bytes} : Answered (answer via n st b s) via n st := by
  obtain ⟨r, h1, h2, h3, h4, _⟩ := answer_reply (s := s) (via := via) (n := n) (st := st) (b := b)
  exact ⟨r, h1, h2, h3, h4⟩

@[simp] theorem answer_answeredBody {via : Via} {n st : Nat} {b : Bytes} : AnsweredBody (answer via n st b s) via n st b :=
  answer_reply

/-- Every check of a list passes. -/
theorem checked_pass {cs : List (Bool × Nat)} {f : State → Nat × Bytes × State} (h : firstFail cs = none) :
    checked cs f s = f s := by simp [checked, h]

@[simp] theorem firstFail_nil : firstFail [] = none := rfl

@[simp] theorem firstFail_cons {b : Bool} {st : Nat} {cs : List (Bool × Nat)} :
    firstFail ((b, st) :: cs) = if b then firstFail cs else some st := rfl

/-- A record placed is there under some sequence. -/
theorem recInsert_mem (r : LogRec) : ∀ (l : List LogRec), ∃ x ∈ recInsert r l, x.code = r.code ∧ x.src = r.src ∧ x.p0 = r.p0 ∧ x.p1 = r.p1
  | [] => ⟨r, by simp [recInsert], rfl, rfl, rfl, rfl⟩
  | y :: ys => by
    unfold recInsert
    split
    · obtain ⟨x, hx, h⟩ := recInsert_mem { r with seq := y.seq } ys
      exact ⟨x, List.mem_cons_of_mem _ hx, h⟩
    · exact ⟨r, List.mem_cons_self, rfl, rfl, rfl, rfl⟩
termination_by l => l.length

/-- A record there before is there after, under some sequence. -/
theorem recInsert_keep {r x : LogRec} : ∀ {l : List LogRec}, x ∈ l →
    ∃ y ∈ recInsert r l, y.code = x.code ∧ y.src = x.src ∧ y.p0 = x.p0 ∧ y.p1 = x.p1
  | y :: ys, h => by
    unfold recInsert
    split
    · rcases List.mem_cons.1 h with e | h
      · subst e; exact ⟨{ x with seq := r.seq }, List.mem_cons_self, rfl, rfl, rfl, rfl⟩
      · obtain ⟨z, hz, k⟩ := recInsert_keep (r := { r with seq := y.seq }) h
        exact ⟨z, List.mem_cons_of_mem _ hz, k⟩
    · exact ⟨x, List.mem_cons_of_mem _ h, rfl, rfl, rfl, rfl⟩
termination_by l => l.length

theorem recInsert_length {r : LogRec} : ∀ {l : List LogRec}, (recInsert r l).length = l.length + 1
  | [] => rfl
  | y :: ys => by
    unfold recInsert
    split
    · simp [recInsert_length (l := ys)]
    · simp
termination_by l => l.length

theorem tabGet_logSet {w v : Nat} {l : LogWing} : logGet (logSet w l s) v = if v = w then l else logGet s v :=
  tabGet_put _ _ _ _ _

theorem demandFlush_log {w v : Nat} : logGet (demandFlush w s) v = logGet s v := by
  unfold demandFlush demandFlushAt; split <;> rfl

theorem ringWrite_wing {w : Nat} {l : List LogRec} : (ringWrite w l s).log.wing = s.log.wing := by
  have fold : ∀ (f : State → LogRec → State) (l : List LogRec) (u : State), (∀ v r, (f v r).log = v.log) → (l.foldl f u).log = u.log := by
    intro f l
    induction l with
    | nil => exact fun _ _ => rfl
    | cons r l ih => exact fun u h => (ih _ h).trans (h _ _)
  unfold ringWrite; split
  · extract_lets base n place s1
    have h : s1.log = s.log := fold _ l s fun _ _ => rfl
    exact (congrArg Log.wing h : s1.log.wing = s.log.wing)
  · rfl

theorem raiseRec_logGet {w code src p0 p1 v : Nat} : logGet (raiseRec w code src p0 p1 s) v =
    if v = w then logPush { seq := seqNext (logGet s w).last, code := code % 65536, src := src % 65536, time := ptimeNs s
                            p0 := p0 % two64, p1 := p1 % two64, at_ := s.clk.now } (logGet s w) else logGet s v := by
  unfold raiseRec
  dsimp only
  have h : ∀ (l : List LogRec) (u : State), logGet (ringWrite w l u) v = logGet u v := fun l u => by
    simp only [logGet, ringWrite_wing]
  rw [h]
  have k : ∀ (u : State), logGet (count w 194 u) v = logGet u v := fun _ => rfl
  rw [k, tabGet_logSet]

theorem sendFirst_room {w : Nat} (h : (logGet s w).unflushed < 4096) : sendFirst w s = s := by
  unfold sendFirst
  split
  · exact if_neg fun k => absurd k.2 (Nat.not_le.2 h)
  · rfl

/-- R429, R430: with room in the Logbook, a raise puts its record there and loses none. -/
theorem raise_logGet {w code src p0 p1 : Nat} (h : LogRoom s w 1) :
    ∃ r l, (logGet (raise w code src p0 p1 s) w).recs = recInsert r l ∧ l = (logGet s w).recs ∧
      r.code = code % 65536 ∧ r.src = src % 65536 ∧ r.p0 = p0 % two64 ∧ r.p1 = p1 % two64 := by
  obtain ⟨h1, h2⟩ := h
  have h3 : (logGet s w).unflushed < 4096 := h2
  have hl : decide (4096 ≤ (logGet s w).unflushed) = false := by simp; omega
  have ho : raiseOne w code src p0 p1 s = raiseRec w code src p0 p1 s := by
    unfold raiseOne; dsimp only; rw [sendFirst_room h3, hl]; rfl
  unfold raise
  rw [sendFirst_room h3, hl, ho]
  simp only [Bool.false_eq_true, false_and, if_false]
  refine ⟨{ seq := seqNext (logGet s w).last, code := code % 65536, src := src % 65536, time := ptimeNs s
            p0 := p0 % two64, p1 := p1 % two64, at_ := s.clk.now }, (logGet s w).recs, ?_, rfl, rfl, rfl, rfl, rfl⟩
  have key : (logGet (raiseRec w code src p0 p1 s) w).recs = recInsert { seq := seqNext (logGet s w).last, code := code % 65536, src := src % 65536, time := ptimeNs s, p0 := p0 % two64, p1 := p1 % two64, at_ := s.clk.now } (logGet s w).recs := by
    rw [raiseRec_logGet, if_pos rfl]
    simp only [logPush]
    rw [List.take_of_length_le]
    rw [recInsert_length]; omega
  generalize raiseRec w code src p0 p1 s = u at key ⊢
  have hb : logGet (bell w 26 u) w = logGet u w := by simp only [logGet, bell_log]
  repeat' split
  all_goals
    first
      | exact key
      | (rw [demandFlush_log]; first | exact key | (rw [hb]; exact key))
      | (rw [hb]; exact key)

@[simp] theorem raise_logged {w code src p0 p1 : Nat} (h : LogRoom s w 1) :
    Logged (raise w code src p0 p1 s) w (code % 65536) (src % 65536) (p0 % two64) (p1 % two64) := by
  obtain ⟨r, l, e, _, h1, h2, h3, h4⟩ := raise_logGet (code := code) (src := src) (p0 := p0) (p1 := p1) h
  obtain ⟨x, hx, k1, k2, k3, k4⟩ := recInsert_mem r l
  exact ⟨x, e ▸ hx, k1.trans h1, k2.trans h2, k3.trans h3, k4.trans h4⟩

end Sys2Proof.Machine
end

