-- ==== Sys2Proof/Laws/PerInstr.lean ====
section
/-! SUPPORT. Per-command laws. Family `Shape`: a well-formed request of the Energy Management Protocol came by a session of
16 or by one of four mailbox slots of a wing (R355, R362). -/

namespace Sys2Proof.Laws.Shape

set_option Elab.async false

/-- A well-formed command that came by a path came by one that exists. -/
def Statement (c : Instr) : Prop := c.wellFormed = true → ∀ v, c.path = some v → viaOk v = true

/-- A command that is no request. -/
theorem of_none {c : Instr} (h : c.path = none) : Statement c := fun _ _ hv => by rw [h] at hv; cases hv

/-- A request whose path is checked. -/
theorem of_some {c : Instr} {v : Via} (h : c.path = some v) (w : c.wellFormed = true → viaOk v = true) : Statement c :=
  fun hw u hu => by rw [h] at hu; cases hu; exact w hw

/-- The first of two checks. -/
theorem first {a b : Bool} (h : (a && b) = true) : a = true := ((Bool.and_eq_true_iff).1 h).1

theorem registerWrite (a b c d e) : Statement (.registerWrite a b c d e) := of_none rfl
theorem busError (a b c d) : Statement (.busError a b c d) := of_none rfl
theorem fabricMessageArrival (a b) : Statement (.fabricMessageArrival a b) := of_none rfl
theorem remoteRegisterReadDone (a b c d) : Statement (.remoteRegisterReadDone a b c d) := of_none rfl
theorem corridorLinkLost (a b c) : Statement (.corridorLinkLost a b c) := of_none rfl
theorem corridorRetrainStart (a b c) : Statement (.corridorRetrainStart a b c) := of_none rfl
theorem corridorLinkRetrained (a b c) : Statement (.corridorLinkRetrained a b c) := of_none rfl
theorem corridorRetrainFailed (a b c) : Statement (.corridorRetrainFailed a b c) := of_none rfl
theorem modeRequest (a b c) : Statement (.modeRequest a b c) := of_some rfl fun h => first h
theorem cclkDividerChange (a) : Statement (.cclkDividerChange a) := of_none rfl
theorem nightAuditLaneChange (a) : Statement (.nightAuditLaneChange a) := of_none rfl
theorem corePark (a b) : Statement (.corePark a b) := of_none rfl
theorem coreResume (a) : Statement (.coreResume a) := of_none rfl
theorem zeroCrossing (a b c d e) : Statement (.zeroCrossing a b c d e) := of_none rfl
theorem matLoss (a) : Statement (.matLoss a) := of_none rfl
theorem sourceChannelChange (a) : Statement (.sourceChannelChange a) := of_none rfl
theorem matUpdateApply (a) : Statement (.matUpdateApply a) := of_none rfl
theorem replicaStale (a b) : Statement (.replicaStale a b) := of_none rfl
theorem timetableGo (a b c) : Statement (.timetableGo a b c) := of_none rfl
theorem timetableStop (a b c) : Statement (.timetableStop a b c) := of_none rfl
theorem timetableFire (a b c) : Statement (.timetableFire a b c) := of_none rfl
theorem airLaunchLead (a b c) : Statement (.airLaunchLead a b c) := of_none rfl
theorem captureEnd (a) : Statement (.captureEnd a) := of_none rfl
theorem metrologySample (a b) : Statement (.metrologySample a b) := of_none rfl
theorem armResponse (a b c d) : Statement (.armResponse a b c d) := of_some rfl fun h => first h
theorem disarmSlot (a b c) : Statement (.disarmSlot a b c) := of_some rfl fun h => first h
theorem armedResponseExpiry (a b) : Statement (.armedResponseExpiry a b) := of_none rfl
theorem armedTriggerDecision (a b) : Statement (.armedTriggerDecision a b) := of_none rfl
theorem fireCycle (a b) : Statement (.fireCycle a b) := of_none rfl
theorem armedFrameStart (a b c) : Statement (.armedFrameStart a b c) := of_none rfl
theorem armedUplinkCopy (a b c) : Statement (.armedUplinkCopy a b c) := of_none rfl
theorem portEnable (a b c) : Statement (.portEnable a b c) := of_none rfl
theorem portDisable (a b c) : Statement (.portDisable a b c) := of_none rfl
theorem train (a b c) : Statement (.train a b c) := of_none rfl
theorem alignmentGained (a b c) : Statement (.alignmentGained a b c) := of_none rfl
theorem alignmentLost (a b c) : Statement (.alignmentLost a b c) := of_none rfl
theorem preambleDetect (a b c d e) : Statement (.preambleDetect a b c d e) := of_none rfl
theorem laneGrant (a b) : Statement (.laneGrant a b) := of_none rfl
theorem watcherWithdraw (a b c d e f) : Statement (.watcherWithdraw a b c d e f) := of_none rfl
theorem laneAcquired (a b c) : Statement (.laneAcquired a b c) := of_none rfl
theorem sfdTimeout (a b c d e) : Statement (.sfdTimeout a b c d e) := of_none rfl
theorem sfdFound (a b c d) : Statement (.sfdFound a b c d) := of_none rfl
theorem frameEnd (a b c d e f g) : Statement (.frameEnd a b c d e f g) := of_none rfl
theorem sourceAddressLookup (a b c d e) : Statement (.sourceAddressLookup a b c d e) := of_none rfl
theorem ownerCommit (a b c) : Statement (.ownerCommit a b c) := of_none rfl
theorem macVerdict (a b c) : Statement (.macVerdict a b c) := of_none rfl
theorem ackTxen (a b c) : Statement (.ackTxen a b c) := of_none rfl
theorem txDescriptorPost (a b c d) : Statement (.txDescriptorPost a b c d) := of_none rfl
theorem transmissionEnd (a b c) : Statement (.transmissionEnd a b c) := of_none rfl
theorem txenRelease (a b c) : Statement (.txenRelease a b c) := of_none rfl
theorem blankingEnd (a b c) : Statement (.blankingEnd a b c) := of_none rfl
theorem spiGo (a b c d) : Statement (.spiGo a b c d) := of_none rfl
theorem spiComplete (a b c d) : Statement (.spiComplete a b c d) := of_none rfl
theorem clipReport (a b c d) : Statement (.clipReport a b c d) := of_none rfl
theorem keyMaterialWrite (a b c d) : Statement (.keyMaterialWrite a b c d) := of_some rfl fun h => first (first h)
theorem keyStateWrite (a b c d) : Statement (.keyStateWrite a b c d) := of_some rfl fun h => first (first h)
theorem armedKeyWrite (a b c) : Statement (.armedKeyWrite a b c) := of_some rfl fun h => first h
theorem counterRequest (a b c d e) : Statement (.counterRequest a b c d e) := of_none rfl
theorem counterAssign (a) : Statement (.counterAssign a) := of_none rfl
theorem counterBlockReserve (a b) : Statement (.counterBlockReserve a b) := of_none rfl
theorem ackWaitTimeout (a b) : Statement (.ackWaitTimeout a b) := of_none rfl
theorem sendRequestTake (a b) : Statement (.sendRequestTake a b) := of_none rfl
theorem csmaBackoffEnd (a b) : Statement (.csmaBackoffEnd a b) := of_none rfl
theorem ccaEnd (a b c d) : Statement (.ccaEnd a b c d) := of_none rfl
theorem enhancedBeaconInterval (a) : Statement (.enhancedBeaconInterval a) := of_none rfl
theorem parentWindowClose (a) : Statement (.parentWindowClose a) := of_none rfl
theorem scanEnd (a) : Statement (.scanEnd a) := of_none rfl
theorem takeParent (a b c) : Statement (.takeParent a b c) := of_some rfl fun h => first h
theorem floodAtWing0 (a) : Statement (.floodAtWing0 a) := of_none rfl
theorem relayHoldEnd (a) : Statement (.relayHoldEnd a) := of_none rfl
theorem floodRequest (a b c) : Statement (.floodRequest a b c) := of_some rfl fun h => first h
theorem floodRepetition (a b) : Statement (.floodRepetition a b) := of_none rfl
theorem floodExpired (a b) : Statement (.floodExpired a b) := of_none rfl
theorem seenCacheExpiry (a b) : Statement (.seenCacheExpiry a b) := of_none rfl
theorem nbrRead (a b c) : Statement (.nbrRead a b c) := of_none rfl
theorem nbrPin (a b c) : Statement (.nbrPin a b c) := of_none rfl
theorem nbrUnpin (a b c) : Statement (.nbrUnpin a b c) := of_none rfl
theorem lookUpEntryByAddress (a b c) : Statement (.lookUpEntryByAddress a b c) := of_some rfl fun h => first h
theorem pinEntryByAddress (a b c) : Statement (.pinEntryByAddress a b c) := of_some rfl fun h => first h
theorem unpinEntryByAddress (a b c) : Statement (.unpinEntryByAddress a b c) := of_some rfl fun h => first h
theorem provision (a b c) : Statement (.provision a b c) := of_some rfl fun h => first h
theorem deprovision (a b c) : Statement (.deprovision a b c) := of_some rfl fun h => h
theorem suspend (a b c) : Statement (.suspend a b c) := of_some rfl fun h => h
theorem resume (a b c) : Statement (.resume a b c) := of_some rfl fun h => h
theorem setDed (a b c d) : Statement (.setDed a b c d) := of_some rfl fun h => first h
theorem clearDed (a b c) : Statement (.clearDed a b c) := of_some rfl fun h => h
theorem rekey (a b c d) : Statement (.rekey a b c d) := of_some rfl fun h => first h
theorem pinEndpoint (a b c) : Statement (.pinEndpoint a b c) := of_some rfl fun h => h
theorem unpinEndpoint (a b c) : Statement (.unpinEndpoint a b c) := of_some rfl fun h => h
theorem exportSession (a b c) : Statement (.exportSession a b c) := of_some rfl fun h => h
theorem importSession (a b c d e f) : Statement (.importSession a b c d e f) := of_some rfl fun h => first (first h)
theorem lookUpEndpointByIndex (a b c) : Statement (.lookUpEndpointByIndex a b c) := of_some rfl fun h => h
theorem carriedFrame (a b c) : Statement (.carriedFrame a b c) := of_none rfl
theorem admission (a b) : Statement (.admission a b) := of_none rfl
theorem batchClose (a b) : Statement (.batchClose a b) := of_none rfl
theorem fill (a b c) : Statement (.fill a b c) := of_none rfl
theorem signatureVerifyStart (a b) : Statement (.signatureVerifyStart a b) := of_none rfl
theorem checkinOutcome (a b) : Statement (.checkinOutcome a b) := of_none rfl
theorem gbRead (a b c) : Statement (.gbRead a b c) := of_none rfl
theorem gbPin (a b c) : Statement (.gbPin a b c) := of_none rfl
theorem gbUnpin (a b c) : Statement (.gbUnpin a b c) := of_none rfl
theorem writeback (a b c) : Statement (.writeback a b c) := of_none rfl
theorem holdReply (a b c) : Statement (.holdReply a b c) := of_none rfl
theorem flushGuestBook (a b) : Statement (.flushGuestBook a b) := of_none rfl
theorem stagingConfirm (a b c) : Statement (.stagingConfirm a b c) := of_none rfl
theorem directorySweep (a b) : Statement (.directorySweep a b) := of_none rfl
theorem linkFrameReceive (a b c d e) : Statement (.linkFrameReceive a b c d e) := of_none rfl
theorem guardRead (a b c d) : Statement (.guardRead a b c d) := of_none rfl
theorem guardWrite (a b c d) : Statement (.guardWrite a b c d) := of_none rfl
theorem logAppend (a b c d) : Statement (.logAppend a b c d) := of_none rfl
theorem linkIdle (a b c) : Statement (.linkIdle a b c) := of_none rfl
theorem strongroomLinkDown (a b) : Statement (.strongroomLinkDown a b) := of_none rfl
theorem strongroomLinkTrained (a b c d) : Statement (.strongroomLinkTrained a b c d) := of_none rfl
theorem strongroomTrainingRetry (a b) : Statement (.strongroomTrainingRetry a b) := of_none rfl
theorem carryingChange (a) : Statement (.carryingChange a) := of_none rfl
theorem strongroomReset (a b c) : Statement (.strongroomReset a b c) := of_none rfl
theorem commit (a) : Statement (.commit a) := of_none rfl
theorem legalSet (a b c d e) : Statement (.legalSet a b c d e) := of_some rfl fun h => first (first h)
theorem legalExec (a b c d e) : Statement (.legalExec a b c d e) := of_some rfl fun h => first (first h)
theorem switchToVbak (a b c) : Statement (.switchToVbak a b c) := of_none rfl
theorem returnToVsr (a b c) : Statement (.returnToVsr a b c) := of_none rfl
theorem metrologyRestart (a b) : Statement (.metrologyRestart a b) := of_none rfl
theorem metrologyCycleEnd (a b) : Statement (.metrologyCycleEnd a b) := of_none rfl
theorem tamperInputChange (a b c d) : Statement (.tamperInputChange a b c d) := of_none rfl
theorem readTheRegisterBook (a b c) : Statement (.readTheRegisterBook a b c) := of_some rfl fun h => first h
theorem acknowledgeTheRegisterBook (a b c) : Statement (.acknowledgeTheRegisterBook a b c) := of_some rfl fun h => first h
theorem keeperTick (a) : Statement (.keeperTick a) := of_none rfl
theorem disciplineComparison (a) : Statement (.disciplineComparison a) := of_none rfl
theorem clockStep (a) : Statement (.clockStep a) := of_none rfl
theorem setLtime (a b c d) : Statement (.setLtime a b c d) := of_some rfl fun h => h
theorem profileIntervalEnd (a) : Statement (.profileIntervalEnd a) := of_none rfl
theorem demandSubperiodEnd (a) : Statement (.demandSubperiodEnd a) := of_none rfl
theorem billingPeriodEnd (a) : Statement (.billingPeriodEnd a) := of_none rfl
theorem endTheBillingPeriodNow (a b c) : Statement (.endTheBillingPeriodNow a b c) := of_some rfl fun h => h
theorem taiUtcChange (a) : Statement (.taiUtcChange a) := of_none rfl
theorem calendarActivation (a) : Statement (.calendarActivation a) := of_none rfl
theorem tariffSwitch (a) : Statement (.tariffSwitch a) := of_none rfl
theorem repeatGenerationReset (a) : Statement (.repeatGenerationReset a) := of_none rfl
theorem powerFailCapture (a) : Statement (.powerFailCapture a) := of_none rfl
theorem powerUpCapture (a) : Statement (.powerUpCapture a) := of_none rfl
theorem calendarImageWrite (a b c d) : Statement (.calendarImageWrite a b c d) := of_some rfl fun h => first h
theorem withdrawThePassiveCalendar (a b c) : Statement (.withdrawThePassiveCalendar a b c) := of_some rfl fun h => h
theorem rateAndPriceAtAnLtime (a b c) : Statement (.rateAndPriceAtAnLtime a b c) := of_some rfl fun h => h
theorem readSnapshotByAge (a b c) : Statement (.readSnapshotByAge a b c) := of_some rfl fun h => first h
theorem readProfileRecords (a b c) : Statement (.readProfileRecords a b c) := of_some rfl fun h => first h
theorem consistentRegisterSet (a b c) : Statement (.consistentRegisterSet a b c) := of_some rfl fun h => first h
theorem minutePublish (a) : Statement (.minutePublish a) := of_none rfl
theorem chargeSend (a b) : Statement (.chargeSend a b) := of_none rfl
theorem charge (a b) : Statement (.charge a b) := of_none rfl
theorem voucher (a b c d) : Statement (.voucher a b c d) := of_some rfl fun h => first h
theorem dueScan (a b) : Statement (.dueScan a b) := of_none rfl
theorem supplyAuth (a b c d e f) : Statement (.supplyAuth a b c d e f) := of_none rfl
theorem supplyConfirm (a b c d e) : Statement (.supplyConfirm a b c d e) := of_none rfl
theorem authorisationLapse (a b) : Statement (.authorisationLapse a b) := of_none rfl
theorem openAccount (a b c d) : Statement (.openAccount a b c d) := of_some rfl fun h => first h
theorem closeAccount (a b c d) : Statement (.closeAccount a b c d) := of_some rfl fun h => first h
theorem setPlan (a b c d) : Statement (.setPlan a b c d) := of_some rfl fun h => first h
theorem readAccount (a b c) : Statement (.readAccount a b c) := of_some rfl fun h => first h
theorem friendlyHoursWrite (a b c d) : Statement (.friendlyHoursWrite a b c d) := of_some rfl fun h => first h
theorem intervalFold (a b) : Statement (.intervalFold a b) := of_none rfl
theorem voltageFold (a b) : Statement (.voltageFold a b) := of_none rfl
theorem assignEndpoint (a b c) : Statement (.assignEndpoint a b c) := of_some rfl fun h => first h
theorem assignmentEffect (a b) : Statement (.assignmentEffect a b) := of_none rfl
theorem commitThePendingSegmentTable (a b c) : Statement (.commitThePendingSegmentTable a b c) := of_some rfl fun h => first h
theorem auditJobReady (a) : Statement (.auditJobReady a) := of_none rfl
theorem closeJobStart (a) : Statement (.closeJobStart a) := of_none rfl
theorem closeJobEnd (a) : Statement (.closeJobEnd a) := of_none rfl
theorem identificationJobStart (a b) : Statement (.identificationJobStart a b) := of_none rfl
theorem identificationJobEnd (a b) : Statement (.identificationJobEnd a b) := of_none rfl
theorem identificationSkipped (a b) : Statement (.identificationSkipped a b) := of_none rfl
theorem readEndpointAuditState (a b c) : Statement (.readEndpointAuditState a b c) := of_some rfl fun h => h
theorem readResults (a b c) : Statement (.readResults a b c) := of_some rfl fun h => first h
theorem readLocalisationRecords (a b c) : Statement (.readLocalisationRecords a b c) := of_some rfl fun h => first h
theorem profileDecision (a b) : Statement (.profileDecision a b) := of_none rfl
theorem intakeUnitClose (a b) : Statement (.intakeUnitClose a b) := of_none rfl
theorem programComplete (a b c) : Statement (.programComplete a b c) := of_none rfl
theorem pageReadComplete (a b c d e) : Statement (.pageReadComplete a b c d e) := of_none rfl
theorem eraseComplete (a b c d) : Statement (.eraseComplete a b c d) := of_none rfl
theorem spanSeal (a b) : Statement (.spanSeal a b) := of_none rfl
theorem sealDone (a b) : Statement (.sealDone a b) := of_none rfl
theorem latePath (a b) : Statement (.latePath a b) := of_none rfl
theorem patchMerge (a b) : Statement (.patchMerge a b) := of_none rfl
theorem dayExpiry (a b) : Statement (.dayExpiry a b) := of_none rfl
theorem garbageCollection (a b) : Statement (.garbageCollection a b) := of_none rfl
theorem wearMove (a b) : Statement (.wearMove a b) := of_none rfl
theorem bakeHours (a b c) : Statement (.bakeHours a b c) := of_none rfl
theorem refresh (a b c) : Statement (.refresh a b c) := of_none rfl
theorem checkpoint (a b) : Statement (.checkpoint a b) := of_none rfl
theorem ckpt (a b) : Statement (.ckpt a b) := of_none rfl
theorem stop (a b) : Statement (.stop a b) := of_none rfl
theorem storeStart (a b c) : Statement (.storeStart a b c) := of_none rfl
theorem readASpan (a b c) : Statement (.readASpan a b c) := of_some rfl fun h => first h
theorem prpReceive (a b c) : Statement (.prpReceive a b c) := of_none rfl
theorem supervisionSend (a b) : Statement (.supervisionSend a b) := of_none rfl
theorem portSilent (a b) : Statement (.portSilent a b) := of_none rfl
theorem uplinkLinkUp (a b) : Statement (.uplinkLinkUp a b) := of_none rfl
theorem uplinkLinkDown (a b) : Statement (.uplinkLinkDown a b) := of_none rfl
theorem uplinkTransmitDescriptor (a b) : Statement (.uplinkTransmitDescriptor a b) := of_none rfl
theorem timedLaunchLead (a b c) : Statement (.timedLaunchLead a b c) := of_none rfl
theorem timedLaunchSend (a b c) : Statement (.timedLaunchSend a b c) := of_none rfl
theorem syncReceive (a b c d e) : Statement (.syncReceive a b c d e) := of_none rfl
theorem announceReceive (a b c d) : Statement (.announceReceive a b c d) := of_none rfl
theorem pdelayReq (a b c) : Statement (.pdelayReq a b c) := of_none rfl
theorem peerDelayMeasurement (a b c d) : Statement (.peerDelayMeasurement a b c d) := of_none rfl
theorem syncTimeout (a b) : Statement (.syncTimeout a b) := of_none rfl
theorem announceReceiptTimeout (a b c) : Statement (.announceReceiptTimeout a b c) := of_none rfl
theorem holdoverLimit (a b) : Statement (.holdoverLimit a b) := of_none rfl
theorem domainRevert (a) : Statement (.domainRevert a) := of_none rfl
theorem ptimeApply (a) : Statement (.ptimeApply a) := of_none rfl
theorem installALease (a b c d) : Statement (.installALease a b c d) := of_some rfl fun h => first h
theorem leaseFloor (a) : Statement (.leaseFloor a) := of_none rfl
theorem leaseFloorFree (a b) : Statement (.leaseFloorFree a b) := of_none rfl
theorem releaseTheLeases (a b c) : Statement (.releaseTheLeases a b c) := of_some rfl fun h => h
theorem readTheLeases (a b c) : Statement (.readTheLeases a b c) := of_some rfl fun h => h
theorem leaseRollover (a b) : Statement (.leaseRollover a b) := of_none rfl
theorem leaseUnusable (a b) : Statement (.leaseUnusable a b) := of_none rfl
theorem runADrill (a b c d) : Statement (.runADrill a b c d) := of_some rfl fun h => h
theorem lastExportNumberImported (a b c) : Statement (.lastExportNumberImported a b c) := of_some rfl fun h => h
theorem dtlsHandshake (a b c d) : Statement (.dtlsHandshake a b c d) := of_none rfl
theorem sessionEnd (a b c) : Statement (.sessionEnd a b c) := of_none rfl
theorem segmentReceive (a b c) : Statement (.segmentReceive a b c) := of_none rfl
theorem incomplete (a b c) : Statement (.incomplete a b c) := of_none rfl
theorem getObj (a b c) : Statement (.getObj a b c) := of_some rfl fun h => first h
theorem setObj (a b c d) : Statement (.setObj a b c d) := of_some rfl fun h => first (first h)
theorem subscribe (a b c d) : Statement (.subscribe a b c d) := of_none rfl
theorem unsubscribe (a b c) : Statement (.unsubscribe a b c) := of_none rfl
theorem ack (a b c) : Statement (.ack a b c) := of_none rfl
theorem notify (a b) : Statement (.notify a b) := of_none rfl
theorem notifyRetransmit (a b c) : Statement (.notifyRetransmit a b c) := of_none rfl
theorem mailboxGo (a b c) : Statement (.mailboxGo a b c) := of_none rfl
theorem unreachable (a b c) : Statement (.unreachable a b c) := of_some rfl fun h => first h
theorem railTrip (a b) : Statement (.railTrip a b) := of_none rfl
theorem wingRailsInRange (a) : Statement (.wingRailsInRange a) := of_none rfl
theorem vanaTrip (a) : Statement (.vanaTrip a) := of_none rfl
theorem vanaReturn (a) : Statement (.vanaReturn a) := of_none rfl
theorem strongroomPowerLost (a) : Statement (.strongroomPowerLost a) := of_none rfl
theorem powerFailDeclared (a b) : Statement (.powerFailDeclared a b) := of_none rfl
theorem graceEnd (a) : Statement (.graceEnd a) := of_none rfl
theorem powerFailFlush (a b) : Statement (.powerFailFlush a b) := of_none rfl
theorem powerFailRecovery (a b) : Statement (.powerFailRecovery a b) := of_none rfl
theorem holdupPublish (a b) : Statement (.holdupPublish a b) := of_none rfl
theorem warm (a b) : Statement (.warm a b) := of_none rfl
theorem cold (a b) : Statement (.cold a b) := of_none rfl
theorem resetThePart (a b c) : Statement (.resetThePart a b c) := of_some rfl fun h => first h
theorem rstnLow (a b) : Statement (.rstnLow a b) := of_none rfl
theorem porterWatchdog (a b) : Statement (.porterWatchdog a b) := of_none rfl
theorem thermalTrip (a) : Statement (.thermalTrip a) := of_none rfl
theorem junctionBelowRecover (a) : Statement (.junctionBelowRecover a) := of_none rfl
theorem quiesceEnd (a) : Statement (.quiesceEnd a) := of_none rfl
theorem domainRelease (a b c d) : Statement (.domainRelease a b c d) := of_none rfl
theorem pllLockLost (a b c) : Statement (.pllLockLost a b c) := of_none rfl
theorem stretchEnd (a) : Statement (.stretchEnd a) := of_none rfl
theorem optionLoad (a b) : Statement (.optionLoad a b) := of_none rfl
theorem optionLoadNoLink (a) : Statement (.optionLoadNoLink a) := of_none rfl
theorem optionWordSet (a b c d) : Statement (.optionWordSet a b c d) := of_some rfl fun h => first h
theorem warmTokenCheck (a) : Statement (.warmTokenCheck a) := of_none rfl
theorem imageHashDone (a b) : Statement (.imageHashDone a b) := of_none rfl
theorem dramTrainingDone (a b c d e f g) : Statement (.dramTrainingDone a b c d e f g) := of_none rfl
theorem releaseHeldPinGroups (a b c d) : Statement (.releaseHeldPinGroups a b c d) :=
  match b with
  | none => of_none rfl
  | some _ => of_some rfl fun h => first h
theorem beginDownload (a b c) : Statement (.beginDownload a b c) := of_some rfl fun h => first h
theorem writeChunk (a b c d) : Statement (.writeChunk a b c d) := of_some rfl fun h => first (first h)
theorem abandonDownload (a b) : Statement (.abandonDownload a b) := of_some rfl fun h => h
theorem verify (a b) : Statement (.verify a b) := of_some rfl fun h => h
theorem verifyHead (a b c) : Statement (.verifyHead a b c) := of_none rfl
theorem verifyLms (a b) : Statement (.verifyLms a b) := of_none rfl
theorem downloadRecord (a b) : Statement (.downloadRecord a b) := of_none rfl
theorem counterRead (a) : Statement (.counterRead a) := of_none rfl
theorem startTheSlotWrite (a b) : Statement (.startTheSlotWrite a b) := of_some rfl fun h => h
theorem slotWriteDone (a) : Statement (.slotWriteDone a) := of_none rfl
theorem commitTheActivation (a b) : Statement (.commitTheActivation a b) := of_some rfl fun h => h
theorem activationReset (a) : Statement (.activationReset a) := of_none rfl
theorem start (a b c d) : Statement (.start a b c d) := of_none rfl
theorem trialTimeEnd (a) : Statement (.trialTimeEnd a) := of_none rfl
theorem confirm (a b c) : Statement (.confirm a b c) := of_some rfl fun h => first h
theorem shuttered (a) : Statement (.shuttered a) := of_none rfl
theorem enterTheRecoveryLoader (a b) : Statement (.enterTheRecoveryLoader a b) := of_some rfl fun h => h
theorem eventRaise (a b c d e f) : Statement (.eventRaise a b c d e f) := of_none rfl
theorem logSwraise (a b c) : Statement (.logSwraise a b c) := of_none rfl
theorem logbookFlush (a b) : Statement (.logbookFlush a b) := of_none rfl
theorem flushComplete (a) : Statement (.flushComplete a) := of_none rfl
theorem flushEveryWingNow (a b) : Statement (.flushEveryWingNow a b) := of_some rfl fun h => h
theorem readRecordsFromMram (a b c) : Statement (.readRecordsFromMram a b c) := of_some rfl fun h => h
theorem bellBoardDelivery (a b c) : Statement (.bellBoardDelivery a b c) := of_none rfl
theorem bbSwset (a b c) : Statement (.bbSwset a b c) := of_none rfl
theorem bbRouteWrite (a b c d) : Statement (.bbRouteWrite a b c d) := of_none rfl
theorem bbFlagClear (a b c d e) : Statement (.bbFlagClear a b c d e) := of_none rfl
theorem strongroomSourceArrival (a b) : Statement (.strongroomSourceArrival a b) := of_none rfl
theorem pathReturnDelivery (a b) : Statement (.pathReturnDelivery a b) := of_none rfl
theorem talFrzAtWrite (a b c) : Statement (.talFrzAtWrite a b c) := of_none rfl
theorem armAFreezeOnEveryWing (a b c) : Statement (.armAFreezeOnEveryWing a b c) := of_some rfl fun h => first h
theorem freezeLatch (a) : Statement (.freezeLatch a) := of_none rfl
theorem talSwinc (a b c) : Statement (.talSwinc a b c) := of_none rfl
theorem refreshWindow (a b c) : Statement (.refreshWindow a b c) := of_none rfl
theorem refreshScheduleChange (a b c) : Statement (.refreshScheduleChange a b c) := of_none rfl
theorem dramAccessIssue (a b c d e f) : Statement (.dramAccessIssue a b c d e f) := of_none rfl
theorem dramReadData (a b) : Statement (.dramReadData a b) := of_none rfl
theorem engineDramAccess (a b c d) : Statement (.engineDramAccess a b c d) := of_none rfl
theorem requestResubmit (a b c) : Statement (.requestResubmit a b c) := of_none rfl

end Sys2Proof.Laws.Shape
end

