-- ==== Sys2Proof/Tests/Slice0.lean ====
section
/-! SUPPORT. The author's tests: a state for each statement of `Certificates/Slice0/Obligations.lean` that meets its
premises (`met_…`, clause by clause), an ill-formed command for each check of `WellFormed.lean`, and the manual's worked
examples (`test_…`). -/

namespace Sys2Proof.Tests

open Machine

set_option Elab.async false

/-! ### States to test on -/

/-- A Strongroom Link that is up, both ends heard. -/
def linkUp : SrLink :=
  { srLinkDefault with upAt := some 64, training := false, rxS := 5, rxG := 6, goodS := 1000000000000, goodG := 1000000000000 }
/-- The part in service: every domain of eight wings released, gate 0 carrying, one ENGINEER session on the Service Port. -/
def live : State := { State.reset with
  clk := { State.reset.clk with now := 1000000000000 }
  regs := (List.range 8).map (fun w => (porStat w, 0xF007F))
  sr := { State.reset.sr with carrying := some 0, links := [(0, linkUp)] }
  emp := { State.reset.emp with sessions := [(0, { sessionDefault with isOpen := true, level := 1, iface := 8 })] }
  power := { State.reset.power with driven := false, started := true, optDone := true, railsOut := false, image := some 1 } }

def goodDesc : Bytes := toLe 2 100 ++ [0, 5] ++ toLe 2 100 ++ [0, 0] ++ toLe 8 0x2000 ++ List.replicate 16 0
/-- The part in service with PTIME locked to the grandmaster of domain 0, and a unit identifier fused. -/
def locked : State := { live with
  clk := { live.clk with ptime := 1000000000000 * nsFine, ltime := 1000000000000 * nsFine }
  ptp := { live.ptp with dom := [(0, { domDefault with state := 2 })] }
  octs := [(0x300, List.replicate 16 7)] }
def leaseRec (g n start stop : Nat) : Bytes :=
  toBe 8 g ++ toBe 8 n ++ toBe 2 0 ++ List.replicate 6 0 ++ List.replicate 16 7 ++ toBe 8 start ++ toBe 8 stop ++ List.replicate 72 0
def lease (n start stop : Nat) : Lease := { record := [], number := n, start := start, expiry := stop, span := start }
/-- Group 5 holds a lease usable now. -/
def leased : State := { locked with lease := { locked.lease with
  groups := [(5, { groupDefault with cur := some (lease 1 0 9000000000000000) })] } }
def armRec (slot : Nat) : Bytes :=
  toBe 1 slot ++ [0, 0, 3] ++ toBe 8 49000000 ++ toBe 8 5 ++ toBe 8 9000000000000 ++ toBe 2 1 ++ toBe 2 0 ++ [0, 7, 0, 0] ++ toBe 2 4 ++ List.replicate 68 0
def span4 : Span :=
  { rank := 4, ident := 0, desc := 0x1000, on_ := 10, first := 20, last := 30, rel := 40, bin := 3, bellOn := false,
    kind := 0 }
def ann5 : AnnounceMsg := { prio1 := 5, cls := 6, accuracy := 0, variance := 0, prio2 := 0, identity := 77, steps := 0 }
/-- Both uplink ports of wing 0 run, with PTP. -/
def uplinks : State := regPutF (uplCfg 0 0) 5 0 0x21 (regPutF (uplStat 0 0) 0 0 1
  (regPutF (uplCfg 0 1) 5 0 0x21 (regPutF (uplStat 0 1) 0 0 1 locked)))
/-- And their pair is a PRP pair. -/
def prpPair : State := regPutF (uplCfg 0 0) 4 4 1 (regPutF (uplCfg 0 1) 4 4 1 uplinks)
/-- One descriptor queued on port 0's ring: `d` at 0x3000. -/
def queued (d : Bytes) : State := dramWrite 0x3000 d (regPutF (uplTqCfg 0 0) 63 12 3 (regPutF (uplTqPtr 0 0) 31 0 1
  uplinks))
def lanDesc (flags : Byte) (at_ : Nat) : Bytes := toLe 8 0x5000 ++ toLe 2 64 ++ [flags, 0] ++ List.replicate 4 0 ++
  toLe 8 at_ ++ List.replicate 8 0
/-- A frame of source 9 of 64 octets, with a PRP trailer on LAN A. -/
def frameSeq (typ q : Nat) : Bytes := toBe 6 1 ++ toBe 6 9 ++ toBe 2 typ ++ List.replicate 44 1 ++ toBe 2 q ++ toBe 2
  0xA032 ++ toBe 2 0x88FB
def frame0 : UplinkFrame := { fcsOk := true, bytes := frameSeq 0x1234 105 }
def prp9 : PrpEntry := { mac := 9, newest := 100, window := 3, heard := 0, kept := [] }
def heard9 : State := pairSet 0 { pairDefault with table := [prp9] } prpPair
def launch0 : LanLaunch :=
  { entry := none, desc := 0x3000, due := 1000000000500, lans := 1, frame := List.replicate 64 1, led := true, back :=
    false }
def dt700 : Bytes := toBe 2 2000 ++ [1, 1, 6, 0, 15, 0, 0, 0, 0, 0]
def plain0 : Bytes := [0x0F, 0, 0, 0, 7, 0] ++ [0x02, 4, 0x09, 12] ++ dt700 ++ [0x12, 0, 15, 0x11, 0, 0x01, 4] ++
  (List.replicate 4 ([0x15] ++ toBe 8 9)).flatten
/-- A ciphered push of endpoint 9 with invocation counter 5, in its wrapper. -/
def pay0 : Bytes := toBe 2 1 ++ toBe 2 1 ++ toBe 2 1 ++ toBe 2 33 ++ [0xDB, 8] ++ toBe 8 9 ++ [22, 0x31] ++ toBe 4 5
  ++ List.replicate 17 0
def opened0 : Opened := { plain := plain0, tagOk := true, sigOk := true }
def mframe : MacFrame :=
  { version := 2, ftype := .data, seqSuppressed := false, complete := true, ieOk := true, dstPan := 0x1234, dst :=
    .ext 77, src := .ext 9, ar := false, secured := true, level := 6, keyMode := 1, ctrSuppressed := false, keyIdx :=
    5, counter := 100, seq := 3, micOk := true, cslPhase := 0, cslPeriod := 0, hasCsl := false, ebRequest := false,
    payload := [1, 2, 3], payloadOff := 20, psdu := List.replicate 30 1, opened := opened0 }
/-- Key 5 is ACTIVE and wing 0's MAC is enabled in PAN 0x1234, the part's extended address 77. -/
def macOn : State := objPut 0x04000300 77 (objPut 0x04002105 2 (regPutF (macCfg 0) 63 48 0x1234 (regPutF (macCfg 0) 0
  0 1 live)))
def inFrame : State := laneSet 0 2 { laneDefault with st := 2, port := 1, bin := 3 } macOn
def ended (x : Lane) : State := laneSet 0 2 { x with st := 3, port := 1, bin := 3, ends := 999999998000 } macOn
def got : Lane := { laneDefault with frame := some mframe, looked := true, src := .ext 9, ftype := .data }
def nbr9 : Nbr := { nbrFresh 9 with dir := 0 }
def ackIn : State := portSet 1
  { portGet macOn 1 with resv := [{ span4 with rank := 3, desc := 0, kind := 5, on_ := 1000000001000 }] } macOn
def entryIn (k : Nat) : State := nbrSet k nbr9 macOn
def job0 : Job :=
  { kind := 0, wing := 0, entry := 0x4000, dst := 9, nbr := 6, payload := 0x5000, len := 40, flags := 1, limit := 3,
    tries := 1, nb := 0, be := 3, phase := 0, start := 999999000000, unit := 1000000, bin := 3, mode := 0, preamble :=
    8, psdu := 100, seq := 3, ctr := none, level := 5, firstAt := 0, winEnd := 999999000000, csl := false, air :=
    1000000, flood := 0 }
/-- Wing 0's hardware has asked the Keeper for a counter block of key 5. -/
def blockAsked : State :=
  { macOn with sr := { macOn.sr with doors := [{ slot := 2, kind := 0x0401, at_ := 5 }], slots := [(2, { reqSlotDefault with words := List.replicate 32 0 ++ toLe 8 5, busy := true })] } }
def working (j : Job) : State := jobSet 1 (some j) macOn
def sqReq : Bytes := toLe 8 9 ++ toLe 8 0x5000 ++ toLe 2 40 ++ [1, 3] ++ List.replicate 12 0
/-- A send request for extended address 9 in its owner's ring, its entry in the neighbour table, group 5 usable. -/
def sqRing : State := dramWrite 0x3000 sqReq (regPutF (macSqPtr (ownerOf live 9)) 31 0 1 (regPutF (macSqCfg (ownerOf
  live 9)) 63 12 3
  (nbrSet (ownerOf live 9 * 8192 + 6) (nbrFresh 9) (objPut 0x0B030600 5 { macOn with clk := leased.clk, ptp := leased.ptp, lease := leased.lease }))))
def flood0 : Flood :=
  { ident := 77, origin := 0, ttl := 3, flags := 0, mask := 5, mode := 0, bin := 3, reps := 3, gap := 10, data := [1,
    2, 3], since := 999999990000, nextRep := 0, sent := 0, left := 6 }
def withMac (f : Mac → Mac) (s : State) : State := { s with mac := f s.mac }
def floodReq : Bytes := toBe 8 5 ++ toBe 4 77 ++ [3, 0, 0, 5, 0, 3, 2, 0] ++ toBe 2 10 ++ toBe 2 4 ++ [1, 2, 3, 4]
def ent16 (flags : Nat) : Bytes := toLe 4 16 ++ toLe 2 flags ++ [1, 3] ++ toLe 8 9 ++ List.replicate 240 0
def bookOf (e : Bytes) : State := regPutF (ingDirCfg 0) 63 30 1 (ingSet 0 { ingDefault with gb := [(3, e)] } leased)
/-- The Guest Book of wing 0 holds endpoint 16. -/
def book : State := bookOf (ent16 1)
def withIng (f : Ing → Ing) (s : State) : State := ingSet 0 (f (ingGet s 0)) s
def in16 : InFrame :=
  { dir := 16, pay := pay0, opened := opened0, apdu := apduOf 1 2 pay0 opened0, t0 := 999999000000, air := true, lane
    := 2, port := 1, bin := 3, rssi := -70, heard := 0, desc := 0, bellOn := false, unsec := false, verdict := 1, mode
    := some 0, batch := none, waited := 0, a := 0, f := none, filled := false, entry := ent16 1, wpInt := 0, wpVolt :=
    0, body := false, sigIn := none, nat := none, dirErr := false, judged := none, lobby := [], owner := 0 }
def prov16 : Bytes := toBe 4 16 ++ toBe 8 9 ++ List.replicate 8 0 ++ [1, 0, 3, 0] ++ toBe 8 0 ++ toBe 4 0xFFFFFFFF ++
  toBe 8 0 ++ List.replicate 16 5 ++ List.replicate 16 0 ++ List.replicate 16 6 ++ List.replicate 16 0 ++
  List.replicate 96 0
def noBook : State := regPutF (macAtBase (ownerOf live 9)) 63 0 0x80000000 (regPutF (ingDirCfg 0) 63 30 1 leased)
/-- Endpoint 16 provisioned by command: its entry and its address table slot are in DRAM. -/
def provided : State := match execProvision 0 (.session 0) prov16 noBook with
  | .next u => { u with emp := noBook.emp }
  | _ => noBook
/-- Frame 16 accepted and judged, its outcome due. -/
def judged16 (o : Nat) : InFrame := { in16 with nat := some 5, judged := some (o, true) }
def outcoming (f : InFrame) : State := withIng (fun x => { x with pipe := [f] }) (placesSet 0 5 book)
def staged0 : Bytes :=
  let s := outcoming (judged16 0)
  let f := judged16 0
  stagedRecord s f 1 (kindOf f 0) (recFlags s f (kindOf f 0) (decide (kindOf f 0 = 1) && notBeforeW 64 (leAt (entryOf s 16) 56 8) (recEnd s f)))
    (required (kindOf f 0) (entFlags (entryOf s 16))) 0 0
def xring : State := regPutF (ingXqPtr 0) 31 0 1 (regPutF (ingXqCfg 0) 63 12 3 book)
def xdesc : Bytes := toLe 8 0x5000 ++ toLe 2 100 ++ [0, 0] ++ toLe 4 16 ++ toLe 8 77 ++ toLe 8 0
def withSr (f : Strong → Strong) (s : State) : State := { s with sr := f s.sr }
def linked : State := leased
def auth0 (n : Nat) : LegalAuth :=
  { keyOk := true, unitId := List.replicate 16 7, object := n, counter := 5, hashOk := true, sigOk := true }
def reqBody : Bytes := toLe 8 3 ++ toLe 2 0x0401 ++ toLe 2 40 ++ toLe 4 0 ++ toLe 8 0x8000 ++ toLe 8 0 ++
  List.replicate 2016 0
def payload0 : Payload :=
  { objs := [], octs := [], resv := [], accounts := [], store := [], orders := [], floors := [], mins := [], lists :=
    [], words := [], nums := [], token := [] }
def commit0 (rs : List BookNew) : Commit :=
  { tick := 5, at_ := 5, cls := 0, sub := 0, words := 1, extents := 1, records := rs, payload := payload0 }
def metered : State := withSr (fun r =>
  { r with metro := true, discard := 0, feeds := [(0, { feedDefault with running := true, noref := true, samples := List.replicate 640 (List.replicate 8 1000), cal := List.replicate 34 1 })] })
  leased
def withBill (f : Bill → Bill) (s : State) : State := { s with bill := f s.bill }
def tick1 : State := objPut 0x07005000 1 (withSr (fun r =>
  { r with fine := [(3, 7 * 4294967296), (0, 5 * 4294967296)] }) leased)
def later (ns : Int) (s : State) : State := { s with clk := { s.clk with ptime := s.clk.ptime + ns * nsFine } }
def odef : ObjDef := ⟨0, 0, .u8, .rw, .legal, .kept, 0, [], []⟩
def accRec (bal dir plan st : Nat) : Bytes := toLe 8 bal ++ toLe 8 0 ++ toLe 8 0 ++ toLe 4 0 ++ toLe 4 dir ++
  [BitVec.ofNat 8 plan, BitVec.ofNat 8 st] ++ List.replicate 14 0
def withAcc (a : Nat) (b : Bytes) (s : State) : State := accSet a b s
def staged16 (kind : Nat) : Bytes := toLe 8 5 ++ toLe 4 16 ++ [BitVec.ofNat 8 kind, 0, 6, 0] ++ toLe 8 0 ++ toLe 8 0
  ++ toLe 4 0 ++ toLe 4 33 ++ toLe 8 900000000000 ++ toLe 2 15 ++ [4, 0, 0, 0] ++ toLe 2 0 ++ toLe 8 100 ++ toLe 8 200
  ++ List.replicate 56 0
/-- Wing 0 has staged record 5 (an INTERVAL of endpoint 16, account 33) for CHARGE and AUDIT. -/
def staging (kind : Nat) : State := dramWrite (0x40000000 + 5 * 128) (staged16 kind) (regPutF (ingStgCfg 0) 63 28 4
  (withIng (fun x => { x with unrel := [{ seq := 5, at_ := 999999000000, req := 6, conf := 0, body := none }] })
  book))
def opened (bal dir plan st : Nat) (s : State) : State := accSet 33 (accRec bal dir plan st) s
/-- Wing 0 has asked the Keeper to charge account 33 for record 5. -/
def charging : State := match execChargeSend 0 0 (opened 1000 16 0 1 (staging 1)) with
  | .next u => u
  | _ => staging 1
def askedCharge : ReqSlot := reqSlot charging 3
def chargeDoor : Door := (charging.sr.doors.head?).getD { slot := 0, kind := 0, at_ := 0 }
def lease5 : Lease :=
  { record := leaseRec 5 1 0 9000000000000000, number := 1, start := 0, expiry := 9000000000000000, span := 0 }
/-- Account 33 of endpoint 16, whose group's lease is held with its record. -/
def supplying : State := objPut 0x08001400 1 (opened 0 16 0 1
  { bookOf ((ent16 1).take 160 ++ toLe 8 5 ++ List.replicate 88 0) with
  lease := { leased.lease with groups := [(5, { groupDefault with cur := some lease5 })] } })
def friendly0 : Bytes := List.replicate 176 0
def voucher0 : Bytes := toBe 8 9 ++ List.replicate 16 7 ++ toBe 4 33 ++ toBe 4 0 ++ toBe 8 500 ++ toBe 8 2000000000000
  ++ List.replicate 64 0
def accOp (op plan st a dir : Nat) : Bytes := [BitVec.ofNat 8 op, BitVec.ofNat 8 plan, BitVec.ofNat 8 st, 0] ++ toBe 4
  a ++ toBe 4 dir ++ toBe 4 0
def withOrders (l : Tab SupplyOrder) (s : State) : State := { s with prepay := { s.prepay with orders := l } }
def withAudit (f : Audit → Audit) (s : State) : State := { s with audit := f s.audit }
def auditing (kind : Nat) : State := objPut 0x09000100 1 (regPutF (naCtl 0) 0 0 1 (regPutF (naEpCfg 0) 63 30 2
  (staging kind)))
/-- Endpoint 16 assigned to group 0, phase 1, import channel 0. -/
def assigned (kind : Nat) : State := dramWrite (auditRec (auditing kind) 16 + 4) ([0, 1, 0, 255, 0, 0] ++ toLe 2 1)
  (auditing kind)
def folding : State := objPut 0x09002000 3600 (assigned 1)
/-- The accumulators of the interval that record 5 ends in. -/
def int5 : AuditInt := { ends := auditCeil folding 900, cells := [], doubt := false }
def foldingInt : State := withAudit (fun a => { a with ints := [(0, [int5])] }) folding
def unrelA : Unrel := { seq := 5, at_ := 999999000000, req := 6, conf := 0, body := none }
/-- Record 5 is one minute of voltage on the second day. -/
def minuteRec : Bytes := putLe (putLe (staged16 2) 40 8 100000000000000) 48 2 1
def minuteOf : State := later 100000000000000 (dramWrite (0x40000000 + 5 * 128) minuteRec (assigned 2))
def job1 : AuditJob := { kind := 1, ends := 900, len := 900, per := 1, who := 0, feeder := true, waited := false }
def job3 : AuditJob := { kind := 3, ends := 900, len := 900, per := 1, who := 0, feeder := false, waited := false }
def started0 : State := storeStateSet 0 3 (regPutF (nfcCtl 0) 0 0 1 (staging 1))
def withStore (f : Store → Store) (s : State) : State := storeSet 0 (f (storeGet s 0)) s
/-- Wing 0's Profile Store runs. -/
def storeOn : State := match execStoreStart 0 0 true started0 with
  | .next u => later 0 u
  | _ => started0
def opOf (k str b : Nat) (pages : List NandPage) : NandOp :=
  { kind := k, stream := str, day := 0, reloc := false, chan := none, blk := some b, page := 0, pages := pages,
    entries := [], src := [], task := 0, ready := 0, start := some 5, tries := 0 }
/-- A read of page 0 of block 30, begun. -/
def readOp : NandOp := { opOf 1 0 30 [] with page := 0 }
def page0 : NandPage :=
  { logical := 7, seq := 3, typ := 0, count := 1, data := List.replicate 64 1, valid := true, lost := false }
def blk0 : NandBlock := { blockDefault with st := 2, stream := 0, pages := [page0] }
def entry16 : StoreEntry := { seq := 5, data := intakeEntry (staged16 1) }
def staged2 : Bytes := putLe (staged16 1) 40 8 259300000000000
def storeIn : State := objPut 0x0A000100 1 (dramWrite (0x40000000 + 5 * 128) staged2 (withIng (fun x =>
  { x with unrel := [{ seq := 5, at_ := 999999000000, req := 1, conf := 0, body := none }] }) storeOn))
def pos2 : Nat × Nat := spanPos storeIn 259300000000000 15
def storeIn2 : State := withStore (fun x => { x with sigmas := [(15, pos2.1)] }) storeIn
def hdr : Bytes := toBe 4 0x58414A52 ++ toBe 2 1 ++ toBe 2 0 ++ toBe 4 (obj live 0x00000400) ++ [0, 0, 0, 0] ++
  List.replicate 16 0 ++ toBe 8 3 ++ toBe 8 1 ++ toBe 8 2476 ++ toBe 8 0 ++ List.replicate 96 0 ++ toBe 4 7 ++ toBe 4
  4 ++ List.replicate 344 0
def keyed : State := octPut 0x0D016000 [1] (octPut 0x0D016004 [2] storeOn)
def withUpd (f : Update → Update) (s : State) : State := { s with upd := f s.upd }
def withPow (f : Power → Power) (s : State) : State := { s with power := f s.power }
def staged1 : State := match execBeginDownload 0 (.session 0) hdr keyed with
  | .next u => { u with emp := keyed.emp }
  | _ => keyed
def booting : State := withPow (fun p => { p with image := none, started := false }) keyed
def sess (x : Session) (s : State) : State := { s with emp := { s.emp with sessions := [(0, x)] } }
def sess0 : Session := { sessionDefault with isOpen := true, level := 1, iface := 8 }
/-- A client's chain of two certificates that ends in anchor 1. -/
def chain0 : ClientChain :=
  { certs := 2, longest := 500, anchor := 1, sigsOk := true, datesOk := true, selfSigned := true }
def seg0 : EmpSegment :=
  { version := 1, kind := 1, index := 0, count := 1, reqId := 7, object := 0x00000100, flags := 0, body := [1] }
/-- A GET of session `n` queued at `a`. -/
def msgOf (n a : Nat) : Msg :=
  { at_ := a, via := .session n, reqId := 7, kind := 1, obj := 0x0C003100, flags := 0, body := [] }
def withMsgs (l : List Msg) (s : State) : State := { s with emp := { s.emp with queue := l } }
def part0 (segs : Tab Bytes) : Partial :=
  { reqId := 7, kind := 1, count := 2, obj := 0x00000100, flags := 0, segs := segs, since := 5 }
def notif (q : Nat) : Notif := { seq := q, sub := 1, lost := 0, body := [1], sentAt := 5, tries := 0 }
/-- The Keeper makes no commit: it runs from VBAK, and that is low. -/
def noKeeper (s : State) : State := withSr (fun r => { r with onVbak := true, vsr := 0, vbak := 0 }) s
def resetNow : State := withPow (fun p => { p with started := false }) leased
def sub1 : Sub := { id := 3, event := true, obj := 0, code := 0, mask := 0, least := 0, last := none, seen := 0 }
/-- Session 0 subscribes to every event, and one has been raised. -/
def subRaised : State := sess { sess0 with subs := [sub1] } (raise 0 5 0 0 0 leased)
def failed : State := withPow (fun p => { p with fail := some 5, graced := true }) leased
def relMask (w v : Nat) (s : State) : State := regPutF (porStat w) 6 0 v s
def mbox (n : Nat) : State := dramWrite 0x4000 ([1, 2, 0, 1] ++ toBe 4 9 ++ toBe 4 0x0C003100 ++ toBe 2 0 ++ [0, 0, 1,
  2, 3, 4]) (regPutF (mbxReq 0 1) 63 6 0x100 (regPutF (mbxLen 0 1) 31 0 n (regPutF (mbxRsp 0 1) 63 6 0x10000 leased)))
def regRow (b o : Nat) : RegDef := (regFind b o).getD
  { blk := 0, blkHi := 0, off := 0, stride := 0, count := 0, rw := 0, w1c := 0, w1s := 0, wo := 0, rst := 0 }
/-- Wing 0's MRAM region holds an event of sequence 5. -/
def logged5 : State := match execLogAppend 0 0 5 (List.replicate 32 0) leased with
  | .next u => u
  | _ => leased
/-- `m` unused switch points before the rest of a calendar image. -/
def points (m : Nat) (r : Bytes) : Bytes := (List.replicate m [255, 0, 1, 0]).flatten ++ r

def calHead : Bytes := toBe 4 1 ++ toBe 8 5 ++ toBe 2 60 ++ [0, 0, 3, 5, 7, 2, 10, 5, 7, 3] ++
  (List.replicate 4 [1, 1, 0, 1]).flatten ++ List.replicate 56 0
/-- A calendar whose first special day is 2000-01-01. -/
def special : Bytes := List.replicate 1120 1 ++ [0, 1, 1, 0]
def calTail : Bytes := List.replicate 256 0 ++ ([1] ++ List.replicate 71 0)
/-- A calendar image within every limit: no daylight saving, every switch point unused. -/
def calImg : Bytes := calHead ++ points 256 calTail

/-! ### Lemmas on those states -/

abbrev AtFrom (g : State → State) (c : Instr) (pre : State → Prop) (s : State) : Prop := pre (g (atTime c.cycle s))
abbrev At (c : Instr) (pre : State → Prop) (s : State) : Prop := pre (atTime c.cycle s)

theorem at0 (s : State) : atTime 0 s = s := by simp [atTime]

theorem at_zero {c : Instr} {pre : State → Prop} {s : State} (hc : c.cycle = 0) (h : pre s) : At c pre s := by
  show pre (atTime c.cycle s)
  rw [hc, at0]; exact h

theorem ing_with (f : Ing → Ing) (s : State) : ingGet (withIng f s) 0 = f (ingGet s 0) := by
  simp [withIng, ingGet, ingSet]

theorem beAt_right (a b : Bytes) (o n : Nat) : beAt (a ++ b) (a.length + o) n = beAt b o n := by
  simp [beAt, slice, List.drop_append, List.drop_eq_nil_of_le (Nat.le_add_right a.length o)]

theorem points_skip (r : Bytes) (n j m : Nat) : ∀ i, beAt (points (i + m) r) (4 * i + j) n = beAt (points m r) j n
  | 0 => by simp
  | i + 1 => by
    have h : points (i + 1 + m) r = [255, 0, 1, 0] ++ points (i + m) r := by
      rw [show i + 1 + m = i + m + 1 by omega]; simp [points, List.replicate_succ]
    rw [h, show 4 * (i + 1) + j = ([255, 0, 1, 0] : Bytes).length + (4 * i + j) by simp; omega, beAt_right,
      points_skip r n j m i]

theorem calImg_point {i j : Nat} (h : i < 256) (hj : j < 4) :
    beAt calImg (96 + 4 * i + j) 1 = beAt [255, 0, 1, 0] j 1 := by
  have e : 256 = i + (256 - i - 1 + 1) := by omega
  rw [calImg, e, show 96 + 4 * i + j = calHead.length + (4 * i + j) by
    rw [show calHead.length = 96 by decide +kernel]; omega, beAt_right, points_skip]
  match j, hj with
  | 0, _ | 1, _ | 2, _ | 3, _ => simp [points, List.replicate_succ, beAt, slice]

theorem calImg_points : calPointsOk calImg = true := by
  rw [calPointsOk, List.all_eq_true]
  intro i hi
  have hi := List.mem_range.1 hi
  have h (j : Nat) (hj : j < 4) := calImg_point hi hj
  have h0 := h 0 (by omega); have h1 := h 1 (by omega); have h2 := h 2 (by omega); have h3 := h 3 (by omega)
  simp only [Nat.add_zero] at h0
  simp only [h0, h1, h2, h3]
  decide +kernel

theorem calImg_order : calOrderOk calImg = true := by
  simp only [calOrderOk, List.all_eq_true]
  intro p hp i hi
  have hp := List.mem_range.1 hp
  have hi := List.mem_range.1 hi
  have h := calImg_point (i := 16 * p + i + 1) (j := 0) (by omega) (by omega)
  rw [show 96 + 64 * p + 4 * i + 4 = 96 + 4 * (16 * p + i + 1) + 0 by omega, h]
  rfl

theorem calImg_tail (o n : Nat) : beAt calImg (1120 + o) n = beAt calTail o n := by
  have h : (calHead ++ (List.replicate 256 ([255, 0, 1, 0] : Bytes)).flatten).length = 1120 := by decide +kernel
  rw [calImg, points, ← List.append_assoc, ← h, beAt_right]

theorem calImg_body : calBodyOk calImg = true := by
  have h (i k : Nat) (hk : k < 4) (hi : i < 64) : beAt calImg (1120 + 4 * i + k) 1 = beAt calTail (4 * i + k) 1 := by
    rw [Nat.add_assoc, calImg_tail]
  have hs : (List.range 64).all (fun i => beAt calImg (1120 + 4 * i + 1) 1 == 0 || (dayOk (beAt calImg
      (1120 + 4 * i + 1) 1) (beAt calImg (1120 + 4 * i + 2) 1) && decide (beAt calImg (1120 + 4 * i + 3) 1 ≤ 15))) = true := by
    rw [List.all_eq_true]
    intro i hi
    rw [h i 1 (by omega) (List.mem_range.1 hi)]
    exact List.all_eq_true.1 (show (List.range 64).all (fun i => beAt calTail (4 * i + 1) 1 == 0 || _) = true from
      List.all_eq_true.2 fun i hi => Bool.or_eq_true_iff.2 (.inl (List.all_eq_true.1 (show (List.range 64).all (fun i =>
        beAt calTail (4 * i + 1) 1 == 0) = true by decide +kernel) i hi))) i hi
  have r (o n : Nat) (ho : 1120 ≤ o) : beAt calImg o n = beAt calTail (o - 1120) n := by
    rw [← calImg_tail, Nat.add_sub_cancel' ho]
  simp only [calBodyOk]
  rw [hs, r 1376 1 (by omega), r 1377 7 (by omega)]
  decide +kernel

theorem calImg_checks : firstFail (calendarChecks calImg) = none := by
  have a : decide (calImg.length = 1448) = true := by decide +kernel
  have b : calHeadOk calImg = true := by decide +kernel
  simp [calendarChecks, firstFail, a, b, calImg_body, calImg_points, calImg_order, -decide_eq_true_eq]

/-! ### States too large to run -/

/-- Wing 0's Guest Book holds as many pinned entries as it may. -/
def pinnedBy (n : Nat) : State :=
  withIng (fun x => { x with gb := List.replicate n (100, toLe 4 32 ++ (ent16 3).drop 4) })
    (dramWrite (dirSlot noBook 16) (ent16 1) noBook)
def pinned : State := pinnedBy 16384

theorem pinnedBy_gb (n : Nat) : (ingGet (pinnedBy n) 0).gb = List.replicate n (100, toLe 4 32 ++ (ent16 3).drop 4) := by
  rw [pinnedBy, ing_with]

theorem find_replicate_none {α : Type} (p : α → Bool) (x : α) (h : p x = false) :
    ∀ n, (List.replicate n x).find? p = none
  | 0 => rfl
  | n + 1 => by rw [List.replicate_succ, List.find?_cons, h]; exact find_replicate_none p x h n

theorem filter_replicate_all {α : Type} (p : α → Bool) (x : α) (h : p x = true) :
    ∀ n, ((List.replicate n x).filter p).length = n
  | 0 => rfl
  | n + 1 => by
    rw [List.replicate_succ, List.filter_cons_of_pos h, List.length_cons, filter_replicate_all p x h n]

theorem admitAll_idle {w : Nat} {s : State} (h : (ingNow s w).queue = []) : admitAll w s = s := by
  have e : ∀ l : List Nat, l.foldl (fun s _ => match (ingNow s w).queue with
      | [] => s
      | f :: _ => if admitDue s (ingNow s w) f then admitOne w s else s) s = s := by
    intro l
    induction l with
    | nil => rfl
    | cons x l ih => rw [List.foldl_cons]; simp only [h]; exact ih
  exact e _

theorem pinnedBy_idle (n : Nat) : (ingGet (pinnedBy n) 0).queue = [] ∧ (ingGet (pinnedBy n) 0).pipe = [] := by
  rw [pinnedBy, ing_with]; exact ⟨rfl, rfl⟩

theorem pinned_ready : opReady (.session 0) 16 pinned = pinned := by
  have h := pinnedBy_idle 16384
  have q : (ingNow pinned 0).queue = [] := by rw [ingNow, ingReady, pinned, h.1]; exact h.1
  rw [opReady, show 16 % pinned.part.wings = 0 by decide +kernel, admitAll_idle q, judgeAll, pinned, h.2]
  exact ite_self _

theorem pinned_full : AtFrom (opReady (.session 0) 16) (.pinEndpoint 0 (.session 0) 16)
    (fun s => reaches s (.session 0) 0x05010100 = true ∧ provisioned s 16 = true ∧ bit (entFlags (entryOf s 16)) 1 = false ∧
      16384 ≤ gbPins s (16 % s.part.wings)) pinned := by
  have hg : (ingGet pinned 0).gb = List.replicate 16384 (100, toLe 4 32 ++ (ent16 3).drop 4) := pinnedBy_gb 16384
  have hf : gbFind pinned 0 16 = none := by
    rw [gbFind, hg, find_replicate_none _ _ (by decide +kernel)]; rfl
  have he : entryOf pinned 16 = dramRead pinned (dirSlot pinned 16) 256 := by
    rw [entryOf, show 16 % pinned.part.wings = 0 by decide +kernel, hf]
  show _ ∧ _
  rw [show Instr.cycle _ = 0 from rfl, at0, pinned_ready]
  refine ⟨by decide +kernel, ?_, ?_, ?_⟩
  · rw [provisioned, he]; decide +kernel
  · rw [he]; decide +kernel
  · apply Nat.le_of_eq
    rw [show 16 % pinned.part.wings = 0 by decide +kernel, gbPins, hg, filter_replicate_all _ _ (by decide +kernel)]

def unrel5 : Unrel := { seq := 5, at_ := 0, req := 3, conf := 0, body := none }
/-- Wing 0's staging region is full of unreleased records, a frame waiting. -/
def unrelBody : Unrel := { unrel5 with body := some 0 }
def bodiesOf (n : Nat) : State := withIng (fun x => { x with queue := [in16], unrel := List.replicate n unrelBody })
  book
def bodiesFull : State := bodiesOf 65536
def stagingOf (n : Nat) : State := withIng (fun x => { x with queue := [in16], unrel := List.replicate n unrel5 }) book
def stagingFull : State := stagingOf 1048576

theorem frameReady_unrel (m e : Nat) (x : Ing) : (frameReady m e x).unrel = x.unrel := by
  simp only [frameReady, closeBatch]; repeat' split
  all_goals rfl

theorem ingReady_unrel (m c : Nat) (x : Ing) : (ingReady m c x).unrel = x.unrel := by
  simp only [ingReady]
  generalize x.queue.filter _ = l
  induction l generalizing x with
  | nil => rfl
  | cons f l ih => rw [List.foldl_cons, ih, frameReady_unrel]

theorem staging_full : At (.admission 0 0) (fun s => ingNow stagingFull 0 = ingNow s 0 ∧
    (ingNow stagingFull 0).queue = in16 :: [] ∧ noNewOps s = false ∧ admitDue s (ingNow stagingFull 0) in16 = true ∧
    fillQueue s (ingNow stagingFull 0) < 512 ∧
    1048576 ≤ (ingNow stagingFull 0).unrel.length + (reserved (ingNow stagingFull 0)).1) stagingFull := by
  have hu : (ingNow stagingFull 0).unrel.length = 1048576 := by
    rw [ingNow, ingReady_unrel, stagingFull, stagingOf, ing_with]; exact List.length_replicate
  show _ ∧ _
  rw [show Instr.cycle _ = 0 from rfl, at0]
  exact ⟨rfl, by decide +kernel, by decide +kernel, by decide +kernel, by decide +kernel, by omega⟩

theorem bodies_full : At (.admission 0 0) (fun s => ingNow bodiesFull 0 = ingNow s 0 ∧
    (ingNow bodiesFull 0).queue = in16 :: [] ∧ noNewOps s = false ∧ admitDue s (ingNow bodiesFull 0) in16 = true ∧
    fillQueue s (ingNow bodiesFull 0) < 512 ∧
    (ingNow bodiesFull 0).unrel.length + (reserved (ingNow bodiesFull 0)).1 < 1048576 ∧
    in16.apdu.dstPort ≠ obj s 0x05002000 ∧
    65536 ≤ ((ingNow bodiesFull 0).unrel.filter (·.body.isSome)).length + (reserved (ingNow bodiesFull 0)).2) bodiesFull := by
  have hu : (ingNow bodiesFull 0).unrel = List.replicate 65536 unrelBody := by
    rw [ingNow, ingReady_unrel, bodiesFull, bodiesOf, ing_with]
  have hl : (ingNow bodiesFull 0).unrel.length = 65536 := by rw [hu]; exact List.length_replicate
  have hb : ((ingNow bodiesFull 0).unrel.filter (·.body.isSome)).length = 65536 := by
    rw [hu]; exact filter_replicate_all _ _ rfl _
  have hr : (reserved (ingNow bodiesFull 0)).1 = 0 := by decide +kernel
  show _ ∧ _
  rw [show Instr.cycle _ = 0 from rfl, at0]
  exact ⟨rfl, by decide +kernel, by decide +kernel, by decide +kernel, by decide +kernel, by omega, by decide +kernel, by omega⟩

theorem tabGet_same {α : Type} (d v : α) (f : Nat → Nat) (k : Nat) :
    ∀ l : List Nat, k ∈ l → tabGet d (l.map (fun j => (f j, v))) (f k) = v
  | [], h => by simp at h
  | j :: l, h => by
    simp only [List.map_cons, tabGet]
    split
    · rfl
    · exact tabGet_same d v f k l ((List.mem_cons.1 h).resolve_left (by rintro rfl; contradiction))

/-- No segment of group 1's pending table is enabled. -/
def disabledBelow (n : Nat) : State := { leased with objs := (List.range n).map (fun k => (segObj 1 k 4, 2)) }
def noSegments : State := disabledBelow 4096

theorem disabledBelow_obj {n k : Nat} (h : k ∈ List.range n) : obj (disabledBelow n) (segObj 1 k 4) = 2 := by
  rw [obj]
  exact tabGet_same _ _ (fun k => segObj 1 k 4) k _ h

/-- Nothing to judge: the pending table has no enabled segment. -/
theorem noSegments_pending : segPending noSegments 1 = [] := by
  rw [segPending, List.filter_eq_nil_iff]
  intro k hk
  have h : obj noSegments (segObj 1 k 4) = 2 := disabledBelow_obj hk
  rw [h]; simp

/-! ### The energy check, whatever a checkpoint costs -/

theorem energy_waived {s : State} {w op pj : Nat} (h : energyWaived s w = true) : (energyCheck w op pj s).1 = true := by
  simp only [energyCheck]; split <;> simp_all

theorem energy_short {s : State} {w op pj : Nat} (h : energyWaived s w = false)
    (hu : usableEnergy s w * 1000000 < reservePj s) : (energyCheck w op pj s).1 = false := by
  simp only [energyCheck]
  rw [if_neg (by simp; omega)]; simp [h]

/-! ### Premises over every entry, page or operation -/

theorem noneArmed {s : State} (h : s.tt = []) : ∀ w e, entState (ttGet s w e) ≠ 1 := by
  intro w e; rw [ttGet, h]; show entState entryDefault ≠ 1; decide

theorem ttOther {s : State} {k w e : Nat} (h : s.tt.map (·.1) = [k]) (hk : w * 256 + e ≠ k) : ttGet s w e = entryDefault := by
  rw [ttGet]
  match hs : s.tt with
  | [] => rfl
  | [(j, x)] => rw [hs] at h; obtain rfl : j = k := by simpa using h
                simp [tabGet, Ne.symm hk]
  | _ :: _ :: _ => rw [hs] at h; simp at h

theorem onlyDue_one {s : State} {w e : Nat} (ha : entState (ttGet s w e) = 1) (hb : matReached s w (ttGet s w e).tgt = true)
    (h : s.tt.map (·.1) = [w * 256 + e]) : OnlyDue s w e :=
  ⟨ha, hb, fun w' e' hk => by rw [ttOther h hk, fireDue]; rfl⟩

theorem oneLead {s : State} {w e : Nat} (h : s.tt.map (·.1) = [w * 256 + e]) :
    ∀ w' e', w' * 256 + e' ≠ w * 256 + e → leadDue s w' (ttGet s w' e') = false :=
  fun w' e' hk => by rw [ttOther h hk]; simp [leadDue, show entState entryDefault = 0 by decide]

theorem readEnds_at {s : State} {w b p n a : Nat} {o : NandOp}
    (h : opIndex (fun o => o.kind == 1 && o.blk == some b && o.page == p) (storeGet s w).ops = some n)
    (ho : (storeGet s w).ops[n]? = some o ∧ o.start = some a ∧ (a = 0 ∨ a + opLeast s w o (chanOf s w b) ≤ s.clk.now)) :
    readEnds s w b p o := by
  rw [readEnds, h]; exact ⟨ho.1, a, ho.2⟩

theorem none_pair {α β : Type} {o : Option (α × β)} {P : α → β → Prop} (h : o = none) : ∀ a b, o = some (a, b) → P a b := by
  intro a b e; rw [h] at e; cases e

/-- A sync message that carries the stamp of its own arrival has no offset but its correction. -/
theorem stamp_self {s : State} {pn : Nat} {c o : Int} (t1 : Nat) (h : t1 = stampIn s pn) (hd : peerDelay s pn = none)
    (hq : o = - c - s.clk.q / nsFine) :
    o = sgn 64 (stampIn s pn + 2 ^ 64 - t1 % 2 ^ 64) - c - (peerDelay s pn).getD 0 - s.clk.q / nsFine := by
  subst h
  have e : ∀ x : Nat, sgn 64 (x + 2 ^ 64 - x % 2 ^ 64) = 0 := by
    intro x; rw [sgn, if_pos (by omega)]; omega
  rw [e, hd, hq]; simp

/-! ### The premises of the statements about the whole block hold somewhere -/

theorem met_EmptyQueueIsOneCycle : State.reset.pending = [] := rfl

/-- One byte of DRAM listed, one register away from its reset value, one counter. -/
def listed : State := dramWrite 0xFFFFFFFFF [7] (countBy 7 511 5 (regPutF (logCfg 0) 9 0 5 State.reset))

theorem met_StepKeepsCanonicalForm : Canonical listed ∧ listed ≠ State.reset ∧ listed.dram = [(0xFFFFFFFFF, 7)] := by
  refine ⟨⟨?_, ?_, ?_⟩, ?_, ?_⟩ <;> decide +kernel

theorem met_ClosedSessionChangesNothing :
    (Instr.getObj 5 (.session 15) 0x100).path = some (.session 15) ∧
    viaOpen (atTime (Instr.getObj 5 (.session 15) 0x100).cycle State.reset) (.session 15) = false := by decide +kernel

theorem met_TimePasses : (0 ≤ State.reset.clk.now ∧ State.reset.clk.now ≤ 7) ∧ State.reset.clk.q = 0 ∧
    0 ≤ State.reset.clk.qLimit := by decide +kernel

theorem met_DramReadAfterWrite : Memory.wf listed.dram = true ∧ (0 : Nat) < 3 ∧ 3 + ([1, 2] : Bytes).length ≤ 5 := by
  decide +kernel

theorem met_StoredValuesReadBack : (5 : Nat) ≠ 6 ∧ (0 : Nat) ≤ 63 ∧ 63 < 64 ∧ (7 : Nat) ≤ 8 ∧ 8 < 64 ∧ (8 : Nat) ≤ 63 ∧
    (0 ≤ 7 ∧ 7 < 8) := by decide +kernel

theorem met_CountersWrap : 511 < 512 ∧ 0 < 512 ∧ ((0, 0) : Nat × Nat) ≠ (7, 511) ∧
    cntGet (countBy 7 511 (two64 - 1) (countBy 7 511 2 State.reset)) 7 511 = 1 := by decide +kernel

theorem met_LaterIsBySignedDifference : 0 < 1 ∧ 0 < 64 := by decide

theorem met_RaiseLogsAnEvent : LogRoom live 7 1 := by decide +kernel

theorem met_BellFlagSetsOnce : 0 < 160 ∧ 159 < 160 := by decide

theorem met_RouteIsDimensionOrder : 7 < 8 ∧ 0 < 8 ∧ (route 3 0 7).map (·.2) = [0, 1, 2] := by decide +kernel

theorem met_MessageTimeFormula : 1 ≤ 1 ∧ 1 ≤ 3 ∧ messageTime .core 1 3 0 ≠ 0 := by decide +kernel

theorem met_RegisterAccessTimes : hops 5 5 = 0 ∧ 0 < hops 0 7 := by decide +kernel

theorem met_RegisterWriteAndBusError_time : backing { leased with part := { leased.part with wings := 4 } } 0x20000000000 = none ∧
    inWindow 0x20000000000 = false := by decide +kernel

theorem met_AirInterface_samples : (portGet live 0).origin ≤ 1000000000000 ∧ (portGet live 0).cur = none := by decide +kernel

/-- The part after a rail has tripped. -/
def tripped : State := match execRailTrip 0 2 leased with
  | .next u => u
  | _ => leased

theorem met_PowerFailRunsItsCourse_pins : AfterReset { cause := 0, cold := true, wing := 0 } tripped ∧ 7 < tripped.part.wings := by
  refine ⟨⟨?_, ?_, ?_, ?_, ?_, ?_⟩, ?_⟩ <;> decide +kernel

/-! ### Ill-formed commands, one for each check -/

theorem test_ill_wing : (Instr.admission 0 8).wellFormed = false ∧ (Instr.admission 0 7).wellFormed = true := by decide
theorem test_ill_register_address : (Instr.busError 0 0 (2 ^ 48) true).wellFormed = false ∧
    (Instr.busError 0 0 (2 ^ 48 - 1) true).wellFormed = true := by decide
theorem test_ill_session : (Instr.getObj 0 (.session 16) 0).wellFormed = false ∧
    (Instr.getObj 0 (.session 15) 0).wellFormed = true := by decide
theorem test_ill_mailbox : (Instr.getObj 0 (.mailbox 8 0) 0).wellFormed = false ∧
    (Instr.getObj 0 (.mailbox 0 4) 0).wellFormed = false ∧ (Instr.getObj 0 (.mailbox 7 3) 0).wellFormed = true := by decide
theorem test_ill_request_slot : (Instr.getObj 0 (.slot 32) 0).wellFormed = false ∧
    (Instr.getObj 0 (.slot 31) 0).wellFormed = true := by decide
theorem test_ill_object : (Instr.getObj 0 (.session 0) (2 ^ 32)).wellFormed = false := by decide
theorem test_ill_corridor_port : (Instr.corridorLinkLost 0 0 3).wellFormed = false := by decide
theorem test_ill_air_port : (Instr.portEnable 0 0 2).wellFormed = false := by decide
theorem test_ill_lane : (Instr.ownerCommit 0 0 24).wellFormed = false ∧ (Instr.ownerCommit 0 0 23).wellFormed = true := by decide
theorem test_ill_bin : (Instr.watcherWithdraw 0 0 0 64 false 0).wellFormed = false := by decide
theorem test_ill_timetable_entry : (Instr.timetableGo 0 0 256).wellFormed = false := by decide
theorem test_ill_armed_slot : (Instr.fireCycle 0 64).wellFormed = false := by decide
theorem test_ill_key : (Instr.counterBlockReserve 0 192).wellFormed = false := by decide
theorem test_ill_strongroom_link : (Instr.strongroomLinkDown 0 2).wellFormed = false := by decide
theorem test_ill_strongroom_offset : (Instr.guardRead 0 0 (2 ^ 26) true).wellFormed = false := by decide
theorem test_ill_extended_address : (Instr.lookUpEntryByAddress 0 (.session 0) (2 ^ 64)).wellFormed = false := by decide
theorem test_ill_body : bodyOk (List.replicate 65601 0) = false ∧ bodyOk (List.replicate 65600 0) = true := by
  simp only [bodyOk, List.length_replicate]; decide
theorem test_ill_line : (Instr.engineDramAccess 0 0 0 (some (List.replicate 65 0))).wellFormed = false := by decide
theorem test_ill_pin_group_path : (Instr.releaseHeldPinGroups 0 (some (.session 16)) 0 0).wellFormed = false ∧
    (Instr.releaseHeldPinGroups 0 none 0 0).wellFormed = true := by decide
theorem test_ill_account : (Instr.authorisationLapse 0 262144).wellFormed = false := by decide

/-! ### Worked examples of the manual -/

/-- The example after R6: a deadline at 0x0000_0100 is later than a frame end at 0xFFFF_FF00. -/
theorem test_later_wraps : laterW 32 0x00000100 0xFFFFFF00 = true ∧ laterW 32 0xFFFFFF00 0x00000100 = false := by decide
/-- Table 1-4: a register read from wing 0 to wing 7 issued at phase 20. -/
theorem test_remote_read : readTime 0 7 20 = 207 ∧ readTime 0 7 11 = 200 ∧ readTime 0 7 12 = 215 := by decide
/-- The example after R72: a 160-octet PSDU uncoded at 100 kb/s, and the longest frame coded at 50 kb/s. -/
theorem test_air_time : airTime 1 8 160 = 13760000 ∧ airTime 8 8 2047 = 657600000 := by decide
/-- The example after R126: with 4 GiB on each of four wings index 209,711 is admissible, 209,712 is not. -/
theorem test_directory_capacity :
    capacity { State.reset with part := { wings := 4, dram := List.replicate 4 4294967296 } } 3 = 52428 ∧
    admissible { State.reset with part := { wings := 4, dram := List.replicate 4 4294967296 } } 209711 = true ∧
    admissible { State.reset with part := { wings := 4, dram := List.replicate 4 4294967296 } } 209712 = false := by
  decide +kernel
/-- Table 12-12: one word in one extent is 157 SCLK. -/
theorem test_commit_time : commitSclk 1 1 = 157 := by decide
/-- The hold-up example: the reserve is 212,953 uJ. -/
theorem test_holdup_reserve : reserveUj (objPut 0x0C003400 110000 (objPut 0x0C003500 22000 (objPut 0x0C001200 200 State.reset))) =
    212953 := by decide +kernel
/-- The example of the store's unit: a page takes 11,680 FCLK at 1,600 MT/s. -/
theorem test_page_transfer : pageTransfer (regPutF (nfcChCfg 0 0) 4 0 16 State.reset) 0 0 = 11680 := by decide +kernel
/-- Table 14-9: the activation's pointer, and the one after the revert. -/
theorem test_activation_pointer : activated (objPut 0x0D012300 0x0000002900000101 State.reset) 2 = 0x0000002A00000012 := by
  decide +kernel
theorem test_revert_pointer : obj (trialStep (objPut 0x0D012300 0x0000002A00030012 State.reset)) 0x0D012300 =
    0x0000002B00000321 := by decide +kernel
/-- The example of R413: 113,248,684 octets from a NOR device at 200 MHz in DTR. -/
theorem test_nor_read : norRead (regPutF (porOpt 0 3) 8 8 1 (regPutF (porOpt 0 3) 7 0 200 State.reset)) 113248684 =
    283141710 := by decide +kernel
/-- R427: after 0xFFFF_FFFF comes 1. -/
theorem test_sequence_wraps : seqNext 0xFFFFFFFF = 1 ∧ seqNext 70001 = 70002 := by decide

/-! ### Steps -/

/-- A step takes the front command, and the rest wait. -/
theorem test_step_takes_the_front : ∃ u, step { State.reset with pending := [.matLoss 3, .commit 9] } = .next u ∧
    u.pending = [.commit 9] ∧ u.clk.now = 3 := by
  refine ⟨_, rfl, ?_, ?_⟩ <;> decide +kernel
/-- A word of the table spells no command: its rows give no bits. -/
theorem test_no_bits : decodeTableWord 32 0 = none ∧ State.reset.withFetchWord 32 5 = State.reset := by decide +kernel

/-! ### The premises of the statements about commands, clause by clause -/

/-- `RegisterWriteAndBusError`: the premises of each clause hold together. -/
theorem met_RegisterWriteAndBusError :
    (∃ t rq w b o t0 v σ, At (.registerWrite t rq (regA w b o) t0 v) (fun s => w < 8 ∧ b < 0x14 ∧ o < 0x10000 ∧ errs s
      rq (regA w b o) true = false ∧ t0 + appliedAfter s rq w t0 ≤ s.clk.now) σ) ∧
    (∃ t rq w b o t0 v d σ, storesOnly b o = true ∧ regFind b o = some d ∧ At (.registerWrite t rq (regA w b o) t0 v)
      (fun s => w < 8 ∧ b < 0x14 ∧ o < 0x10000 ∧ errs s rq (regA w b o) true = false ∧ t0 + appliedAfter s rq w t0 ≤
      s.clk.now ∧ setNow s (regA w b o) = 0) σ) ∧
    (∃ t rq w t0 v x σ, w < 8 ∧ x ∈ [(regA w 1 0x10, Instr.bbSwset t w v), (regA w 2 0x10, .talSwinc t w v), (regA w
      0x10 0x38, .logSwraise t w v), (regA w 8 0x28, .stagingConfirm t w v)] ∧ At (.registerWrite t rq x.1 t0 v) (fun
      s => errs s rq x.1 true = false ∧ t0 + appliedAfter s rq w t0 ≤ s.clk.now) σ) ∧
    (∃ t rq a t0 v σ, At (.registerWrite t rq a t0 v) (fun s => errs s rq a true = true) σ) ∧
    (∃ t rq a t0 σ, At (.remoteRegisterReadDone t rq a t0) (fun s => errs s rq a false = true ∧ t0 + busErrorTime s rq
      a t0 ≤ s.clk.now) σ) ∧
    (∃ t rq a wr σ, At (.busError t rq a wr) (fun s => errs s rq a wr = true ∨ (inWindow a = true ∧ (windowRefuses s
      rq (a - 0xFF0000000000) wr = true ∨ gatePath s rq = false))) σ) :=
  ⟨⟨0, 0, 1, 5, 0x28, 0, 0x123456789ABCDEF, live, by decide +kernel⟩,
   ⟨0, 0, 1, 5, 0x28, 0, 0x123456789ABCDEF, regRow 5 0x28, live, by decide +kernel⟩,
   ⟨0, 0, 1, 0, 3, (regA 1 1 0x10, Instr.bbSwset 0 1 3), live, by decide +kernel⟩,
   ⟨0, 2, 0xFF8000000000, 0, 1, live, by decide +kernel⟩,
   ⟨0, 2, 0xFF8000000000, 0, live, by decide +kernel⟩,
   ⟨0, 2, 0x3FFFFFFFFF8, false, live, by decide +kernel⟩⟩

/-- `CorridorMessages`: the premises of each clause hold together. -/
theorem met_CorridorMessages :
    (∃ t m σ, m.src < 8 ∧ m.dst < 8 ∧ At (.fabricMessageArrival t m) (fun s => pathUp s m.src m.dst = true) σ) ∧
    (∃ t m p σ, m.src < 8 ∧ m.dst < 8 ∧ firstPort m.src m.dst = some p ∧ At (.fabricMessageArrival t m) (fun s =>
      pathUp s m.src m.dst = true ∧ s.fab.queues = [] ∧ s.clk.now < leaveAt (tabGet 0 s.fab.taken (queueKey m.src p
      m.cls)) { msg := m, here := m.src, at_ := m.ready, fwd := false }) σ) ∧
    (∃ t m σ, m.src < 8 ∧ m.dst < 8 ∧ m.src ≠ m.dst ∧ 1 ≤ m.beats ∧ At (.fabricMessageArrival t m) (fun s => pathUp s
      m.src m.dst = true ∧ s.fab.queues = [] ∧ s.fab.taken = [] ∧ m.ready + messageTime m.cls m.beats (hops m.src
      m.dst) m.ready ≤ s.clk.now) σ) ∧
    (∃ t m σ, m.src < 8 ∧ m.src = m.dst ∧ At (.fabricMessageArrival t m) (fun s => s.fab.queues = []) σ) ∧
    (∃ t m σ, At (.fabricMessageArrival t m) (fun s => pathUp s m.src m.dst = false) σ) ∧
    (∃ t rq w b o t0 σ, At (.remoteRegisterReadDone t rq (regA w b o) t0) (fun s => w < 8 ∧ b < 0x14 ∧ o < 0x10000 ∧
      errs s rq (regA w b o) false = false ∧ t0 + readAfter s rq w t0 ≤ s.clk.now) σ) ∧
    (∃ t rq w b o t0 d σ, readsStored b o = true ∧ regFind b o = some d ∧ d.wo = 0 ∧ At (.remoteRegisterReadDone t rq
      (regA w b o) t0) (fun s => w < 8 ∧ b < 0x14 ∧ o < 0x10000 ∧ errs s rq (regA w b o) false = false ∧ s.fab.queues
      = [] ∧ s.fab.taken = [] ∧ s.fab.past = [] ∧ t0 + readTime rq w t0 ≤ s.clk.now) σ) :=
  ⟨⟨0, ({ cls := .core, beats := 2, src := 0, dst := 3, ready := 100, rq := 0, addr := 0x100 } : FabMsg), live,
     by decide +kernel⟩,
   ⟨0, ({ cls := .core, beats := 2, src := 0, dst := 3, ready := 1000000000001, rq := 0, addr := 0x100 } : FabMsg), 0,
     live, by decide +kernel⟩,
   ⟨0, ({ cls := .core, beats := 2, src := 0, dst := 3, ready := 100, rq := 0, addr := 0x100 } : FabMsg), live,
     by decide +kernel⟩,
   ⟨0, ({ cls := .core, beats := 2, src := 3, dst := 3, ready := 100, rq := 0, addr := 0x100 } : FabMsg), live,
     by decide +kernel⟩,
   ⟨0, ({ cls := .core, beats := 2, src := 0, dst := 1, ready := 100, rq := 0, addr := 0x100 } : FabMsg), linkSet 0 0
     { linkDefault with down := true } live, by decide +kernel⟩,
   ⟨0, 0, 3, 0, 8, 50, live, by decide +kernel⟩,
   ⟨0, 0, 3, 5, 0x28, 50, regRow 5 0x28, regPutF (regA 3 5 0x28) 3 0 5 live, by decide +kernel⟩⟩

/-- `CorridorLinksRetrain`: the premises of each clause hold together. -/
theorem met_CorridorLinksRetrain :
    (∃ t w p σ, w < 8 ∧ At (.corridorLinkLost t w p) (fun s => portUsed s w p = true ∧ LogRoom s (min w (w ^^^ 2 ^ p))
      1) σ) ∧
    (∃ t w p σ, w < 8 ∧ At (.corridorRetrainStart t w p) (fun s => portUsed s w p = true ∧ (linkOn s w p).down = true
      ∧ (linkOn s w p).training = false ∧ (linkOn s w p).given = false ∧ (linkOn s w p).due ≤ s.clk.now) σ) ∧
    (∃ t w p σ, w < 8 ∧ At (.corridorLinkRetrained t w p) (fun s => portUsed s w p = true ∧ (linkOn s w p).down = true
      ∧ (linkOn s w p).training = true ∧ s.clk.now % 64 = 0 ∧ s.clk.now < (linkOn s w p).due + 64 ∧ LogRoom s (min w
      (w ^^^ 2 ^ p)) 1) σ) ∧
    (∃ t w p σ, w < 8 ∧ At (.corridorRetrainFailed t w p) (fun s => portUsed s w p = true ∧ (linkOn s w p).down = true
      ∧ (linkOn s w p).training = true ∧ (linkOn s w p).due ≤ s.clk.now) σ) :=
  ⟨⟨0, 3, 1, live, by decide +kernel⟩,
   ⟨0, 0, 2, linkSet 0 2 { linkDefault with down := true, due := 5 } live, by decide +kernel⟩,
   ⟨0, 4, 2, linkSet 0 2 { linkDefault with down := true, training := true, due := 1000000000000 } live,
     by decide +kernel⟩,
   ⟨0, 0, 2, linkSet 0 2 { linkDefault with down := true, training := true, due := 5, attempts := 2 } live,
     by decide +kernel⟩⟩

/-- `ModeChange`: the premises of each clause hold together. -/
theorem met_ModeChange :
    (∃ t via m σ, m < 3 ∧ At (.modeRequest t via m) (fun s => reaches s via 0x01000100 = true ∧ srOpen s = true ∧
      noPower s = false) σ) ∧
    (∃ t via m σ, m < 2 ∧ At (.modeRequest t via m) (fun s => reaches s via 0x01000100 = true ∧ srOpen s = true ∧
      noPower s = false ∧ LogRoom s 0 1 ∧ ∀ w e, entState (ttGet s w e) ≠ 1) σ) ∧
    (∃ t via σ, At (.modeRequest t via 2) (fun s => reaches s via 0x01000100 = true ∧ srOpen s = true ∧ noPower s =
      false ∧ s.mode.cur ≠ 2 ∧ ∀ w e, entState (ttGet s w e) ≠ 1) σ) ∧
    (∃ t via m σ, 3 ≤ m ∧ At (.modeRequest t via m) (fun s => reaches s via 0x01000100 = true) σ) ∧
    (∃ t d σ, At (.cclkDividerChange t) (fun s => s.mode.divAt = some d ∧ d ≤ s.clk.now) σ) ∧
    (∃ t d σ, At (.nightAuditLaneChange t) (fun s => s.mode.lanesAt = some d ∧ d ≤ s.clk.now ∧ boundarySince s d =
      true) σ) ∧
    (∃ t w σ, At (.corePark t w) (fun s => bit s.mode.toPark w = true) σ) ∧
    (∃ t d σ, At (.coreResume t) (fun s => s.mode.resumeAt = some d ∧ d ≤ s.clk.now) σ) :=
  ⟨⟨0, .mailbox 2 1, 1, live, by decide +kernel⟩,
   ⟨0, .session 0, 1, live, by
     refine ⟨?_, ?_, ?_, ?_, ?_, noneArmed (by decide +kernel)⟩ <;> decide +kernel⟩,
   ⟨0, .session 0, live, by
     refine ⟨?_, ?_, ?_, ?_, noneArmed (by decide +kernel)⟩ <;> decide +kernel⟩,
   ⟨0, .session 0, 3, live, by decide +kernel⟩,
   ⟨0, 7, { live with mode := { live.mode with divAt := some 7, cur := 2 } }, by decide +kernel⟩,
   ⟨0, 999999999990, objPut 0x09000200 1
     { live with clk := { live.clk with ptime := 97000000003 * nsFine }, mode := { live.mode with lanesAt := some 999999999990, cur := 1 } },
     by decide +kernel⟩,
   ⟨0, 3, { live with mode := { live.mode with toPark := 8 } }, by decide +kernel⟩,
   ⟨0, 7, { live with mode := { live.mode with resumeAt := some 7, parked := 12 } }, by decide +kernel⟩⟩

/-- `MainsAngleTimebase`: the premises of each clause hold together. -/
theorem met_MainsAngleTimebase :
    (∃ t ch up tc rms σ, isPhaseVoltage ch = true ∧ At (.zeroCrossing t ch up tc rms) (fun s => s.sr.metro = true) σ) ∧
    (∃ t ch up tc rms σ, isPhaseVoltage ch = true ∧ At (.zeroCrossing t ch up tc rms) (fun s => s.sr.metro = false) σ) ∧
    (∃ t ch up tc rms σ, isPhaseVoltage ch = false ∧ At (.zeroCrossing t ch up tc rms) (fun _ => True) σ) ∧
    (∃ t ch a up tc rms σ, isPhaseVoltage ch = true ∧ At (.zeroCrossing t ch up tc rms) (fun s => s.sr.metro = true ∧
      s.mat.pendSrc = some (ch, a) ∧ halfValid s ch rms ((halfCycle s (chanGet s ch) up tc).map halfFreq) = true) σ) ∧
    (∃ t d σ, At (.matLoss t) (fun s => s.mat.lossAt = some d ∧ d ≤ s.clk.now ∧ (s.mat.state = 2 ∨ (s.mat.state = 1 ∧
      s.mat.origin = true))) σ) ∧
    (∃ t d σ, At (.matLoss t) (fun s => s.mat.lossAt = some d ∧ d ≤ s.clk.now ∧ s.mat.state = 1 ∧ s.mat.origin =
      false) σ) ∧
    (∃ t ch a σ, At (.sourceChannelChange t) (fun s => s.mat.pendSrc = some (ch, a) ∧ a < (chanGet s ch).validAt) σ) ∧
    (∃ t ch a σ, At (.sourceChannelChange t) (fun s => s.mat.pendSrc = some (ch, a) ∧ (chanGet s ch).validAt ≤ a) σ) ∧
    (∃ t a inc l σ, At (.matUpdateApply t) (fun s => s.mat.refPend = (a, inc) :: l ∧ a ≤ s.clk.now) σ) ∧
    (∃ t x xs σ, At (.matUpdateApply t) (fun s => s.mat.pend = x :: xs ∧ x.at_ ≤ s.clk.now) σ) ∧
    (∃ t w σ, w < 8 ∧ At (.replicaStale t w) (fun s => w < s.part.wings ∧ w < s.mat.reps.length ∧ s.mat.origin = true
      ∧ ((replica s w).given = 1 ∨ (replica s w).given = 2) ∧ (replica s w).stale = false ∧ (replica s w).upd +
      staleTime s ≤ s.clk.now ∧ LogRoom s w 1) σ) :=
  ⟨⟨0, 0, true, 40000000000, 230000000, chanSet 0
     { chanDefault with lastUp := some 20000000000, lastDn := some 30000000000 } live, by decide +kernel⟩,
   ⟨0, 1, false, 40000000000, 230000000, { live with sr := { live.sr with metro := false } }, by decide +kernel⟩,
   ⟨0, 3, true, 40000000000, 230000000, live, by decide +kernel⟩,
   ⟨0, 1, 5, true, 40000000000, 230000000,
     { chanSet 1 { chanDefault with lastUp := some 20000000000, lastDn := some 30000000000 } live with mat := { (chanSet 1 { chanDefault with lastUp := some 20000000000, lastDn := some 30000000000 } live).mat with pendSrc := some (1, 5) } },
     by decide +kernel⟩,
   ⟨0, 9, { live with mat := { live.mat with lossAt := some 9, state := 2, origin := true } }, by decide +kernel⟩,
   ⟨0, 9, { live with mat := { live.mat with lossAt := some 9, state := 1 } }, by decide +kernel⟩,
   ⟨0, 2, 5,
     { live with mat := { live.mat with pendSrc := some (2, 5), state := 3, chans := [(2, { chanDefault with validAt := 9 })] } },
     by decide +kernel⟩,
   ⟨0, 2, 5, { live with mat := { live.mat with pendSrc := some (2, 5), state := 3 } }, by decide +kernel⟩,
   ⟨0, 4, 360287970, [(9, 7)], { live with mat := { live.mat with refPend := [(4, 360287970), (9, 7)] } },
     by decide +kernel⟩,
   ⟨0, ({ at_ := 4, inc := 77, ref := 100, origin := true, live := true, mask := 0xFF } : MatUpdate), ([] : List
     MatUpdate),
     { live with mat := { live.mat with pend := [{ at_ := 4, inc := 77, ref := 100, origin := true, live := true, mask := 0xFF }] } },
     by decide +kernel⟩,
   ⟨0, 2,
     { live with mat := { live.mat with origin := true, reps := live.mat.reps.map (fun r => { r with given := 2 }) } },
     by decide +kernel⟩⟩

/-- `TimetableGoAndStop`: the premises of each clause hold together. -/
theorem met_TimetableGoAndStop :
    (∃ t w e σ, e < 256 ∧ At (.timetableGo t w e) (fun s => w < s.part.wings ∧ goWhy s w (unhold (ttGet s w e)) = 0)
      σ) ∧
    (∃ t w e σ, w < 8 ∧ e < 256 ∧ At (.timetableGo t w e) (fun s => w < s.part.wings ∧ goWhy s w (unhold (ttGet s w
      e)) ≠ 0 ∧ LogRoom s w 1) σ) ∧
    (∃ t w e σ, w < 8 ∧ e < 256 ∧ At (.timetableStop t w e) (fun s => w < s.part.wings ∧ entState (ttGet s w e) = 1 ∧
      fireDue s w (ttGet s w e) = false ∧ leadDue s w (ttGet s w e) = false ∧ LogRoom s w 1) σ) ∧
    (∃ t w e σ, At (.timetableStop t w e) (fun s => entState (ttGet s w e) ≠ 1) σ) :=
  ⟨⟨0, 1, 5, ttSet 1 5 { entryDefault with tgt := 0x1000000, ctl := 5 } live, by decide +kernel⟩,
   ⟨0, 1, 5, ttSet 1 5 { entryDefault with tgt := 0x1000, ctl := 5 } live, by decide +kernel⟩,
   ⟨0, 1, 5, ttSet 1 5 { entryDefault with tgt := 0x1000, ctl := 0x105 } live, by decide +kernel⟩,
   ⟨0, 1, 5, live, by decide +kernel⟩⟩

/-- `TimetableFires`: the premises of each clause hold together. -/
theorem met_TimetableFires :
    (∃ t w e σ, w < 8 ∧ e < 256 ∧ At (.timetableFire t w e) (fun s => w < s.part.wings ∧ (ttGet s w e).leadAt = none ∧
      OnlyDue s w e ∧ entAction (ttGet s w e) = 5 ∧ entNeed (ttGet s w e) = false ∧ entInterval (ttGet s w e) = 0) σ) ∧
    (∃ t w e σ, w < 8 ∧ e < 256 ∧ At (.timetableFire t w e) (fun s => w < s.part.wings ∧ (ttGet s w e).leadAt = none ∧
      OnlyDue s w e ∧ entAction (ttGet s w e) = 5 ∧ entNeed (ttGet s w e) = false ∧ entInterval (ttGet s w e) ≠ 0 ∧
      entCount (ttGet s w e) ≠ 1) σ) ∧
    (∃ t w e σ, w < 8 ∧ e < 256 ∧ At (.timetableFire t w e) (fun s => w < s.part.wings ∧ (ttGet s w e).leadAt = none ∧
      OnlyDue s w e ∧ entAction (ttGet s w e) = 1 ∧ entNeed (ttGet s w e) = false ∧ entInterval (ttGet s w e) = 0) σ) ∧
    (∃ t w e σ, w < 8 ∧ e < 256 ∧ At (.timetableFire t w e) (fun s => w < s.part.wings ∧ (ttGet s w e).leadAt = none ∧
      OnlyDue s w e ∧ entAction (ttGet s w e) = 2 ∧ entNeed (ttGet s w e) = false ∧ entInterval (ttGet s w e) = 0 ∧
      s.cap = none) σ) ∧
    (∃ t w e σ, w < 8 ∧ e < 256 ∧ At (.timetableFire t w e) (fun s => w < s.part.wings ∧ (ttGet s w e).leadAt = none ∧
      OnlyDue s w e ∧ entAction (ttGet s w e) = 2 ∧ entNeed (ttGet s w e) = false ∧ entInterval (ttGet s w e) = 0 ∧
      s.cap.isSome = true ∧ LogRoom s w 1) σ) ∧
    (∃ t w e σ, w < 8 ∧ e < 256 ∧ At (.timetableFire t w e) (fun s => w < s.part.wings ∧ (ttGet s w e).leadAt = none ∧
      OnlyDue s w e ∧ entNeed (ttGet s w e) = true ∧ lockOk s w = false ∧ entInterval (ttGet s w e) = 0 ∧ LogRoom s w
      1) σ) ∧
    (∃ t c σ, At (.captureEnd t) (fun s => s.cap = some c ∧ (c.limit ≤ c.n ∨ s.sr.metro = false ∨ matReached s c.wing
      c.endAt = true)) σ) ∧
    (∃ t w e σ, w < 8 ∧ e < 256 ∧ At (.airLaunchLead t w e) (fun s => w < s.part.wings ∧ leadDue s w (ttGet s w e) =
      true ∧ entNeed (ttGet s w e) = false ∧ (∀ w' e', w' * 256 + e' ≠ w * 256 + e → leadDue s w' (ttGet s w' e') =
      false) ∧ (portGet s (2 * w + entPort (ttGet s w e))).cur = none ∧ airEn s (2 * w + entPort (ttGet s w e)) = true
      ∧ descBad s w (dramRead s (ttGet s w e).arg 32) = false) σ) ∧
    (∃ t w e l σ, w < 8 ∧ e < 256 ∧ At (.timetableFire t w e) (fun s => w < s.part.wings ∧ (ttGet s w e).leadAt = some
      l ∧ l + 35200 ≤ s.clk.now ∧ entAction (ttGet s w e) = 3 ∧ entState (ttGet s w e) = 1 ∧ entInterval (ttGet s w e)
      = 0 ∧ LogRoom s w 1) σ) ∧
    (∃ t w p σ, p < 2 ∧ At (.portDisable t w p) (fun s => w < s.part.wings) σ) :=
  ⟨⟨0, 1, 5, ttSet 1 5 { entryDefault with ctl := 0x105 } live, by
     refine ⟨?_, ?_, ?_, ?_, onlyDue_one (by decide +kernel) (by decide +kernel) (by decide +kernel), ?_, ?_, ?_⟩
       <;> decide +kernel⟩,
   ⟨0, 1, 5, ttSet 1 5 { entryDefault with ctl := 0x105, rep := 0x300000010 } live, by
     refine ⟨?_, ?_, ?_, ?_, onlyDue_one (by decide +kernel) (by decide +kernel) (by decide +kernel), ?_, ?_, ?_, ?_⟩
       <;> decide +kernel⟩,
   ⟨0, 1, 5, ttSet 1 5 { entryDefault with ctl := 0x101, arg := 2 } live, by
     refine ⟨?_, ?_, ?_, ?_, onlyDue_one (by decide +kernel) (by decide +kernel) (by decide +kernel), ?_, ?_, ?_⟩
       <;> decide +kernel⟩,
   ⟨0, 1, 5, ttSet 1 5 { entryDefault with ctl := 0x102, arg := 0x8000000040, rep := 0x0100010000000000 } live, by
     refine ⟨?_, ?_, ?_, ?_, onlyDue_one (by decide +kernel) (by decide +kernel) (by decide +kernel), ?_, ?_, ?_, ?_⟩
       <;> decide +kernel⟩,
   ⟨0, 1, 5,
     { ttSet 1 5 { entryDefault with ctl := 0x102, arg := 0x8000000040 } live with cap := some { wing := 0, entry := 5, base := 0x1000, mask := 1, n := 753, limit := 753, endAt := 1 } },
     by
     refine ⟨?_, ?_, ?_, ?_, onlyDue_one (by decide +kernel) (by decide +kernel) (by decide +kernel), ?_, ?_, ?_, ?_,
       ?_⟩ <;> decide +kernel⟩,
   ⟨0, 1, 5, ttSet 1 5 { entryDefault with ctl := 0x4105 } live, by
     refine ⟨?_, ?_, ?_, ?_, onlyDue_one (by decide +kernel) (by decide +kernel) (by decide +kernel), ?_, ?_, ?_, ?_⟩
       <;> decide +kernel⟩,
   ⟨0, ({ wing := 0, entry := 5, base := 0x1000, mask := 1, n := 753, limit := 753, endAt := 1 } : Capture),
     { live with cap := some { wing := 0, entry := 5, base := 0x1000, mask := 1, n := 753, limit := 753, endAt := 1 } },
     by decide +kernel⟩,
   ⟨0, 0, 5, ttSet 0 5 { entryDefault with ctl := 0x103, arg := 0x1000 } (regPutF (airCfg 0 0) 0 0 1 (dramWrite 0x1000
     goodDesc live)), by
     refine ⟨?_, ?_, ?_, ?_, ?_, oneLead (by decide +kernel), ?_, ?_, ?_⟩ <;> decide +kernel⟩,
   ⟨0, 0, 5, 999999000000, ttSet 0 5 { entryDefault with ctl := 0x103, arg := 0x1000, leadAt := some 999999000000 }
     live, by decide +kernel⟩,
   ⟨0, 1, 1, regPutF (airCfg 1 1) 0 0 1 live, by decide +kernel⟩⟩

/-- `RoomKeyLeases`: the premises of each clause hold together. -/
theorem met_RoomKeyLeases :
    (∃ t via rec sig σ, At (.installALease t via rec sig) (fun s => reaches s via 0x0B030000 = true ∧ firstFail
      (leaseChecks rec sig s) = none) σ) ∧
    (∃ t via rec sig st σ, At (.installALease t via rec sig) (fun s => firstFail (leaseChecks rec sig s) = some st ∧
      reaches s via 0x0B030000 = true ∧ LogRoom s 0 1) σ) ∧
    (∃ t via b rest σ, At (.leaseFloor t) (fun s => s.lease.wait = (via, b) :: rest ∧ keeperFree 0 0x0B01 s = true ∧
      srOpen s = true ∧ noPower s = false ∧ LogRoom s 0 1 ∧ ((floorGet s (beAt b 0 8) = floorDefault ∧
      s.lease.floors.length < 16384) ∨ (floorGet s (beAt b 0 8) ≠ floorDefault ∧ ((floorGet s (beAt b 0 8)).number <
      beAt b 8 8 ∨ ((floorGet s (beAt b 0 8)).number = beAt b 8 8 ∧ (floorGet s (beAt b 0 8)).digest = (Config.sha256
      b).take 16))))) σ) ∧
    (∃ t via b rest σ, At (.leaseFloor t) (fun s => s.lease.wait = (via, b) :: rest ∧ keeperFree 0 0x0B01 s = true ∧
      srOpen s = true ∧ noPower s = false ∧ LogRoom s 0 1 ∧ floorGet s (beAt b 0 8) ≠ floorDefault ∧ (beAt b 8 8 <
      (floorGet s (beAt b 0 8)).number ∨ (beAt b 8 8 = (floorGet s (beAt b 0 8)).number ∧ (Config.sha256 b).take 16 ≠
      (floorGet s (beAt b 0 8)).digest))) σ) ∧
    (∃ t g x σ, At (.leaseFloorFree t g) (fun s => uncertainty s = some x ∧ floorGet s g ≠ floorDefault ∧ ptimeLocked
      s = true ∧ laterW 64 ((ptimeNs s + 2 ^ 64 - x % 2 ^ 64) % 2 ^ 64) (floorGet s g).latest = true) σ) ∧
    (∃ t via g σ, At (.releaseTheLeases t via g) (fun s => reaches s via 0x0B030100 = true ∧ LogRoom s 0 66) σ) ∧
    (∃ t via g σ, At (.readTheLeases t via g) (fun s => reaches s via 0x0B030200 = true) σ) ∧
    (∃ t g c n σ, At (.leaseRollover t g) (fun s => (groupGet s g).cur = some c ∧ (groupGet s g).next = some n ∧
      notBeforeW 64 (ptimeNs s) c.expiry = true) σ) ∧
    (∃ t g σ, At (.leaseUnusable t g) (fun s => leaseJudge s g ≠ 0 ∧ leaseJudge s g ≠ 4 ∧ (groupGet s g).was = false ∧
      LogRoom s 0 66) σ) ∧
    (∃ t g σ, At (.leaseUnusable t g) (fun s => leaseJudge s g = 0) σ) ∧
    (∃ t via src σ, src < 512 ∧ At (.lastExportNumberImported t via src) (fun s => reaches s via 0x0B040300 = true) σ) ∧
    (∃ t via src σ, 512 ≤ src ∧ At (.lastExportNumberImported t via src) (fun s => reaches s via 0x0B040300 = true) σ) :=
  ⟨⟨0, .session 0, leaseRec 5 2 0 9000000000000, true, { locked with objs := [] }, by decide +kernel⟩,
   ⟨0, .session 0, leaseRec 5 2 0 9000000000000, false, stSIGNATURE, locked, by decide +kernel⟩,
   ⟨0, .session 0, leaseRec 5 2 0 9000000000000, ([] : List (Via × Bytes)),
     { locked with lease := { locked.lease with wait := [(.session 0, leaseRec 5 2 0 9000000000000)] } },
     by decide +kernel⟩,
   ⟨0, .session 0, leaseRec 5 2 0 9000000000000, ([] : List (Via × Bytes)),
     { locked with lease := { locked.lease with wait := [(.session 0, leaseRec 5 2 0 9000000000000)], floors := [(5, { number := 3, digest := [1], latest := 4 })] } },
     by decide +kernel⟩,
   ⟨0, 5, lockedU locked,
     { locked with lease := { locked.lease with floors := [(5, { number := 3, digest := [1], latest := 4 })] } },
     by decide +kernel⟩,
   ⟨0, .session 0, 5, leased, by decide +kernel⟩,
   ⟨0, .session 0, 5, leased, by decide +kernel⟩,
   ⟨0, 5, lease 1 0 500000000000, lease 2 400000000000 9000000000000,
     { locked with lease := { locked.lease with groups := [(5, { groupDefault with cur := some (lease 1 0 500000000000), next := some (lease 2 400000000000 9000000000000) })] } },
     by decide +kernel⟩,
   ⟨0, 5,
     { locked with lease := { locked.lease with groups := [(5, { groupDefault with cur := some (lease 1 0 500000000000) })] } },
     by decide +kernel⟩,
   ⟨0, 5, leased, by decide +kernel⟩,
   ⟨0, .session 0, 7, { live with lease := { live.lease with seen := [(7, 99)] } }, by decide +kernel⟩,
   ⟨0, .session 0, 512, live, by decide +kernel⟩⟩

/-- `ArmedResponses`: the premises of each clause hold together. -/
theorem met_ArmedResponses :
    (∃ t via rec sig σ, At (.armResponse t via rec sig) (fun s => reaches s via 0x02020000 = true ∧ firstFail
      (armChecks rec sig s) = none ∧ leaseJudge s (beAt rec 12 8) = 0 ∧ bufsFree s (beAt rec 28 2) = true ∧ LogRoom s
      0 1) σ) ∧
    (∃ t via rec sig st σ, At (.armResponse t via rec sig) (fun s => reaches s via 0x02020000 = true ∧ firstFail
      (armChecks rec sig s) = some st) σ) ∧
    (∃ t via rec sig σ, At (.armResponse t via rec sig) (fun s => reaches s via 0x02020000 = true ∧ firstFail
      (armChecks rec sig s) = none ∧ leaseJudge s (beAt rec 12 8) ≠ 0 ∧ LogRoom s 0 1) σ) ∧
    (∃ t via rec sig σ, At (.armResponse t via rec sig) (fun s => reaches s via 0x02020000 = true ∧ firstFail
      (armChecks rec sig s) = none ∧ leaseJudge s (beAt rec 12 8) = 0 ∧ bufsFree s (beAt rec 28 2) = false) σ) ∧
    (∃ t via i σ, i < 64 ∧ At (.disarmSlot t via i) (fun s => reaches s via 0x02020100 = true ∧ (slotGet s i).state =
      1 ∧ LogRoom s 0 1) σ) ∧
    (∃ t via i σ, i < 64 ∧ At (.disarmSlot t via i) (fun s => reaches s via 0x02020100 = true ∧ (slotGet s i).state ≠
      1) σ) ∧
    (∃ t i σ, At (.armedResponseExpiry t i) (fun s => (slotGet s i).state = 1 ∧ laterW 64 (ptimeNs s) (armUntil
      (slotGet s i)) = true ∧ LogRoom s 0 1 ∧ i < 64) σ) ∧
    (∃ t i d σ, At (.armedTriggerDecision t i) (fun s => (slotGet s i).decide = some d ∧ d ≤ s.clk.now ∧ (srUp s 0 ||
      srUp s 1) = true) σ) ∧
    (∃ t i d σ, At (.armedTriggerDecision t i) (fun s => (slotGet s i).decide = some d ∧ d ≤ s.clk.now ∧ srUp s 0 =
      false ∧ srUp s 1 = false) σ) ∧
    (∃ t i σ, i < 64 ∧ At (.fireCycle t i) (fun s => firesNow s (slotGet s i) = true ∧ ∀ j, j < i → firesNow s
      (slotGet s j) = false) σ) ∧
    (∃ t i pn c σ, At (.armedFrameStart t i pn) (fun s => (portGet s pn).cur = some c ∧ c.rank = 1 ∧ c.ident = i ∧
      (portGet s pn).ended = false ∧ c.first ≤ s.clk.now) σ) ∧
    (∃ t i pn c r σ, At (.armedFrameStart t i pn) (fun s => (portGet s pn).cur = some c ∧ c.rank = 1 ∧ (portGet s
      pn).ended = true ∧ (portGet s pn).resv.find? (fun r => r.rank == 1 && r.ident == i && decide (r.first ≤
      s.clk.now)) = some r) σ) :=
  ⟨⟨0, .session 0, armRec 9, true, leased, by decide +kernel⟩,
   ⟨0, .session 0, armRec 9, false, stSIGNATURE, leased, by decide +kernel⟩,
   ⟨0, .session 0, armRec 9, true,
     { locked with lease := { locked.lease with groups := [(5, { groupDefault with cur := some (lease 1 0 500000000000) })] } },
     by decide +kernel⟩,
   ⟨0, .session 0, armRec 9, true, portSet 0 { portDefault with bufs := List.replicate 8 (0, []) } leased,
     by decide +kernel⟩,
   ⟨0, .session 0, 9, { live with armed := [(9, { slotDefault with state := 1, record := armRec 9, ports := 1 })] },
     by decide +kernel⟩,
   ⟨0, .session 0, 9, live, by decide +kernel⟩,
   ⟨0, 9, { locked with armed := [(9, { slotDefault with state := 1, record := List.replicate 40 0 })] },
     by decide +kernel⟩,
   ⟨0, 9, 77,
     { locked with armed := [(9, { slotDefault with state := 2, decide := some 77, record := armRec 9 })], sr := { locked.sr with carrying := none } },
     by decide +kernel⟩,
   ⟨0, 9, 77,
     { locked with armed := [(9, { slotDefault with state := 2, decide := some 77, record := armRec 9 })], sr := { locked.sr with links := [] } },
     by decide +kernel⟩,
   ⟨0, 9, regPutF (airCfg 0 0) 0 0 1
     { locked with armed := [(9, { slotDefault with state := 2, fireAt := some 77, record := armRec 9, ports := 3 })] },
     by decide +kernel⟩,
   ⟨0, 9, 3, { span4 with rank := 1, ident := 9 }, portSet 3
     { portDefault with txen := true, cur := some { span4 with rank := 1, ident := 9 } } live, by decide +kernel⟩,
   ⟨0, 9, 3, { span4 with rank := 1, ident := 7 }, { span4 with rank := 1, ident := 9 }, portSet 3
     { portDefault with txen := true, ended := true, cur := some { span4 with rank := 1, ident := 7 }, resv := [{ span4 with rank := 1, ident := 9 }] }
     live, by decide +kernel⟩⟩

/-- `AirInterface`: the premises of each clause hold together. -/
theorem met_AirInterface :
    (∃ t w p σ, p < 2 ∧ At (.portEnable t w p) (fun s => w < s.part.wings) σ) ∧
    (∃ t w p σ, p < 2 ∧ At (.train t w p) (fun s => w < s.part.wings) σ) ∧
    (∃ t w p σ, p < 2 ∧ At (.alignmentGained t w p) (fun s => w < s.part.wings ∧ w < 8 ∧ airEn s (2 * w + p) = true ∧
      airLock s (2 * w + p) = false ∧ bit (setNow s (airCfg w p)).toNat 1 = false ∧ LogRoom s w 1) σ) ∧
    (∃ t w p σ, At (.alignmentGained t w p) (fun s => bit (setNow s (airCfg w p)).toNat 1 = true) σ) ∧
    (∃ t w p σ, p < 2 ∧ At (.alignmentLost t w p) (fun s => w < s.part.wings ∧ w < 8 ∧ airLock s (2 * w + p) = true ∧
      LogRoom s w 1) σ) ∧
    (∃ t w p v σ, p < 2 ∧ At (.spiGo t w p v) (fun s => w < s.part.wings ∧ regF s (airSpi w p) 62 62 = 0 ∧ 8 ≤ bits
      v.toNat 53 48 ∧ bits v.toNat 53 48 ≤ 32) σ) ∧
    (∃ t w p v σ, p < 2 ∧ At (.spiGo t w p v) (fun s => w < s.part.wings ∧ w < 8 ∧ LogRoom s w 1 ∧ (regF s (airSpi w
      p) 62 62 = 1 ∨ bits v.toNat 53 48 < 8 ∨ 32 < bits v.toNat 53 48)) σ) ∧
    (∃ t w p miso e len σ, p < 2 ∧ len ≤ 32 ∧ At (.spiComplete t w p miso) (fun s => (portGet s (2 * w + p)).spi =
      some (e, len) ∧ e ≤ s.clk.now) σ) ∧
    (∃ t w p n σ, p < 2 ∧ 0 < n ∧ At (.clipReport t w p n) (fun s => w < s.part.wings ∧ w < 8 ∧ LogRoom s w 1) σ) :=
  ⟨⟨0, 1, 1, live, by decide +kernel⟩,
   ⟨0, 1, 1, laneSet 1 4 { laneDefault with st := 1, port := 1, bin := 5 } live, by decide +kernel⟩,
   ⟨0, 1, 1, regPutF (airCfg 1 1) 0 0 1 live, by decide +kernel⟩,
   ⟨0, 1, 1, regPutF (airCfg 1 1) 0 0 1 { live with clash := { at_ := 1000000000001, bits := [(airCfg 1 1, 2)] } },
     by decide +kernel⟩,
   ⟨0, 1, 1, laneSet 1 4 { laneDefault with st := 1, port := 1, bin := 5 } (regPutF (airStat 1 1) 0 0 1 live),
     by decide +kernel⟩,
   ⟨0, 1, 1, (0x4010000000001234 : Word), live, by decide +kernel⟩,
   ⟨0, 1, 1, (0x4010000000001234 : Word), regPutF (airSpi 1 1) 62 62 1 live, by decide +kernel⟩,
   ⟨0, 1, 1, 0x1FFFF, 5, 16, portSet 3 { portDefault with spi := some (5, 16) } (regPutF (airSpi 1 1) 62 62 1 live),
     by decide +kernel⟩,
   ⟨0, 1, 1, 3, live, by decide +kernel⟩⟩

/-- `AirLanes`: the premises of each clause hold together. -/
theorem met_AirLanes :
    (∃ t w p b pwr σ, p < 2 ∧ b < 64 ∧ At (.preambleDetect t w p b pwr) (fun s => minPower s w p ≤ pwr ∧ listening s
      (2 * w + p) b = true ∧ binHasLane s (2 * w + p) b = false ∧ (arbGet s w).waiting.contains (p * 64 + b) = false)
      σ) ∧
    (∃ t w p b pwr σ, At (.preambleDetect t w p b pwr) (fun s => pwr < minPower s w p) σ) ∧
    (∃ t w k l σ, At (.laneGrant t w) (fun s => (arbGet s w).lastAt ≠ s.clk.now + 1 ∧ nextWatcher s w (arbGet s w) =
      some k ∧ lowestLane s w = some l) σ) ∧
    (∃ t w σ, At (.laneGrant t w) (fun s => (arbGet s w).lastAt = s.clk.now + 1 ∨ lowestLane s w = none ∨ nextWatcher
      s w (arbGet s w) = none) σ) ∧
    (∃ t w p b m pwr σ, p < 2 ∧ At (.watcherWithdraw t w p b m pwr) (fun s => (arbGet s w).waiting.contains (p * 64 +
      b) = true ∧ (m = false ∨ pwr < minPower s w p)) σ) ∧
    (∃ t w l σ, At (.laneAcquired t w l) (fun s => (laneGet s w l).st = 1 ∧ (laneGet s w l).acq = false ∧ (laneGet s w
      l).grant + symbols (laneGet s w l).mode 8 ≤ s.clk.now) σ) ∧
    (∃ t w l m pwr σ, At (.sfdTimeout t w l m pwr) (fun s => (laneGet s w l).st = 1 ∧ (laneGet s w l).port < 2 ∧ (m =
      false ∨ pwr < minPower s w (laneGet s w l).port ∨ (laneGet s w l).grant + symbols (laneGet s w l).mode (sfdWait
      s w (laneGet s w l).port) ≤ s.clk.now)) σ) ∧
    (∃ t w l phr σ, At (.sfdFound t w l phr) (fun s => (laneGet s w l).st = 1 ∧ (laneGet s w l).acq = true ∧ (laneGet
      s w l).grant + symbols (laneGet s w l).mode 8 + sfdTime (laneGet s w l).mode ≤ s.clk.now ∧ phr.modeSwitch =
      false ∧ phr.length ≤ maxPsdu s w (laneGet s w l).port ∧ (if phr.fcsShort then 2 else 4) < phr.length) σ) ∧
    (∃ t w l phr k σ, At (.sfdFound t w l phr) (fun s => (laneGet s w l).st = 1 ∧ (laneGet s w l).acq = true ∧
      (laneGet s w l).port < 2 ∧ (laneGet s w l).grant + symbols (laneGet s w l).mode 8 + sfdTime (laneGet s w l).mode
      ≤ s.clk.now ∧ ((phr.modeSwitch = true ∧ k = 3) ∨ (phr.modeSwitch = false ∧ maxPsdu s w (laneGet s w l).port <
      phr.length ∧ k = 4) ∨ (phr.modeSwitch = false ∧ phr.length ≤ maxPsdu s w (laneGet s w l).port ∧ phr.length ≤ (if
      phr.fcsShort then 2 else 4) ∧ k = 5))) σ) ∧
    (∃ t w l phr σ, At (.sfdFound t w l phr) (fun s => (laneGet s w l).acq = false ∨ s.clk.now < (laneGet s w l).grant
      + symbols (laneGet s w l).mode 8 + sfdTime (laneGet s w l).mode) σ) :=
  ⟨⟨0, 1, 1, 5, (-50), regPutF (airBinmode 1 1 0) 23 20 8 (regPutF (airStat 1 1) 0 0 1 (regPutF (airCfg 1 1) 0 0 1
     live)), by decide +kernel⟩,
   ⟨0, 1, 1, 5, (-130), live, by decide +kernel⟩,
   ⟨0, 1, 69, 0, arbSet 1 { waiting := [69], last := 3, lastAt := 0 } (regPutF (airBinmode 1 1 0) 23 20 8 (regPutF
     (airStat 1 1) 0 0 1 (regPutF (airCfg 1 1) 0 0 1 live))), by decide +kernel⟩,
   ⟨0, 1, live, by decide +kernel⟩,
   ⟨0, 1, 1, 5, false, (-50), arbSet 1 { waiting := [69], last := 3, lastAt := 0 } live, by decide +kernel⟩,
   ⟨0, 1, 4, laneSet 1 4 { laneDefault with st := 1, port := 1, bin := 5, grant := 5 } live, by decide +kernel⟩,
   ⟨0, 1, 4, false, (-50), laneSet 1 4 { laneDefault with st := 1, port := 1, bin := 5, grant := 5 } live,
     by decide +kernel⟩,
   ⟨0, 1, 4, ({ modeSwitch := false, fcsShort := false, dw := false, coded := false, length := 5 } : Phr), laneSet 1 4
     { laneDefault with st := 1, port := 1, bin := 5, grant := 5, acq := true } live, by decide +kernel⟩,
   ⟨0, 1, 4, ({ modeSwitch := false, fcsShort := false, dw := false, coded := false, length := 4 } : Phr), 5, laneSet
     1 4 { laneDefault with st := 1, port := 1, bin := 5, grant := 5, acq := true } live, by decide +kernel⟩,
   ⟨0, 1, 4, ({ modeSwitch := true, fcsShort := false, dw := false, coded := false, length := 5 } : Phr), laneSet 1 4
     { laneDefault with st := 1, port := 1, bin := 5, grant := 5, acq := false } live, by decide +kernel⟩⟩

/-- `AirTransmission`: the premises of each clause hold together. -/
theorem met_AirTransmission :
    (∃ t w p r σ, p < 2 ∧ At (.ackTxen t w p) (fun s => (portGet s (2 * w + p)).resv.find? (fun r => r.rank == 3 &&
      decide (r.on_ ≤ s.clk.now)) = some r ∧ r.desc ≠ 0 ∧ (portGet s (2 * w + p)).txen = false ∧ airEn s (2 * w + p) =
      true ∧ r.on_ = s.clk.now) σ) ∧
    (∃ t w p r σ, p < 2 ∧ At (.ackTxen t w p) (fun s => (portGet s (2 * w + p)).resv.find? (fun r => r.rank == 3 &&
      decide (r.on_ ≤ s.clk.now)) = some r ∧ r.desc ≠ 0 ∧ ((portGet s (2 * w + p)).txen = true ∨ airEn s (2 * w + p) =
      false ∨ r.on_ < s.clk.now)) σ) ∧
    (∃ t w p a σ, p < 2 ∧ a % 8 = 0 ∧ a ≠ macDesc ∧ At (.txDescriptorPost t w p a) (fun s => dramIn s w a 32 = true ∧
      airEn s (2 * w + p) = true ∧ descBad s w (dramRead s a 32) = false ∧ (portGet s (2 * w + p)).txen = false ∧
      (portGet s (2 * w + p)).cur = none ∧ fits s (2 * w + p) (spanAt s (2 * w + p) 4 0 a s.clk.now (descAir (dramRead
      s a 32)) (leAt (dramRead s a 32) 3 1) (bit (leAt (dramRead s a 32) 6 1) 1) 0) false = true) σ) ∧
    (∃ t w p a st σ, p < 2 ∧ a % 8 = 0 ∧ a ≠ macDesc ∧ At (.txDescriptorPost t w p a) (fun s => dramIn s w a 32 = true
      ∧ ((airEn s (2 * w + p) = false ∧ st = 5) ∨ (airEn s (2 * w + p) = true ∧ descBad s w (dramRead s a 32) = true ∧
      st = 4) ∨ (airEn s (2 * w + p) = true ∧ descBad s w (dramRead s a 32) = false ∧ st = 2 ∧ ((portGet s (2 * w +
      p)).txen = true ∨ (portGet s (2 * w + p)).cur.isSome = true ∨ fits s (2 * w + p) (spanAt s (2 * w + p) 4 0 a
      s.clk.now (descAir (dramRead s a 32)) (leAt (dramRead s a 32) 3 1) (bit (leAt (dramRead s a 32) 6 1) 1) 0) false
      = false)))) σ) ∧
    (∃ t w p c σ, p < 2 ∧ At (.transmissionEnd t w p) (fun s => (portGet s (2 * w + p)).cur = some c ∧ (portGet s (2 *
      w + p)).ended = false ∧ c.last ≤ s.clk.now ∧ (c.rank ≠ 4 ∨ c.kind = 0)) σ) ∧
    (∃ t w p c σ, p < 2 ∧ At (.txenRelease t w p) (fun s => (portGet s (2 * w + p)).cur = some c ∧ (portGet s (2 * w +
      p)).ended = true ∧ c.rel ≤ s.clk.now ∧ (c.rank = 4 ∨ c.rank = 2) ∧ c.kind = 0 ∧ (portGet s (2 * w +
      p)).resv.find? (fun r => r.rank == 1) = none) σ) ∧
    (∃ t w p c r σ, p < 2 ∧ At (.txenRelease t w p) (fun s => (portGet s (2 * w + p)).cur = some c ∧ (portGet s (2 * w
      + p)).ended = true ∧ c.rel ≤ s.clk.now ∧ (portGet s (2 * w + p)).resv.find? (fun r => r.rank == 1) = some r) σ) ∧
    (∃ t w p σ, At (.blankingEnd t w p) (fun _ => True) σ) :=
  ⟨⟨0, 1, 1, { span4 with rank := 3, on_ := 1000000000000 }, portSet 3
     { portDefault with resv := [{ span4 with rank := 3, on_ := 1000000000000 }] } (regPutF (airCfg 1 1) 0 0 1 live),
     by decide +kernel⟩,
   ⟨0, 1, 1, { span4 with rank := 3, on_ := 1000000000000 }, portSet 3
     { portDefault with txen := true, resv := [{ span4 with rank := 3, on_ := 1000000000000 }] } (regPutF (airCfg 1 1)
     0 0 1 live), by decide +kernel⟩,
   ⟨0, 0, 0, 0x1000, regPutF (airCfg 0 0) 0 0 1 (dramWrite 0x1000 goodDesc live), by decide +kernel⟩,
   ⟨0, 0, 0, 0x1000, 2, portSet 0 { portDefault with txen := true } (regPutF (airCfg 0 0) 0 0 1 (dramWrite 0x1000
     goodDesc live)), by decide +kernel⟩,
   ⟨0, 1, 1, span4, portSet 3 { portDefault with txen := true, cur := some span4 } live, by decide +kernel⟩,
   ⟨0, 1, 1, span4, portSet 3 { portDefault with txen := true, ended := true, cur := some span4 } live,
     by decide +kernel⟩,
   ⟨0, 1, 1, span4, { span4 with rank := 1, ident := 9 }, portSet 3
     { portDefault with txen := true, ended := true, cur := some span4, resv := [{ span4 with rank := 1, ident := 9 }] }
     live, by decide +kernel⟩,
   ⟨0, 1, 1, portSet 3 { portDefault with blank := [(5, some 7)] } live, by decide +kernel⟩⟩

/-- `PtimeDiscipline`: the premises of each clause hold together. -/
theorem met_PtimeDiscipline :
    (∃ t dn d pn t1 c σ, At (.syncReceive t dn pn t1 c) (fun s => domOf s dn = some d ∧ (domGet s d).sel = some pn ∧
      ptpPort s pn = true ∧ s.ptp.switch ≠ some d ∧ s.ptp.disc ≠ d) σ) ∧
    (∃ t dn d pn t1 c o σ, At (.syncReceive t dn pn t1 c) (fun s => domOf s dn = some d ∧ (domGet s d).sel = some pn ∧
      ptpPort s pn = true ∧ s.ptp.switch ≠ some d ∧ s.ptp.disc = d ∧ (domGet s d).state = 0 ∧ o = sgn 64 (stampIn s pn
      + 2 ^ 64 - t1 % 2 ^ 64) - c - (peerDelay s pn).getD 0 - s.clk.q / nsFine ∧ obj s 0x0B012600 < o.natAbs ∧ LogRoom
      s 0 3) σ) ∧
    (∃ t dn d pn t1 c o σ, At (.syncReceive t dn pn t1 c) (fun s => domOf s dn = some d ∧ (domGet s d).sel = some pn ∧
      ptpPort s pn = true ∧ s.ptp.switch ≠ some d ∧ s.ptp.disc = d ∧ o = sgn 64 (stampIn s pn + 2 ^ 64 - t1 % 2 ^ 64)
      - c - (peerDelay s pn).getD 0 - s.clk.q / nsFine ∧ o.natAbs ≤ obj s 0x0B012600) σ) ∧
    (∃ t dn d pn t1 c σ, At (.syncReceive t dn pn t1 c) (fun s => domOf s dn = some d ∧ (domGet s d).sel = some pn ∧
      ptpPort s pn = true ∧ s.ptp.switch = some d ∧ s.ptp.disc ≠ d ∧ LogRoom s 0 5) σ) ∧
    (∃ t dn d pn a σ, At (.announceReceive t dn pn a) (fun s => domOf s dn = some d ∧ ptpPort s pn = true) σ) ∧
    (∃ t pn r σ, At (.pdelayReq t pn r) (fun s => ptpPort s pn = true) σ) ∧
    (∃ t pn q d σ, At (.peerDelayMeasurement t pn q d) (fun s => ptpPort s pn = true) σ) ∧
    (∃ t d σ, d < 2 ∧ At (.syncTimeout t d) (fun s => (domGet s d).state = 2 ∧ (domGet s d).sync.getD 0 +
      threeIntervals ≤ s.clk.now ∧ LogRoom s 0 1) σ) ∧
    (∃ t d σ, d < 2 ∧ At (.syncTimeout t d) (fun s => (domGet s d).state = 1 ∧ (domGet s d).sync.getD 0 +
      threeIntervals ≤ s.clk.now ∧ LogRoom s 0 1) σ) ∧
    (∃ t d pn σ, d < 2 ∧ At (.announceReceiptTimeout t d pn) (fun s => (domGet s d).sel ≠ some pn ∧ (annAt s d pn).2 ≠
      0 ∧ (annAt s d pn).2 - 1 + threeIntervals ≤ s.clk.now) σ) ∧
    (∃ t d pn σ, d < 2 ∧ At (.announceReceiptTimeout t d pn) (fun s => (domGet s d).sel = some pn ∧ (annAt s d pn).2 ≠
      0 ∧ (annAt s d pn).2 - 1 + threeIntervals ≤ s.clk.now ∧ (domGet s d).state = 2 ∧ bestPort (domSet d
      { domGet s d with ann := tabPut annNone pn annNone (domGet s d).ann } s) d (fun _ => true) = none) σ) ∧
    (∃ t d σ, d < 2 ∧ At (.holdoverLimit t d) (fun s => (domGet s d).state = 3 ∧ (domGet s d).since + obj s 0x0B012900
      * 1000000000 ≤ s.clk.now ∧ LogRoom s 0 1) σ) ∧
    (∃ t σ, At (.domainRevert t) (fun s => s.ptp.disc ≠ obj s 0x0B012000 ∧ (domGet s (obj s 0x0B012000)).state = 2 ∧
      (domGet s (obj s 0x0B012000)).since + obj s 0x0B012A00 * 1000000000 ≤ s.clk.now) σ) ∧
    (∃ t c cs σ, At (.ptimeApply t) (fun s => s.clk.pend = c :: cs ∧ c.at_ ≤ s.clk.now ∧ ∀ x ∈ cs, s.clk.now < x.at_)
      σ) :=
  ⟨⟨0, 1, 1, 0, 500, (10 : Int), domSet 1 { domDefault with sel := some 0 } uplinks, by decide +kernel⟩,
   ⟨0, 0, 0, 0, stampIn (atTime 0 (domSet 0 { domDefault with sel := some 0 } uplinks)) 0, (1000000000000 : Int),
     (-1000000000000 : Int), domSet 0 { domDefault with sel := some 0 } uplinks, by
     refine ⟨?_, ?_, ?_, ?_, ?_, ?_, stamp_self _ rfl rfl (by decide +kernel), ?_, ?_⟩ <;> decide +kernel⟩,
   ⟨0, 0, 0, 0, stampIn (atTime 0 (domSet 0 { domDefault with sel := some 0 } uplinks)) 0, (10 : Int), (-10 : Int),
     domSet 0 { domDefault with sel := some 0 } uplinks, by
     refine ⟨?_, ?_, ?_, ?_, ?_, stamp_self _ rfl rfl (by decide +kernel), ?_⟩ <;> decide +kernel⟩,
   ⟨0, 1, 1, 0, 999999999990, (10 : Int),
     { domSet 1 { domDefault with sel := some 0 } uplinks with ptp := { (domSet 1 { domDefault with sel := some 0 } uplinks).ptp with switch := some 1 } },
     by decide +kernel⟩,
   ⟨0, 1, 1, 0, ann5, uplinks, by decide +kernel⟩,
   ⟨0, 1, 8, uplinks, by decide +kernel⟩,
   ⟨0, 1, 5, (12 : Int), uplinks, by decide +kernel⟩,
   ⟨0, 0, locked, by decide +kernel⟩,
   ⟨0, 1, domSet 1 { domDefault with state := 1 } locked, by decide +kernel⟩,
   ⟨0, 1, 0, domSet 1 { domDefault with ann := [(0, (ann5, 1))] } locked, by decide +kernel⟩,
   ⟨0, 1, 0, domSet 1 { domDefault with state := 2, sel := some 0, ann := [(0, (ann5, 1))] } locked,
     by decide +kernel⟩,
   ⟨0, 0, domSet 0 { domDefault with state := 3 } { locked with objs := [(0x0B012900, 10)] }, by decide +kernel⟩,
   ⟨0, domSet 1 { domDefault with state := 2 } { locked with objs := [(0x0B012000, 1), (0x0B012A00, 10)] },
     by decide +kernel⟩,
   ⟨0, ({ at_ := 5, rate := 3, step := 4, slew := none } : ClkChange), ([] : List ClkChange),
     { locked with clk := { locked.clk with pend := [{ at_ := 5, rate := 3, step := 4, slew := none }] } },
     by decide +kernel⟩⟩

/-- `DdrControllers`: the premises of each clause hold together. -/
theorem met_DdrControllers :
    (∃ t w b σ, b < 4 ∧ At (.refreshWindow t w b) (fun s => (∀ p, (ddrGet s w).pend = some p → s.clk.now < p.1) ∧ w <
      s.part.wings ∧ released s w 2 = true ∧ s.clk.now % refreshPeriod s w = refreshPhase s w b) σ) ∧
    (∃ t w b a hot σ, At (.refreshWindow t w b) (fun s => (ddrGet s w).pend = some (a, hot) ∧ a ≤ s.clk.now) σ) ∧
    (∃ t w hot σ, At (.refreshScheduleChange t w hot) (fun s => (∀ p, (ddrGet s w).pend = some p → s.clk.now < p.1) ∧
      w < s.part.wings ∧ s.clk.now % 26880 ≠ 0) σ) ∧
    (∃ t w hot σ, At (.refreshScheduleChange t w hot) (fun s => w < s.part.wings ∧ s.clk.now % 26880 = 0) σ) ∧
    (∃ t w rq a arr d σ, At (.dramAccessIssue t w rq a arr (some d)) (fun s => (∀ p, (ddrGet s w).pend = some p →
      s.clk.now < p.1) ∧ dramIn s w (a / 64 * 64) 64 = true ∧ released s w 2 = true ∧ comesAfter (arr, cameBy w rq)
      (ddrGet s w).came = true ∧ issueCycle s w a arr ≤ s.clk.now ∧ a % 64 + d.length ≤ 64) σ) ∧
    (∃ t w rq a arr σ, At (.dramAccessIssue t w rq a arr none) (fun s => (∀ p, (ddrGet s w).pend = some p → s.clk.now
      < p.1) ∧ dramIn s w (a / 64 * 64) 64 = true ∧ released s w 2 = true ∧ comesAfter (arr, cameBy w rq) (ddrGet s
      w).came = true ∧ issueCycle s w a arr ≤ s.clk.now) σ) ∧
    (∃ t w r rs σ, At (.dramReadData t w) (fun s => (∀ p, (ddrGet s w).pend = some p → s.clk.now < p.1) ∧ (ddrGet s
      w).reads = r :: rs ∧ r.at_ ≤ s.clk.now) σ) ∧
    (∃ t w a d σ, At (.engineDramAccess t w a (some d)) (fun s => dramIn s w (a / 64 * 64) 64 = true ∧ released s w 2
      = true ∧ a % 64 + d.length ≤ 64) σ) ∧
    (∃ t w a σ, At (.engineDramAccess t w a none) (fun s => dramIn s w (a / 64 * 64) 64 = true ∧ released s w 2 =
      true) σ) :=
  ⟨⟨0, 2, 2, { live with clk := { live.clk with now := 3840 * 7 + 1920 } }, by decide +kernel⟩,
   ⟨0, 2, 2, 26880, true, ddrSet 2 { ddrDefault with pend := some (26880, true) } live, by decide +kernel⟩,
   ⟨0, 2, true, live, by decide +kernel⟩,
   ⟨0, 2, true, { live with clk := { live.clk with now := 26880 } }, by decide +kernel⟩,
   ⟨0, 2, 1, 0x10000000044, 7, ([1,2,3] : Bytes), live, by decide +kernel⟩,
   ⟨0, 2, 1, 0x10000000044, 7, live, by decide +kernel⟩,
   ⟨0, 2, ({ rq := 1, addr := 64, at_ := 8, data := [1,2] } : DramLine), ([] : List DramLine), ddrSet 2
     { ddrDefault with reads := [{ rq := 1, addr := 64, at_ := 8, data := [1,2] }] } live, by decide +kernel⟩,
   ⟨0, 2, 0x10000000044, ([1,2,3] : Bytes), live, by decide +kernel⟩,
   ⟨0, 2, 0x10000000044, live, by decide +kernel⟩⟩

/-- `UplinkLinksAndDrill`: the premises of each clause hold together. -/
theorem met_UplinkLinksAndDrill :
    (∃ t pn σ, pn < 16 ∧ At (.uplinkLinkUp t pn) (fun s => lanEn s pn = true ∧ lanRuns s pn = false ∧ LogRoom s (pn /
      2) 1) σ) ∧
    (∃ t pn σ, pn < 16 ∧ At (.uplinkLinkDown t pn) (fun s => pn < 2 * s.part.wings ∧ regF s (uplStat (pn / 2) (pn %
      2)) 0 0 = 1 ∧ LogRoom s (pn / 2) 3) σ) ∧
    (∃ t pn σ, pn < 16 ∧ At (.portSilent t pn) (fun s => lanEn s pn = true ∧ regF s (uplStat (pn / 2) (pn % 2)) 1 1 =
      0 ∧ LogRoom s (pn / 2) 1 ∧ (lanGet s pn).good + obj s (0x0B200005 + pn / 2 * 4096) * 1000000 ≤ s.clk.now + 1) σ) ∧
    (∃ t via g ok σ, At (.runADrill t via g ok) (fun s => s.sr.doors = [] ∧ reaches s via 0x0B031000 = true ∧ LogRoom
      s 0 1) σ) ∧
    (∃ t via g ok σ, At (.runADrill t via g ok) (fun s => s.sr.doors ≠ []) σ) :=
  ⟨⟨0, 3, regPutF (uplCfg 1 1) 0 0 1 locked, by decide +kernel⟩,
   ⟨0, 0, uplinks, by decide +kernel⟩,
   ⟨0, 0, uplinks, by decide +kernel⟩,
   ⟨0, .session 0, 5, true, leased, by decide +kernel⟩,
   ⟨0, .session 0, 5, true,
     { leased with sr := { leased.sr with doors := [{ slot := 0, kind := 0x0401, at_ := 5 }] } }, by decide +kernel⟩⟩

/-- `UplinkReceivesAndSupervises`: the premises of each clause hold together. -/
theorem met_UplinkReceivesAndSupervises :
    (∃ t pn f σ, At (.prpReceive t pn f) (fun s => lanRuns s pn = true ∧ (f.fcsOk = false ∨ isPause f.bytes = true ∨
      1520 < f.bytes.length)) σ) ∧
    (∃ t pn f σ, At (.prpReceive t pn f) (fun s => lanRuns s pn = true ∧ f.fcsOk = true ∧ isPause f.bytes = false ∧
      f.bytes.length ≤ 1520 ∧ isPtp f.bytes = true) σ) ∧
    (∃ t pn f e, ∃ k : Nat, ∃ σ, At (.prpReceive t pn f) (fun s => lanRuns s pn = true ∧ f.fcsOk = true ∧ isPause
      f.bytes = false ∧ f.bytes.length ≤ 1520 ∧ isPtp f.bytes = false ∧ prpOn s (pn / 2) = true ∧ hasTrailer f.bytes =
      true ∧ onLan pn f.bytes = true ∧ (pairGet s (pn / 2)).table.find? (fun x => x.mac == beAt f.bytes 6 6) = some e
      ∧ k < 32768 ∧ sgn 16 ((trailerOf f.bytes).seq + 65536 - e.newest % 65536) = -(k : Int) ∧ bit e.window k = true)
      σ) ∧
    (∃ t pn f e σ, At (.prpReceive t pn f) (fun s => lanRuns s pn = true ∧ f.fcsOk = true ∧ isPause f.bytes = false ∧
      f.bytes.length ≤ 1520 ∧ isPtp f.bytes = false ∧ prpOn s (pn / 2) = true ∧ hasTrailer f.bytes = true ∧ onLan pn
      f.bytes = true ∧ (pairGet s (pn / 2)).table.find? (fun x => x.mac == beAt f.bytes 6 6) = some e ∧ 0 < sgn 16
      ((trailerOf f.bytes).seq + 65536 - e.newest % 65536)) σ) ∧
    (∃ t pn f σ, At (.prpReceive t pn f) (fun s => lanRuns s pn = true ∧ f.fcsOk = true ∧ isPause f.bytes = false ∧
      f.bytes.length ≤ 1520 ∧ isPtp f.bytes = false ∧ prpOn s (pn / 2) = false ∧ etherType f.bytes ≠ 0x88FB ∧ isEmp
      (oct s (0x0B200002 + pn / 2 * 4096)) f.bytes = false ∧ ringFull s (uplRqPtr (pn / 2) (pn % 2)) (2 ^ ringLog2
      (regF s (uplRqCfg (pn / 2) (pn % 2)) 4 0) 4 16 4) = false) σ) ∧
    (∃ t w σ, At (.supervisionSend t w) (fun s => w < s.part.wings ∧ prpOn s w = true ∧ (lanRuns s (2 * w) = true ∨
      lanRuns s (2 * w + 1) = true) ∧ (pairGet s w).supAt + obj s (0x0B200006 + w * 4096) * 1000000 ≤ s.clk.now) σ) :=
  ⟨⟨0, 0, { frame0 with fcsOk := false }, uplinks, by decide +kernel⟩,
   ⟨0, 0, { frame0 with bytes := frameSeq 0x88F7 1 }, uplinks, by decide +kernel⟩,
   ⟨0, 0, { frame0 with bytes := frameSeq 0x1234 99 }, prp9, 1, heard9, by decide +kernel⟩,
   ⟨0, 0, frame0, prp9, heard9, by decide +kernel⟩,
   ⟨0, 0, frame0, uplinks, by decide +kernel⟩,
   ⟨0, 0, prpPair, by decide +kernel⟩⟩

/-- `UplinkTransmits`: the premises of each clause hold together. -/
theorem met_UplinkTransmits :
    (∃ t pn a d σ, At (.uplinkTransmitDescriptor t pn) (fun s => pn < 2 * s.part.wings ∧ 0 < tqQueued s pn ∧ (lanGet s
      pn).launch = none ∧ s.power.fail = none ∧ a = tqAddr s pn (tqCons s pn) ∧ d = dramRead s a 32 ∧ lanDescOk s (pn
      / 2) d = false) σ) ∧
    (∃ t pn a d σ, At (.uplinkTransmitDescriptor t pn) (fun s => pn < 2 * s.part.wings ∧ 0 < tqQueued s pn ∧ (lanGet s
      pn).launch = none ∧ s.power.fail = none ∧ a = tqAddr s pn (tqCons s pn) ∧ d = dramRead s a 32 ∧ lanDescOk s (pn
      / 2) d = true ∧ (descPorts pn d).filter (fun p => lanRuns s p) = []) σ) ∧
    (∃ t pn a d σ, At (.uplinkTransmitDescriptor t pn) (fun s => pn < 2 * s.part.wings ∧ 0 < tqQueued s pn ∧ (lanGet s
      pn).launch = none ∧ s.power.fail = none ∧ a = tqAddr s pn (tqCons s pn) ∧ d = dramRead s a 32 ∧ lanDescOk s (pn
      / 2) d = true ∧ (descPorts pn d).filter (fun p => lanRuns s p) ≠ [] ∧ leAt d 16 8 ≠ 0 ∧ laterW 64 (ptimeNs s +
      2000) (leAt d 16 8) = true) σ) ∧
    (∃ t pn a d σ, At (.uplinkTransmitDescriptor t pn) (fun s => pn < 2 * s.part.wings ∧ 0 < tqQueued s pn ∧ (lanGet s
      pn).launch = none ∧ s.power.fail = none ∧ a = tqAddr s pn (tqCons s pn) ∧ d = dramRead s a 32 ∧ lanDescOk s (pn
      / 2) d = true ∧ (descPorts pn d).filter (fun p => lanRuns s p) ≠ [] ∧ leAt d 16 8 ≠ 0 ∧ laterW 64 (ptimeNs s +
      2000) (leAt d 16 8) = false) σ) ∧
    (∃ t pn a d σ, At (.uplinkTransmitDescriptor t pn) (fun s => pn < 2 * s.part.wings ∧ 0 < tqQueued s pn ∧ (lanGet s
      pn).launch = none ∧ s.power.fail = none ∧ a = tqAddr s pn (tqCons s pn) ∧ d = dramRead s a 32 ∧ lanDescOk s (pn
      / 2) d = true ∧ (descPorts pn d).filter (fun p => lanRuns s p) ≠ [] ∧ leAt d 16 8 = 0 ∧ ∀ p ∈ (descPorts pn
      d).filter (fun p => lanRuns s p), (lanGet s p).wire ≤ s.clk.now ∧ beforeLaunch s p (lanOctets s pn (leAt d 8 2))
      = true) σ) ∧
    (∃ t pn e l σ, 256 ≤ e ∧ At (.timedLaunchLead t pn e) (fun s => pn < 2 * s.part.wings ∧ s.power.fail = none ∧
      (lanGet s pn).launch = some l ∧ l.led = false ∧ notBeforeW 64 (ptimeNs s + 2000) l.due = true) σ) ∧
    (∃ t w e x σ, e < 256 ∧ At (.timedLaunchLead t (launchHome w x) e) (fun s => launchHome w x < 2 * s.part.wings ∧
      s.power.fail = none ∧ ttGet s w e = x ∧ entState x = 1 ∧ entAction x = 4 ∧ x.leadAt = none ∧ leadReached s w
      x.tgt 2000 = true ∧ (entNeed x = true → lockOk s w = true) ∧ lanDescOk s w (dramRead s x.arg 32) = true ∧ ∃ p ∈
      [2 * w, 2 * w + 1], bit (launchLans x) (p % 2) = true ∧ lanRuns s p = true) σ) ∧
    (∃ t pn e l σ, 256 ≤ e ∧ At (.timedLaunchSend t pn e) (fun s => pn < 2 * s.part.wings ∧ (lanGet s pn).launch =
      some l ∧ l.led = true ∧ l.entry = none ∧ notBeforeW 64 (ptimeNs s) l.due = true ∧ l.lans = 2 ^ (pn % 2) ∧
      lanRuns s pn = true ∧ (lanGet s pn).wire + octetsTime s pn 7 ≤ s.clk.now ∧ copyDue s pn = false) σ) ∧
    (∃ t pn e l σ, 256 ≤ e ∧ At (.timedLaunchSend t pn e) (fun s => pn < 2 * s.part.wings ∧ (lanGet s pn).launch =
      some l ∧ l.led = true ∧ l.entry = none ∧ notBeforeW 64 (ptimeNs s) l.due = true ∧ l.lans = 2 ^ (pn % 2) ∧
      lanRuns s pn = true ∧ (s.clk.now < (lanGet s pn).wire + octetsTime s pn 7 ∨ copyDue s pn = true)) σ) ∧
    (∃ t slot pn σ, slot < 64 ∧ At (.armedUplinkCopy t slot pn) (fun s => (slotGet s slot).state = 2 ∧ bit (slotGet s
      slot).upls pn = true ∧ (slotGet s slot).fireAt = none ∧ (slotGet s slot).lost = false ∧ copyDelimiter s (slotGet
      s slot) pn ≤ s.clk.now ∧ lanRuns s pn = true ∧ fireHeld s (slotGet s slot) (pn / 2) = true) σ) ∧
    (∃ t slot pn σ, slot < 64 ∧ At (.armedUplinkCopy t slot pn) (fun s => (slotGet s slot).state = 2 ∧ bit (slotGet s
      slot).upls pn = true ∧ (slotGet s slot).fireAt = none ∧ (slotGet s slot).lost = false ∧ copyDelimiter s (slotGet
      s slot) pn ≤ s.clk.now ∧ (lanRuns s pn = false ∨ fireHeld s (slotGet s slot) (pn / 2) = false)) σ) :=
  ⟨⟨0, 0, 0x3000, lanDesc 4 0, queued (lanDesc 4 0), by decide +kernel⟩,
   ⟨0, 0, 0x3000, lanDesc 0 0, regPutF (uplStat 0 0) 0 0 0 (queued (lanDesc 0 0)), by decide +kernel⟩,
   ⟨0, 0, 0x3000, lanDesc 0 5, queued (lanDesc 0 5), by decide +kernel⟩,
   ⟨0, 0, 0x3000, lanDesc 0 1000000009999, queued (lanDesc 0 1000000009999), by decide +kernel⟩,
   ⟨0, 0, 0x3000, lanDesc 0 0, queued (lanDesc 0 0), by decide +kernel⟩,
   ⟨0, 0, 256, { launch0 with led := false }, lanSet 0
     { lanDefault with launch := some { launch0 with led := false } } (queued (lanDesc 0 0)), by decide +kernel⟩,
   ⟨0, 0, 5, { entryDefault with ctl := 0x104, arg := 0x3000 }, ttSet 0 5
     { entryDefault with ctl := 0x104, arg := 0x3000 } (queued (lanDesc 0 0)), by decide +kernel⟩,
   ⟨0, 0, 256, { launch0 with due := 999999999990 }, lanSet 0
     { lanDefault with launch := some { launch0 with due := 999999999990 } } (queued (lanDesc 0 0)),
     by decide +kernel⟩,
   ⟨0, 0, 256, { launch0 with due := 999999999990 }, lanSet 0
     { lanDefault with wire := 1000000000000, launch := some { launch0 with due := 999999999990 } } (queued (lanDesc 0
     0)), by decide +kernel⟩,
   ⟨0, 9, 0,
     { uplinks with armed := [(9, { slotDefault with state := 2, record := armRec 9, upls := 3, reach := 1 })] },
     by decide +kernel⟩,
   ⟨0, 9, 0,
     { uplinks with armed := [(9, { slotDefault with state := 2, record := armRec 9, upls := 3, reach := 0 })] },
     by decide +kernel⟩⟩

/-- `MacKeysAndCounters`: the premises of each clause hold together. -/
theorem met_MacKeysAndCounters :
    (∃ t via kk key σ, 1 ≤ kk ∧ kk ≤ 0xBF ∧ key.length = 16 ∧ At (.keyMaterialWrite t via kk key) (fun s => reaches s
      via (0x04002000 + kk) = true ∧ (keyState s kk = 0 ∨ keyState s kk = 3) ∧ keyLimits s kk 1 = true ∧ srOpen s =
      true ∧ noPower s = false) σ) ∧
    (∃ t via kk key σ, 1 ≤ kk ∧ kk ≤ 0xBF ∧ key.length = 16 ∧ At (.keyMaterialWrite t via kk key) (fun s => reaches s
      via (0x04002000 + kk) = true ∧ (keyState s kk = 0 ∨ keyState s kk = 3) ∧ keyLimits s kk 1 = true ∧ (srOpen s =
      false ∨ noPower s = true)) σ) ∧
    (∃ t via kk st σ, 1 ≤ kk ∧ kk ≤ 0xBF ∧ st ≤ 3 ∧ At (.keyStateWrite t via kk st) (fun s => reaches s via
      (0x04002100 + kk) = true ∧ keyLimits s kk st = true ∧ srOpen s = true ∧ noPower s = false) σ) ∧
    (∃ t via key σ, key.length = 16 ∧ At (.armedKeyWrite t via key) (fun s => reaches s via 0x04002200 = true ∧
      anyArmed s = false ∧ srOpen s = true ∧ noPower s = false) σ) ∧
    (∃ t via key σ, At (.armedKeyWrite t via key) (fun s => reaches s via 0x04002200 = true ∧ (key.length ≠ 16 ∨
      anyArmed s = true)) σ) ∧
    (∃ t w p a kk σ, p < 2 ∧ At (.counterRequest t w p a kk) (fun s => a = s.clk.now + 1000 ∧ (ackAt s (2 * w + p)
      a).any (fun r => r.kind == kk && r.desc == 0) = true ∧ keyUsable s kk = true) σ) ∧
    (∃ t w p a kk σ, p < 2 ∧ At (.counterRequest t w p a kk) (fun s => a = s.clk.now + 1000 ∧ (ackAt s (2 * w + p)
      a).any (fun r => r.kind == kk && r.desc == 0) = true ∧ keyUsable s kk = false) σ) ∧
    (∃ t w p a kk j σ, p < 2 ∧ At (.counterRequest t w p a kk) (fun s => a = s.clk.now + 1000 ∧ (ackAt s (2 * w + p)
      a).any (fun r => r.kind == kk && r.desc == 0) = false ∧ jobGet s (2 * w + p) = some j ∧ j.phase = 5 ∧ j.csl =
      true ∧ j.ctr = none ∧ j.start = a ∧ kk = activeKey s ∧ kk ≠ 0 ∧ s.mac.held.any (fun r => r.wing == w && r.port
      == p && r.assert == a) = false) σ) ∧
    (∃ t r σ, At (.counterAssign t) (fun s => s.mac.held = [r] ∧ r.ends ≤ s.clk.now ∧ obj s (0x04002500 + r.key) <
      0xFFFFFFFF ∧ obj s (0x04002500 + r.key) < keyResv s r.key ∧ LogRoom s 0 1) σ) ∧
    (∃ t r q σ, At (.counterAssign t) (fun s => (s.mac.held = [r, q] ∨ s.mac.held = [q, r]) ∧ ctrBefore r q = true ∧
      ctrBefore q r = false ∧ q.ends ≤ s.clk.now ∧ q.key = r.key ∧ 2 * r.wing + r.port ≠ 2 * q.wing + q.port ∧ obj s
      (0x04002500 + r.key) + 1 < 0xFFFFFFFF ∧ obj s (0x04002500 + r.key) + 1 < keyResv s r.key ∧ LogRoom s 0 1) σ) ∧
    (∃ t r σ, At (.counterAssign t) (fun s => s.mac.held = [r] ∧ r.ends ≤ s.clk.now ∧ (ackAt s (2 * r.wing + r.port)
      r.assert).isSome = true ∧ (0xFFFFFFFF ≤ obj s (0x04002500 + r.key) ∨ keyResv s r.key ≤ obj s (0x04002500 +
      r.key))) σ) ∧
    (∃ t kk d ds σ, At (.counterBlockReserve t kk) (fun s => s.sr.doors = d :: ds ∧ d.slot = 2 ∧ d.kind = 0x0401 ∧
      d.at_ ≤ s.clk.now ∧ leAt (reqSlot s 2).words 32 8 = kk ∧ noPower s = false) σ) ∧
    (∃ t kk d ds σ, At (.counterBlockReserve t kk) (fun s => s.sr.doors = d :: ds ∧ d.slot = 2 ∧ d.kind = 0x0401 ∧
      d.at_ ≤ s.clk.now ∧ leAt (reqSlot s 2).words 32 8 = kk ∧ noPower s = true) σ) :=
  ⟨⟨0, .session 0, 7, List.replicate 16 3, macOn, by decide +kernel⟩,
   ⟨0, .session 0, 7, List.replicate 16 3, { macOn with sr := { macOn.sr with links := [] } }, by decide +kernel⟩,
   ⟨0, .session 0, 5, 1, macOn, by decide +kernel⟩,
   ⟨0, .session 0, List.replicate 16 3, macOn, by decide +kernel⟩,
   ⟨0, .session 0, List.replicate 15 3, macOn, by decide +kernel⟩,
   ⟨0, 0, 1, 1000000001000, 5, ackIn, by decide +kernel⟩,
   ⟨0, 0, 1, 1000000001000, 5, objPut 0x04002105 3 ackIn, by decide +kernel⟩,
   ⟨0, 0, 1, 1000000001000, 5, { job0 with phase := 5, csl := true, start := 1000000001000 }, objPut 0x04002300 5
     (working { job0 with phase := 5, csl := true, start := 1000000001000 }), by decide +kernel⟩,
   ⟨0, ({ wing := 0, port := 1, assert := 1000000001000, key := 5, ends := 999999999999 } : CtrReq),
     { ackIn with mac := { ackIn.mac with held := [{ wing := 0, port := 1, assert := 1000000001000, key := 5, ends := 999999999999 }] } },
     by decide +kernel⟩,
   ⟨0, ({ wing := 0, port := 1, assert := 1000000001000, key := 5, ends := 999999999999 } : CtrReq),
     ({ wing := 1, port := 0, assert := 1000000001000, key := 5, ends := 999999999999 } : CtrReq),
     { ackIn with mac := { ackIn.mac with resv := [(5, 4096)], held := [{ wing := 0, port := 1, assert := 1000000001000, key := 5, ends := 999999999999 }, { wing := 1, port := 0, assert := 1000000001000, key := 5, ends := 999999999999 }] } },
     by decide +kernel⟩,
   ⟨0, ({ wing := 0, port := 1, assert := 1000000001000, key := 5, ends := 999999999999 } : CtrReq), objPut 0x04002505
     0xFFFFFFFF
     { ackIn with mac := { ackIn.mac with held := [{ wing := 0, port := 1, assert := 1000000001000, key := 5, ends := 999999999999 }] } },
     by decide +kernel⟩,
   ⟨0, 5, ({ slot := 2, kind := 0x0401, at_ := 5 } : Door), ([] : List Door), blockAsked, by decide +kernel⟩,
   ⟨0, 5, ({ slot := 2, kind := 0x0401, at_ := 5 } : Door), ([] : List Door),
     { blockAsked with sr := { blockAsked.sr with onVbak := true } }, by decide +kernel⟩⟩

/-- `MacReceives`: the premises of each clause hold together. -/
theorem met_MacReceives :
    (∃ t w l src ft σ, At (.sourceAddressLookup t w l src ft) (fun s => (laneGet s w l).st = 2 ∧ (laneGet s w
      l).looked = false) σ) ∧
    (∃ t w l rssi foff f σ, At (.frameEnd t w l false rssi foff f) (fun s => (laneGet s w l).st = 2) σ) ∧
    (∃ t w l rssi foff f σ, At (.frameEnd t w l true rssi foff f) (fun s => (laneGet s w l).st = 2) σ) ∧
    (∃ t w l f σ, l < 24 ∧ At (.ownerCommit t w l) (fun s => (laneGet s w l).st = 3 ∧ (laneGet s w l).ends + 700 ≤
      s.clk.now ∧ (laneGet s w l).frame = some f ∧ (laneGet s w l).outcome = none ∧ OnlyCommit s w l) σ) ∧
    (∃ t w l f o σ, l < 24 ∧ At (.ownerCommit t w l) (fun s => (laneGet s w l).st = 3 ∧ (laneGet s w l).ends + 700 ≤
      s.clk.now ∧ (laneGet s w l).frame = some f ∧ (laneGet s w l).outcome = none ∧ macEarly s (judgeWing s w (laneGet
      s w l) f) (laneGet s w l) f = some o ∧ OnlyCommit s w l) σ) ∧
    (∃ t w l σ, l < 24 ∧ At (.ownerCommit t w l) (fun s => (laneGet s w l).st = 3 ∧ (laneGet s w l).ends + 700 ≤
      s.clk.now) σ) ∧
    (∃ t w l f o σ, l < 24 ∧ 0 < o ∧ o < 14 ∧ f.ar = false ∧ At (.macVerdict t w l) (fun s => (laneGet s w l).st = 3 ∧
      (laneGet s w l).ends + 1200 ≤ s.clk.now ∧ (laneGet s w l).frame = some f ∧ (laneGet s w l).outcome = some o ∧
      OnlyCommit s w l) σ) ∧
    (∃ t w l f o k σ, l < 24 ∧ o ≤ 2 ∧ f.ar = true ∧ At (.macVerdict t w l) (fun s => (laneGet s w l).st = 3 ∧
      (laneGet s w l).ends + 1200 ≤ s.clk.now ∧ (laneGet s w l).frame = some f ∧ (laneGet s w l).outcome = some o ∧
      OnlyCommit s w l ∧ ackWanted s w (laneGet s w l) f o = some k ∧ (rank34 s (2 * w + (laneGet s w l).port)).any
      (fun y => spansClash y (ackSpan s w (laneGet s w l) f)) = false) σ) ∧
    (∃ t w l f o σ, l < 24 ∧ f.ar = true ∧ At (.macVerdict t w l) (fun s => (laneGet s w l).st = 3 ∧ (laneGet s w
      l).ends + 1200 ≤ s.clk.now ∧ (laneGet s w l).frame = some f ∧ (laneGet s w l).outcome = some o ∧ o ≠ 15 ∧
      OnlyCommit s w l ∧ ackWanted s w (laneGet s w l) f o = none) σ) ∧
    (∃ t w l f σ, l < 24 ∧ f.ar = false ∧ f.ftype = .data ∧ isFlood f = false ∧ At (.macVerdict t w l) (fun s =>
      (laneGet s w l).st = 3 ∧ (laneGet s w l).ends + 1200 ≤ s.clk.now ∧ (laneGet s w l).frame = some f ∧ (laneGet s w
      l).outcome = some 0 ∧ (laneGet s w l).dir ≠ 0xFFFFFFFF ∧ (laneGet s w l).home = w ∧ OnlyCommit s w l) σ) ∧
    (∃ t w l f σ, l < 24 ∧ f.ar = false ∧ f.ftype = .data ∧ isFlood f = false ∧ At (.macVerdict t w l) (fun s =>
      (laneGet s w l).st = 3 ∧ (laneGet s w l).ends + 1200 ≤ s.clk.now ∧ (laneGet s w l).frame = some f ∧ (laneGet s w
      l).outcome = some 0 ∧ (laneGet s w l).dir ≠ 0xFFFFFFFF ∧ (laneGet s w l).home ≠ w ∧ OnlyCommit s w l) σ) :=
  ⟨⟨0, 0, 2, .ext 9, .data, inFrame, by decide +kernel⟩,
   ⟨0, 0, 2, -80, 3, mframe, inFrame, by decide +kernel⟩,
   ⟨0, 0, 2, -80, 3, mframe, inFrame, by decide +kernel⟩,
   ⟨0, 0, 2, mframe, ended got, by
     refine ⟨?_, ?_, ?_, ?_, ?_, by unfold OnlyCommit; decide +kernel⟩ <;> decide +kernel⟩,
   ⟨0, 0, 2, { mframe with secured := false }, 7, ended { got with frame := some { mframe with secured := false } },
     by
     refine ⟨?_, ?_, ?_, ?_, ?_, ?_, by unfold OnlyCommit; decide +kernel⟩ <;> decide +kernel⟩,
   ⟨0, 0, 2, ended got, by decide +kernel⟩,
   ⟨0, 0, 2, mframe, 12, ended { got with outcome := some 12 }, by
     refine ⟨?_, ?_, ?_, ?_, ?_, ?_, ?_, ?_, by unfold OnlyCommit; decide +kernel⟩ <;> decide +kernel⟩,
   ⟨0, 0, 2, ({ mframe with ar := true } : MacFrame), (0 : Nat), (ownerOf live 9 * 8192 + 6), regPutF (macAckmap 0 1)
     3 3 1 (nbrSet (ownerOf live 9 * 8192 + 6) nbr9 (ended
     { got with frame := some { mframe with ar := true }, outcome := some 0 })), by
     refine ⟨?_, ?_, ?_, ?_, ?_, ?_, ?_, by unfold OnlyCommit; decide +kernel, ?_, ?_⟩ <;> decide +kernel⟩,
   ⟨0, 0, 2, ({ mframe with ar := true } : MacFrame), (12 : Nat), ended
     { got with frame := some { mframe with ar := true }, outcome := some 12 }, by
     refine ⟨?_, ?_, ?_, ?_, ?_, ?_, ?_, by unfold OnlyCommit; decide +kernel, ?_⟩ <;> decide +kernel⟩,
   ⟨0, 0, 2, mframe, ended { got with outcome := some 0, dir := 0 }, by
     refine ⟨?_, ?_, ?_, ?_, ?_, ?_, ?_, ?_, ?_, ?_, by unfold OnlyCommit; decide +kernel⟩ <;> decide +kernel⟩,
   ⟨0, 0, 2, mframe, ended { got with outcome := some 0, dir := 0, home := 1 }, by
     refine ⟨?_, ?_, ?_, ?_, ?_, ?_, ?_, ?_, ?_, ?_, by unfold OnlyCommit; decide +kernel⟩ <;> decide +kernel⟩⟩

/-- `NeighbourTableAccess`: the premises of each clause hold together. -/
theorem met_NeighbourTableAccess :
    (∃ t w k σ, k < 8192 ∧ At (.nbrRead t w k) (fun s => w < s.part.wings) σ) ∧
    (∃ t w k σ, k < 8192 ∧ At (.nbrPin t w k) (fun s => w < s.part.wings ∧ bit (nbrGet s (w * 8192 + k)).flags 0 =
      true) σ) ∧
    (∃ t w k σ, k < 8192 ∧ At (.nbrUnpin t w k) (fun s => w < s.part.wings ∧ bit (nbrGet s (w * 8192 + k)).flags 0 =
      true) σ) ∧
    (∃ t w k σ, k < 8192 ∧ At (.nbrPin t w k) (fun s => w < s.part.wings ∧ bit (nbrGet s (w * 8192 + k)).flags 0 =
      false) σ) ∧
    (∃ t via a k σ, At (.lookUpEntryByAddress t via a) (fun s => reaches s via 0x04011000 = true ∧ nbrByAddr s a =
      some k) σ) ∧
    (∃ t via a σ, At (.lookUpEntryByAddress t via a) (fun s => reaches s via 0x04011000 = true ∧ nbrByAddr s a = none)
      σ) ∧
    (∃ t via a k σ, At (.pinEntryByAddress t via a) (fun s => reaches s via 0x04011100 = true ∧ nbrByAddr s a = some k
      ∧ bit (nbrGet s k).flags 0 = true) σ) ∧
    (∃ t via a k σ, At (.unpinEntryByAddress t via a) (fun s => reaches s via 0x04011200 = true ∧ nbrByAddr s a = some
      k ∧ bit (nbrGet s k).flags 0 = true) σ) ∧
    (∃ t via a σ, At (.pinEntryByAddress t via a) (fun s => reaches s via 0x04011100 = true ∧ nbrByAddr s a = none) σ) :=
  ⟨⟨0, 0, 6, entryIn 6, by decide +kernel⟩,
   ⟨0, 0, 6, entryIn 6, by decide +kernel⟩,
   ⟨0, 0, 6, nbrSet 6 (nbrFlag 1 true nbr9) macOn, by decide +kernel⟩,
   ⟨0, 0, 6, macOn, by decide +kernel⟩,
   ⟨0, .session 0, 9, (ownerOf live 9 * 8192 + 6), entryIn (ownerOf live 9 * 8192 + 6), by decide +kernel⟩,
   ⟨0, .session 0, 9, macOn, by decide +kernel⟩,
   ⟨0, .session 0, 9, (ownerOf live 9 * 8192 + 6), entryIn (ownerOf live 9 * 8192 + 6), by decide +kernel⟩,
   ⟨0, .session 0, 9, (ownerOf live 9 * 8192 + 6), entryIn (ownerOf live 9 * 8192 + 6), by decide +kernel⟩,
   ⟨0, .session 0, 9, macOn, by decide +kernel⟩⟩

/-- `MacSends`: the premises of each clause hold together. -/
theorem met_MacSends :
    (∃ t w a b σ, At (.sendRequestTake t w) (fun s => s.mac.replies.find? (fun r => r.1 == w) = none ∧ regF s
      (macSqPtr w) 31 0 ≠ regF s (macSqPtr w) 63 32 ∧ a = regF s (macSqCfg w) 63 12 * 4096 + regF s (macSqPtr w) 63 32
      % 2 ^ ringLog2 (regF s (macSqCfg w) 4 0) 4 16 4 * 32 ∧ b = dramRead s a 32 ∧ portBusy s (destPort s w (leAt b 0
      8)) = false ∧ requestBad s w b = true) σ) ∧
    (∃ t w a b k σ, At (.sendRequestTake t w) (fun s => s.mac.replies.find? (fun r => r.1 == w) = none ∧ regF s
      (macSqPtr w) 31 0 ≠ regF s (macSqPtr w) 63 32 ∧ a = regF s (macSqCfg w) 63 12 * 4096 + regF s (macSqPtr w) 63 32
      % 2 ^ ringLog2 (regF s (macSqCfg w) 4 0) 4 16 4 * 32 ∧ b = dramRead s a 32 ∧ portBusy s (destPort s w (leAt b 0
      8)) = false ∧ requestBad s w b = false ∧ leaseJudge s (destGroup s (leAt b 0 8)) = 0 ∧ nbrFind s w (leAt b 0 8)
      = some k ∧ 0 < activeKey s ∧ jobGet s (nbrGet s k).port = none ∧ (bit (leAt b 18 1) 1 && bit (nbrGet s k).flags
      4) = false) σ) ∧
    (∃ t w r σ, At (.sendRequestTake t w) (fun s => s.mac.replies.find? (fun r => r.1 == w) = some r ∧ portBusy s
      (destPort s w (leAt (entryOf s r.2) 8 8)) = false) σ) ∧
    (∃ t pn j σ, At (.csmaBackoffEnd t pn) (fun s => jobGet s pn = some j ∧ j.phase = 0 ∧ (s.clk.now - j.start) %
      j.unit = 0 ∧ (s.clk.now - j.start) / j.unit < 2 ^ j.be) σ) ∧
    (∃ t pn j pwr pre σ, At (.ccaEnd t pn pwr pre) (fun s => jobGet s pn = some j ∧ j.phase = 1 ∧ j.start + symbols
      j.mode 8 ≤ s.clk.now ∧ j.nb + 1 ≤ obj s 0x04004002 ∧ (pre = true ∨ sgn 64 (obj s 0x04004100) ≤ pwr)) σ) ∧
    (∃ t pn j pwr pre σ, At (.ccaEnd t pn pwr pre) (fun s => jobGet s pn = some j ∧ j.phase = 1 ∧ j.start + symbols
      j.mode 8 ≤ s.clk.now ∧ obj s 0x04004002 < j.nb + 1 ∧ (pre = true ∨ sgn 64 (obj s 0x04004100) ≤ pwr)) σ) ∧
    (∃ t pn j pwr σ, At (.ccaEnd t pn pwr false) (fun s => jobGet s pn = some j ∧ j.phase = 1 ∧ j.start + symbols
      j.mode 8 ≤ s.clk.now ∧ pwr < sgn 64 (obj s 0x04004100) ∧ 0 < j.level ∧ 0 < activeKey s ∧ windowBlocks s pn
      (spanAt s pn 4 0 0 (s.clk.now + 1000) j.air j.bin false 1) = false) σ) ∧
    (∃ t pn j pwr σ, At (.ccaEnd t pn pwr false) (fun s => jobGet s pn = some j ∧ j.phase = 1 ∧ j.start + symbols
      j.mode 8 ≤ s.clk.now ∧ pwr < sgn 64 (obj s 0x04004100) ∧ 0 < j.level ∧ activeKey s = 0 ∧ j.kind = 0 ∧
      windowBlocks s pn (spanAt s pn 4 0 0 (s.clk.now + 1000) j.air j.bin false 1) = false) σ) ∧
    (∃ t pn j pwr σ, At (.ccaEnd t pn pwr false) (fun s => jobGet s pn = some j ∧ j.phase = 1 ∧ j.start + symbols
      j.mode 8 ≤ s.clk.now ∧ pwr < sgn 64 (obj s 0x04004100) ∧ windowBlocks s pn (spanAt s pn 4 0 0 (if j.level = 0
      then s.clk.now else s.clk.now + 1000) j.air j.bin false 1) = true) σ) ∧
    (∃ t pn j pwr σ, j.level = 0 ∧ At (.ccaEnd t pn pwr false) (fun s => jobGet s pn = some j ∧ j.phase = 1 ∧ j.start
      + symbols j.mode 8 ≤ s.clk.now ∧ pwr < sgn 64 (obj s 0x04004100) ∧ windowBlocks s pn (spanAt s pn 4 0 0
      s.clk.now j.air j.bin false 1) = false ∧ airEn s pn = true ∧ (portGet s pn).txen = false ∧ (portGet s pn).cur =
      none ∧ fits s pn (spanAt s pn 4 0 0 s.clk.now j.air j.bin false 1) true = true) σ) ∧
    (∃ t w p j σ, p < 2 ∧ At (.txDescriptorPost t w p macDesc) (fun s => jobGet s (2 * w + p) = some j ∧ j.phase = 5 ∧
      j.ctr.isSome = true ∧ j.start = s.clk.now ∧ airEn s (2 * w + p) = true ∧ (portGet s (2 * w + p)).txen = false ∧
      (portGet s (2 * w + p)).cur = none ∧ fits s (2 * w + p) (spanAt s (2 * w + p) 4 0 0 s.clk.now j.air j.bin false
      1) true = true) σ) ∧
    (∃ t w p c j σ, p < 2 ∧ At (.transmissionEnd t w p) (fun s => (portGet s (2 * w + p)).cur = some c ∧ (portGet s (2
      * w + p)).ended = false ∧ c.last ≤ s.clk.now ∧ c.rank = 4 ∧ c.kind ≠ 0 ∧ jobGet s (2 * w + p) = some j ∧ j.phase
      = 2 ∧ j.kind ≤ 1 ∧ bit j.flags 0 = true) σ) ∧
    (∃ t pn j σ, j.csl = false ∧ At (.ackWaitTimeout t pn) (fun s => jobGet s pn = some j ∧ j.phase = 3 ∧ j.winEnd ≤
      s.clk.now ∧ windowHeld s pn j.start j.winEnd = false ∧ j.tries < j.limit) σ) ∧
    (∃ t pn j σ, j.csl = true ∧ At (.ackWaitTimeout t pn) (fun s => jobGet s pn = some j ∧ j.phase = 3 ∧ j.winEnd ≤
      s.clk.now ∧ windowHeld s pn j.start j.winEnd = false) σ) ∧
    (∃ t pn j σ, At (.ackWaitTimeout t pn) (fun s => jobGet s pn = some j ∧ j.phase = 3 ∧ j.winEnd ≤ s.clk.now ∧
      windowHeld s pn j.start j.winEnd = false ∧ j.limit ≤ j.tries) σ) ∧
    (∃ t σ, At (.enhancedBeaconInterval t) (fun s => 0 < obj s 0x04007000 ∧ s.mac.ebNext.all (fun n => decide (n ≤
      s.clk.now)) = true) σ) :=
  ⟨⟨0, 0, 0x3000, List.replicate 32 0, regPutF (macSqPtr 0) 31 0 1 (regPutF (macSqCfg 0) 63 12 3 macOn),
     by decide +kernel⟩,
   ⟨0, ownerOf live 9, 0x3000, sqReq, (ownerOf live 9 * 8192 + 6), sqRing, by decide +kernel⟩,
   ⟨0, 0, (0, 16), withMac (fun m => { m with replies := [(0, 16)] }) book, by decide +kernel⟩,
   ⟨0, 1, job0, working job0, by decide +kernel⟩,
   ⟨0, 1, { job0 with phase := 1 }, (-90), true, objPut 0x04004002 4 (objPut 0x04004001 5 (working
     { job0 with phase := 1 })), by decide +kernel⟩,
   ⟨0, 1, { job0 with phase := 1, nb := 9 }, (-90), true, objPut 0x04004002 4 (working
     { job0 with phase := 1, nb := 9 }), by decide +kernel⟩,
   ⟨0, 1, { job0 with phase := 1 }, (-128), working { job0 with phase := 1 }, by decide +kernel⟩,
   ⟨0, 1, { job0 with phase := 1 }, (-128), objPut 0x04002105 1 (working { job0 with phase := 1 }), by decide +kernel⟩,
   ⟨0, 1, { job0 with phase := 1 }, (-128), withMac (fun m => { m with window := some (0, 10000000000), bport := 1 })
     (working { job0 with phase := 1 }), by decide +kernel⟩,
   ⟨0, 1, ({ job0 with phase := 1, level := 0 } : Job), (-128), regPutF (airCfg 0 1) 0 0 1 (working
     { job0 with phase := 1, level := 0 }), by decide +kernel⟩,
   ⟨0, 0, 1, { job0 with phase := 5, ctr := some 7, start := 1000000000000 }, regPutF (airCfg 0 1) 0 0 1 (working
     { job0 with phase := 5, ctr := some 7, start := 1000000000000 }), by decide +kernel⟩,
   ⟨0, 0, 1, { span4 with kind := 1 }, { job0 with phase := 2 }, portSet 1
     { portDefault with txen := true, cur := some { span4 with kind := 1 } } (working { job0 with phase := 2 }),
     by decide +kernel⟩,
   ⟨0, 1, ({ job0 with phase := 3 } : Job), working { job0 with phase := 3 }, by decide +kernel⟩,
   ⟨0, 1, ({ job0 with phase := 3, csl := true } : Job), nbrSet 6 nbr9 (working
     { job0 with phase := 3, csl := true }), by decide +kernel⟩,
   ⟨0, 1, ({ job0 with phase := 3, tries := 3 } : Job), working { job0 with phase := 3, tries := 3 },
     by decide +kernel⟩,
   ⟨0, withMac (fun m => { m with ebNext := some 999999000000 }) (objPut 0x04007100 5 (objPut 0x04007000 1000 macOn)),
     by decide +kernel⟩⟩

/-- `ParentIsFollowed`: the premises of each clause hold together. -/
theorem met_ParentIsFollowed :
    (∃ t a b σ, At (.parentWindowClose t) (fun s => s.mac.window = some (a, b) ∧ notBeforeW 64 (ptimeNs s) b = true ∧
      s.mac.misses < 2 ∧ s.mac.parent < 256 ∧ LogRoom s 0 1) σ) ∧
    (∃ t a b σ, At (.parentWindowClose t) (fun s => s.mac.window = some (a, b) ∧ notBeforeW 64 (ptimeNs s) b = true ∧
      2 ≤ s.mac.misses ∧ s.mac.parent < 256 ∧ LogRoom s 0 1) σ) ∧
    (∃ t e p σ, p < 4 ∧ At (.scanEnd t) (fun s => s.mac.scan = some e ∧ e ≤ s.clk.now ∧ bit s.mac.heard p = true ∧
      LogRoom s 0 1 ∧ ((p ≠ s.mac.lostP ∧ ∀ q, q < p → bit s.mac.heard q = false ∨ q = s.mac.lostP) ∨ (p = s.mac.lostP
      ∧ ∀ q, q < 4 → q ≠ p → bit s.mac.heard q = false))) σ) ∧
    (∃ t e σ, At (.scanEnd t) (fun s => s.mac.scan = some e ∧ e ≤ s.clk.now ∧ (∀ q, q < 4 → bit s.mac.heard q = false)
      ∧ LogRoom s 0 1) σ) ∧
    (∃ t via p σ, p < 4 ∧ At (.takeParent t via p) (fun s => reaches s via 0x04006600 = true ∧ obj s (0x04006000 + p)
      ≠ 0 ∧ LogRoom s 0 1) σ) ∧
    (∃ t via p σ, At (.takeParent t via p) (fun s => reaches s via 0x04006600 = true ∧ (4 ≤ p ∨ obj s (0x04006000 + p)
      = 0)) σ) :=
  ⟨⟨0, 0, 0, withMac (fun m => { m with window := some (0, 0), parent := 1 }) locked, by decide +kernel⟩,
   ⟨0, 0, 0, withMac (fun m => { m with window := some (0, 0), parent := 1, misses := 2 }) locked, by decide +kernel⟩,
   ⟨0, 5, 1, withMac (fun m => { m with scan := some 5, heard := 7, lostP := 0 }) locked, by decide +kernel⟩,
   ⟨0, 5, withMac (fun m => { m with scan := some 5, heard := 0, lostP := 0 }) locked, by decide +kernel⟩,
   ⟨0, .session 0, 1, objPut 0x04006001 99 macOn, by decide +kernel⟩,
   ⟨0, .session 0, 1, macOn, by decide +kernel⟩⟩

/-- `TownCrierFloods`: the premises of each clause hold together. -/
theorem met_TownCrierFloods :
    (∃ t via r σ, At (.floodRequest t via r) (fun s => reaches s via 0x04010000 = true ∧ s.power.fail = none ∧
      r.length = 24 + beAt r 22 2 ∧ 0 < beAt r 22 2 ∧ beAt r 22 2 + 30 + micLen (txLevel s 0) + 4 ≤ 2047 ∧ floodRange
      s r = true ∧ isSeen s 0 (obj s 0x04000200) (beAt r 8 4) = false ∧ leaseJudge s (beAt r 0 8) = 0 ∧
      s.mac.floods.length < 256) σ) ∧
    (∃ t via r st σ, At (.floodRequest t via r) (fun s => reaches s via 0x04010000 = true ∧ s.power.fail = none ∧
      (((r.length ≠ 24 + beAt r 22 2 ∨ beAt r 22 2 = 0 ∨ 2047 < beAt r 22 2 + 30 + micLen (txLevel s 0) + 4) ∧ st =
      stLENGTH) ∨ (r.length = 24 + beAt r 22 2 ∧ 0 < beAt r 22 2 ∧ beAt r 22 2 + 30 + micLen (txLevel s 0) + 4 ≤ 2047
      ∧ ((floodRange s r = false ∧ st = stRANGE) ∨ (floodRange s r = true ∧ isSeen s 0 (obj s 0x04000200) (beAt r 8 4)
      = true ∧ st = stDUPLICATE_ID) ∨ (floodRange s r = true ∧ isSeen s 0 (obj s 0x04000200) (beAt r 8 4) = false ∧
      ((leaseJudge s (beAt r 0 8) ≠ 0 ∧ st = stLEASE) ∨ (leaseJudge s (beAt r 0 8) = 0 ∧ 256 ≤ s.mac.floods.length ∧
      st = stBUSY))))))) σ) ∧
    (∃ t via r σ, At (.floodRequest t via r) (fun s => reaches s via 0x04010000 = true ∧ s.power.fail.isSome = true)
      σ) ∧
    (∃ t x σ, At (.floodAtWing0 t) (fun s => s.mac.accept.find? (fun y => decide (y.2.2 ≤ s.clk.now)) = some x ∧
      isSeen s 0 x.1.origin x.1.ident = true) σ) ∧
    (∃ t x σ, At (.floodAtWing0 t) (fun s => s.mac.accept.find? (fun y => decide (y.2.2 ≤ s.clk.now)) = some x ∧
      isSeen s 0 x.1.origin x.1.ident = false) σ) ∧
    (∃ t f σ, At (.relayHoldEnd t) (fun s => s.mac.relays.find? (fun y => decide (y.since ≤ s.clk.now)) = some f ∧
      (activeKey s = 0 ∨ s.mac.scan.isSome = true)) σ) ∧
    (∃ t f σ, At (.relayHoldEnd t) (fun s => s.mac.relays.find? (fun y => decide (y.since ≤ s.clk.now)) = some f ∧ 0 <
      activeKey s ∧ s.mac.scan = none) σ) ∧
    (∃ t i f σ, At (.floodRepetition t i) (fun s => s.mac.floods[i]? = some f ∧ f.nextRep < f.reps ∧ f.since +
      f.nextRep * f.gap * 1000000 ≤ s.clk.now) σ) ∧
    (∃ t i f σ, At (.floodExpired t i) (fun s => s.mac.floods[i]? = some f ∧ f.since + obj s 0x04010100 * 1000000000 ≤
      s.clk.now) σ) ∧
    (∃ t w σ, At (.seenCacheExpiry t w) (fun _ => True) σ) :=
  ⟨⟨0, .session 0, floodReq, objPut 0x04000200 3 leased, by decide +kernel⟩,
   ⟨0, .session 0, floodReq, stDUPLICATE_ID, withMac (fun m =>
     { m with seen := [(0, [{ origin := 3, ident := 77, at_ := 1000000000000 }])] }) (objPut 0x04000200 3 (objPut
     0x04009000 100 leased)), by decide +kernel⟩,
   ⟨0, .session 0, floodReq, { leased with power := { leased.power with fail := some 5 } }, by decide +kernel⟩,
   ⟨0, (flood0, (3 : Nat), (7 : Nat)), withMac (fun m =>
     { m with accept := [(flood0, 3, 7)], seen := [(0, [{ origin := 0, ident := 77, at_ := 1000000000000 }])] })
     (objPut 0x04009000 100 leased), by decide +kernel⟩,
   ⟨0, (flood0, (3 : Nat), (7 : Nat)), withMac (fun m => { m with accept := [(flood0, 3, 7)] }) leased,
     by decide +kernel⟩,
   ⟨0, flood0, withMac (fun m => { m with relays := [flood0] }) leased, by decide +kernel⟩,
   ⟨0, flood0, withMac (fun m => { m with relays := [flood0] }) (objPut 0x04009300 5 macOn), by decide +kernel⟩,
   ⟨0, 0, flood0, withMac (fun m => { m with floods := [flood0] }) macOn, by decide +kernel⟩,
   ⟨0, 0, { flood0 with since := 0 }, withMac (fun m => { m with floods := [{ flood0 with since := 0 }] }) macOn,
     by decide +kernel⟩,
   ⟨0, 0, withMac (fun m =>
     { m with seen := [(0, [{ origin := 3, ident := 77, at_ := 0 }]), (1, [{ origin := 3, ident := 77, at_ := 0 }])] })
     locked, by decide +kernel⟩⟩

/-- `EndpointOperations`: the premises of each clause hold together. -/
theorem met_EndpointOperations :
    (∃ t n r p i σ, r.length = 204 ∧ At (.provision t (.session n) r) (fun s => reaches s (.session n) 0x05010000 =
      true ∧ provRange r = true ∧ (beAt r 0 4 = 0xFFFFFFFF ∧ freeIndex s 1048576 0 = some i ∨ beAt r 0 4 = i ∧ i <
      1048576 ∧ provisioned s i = false ∧ admissible s i = true) ∧ dirOf s (beAt r 4 8) = 0xFFFFFFFF ∧ atGive s
      (ownerOf s (beAt r 4 8)) (beAt r 4 8) = some p ∧ (p + 32 ≤ dirSlot s i ∨ dirSlot s i + 384 ≤ p) ∧ regF s
      (logRingCfg (i % s.part.wings)) 5 5 = 0 ∧ LogRoom s (i % s.part.wings) 1) σ) ∧
    (∃ t n r st σ, At (.provision t (.session n) r) (fun s => reaches s (.session n) 0x05010000 = true ∧ st = (if
      r.length ≠ 204 then stLENGTH else if provRange r = false then stRANGE else if beAt r 0 4 ≠ 0xFFFFFFFF ∧
      provisioned s (beAt r 0 4) = true then stINDEX_USED else stADDRESS_USED) ∧ (st ≠ stADDRESS_USED ∨ dirOf s (beAt
      r 4 8) ≠ 0xFFFFFFFF)) σ) ∧
    (∃ t via r σ, r.length = 204 ∧ beAt r 0 4 < 1048576 ∧ At (.provision t via r) (fun s => reaches s via 0x05010000 =
      true ∧ provRange r = true ∧ provisioned s (beAt r 0 4) = false ∧ dirOf s (beAt r 4 8) = 0xFFFFFFFF ∧ admissible
      s (beAt r 0 4) = false ∧ LogRoom s (beAt r 0 4 % s.part.wings) 1) σ) ∧
    (∃ t via i k σ, AtFrom (opReady via i) (.deprovision t via i) (fun s => reaches s via 0x05010100 = true ∧
      provisioned s i = true ∧ inFlight s i = false ∧ gbFind s (i % s.part.wings) i = some k ∧ LogRoom s (i %
      s.part.wings) 1) σ) ∧
    (∃ t n i a p σ, AtFrom (opReady (.session n) i) (.deprovision t (.session n) i) (fun s => reaches s (.session n)
      0x05010100 = true ∧ provisioned s i = true ∧ inFlight s i = false ∧ a = leAt (entryOf s i) 8 8 ∧ atFind s
      (ownerOf s a) a = some p ∧ (p + 32 ≤ dirSlot s i ∨ dirSlot s i + 2048 ≤ p) ∧ regF s (logRingCfg (i %
      s.part.wings)) 5 5 = 0 ∧ LogRoom s (i % s.part.wings) 1) σ) ∧
    (∃ t via i σ, AtFrom (opReady via i) (.deprovision t via i) (fun s => viaOpen s via = true ∧ viaLevel s via ≠ 0 ∧
      provisioned s i = true ∧ inFlight s i = true) σ) ∧
    (∃ t via i k σ, AtFrom (opReady via i) (.suspend t via i) (fun s => reaches s via 0x05010100 = true ∧ provisioned
      s i = true ∧ inFlight s i = false ∧ gbFind s (i % s.part.wings) i = some k ∧ LogRoom s (i % s.part.wings) 1) σ) ∧
    (∃ t via i σ, AtFrom (opReady via i) (.suspend t via i) (fun s => viaOpen s via = true ∧ viaLevel s via ≠ 0 ∧
      provisioned s i = true ∧ inFlight s i = true) σ) ∧
    (∃ t via i k σ, AtFrom (opReady via i) (.resume t via i) (fun s => reaches s via 0x05010100 = true ∧ provisioned s
      i = true ∧ gbFind s (i % s.part.wings) i = some k ∧ LogRoom s (i % s.part.wings) 1) σ) ∧
    (∃ t via i k key σ, key.length = 32 ∧ AtFrom (opReady via i) (.setDed t via i key) (fun s => reaches s via
      0x05010100 = true ∧ provisioned s i = true ∧ gbFind s (i % s.part.wings) i = some k ∧ LogRoom s (i %
      s.part.wings) 1) σ) ∧
    (∃ t via i k σ, AtFrom (opReady via i) (.clearDed t via i) (fun s => reaches s via 0x05010100 = true ∧ provisioned
      s i = true ∧ gbFind s (i % s.part.wings) i = some k ∧ LogRoom s (i % s.part.wings) 1) σ) ∧
    (∃ t via i k keys σ, keys.length = 64 ∧ AtFrom (opReady via i) (.rekey t via i keys) (fun s => reaches s via
      0x05010100 = true ∧ provisioned s i = true ∧ gbFind s (i % s.part.wings) i = some k ∧ LogRoom s (i %
      s.part.wings) 1) σ) ∧
    (∃ t via i k σ, AtFrom (opReady via i) (.exportSession t via i) (fun s => reaches s via 0x05010100 = true ∧
      provisioned s i = true ∧ inFlight s i = false ∧ noPower s = false ∧ gbFind s (i % s.part.wings) i = some k ∧
      LogRoom s (i % s.part.wings) 2) σ) ∧
    (∃ t via i k sealed e σ, sealed.length = 304 ∧ beAt sealed 0 2 = 1 ∧ AtFrom (opReady via i) (.importSession t via
      i sealed true e) (fun s => reaches s via 0x05010100 = true ∧ provisioned s i = true ∧ gbFind s (i %
      s.part.wings) i = some k ∧ tabGet 0 s.lease.seen (beAt sealed 2 2) < beAt sealed 8 8 ∧ LogRoom s (i %
      s.part.wings) 2) σ) ∧
    (∃ t via i sealed ok e st σ, AtFrom (opReady via i) (.importSession t via i sealed ok e) (fun s => reaches s via
      0x05010100 = true ∧ provisioned s i = true ∧ st = (if sealed.length ≠ 304 ∨ beAt sealed 0 2 ≠ 1 then stLENGTH
      else if ok = false then stAUTH else stSTALE) ∧ (st ≠ stSTALE ∨ beAt sealed 8 8 ≤ tabGet 0 s.lease.seen (beAt
      sealed 2 2)) ∧ LogRoom s (i % s.part.wings) 1) σ) ∧
    (∃ t via i σ, AtFrom (opReady via i) (.lookUpEndpointByIndex t via i) (fun s => reaches s via 0x05010200 = true ∧
      provisioned s i = true) σ) :=
  ⟨⟨0, 0, prov16, ((atGive noBook (ownerOf noBook 9) 9).getD 0), 16, noBook, by decide +kernel⟩,
   ⟨0, 0, List.replicate 203 0, stLENGTH, noBook, by decide +kernel⟩,
   ⟨0, .session 0, prov16, { noBook with part := { wings := 8, dram := List.replicate 8 0 } }, by decide +kernel⟩,
   ⟨0, .session 0, 16, 3, withMac (fun m => { m with replies := [(0, 16), (1, 5)] }) book, by decide +kernel⟩,
   ⟨0, 0, 16, 9, ((atFind provided (ownerOf provided 9) 9).getD 0), provided, by decide +kernel⟩,
   ⟨0, .session 0, 16, withIng (fun x => { x with pipe := [in16] }) book, by decide +kernel⟩,
   ⟨0, .session 0, 16, 3, book, by decide +kernel⟩,
   ⟨0, .session 0, 16, withIng (fun x => { x with pipe := [in16] }) book, by decide +kernel⟩,
   ⟨0, .session 0, 16, 3, bookOf (ent16 17), by decide +kernel⟩,
   ⟨0, .session 0, 16, 3, List.replicate 32 7, book, by decide +kernel⟩,
   ⟨0, .session 0, 16, 3, book, by decide +kernel⟩,
   ⟨0, .session 0, 16, 3, List.replicate 64 7, book, by decide +kernel⟩,
   ⟨0, .session 0, 16, 3, book, by decide +kernel⟩,
   ⟨0, .session 0, 16, 3, toBe 2 1 ++ toBe 2 44 ++ toBe 4 0 ++ toBe 8 5 ++ List.replicate 288 0, ent16 5, book,
     by decide +kernel⟩,
   ⟨0, .session 0, 16, toBe 2 1 ++ toBe 2 44 ++ toBe 4 0 ++ toBe 8 0 ++ List.replicate 288 0, true, ent16 5, stSTALE,
     book, by decide +kernel⟩,
   ⟨0, .session 0, 16, book, by decide +kernel⟩⟩

/-- `GuestBookAccess`: the premises of each clause hold together. -/
theorem met_GuestBookAccess :
    (∃ t via i k σ, AtFrom (opReady via i) (.pinEndpoint t via i) (fun s => reaches s via 0x05010100 = true ∧
      provisioned s i = true ∧ gbFind s (i % s.part.wings) i = some k ∧ gbPins s (i % s.part.wings) < 16384 ∧ LogRoom
      s (i % s.part.wings) 1) σ) ∧
    (∃ t via i k σ, AtFrom (opReady via i) (.pinEndpoint t via i) (fun s => reaches s via 0x05010100 = true ∧
      provisioned s i = true ∧ gbFind s (i % s.part.wings) i = none ∧ leAt (entryOf s i) 0 4 = i ∧ tabGap 0 (ingGet s
      (i % s.part.wings)).gb = k ∧ k < 131072 ∧ gbPins s (i % s.part.wings) < 16384) σ) ∧
    (∃ t via i σ, AtFrom (opReady via i) (.pinEndpoint t via i) (fun s => reaches s via 0x05010100 = true ∧
      provisioned s i = true ∧ bit (entFlags (entryOf s i)) 1 = false ∧ 16384 ≤ gbPins s (i % s.part.wings)) σ) ∧
    (∃ t via i k σ, AtFrom (opReady via i) (.unpinEndpoint t via i) (fun s => reaches s via 0x05010100 = true ∧
      provisioned s i = true ∧ gbFind s (i % s.part.wings) i = some k ∧ LogRoom s (i % s.part.wings) 1) σ) ∧
    (∃ t w i σ, AtFrom (judgeAll w) (.gbRead t w i) (fun s => gbHomed s w i = true ∧ dramIn s w (regF s (ingGbDst w)
      63 6 * 64) 256 = true) σ) ∧
    (∃ t w i σ, AtFrom (judgeAll w) (.gbRead t w i) (fun s => gbHomed s w i = false) σ) ∧
    (∃ t w i k σ, At (.gbPin t w i) (fun s => gbHomed s w i = true ∧ gbFind s w i = some k ∧ gbPins s w < 16384) σ) ∧
    (∃ t w i σ, At (.gbPin t w i) (fun s => gbHomed s w i = false ∨ bit (entFlags (entryOf s i)) 1 = false ∧ 16384 ≤
      gbPins s w) σ) ∧
    (∃ t w i k σ, At (.gbUnpin t w i) (fun s => gbHomed s w i = true ∧ gbFind s w i = some k) σ) ∧
    (∃ t w i k e σ, AtFrom (judgeAll w) (.writeback t w i) (fun s => gbHomed s w i = true ∧ gbFind s w i = some k ∧
      entFlag 2 false (tabGet [] (ingGet s w).gb k) = e) σ) ∧
    (∃ t w i σ, AtFrom (judgeAll w) (.writeback t w i) (fun s => gbHomed s w i = true ∧ gbFind s w i = none) σ) ∧
    (∃ t w i k σ, AtFrom (judgeAll w) (.holdReply t w i) (fun s => gbHomed s w i = true ∧ gbFind s w i = some k ∧
      lastCommitted (entryOf s i) (regF s (ingGbArg w) 63 32) = true ∧ 0 < regF s (ingGbArg w) 10 0 ∧ regF s (ingGbArg
      w) 10 0 ≤ 1664) σ) ∧
    (∃ t w i σ, AtFrom (judgeAll w) (.holdReply t w i) (fun s => gbHomed s w i = true ∧ (lastCommitted (entryOf s i)
      (regF s (ingGbArg w) 63 32) = false ∨ regF s (ingGbArg w) 10 0 = 0 ∨ 1664 < regF s (ingGbArg w) 10 0)) σ) ∧
    (∃ t w k e σ, AtFrom (judgeAll w) (.flushGuestBook t w) (fun s => (ingGet s w).gb = [(k, entFlag 2 true e)] ∧ bit
      (entFlags (entFlag 2 true e)) 2 = true) σ) ∧
    (∃ t w σ, AtFrom (judgeAll w) (.flushGuestBook t w) (fun s => ∀ e ∈ (ingGet s w).gb, bit (entFlags e.2) 2 = false)
      σ) ∧
    (∃ t w σ, AtFrom (judgeAll w) (.directorySweep t w) (fun s => w < s.part.wings ∧ (ingGet s w).sweepAt + obj s
      0x05004000 * 60000000000 ≤ s.clk.now ∧ LogRoom s w 1) σ) :=
  ⟨⟨0, .session 0, 16, 3, book, by decide +kernel⟩,
   ⟨0, .session 0, 16, 0, dramWrite (dirSlot noBook 16) (ent16 1) noBook, by decide +kernel⟩,
   ⟨0, .session 0, 16, pinned, pinned_full⟩,
   ⟨0, .session 0, 16, 3, book, by decide +kernel⟩,
   ⟨0, 0, 16, regPutF (ingGbDst 0) 63 6 0x200 book, by decide +kernel⟩,
   ⟨0, 0, 17, book, by decide +kernel⟩,
   ⟨0, 0, 16, 3, book, by decide +kernel⟩,
   ⟨0, 0, 17, book, by decide +kernel⟩,
   ⟨0, 0, 16, 3, bookOf (ent16 3), by decide +kernel⟩,
   ⟨0, 0, 16, 3, entFlag 2 false (ent16 5), bookOf (ent16 5), by decide +kernel⟩,
   ⟨0, 0, 16, dramWrite (dirSlot noBook 16) (ent16 1) noBook, by decide +kernel⟩,
   ⟨0, 0, 16, 3, regPutF (ingGbArg 0) 63 32 5 (regPutF (ingGbArg 0) 10 0 40 (bookOf (putLe (ent16 1) 24 4 5))),
     by decide +kernel⟩,
   ⟨0, 0, 16, regPutF (ingGbArg 0) 63 32 6 (regPutF (ingGbArg 0) 10 0 40 (bookOf (putLe (ent16 1) 24 4 5))),
     by decide +kernel⟩,
   ⟨0, 0, 3, ent16 1, bookOf (ent16 5), by decide +kernel⟩,
   ⟨0, 0, book, by decide +kernel⟩,
   ⟨0, 0, book, by decide +kernel⟩⟩

/-- `CheckinPipeline`: the premises of each clause hold together. -/
theorem met_CheckinPipeline :
    (∃ t w o a b σ, At (.carriedFrame t w o) (fun s => regF s (ingXqPtr w) 31 0 ≠ regF s (ingXqPtr w) 63 32 ∧ (ingGet
      s w).xqAt ≠ s.clk.now + 1 ∧ a = regF s (ingXqCfg w) 63 12 * 4096 + regF s (ingXqPtr w) 63 32 % 2 ^ ringLog2
      (regF s (ingXqCfg w) 4 0) 4 16 4 * 32 ∧ b = dramRead s a 32 ∧ (carriedBad s w b = true ∨ provisioned s (leAt b
      12 4) = false)) σ) ∧
    (∃ t w o a b σ, At (.carriedFrame t w o) (fun s => regF s (ingXqPtr w) 31 0 ≠ regF s (ingXqPtr w) 63 32 ∧ (ingGet
      s w).xqAt ≠ s.clk.now + 1 ∧ a = regF s (ingXqCfg w) 63 12 * 4096 + regF s (ingXqPtr w) 63 32 % 2 ^ ringLog2
      (regF s (ingXqCfg w) 4 0) 4 16 4 * 32 ∧ b = dramRead s a 32 ∧ carriedBad s w b = false ∧ provisioned s (leAt b
      12 4) = true ∧ placeFree s w = false ∧ regF s (logRingCfg w) 5 5 = 0) σ) ∧
    (∃ t w o a b σ, At (.carriedFrame t w o) (fun s => regF s (ingXqPtr w) 31 0 ≠ regF s (ingXqPtr w) 63 32 ∧ (ingGet
      s w).xqAt ≠ s.clk.now + 1 ∧ a = regF s (ingXqCfg w) 63 12 * 4096 + regF s (ingXqPtr w) 63 32 % 2 ^ ringLog2
      (regF s (ingXqCfg w) 4 0) 4 16 4 * 32 ∧ b = dramRead s a 32 ∧ carriedBad s w b = false ∧ provisioned s (leAt b
      12 4) = true ∧ placeFree s w = true) σ) ∧
    (∃ t w x f rest σ, At (.admission t w) (fun s => x = ingNow s w ∧ x.queue = f :: rest ∧ noNewOps s = false ∧
      admitDue s x f = true ∧ fillQueue s x < 512 ∧ x.unrel.length + (reserved x).1 < 1048576 ∧ (f.apdu.dstPort = obj
      s 0x05002000 ∨ (x.unrel.filter (·.body.isSome)).length + (reserved x).2 < 65536)) σ) ∧
    (∃ t w x f rest σ, f.waited % 2 = 0 ∧ At (.admission t w) (fun s => x = ingNow s w ∧ x.queue = f :: rest ∧
      noNewOps s = false ∧ admitDue s x f = true ∧ fillQueue s x < 512 ∧ 1048576 ≤ x.unrel.length + (reserved x).1) σ) ∧
    (∃ t w x f rest σ, bit f.waited 1 = false ∧ At (.admission t w) (fun s => x = ingNow s w ∧ x.queue = f :: rest ∧
      noNewOps s = false ∧ admitDue s x f = true ∧ fillQueue s x < 512 ∧ x.unrel.length + (reserved x).1 < 1048576 ∧
      f.apdu.dstPort ≠ obj s 0x05002000 ∧ 65536 ≤ (x.unrel.filter (·.body.isSome)).length + (reserved x).2) σ) ∧
    (∃ t w e n σ, At (.batchClose t w) (fun s => (ingGet s w).open_ = some (e, n) ∧ e + 40000 ≤ s.clk.now) σ) ∧
    (∃ t w ok f fs c k σ, f.filled = false ∧ f.f = some c ∧ At (.fill t w ok) (fun s => (ingGet s w).pipe = f :: fs ∧
      c ≤ s.clk.now ∧ f.dir % s.part.wings = w ∧ gbFind s w f.dir = none ∧ tabGap 0 (ingGet s w).gb = k ∧ k < 131072 ∧
      leAt (entryOf s f.dir) 0 4 = f.dir ∧ LogRoom s w 1) σ) ∧
    (∃ t w f fs k v σ, f.sigIn = some v ∧ f.nat = none ∧ f.verdict ≠ 2 ∧ At (.signatureVerifyStart t w) (fun s =>
      (ingGet s w).pipe = f :: fs ∧ v ≤ s.clk.now ∧ (ingGet s w).units.findIdx? (fun u => decide (u ≤ s.clk.now)) =
      some k) σ) ∧
    (∃ t w f n c j k σ, f.judged = none ∧ f.nat = some n ∧ f.verdict = 1 ∧ bit (entFlags f.entry) 0 = true ∧ At
      (.checkinOutcome t w) (fun s => (ingGet s w).pipe = [f] ∧ j = checkinJudge s f ∧ c = judgeAt (ingGet s w) f n
      j.2 ∧ c ≤ s.clk.now ∧ s.clk.now < c + 600 ∧ f.dir % s.part.wings = w ∧ gbFind s w f.dir = some k ∧ frameKey
      (entryOf s f.dir) (f.apdu.tag == 0xDC) = frameKey f.entry (f.apdu.tag == 0xDC)) σ) ∧
    (∃ t w f o c σ, f.verdict ≠ 2 ∧ bit (entFlags f.entry) 0 = true ∧ f.judged = some (o, c) ∧ o < 35 ∧ AtFrom
      (judgeAll w) (.checkinOutcome t w) (fun s => (ingGet s w).pipe.find? (outcomeDue s) = some f ∧ (ingGet s w).ops
      = []) σ) ∧
    (∃ t w f o c k r σ, f.verdict ≠ 2 ∧ bit (entFlags f.entry) 0 = true ∧ f.judged = some (o, c) ∧ (o = 0 ∨ o = 3) ∧
      f.body = false ∧ AtFrom (judgeAll w) (.checkinOutcome t w) (fun s => (ingGet s w).pipe.find? (outcomeDue s) =
      some f ∧ (ingGet s w).ops = [] ∧ f.dir % s.part.wings = w ∧ gbFind s w f.dir = some k ∧ (entryOf s f.dir).length
      = 256 ∧ r = stagedRecord s f ((ingGet s w).seq + 1) (kindOf f o) (recFlags s f (kindOf f o) (decide (kindOf f o
      = 1) && notBeforeW 64 (leAt (entryOf s f.dir) 56 8) (recEnd s f))) (required (kindOf f o) (entFlags (entryOf s
      f.dir))) 0 0) σ) ∧
    (∃ t w f σ, f.verdict = 2 ∧ AtFrom (judgeAll w) (.checkinOutcome t w) (fun s => (ingGet s w).pipe.find?
      (outcomeDue s) = some f ∧ (ingGet s w).ops = []) σ) ∧
    (∃ t w f σ, f.verdict ≠ 2 ∧ bit (entFlags f.entry) 0 = false ∧ AtFrom (judgeAll w) (.checkinOutcome t w) (fun s =>
      (ingGet s w).pipe.find? (outcomeDue s) = some f ∧ (ingGet s w).ops = [] ∧ obj s 0x05006000 * 1000000000 ≥
      (ingGet s f.owner).tokens - obj s 0x05006000 * (s.clk.now - (ingGet s f.owner).tokAt) + 1000000000 ∧ ringFull s
      (ingLobPtr f.owner) 256 = false) σ) ∧
    (∃ t w f via k σ, f.verdict = 2 ∧ AtFrom (judgeAll w) (.checkinOutcome t w) (fun s => (ingGet s w).pipe = [f] ∧
      outcomeDue s f = true ∧ (ingGet s w).ops = [{ via := via, op := 2, dir := f.dir }] ∧ f.dir % s.part.wings = w ∧
      provisioned s f.dir = true ∧ gbFind s w f.dir = some k) σ) ∧
    (∃ t w v x σ, At (.stagingConfirm t w v) (fun s => w < s.part.wings ∧ (ingGet s w).unrel.find? (fun y => y.seq % 2
      ^ 60 == bits v.toNat 63 4) = some x) σ) ∧
    (∃ t w v σ, At (.stagingConfirm t w v) (fun s => w < s.part.wings ∧ (ingGet s w).unrel.find? (fun y => y.seq % 2 ^
      60 == bits v.toNat 63 4) = none) σ) :=
  ⟨⟨0, 0, opened0, 0x3000, List.replicate 32 0, xring, by decide +kernel⟩,
   ⟨0, 0, opened0, 0x3000, xdesc, dramWrite 0x3000 xdesc xring, by decide +kernel⟩,
   ⟨0, 0, opened0, 0x3000, xdesc, dramWrite 0x3000 xdesc (regPutF (ingCtl 0) 0 0 1 xring), by decide +kernel⟩,
   ⟨0, 0, ingNow (objPut 0x05002000 1 (withIng (fun x => { x with queue := [in16] }) book)) 0, in16, ([] : List
     InFrame), objPut 0x05002000 1 (withIng (fun x => { x with queue := [in16] }) book), by decide +kernel⟩,
   ⟨0, 0, ingNow stagingFull 0, in16, ([] : List InFrame), stagingFull, rfl, staging_full⟩,
   ⟨0, 0, ingNow bodiesFull 0, in16, ([] : List InFrame), bodiesFull, rfl, bodies_full⟩,
   ⟨0, 0, 5, 1, withIng (fun x => { x with open_ := some (5, 1), queue := [{ in16 with mode := some 1 }] }) book,
     by decide +kernel⟩,
   ⟨0, 0, true, ({ in16 with f := some 5 } : InFrame), ([] : List InFrame), 5, 0, withIng (fun x =>
     { x with gb := [], pipe := [{ in16 with f := some 5 }] }) (dramWrite (dirSlot book 16) (ent16 1) book),
     by decide +kernel⟩,
   ⟨0, 0, ({ in16 with sigIn := some 5 } : InFrame), ([] : List InFrame), 0, 5, withIng (fun x =>
     { x with pipe := [{ in16 with sigIn := some 5 }] }) book, by decide +kernel⟩,
   ⟨0, 0, ({ in16 with nat := some 1000000000100 } : InFrame), 1000000000100, 999999999500, checkinJudge (outcoming
     { in16 with nat := some 1000000000100 }) { in16 with nat := some 1000000000100 }, 3, outcoming
     { in16 with nat := some 1000000000100 }, by decide +kernel⟩,
   ⟨0, 0, judged16 1, (1 : Nat), true, outcoming (judged16 1), by decide +kernel⟩,
   ⟨0, 0, judged16 0, (0 : Nat), true, 3, staged0, outcoming (judged16 0), by decide +kernel⟩,
   ⟨0, 0, ({ in16 with verdict := 2 } : InFrame), outcoming { in16 with verdict := 2 }, by decide +kernel⟩,
   ⟨0, 0, ({ in16 with entry := ent16 0 } : InFrame), outcoming { in16 with entry := ent16 0 }, by decide +kernel⟩,
   ⟨0, 0, ({ in16 with verdict := 2 } : InFrame), .session 0, 3, withIng (fun x =>
     { x with ops := [{ via := .session 0, op := 2, dir := 16 }] }) (outcoming { in16 with verdict := 2 }),
     by decide +kernel⟩,
   ⟨0, 0, BitVec.ofNat 64 (5 * 16 + 3), ({ seq := 5, at_ := 0, req := 3, conf := 0, body := none } : Unrel), withIng
     (fun x => { x with unrel := [{ seq := 5, at_ := 0, req := 3, conf := 0, body := none }] }) book,
     by decide +kernel⟩,
   ⟨0, 0, BitVec.ofNat 64 (5 * 16 + 3), book, by decide +kernel⟩⟩

/-- `StrongroomLinks`: the premises of each clause hold together. -/
theorem met_StrongroomLinks :
    (∃ t k c σ, k < 2 ∧ At (.linkFrameReceive t k true c true) (fun s => srUp s k = true ∧ (srLink s k).rxS < c) σ) ∧
    (∃ t k c σ, k < 2 ∧ At (.linkFrameReceive t k false c true) (fun s => srUp s k = true ∧ (srLink s k).rxG < c) σ) ∧
    (∃ t k b c ok σ, k < 2 ∧ At (.linkFrameReceive t k b c ok) (fun s => srUp s k = true ∧ (ok = false ∨ c ≤ (if b
      then (srLink s k).rxS else (srLink s k).rxG)) ∧ LogRoom s k 2) σ) ∧
    (∃ t k b σ, k < 2 ∧ At (.linkIdle t k b) (fun s => srUp s k = true ∧ (if b then (srLink s k).sentS else (srLink s
      k).sentG) + 64 ≤ s.clk.now) σ) ∧
    (∃ t k σ, k < 2 ∧ At (.strongroomLinkDown t k) (fun s => srUp s k = true ∧ min (srLink s k).goodS (srLink s
      k).goodG + 512 ≤ s.clk.now ∧ LogRoom s k 1) σ) ∧
    (∃ t k a b σ, k < 2 ∧ At (.strongroomLinkTrained t k a b) (fun s => (srLink s k).training = true) σ) ∧
    (∃ t k σ, k < 2 ∧ At (.strongroomTrainingRetry t k) (fun s => (srLink s k).training = true ∧ (srLink s k).start +
      30000 ≤ s.clk.now) σ) ∧
    (∃ t c k σ, At (.carryingChange t) (fun s => s.sr.carryAt = some c ∧ c ≤ s.clk.now ∧ wantCarry s = some k ∧
      s.sr.carrying ≠ some k) σ) ∧
    (∃ t c σ, At (.carryingChange t) (fun s => s.sr.carryAt = some c ∧ c ≤ s.clk.now ∧ wantCarry s = none) σ) :=
  ⟨⟨0, 0, 9, linked, by decide +kernel⟩,
   ⟨0, 0, 9, linked, by decide +kernel⟩,
   ⟨0, 0, true, 9, false, linked, by decide +kernel⟩,
   ⟨0, 0, true, linked, by decide +kernel⟩,
   ⟨0, 0, srLinkSet 0 { linkUp with goodS := 5, goodG := 5 } linked, by decide +kernel⟩,
   ⟨0, 1, [1], [2], leased, by decide +kernel⟩,
   ⟨0, 1, leased, by decide +kernel⟩,
   ⟨0, 5, 0, withSr (fun r => { r with carryAt := some 5, carrying := none }) linked, by decide +kernel⟩,
   ⟨0, 5, withSr (fun r => { r with carryAt := some 5, links := [] }) leased, by decide +kernel⟩⟩

/-- `StrongroomGuardAndBook`: the premises of each clause hold together. -/
theorem met_StrongroomGuardAndBook :
    (∃ t rq off v g k σ, 0x2000000 ≤ off ∧ off < 0x2010000 ∧ off % 8 = 0 ∧ k = (off - 0x2000000) / 2048 ∧ k / 4 = rq ∧
      off % 2048 ≠ 0x7F8 ∧ At (.guardWrite t rq off v) (fun s => srReach s = some g ∧ (reqSlot s k).busy = false) σ) ∧
    (∃ t rq off g k σ, 0x2000000 ≤ off ∧ off < 0x2010000 ∧ k = (off - 0x2000000) / 2048 ∧ k / 4 = rq ∧ off % 2048 =
      0x7F8 ∧ At (.guardWrite t rq off 1) (fun s => srReach s = some g ∧ (reqSlot s k).busy = false ∧ headerOk s rq
      (padTo 2048 (reqSlot s k).words) = true ∧ laterW 64 (leAt (padTo 2048 (reqSlot s k).words) 0 8) (reqSlot s
      k).served = true) σ) ∧
    (∃ t rq off g k b r a σ, 0x2000000 ≤ off ∧ off < 0x2010000 ∧ k = (off - 0x2000000) / 2048 ∧ k / 4 = rq ∧ off %
      2048 = 0x7F8 ∧ k % 4 < 2 ∧ At (.guardWrite t rq off 1) (fun s => srReach s = some g ∧ (reqSlot s k).busy = false
      ∧ b = padTo 2048 (reqSlot s k).words ∧ (headerOk s rq b = false ∨ laterW 64 (leAt b 0 8) (reqSlot s k).served =
      false) ∧ r = (if headerOk s rq b = false then replyBytes (leAt b 0 8) 1 [] else if leAt b 0 8 = (reqSlot s
      k).served ∧ (reqSlot s k).reply ≠ [] then (reqSlot s k).reply else replyBytes (leAt b 0 8) 2 []) ∧ a = leAt
      (reqSlot s k).words 16 8 ∧ a % 64 = 0 ∧ dramIn s rq a r.length = true) σ) ∧
    (∃ t rq off v g σ, At (.guardWrite t rq off v) (fun s => srReach s = some g ∧ (off < 0x2000000 ∨ 0x2010000 ≤ off ∨
      off % 8 ≠ 0 ∨ (off - 0x2000000) / 2048 / 4 ≠ rq ∨ (reqSlot s ((off - 0x2000000) / 2048)).busy = true)) σ) ∧
    (∃ t rq off v σ, At (.guardWrite t rq off v) (fun s => srReach s = none) σ) ∧
    (∃ t rq off v g σ, mayRead off = true ∧ At (.guardRead t rq off true) (fun s => srReach s = some g ∧ windowWord
      (count (gateOf g) (tallySrg 0) (frameIn s)) off = some v) σ) ∧
    (∃ t rq off σ, mayRead off = true ∧ off < 0x2000000 ∧ At (.guardRead t rq off false) (fun s => (srReach s).isSome
      = true) σ) ∧
    (∃ t rq off ok σ, mayRead off = false ∧ At (.guardRead t rq off ok) (fun s => (srReach s).isSome = true) σ) ∧
    (∃ t rq off ok σ, At (.guardRead t rq off ok) (fun s => srReach s = none) σ) ∧
    (∃ t w k g b σ, w < 8 ∧ k < 4 ∧ At (.requestResubmit t w k) (fun s => w < s.part.wings ∧ srReach s = some g ∧ b =
      padTo 2048 (reqSlot s (4 * w + k)).words ∧ (reqSlot s (4 * w + k)).busy = false ∧ headerOk s w b = true ∧ laterW
      64 (leAt b 0 8) (reqSlot s (4 * w + k)).served = true) σ) ∧
    (∃ t w k σ, k < 4 ∧ At (.requestResubmit t w k) (fun s => w < s.part.wings ∧ srReach s = none) σ) ∧
    (∃ t w seq b g σ, b.length = 32 ∧ At (.logAppend t w seq b) (fun s => w < s.part.wings ∧ srReach s = some g ∧
      mramLater s w (seq % 4294967296) = true) σ) ∧
    (∃ t w seq b g σ, At (.logAppend t w seq b) (fun s => w < s.part.wings ∧ w ≠ 8 ∧ srReach s = some g ∧ (b.length ≠
      32 ∨ mramLater s w (seq % 4294967296) = false)) σ) ∧
    (∃ t c cs σ, c.records = [] ∧ At (.commit t) (fun s => s.sr.journal = c :: cs ∧ commitEnd s c ≤ s.clk.now) σ) ∧
    (∃ t c cs r σ, c.records = [r] ∧ At (.commit t) (fun s => s.sr.journal = c :: cs ∧ commitEnd s c ≤ s.clk.now ∧
      s.sr.gap = none) σ) ∧
    (∃ t via n σ, At (.readTheRegisterBook t via n) (fun s => reaches s via 0x06005000 = true) σ) ∧
    (∃ t via n σ, At (.acknowledgeTheRegisterBook t via n) (fun s => reaches s via 0x06005200 = true ∧ notBeforeW 64 n
      s.sr.acked = true ∧ notBeforeW 64 (obj s 0x06005100) n = true ∧ noPower s = false) σ) ∧
    (∃ t via n σ, At (.acknowledgeTheRegisterBook t via n) (fun s => reaches s via 0x06005200 = true ∧ ((notBeforeW 64
      n s.sr.acked && notBeforeW 64 (obj s 0x06005100) n) = false ∨ noPower s = true)) σ) :=
  ⟨⟨0, 1, 0x2000000 + 2048*5 + 16, 77, 0, 5, leased, by decide +kernel⟩,
   ⟨0, 0, 0x2000000 + 2048*2 + 0x7F8, 0, 2, withSr (fun r =>
     { r with slots := [(2, { words := reqBody, served := 0, reply := [], busy := false })] }) leased,
     by decide +kernel⟩,
   ⟨0, 0, 0x2000000 + 2048 + 0x7F8, 0, 1, reqBody, replyBytes 3 2 [], 0x8000, withSr (fun r =>
     { r with slots := [(1, { words := reqBody, served := 9, reply := [], busy := false })] }) leased,
     by decide +kernel⟩,
   ⟨0, 0, 0x1000000, 77, 0, leased, by decide +kernel⟩,
   ⟨0, 3, 0x1000, 77, withSr (fun r => { r with links := [] }) leased, by decide +kernel⟩,
   ⟨0, 3, 0x2020000, srsStat leased, 0, leased, by decide +kernel⟩,
   ⟨0, 3, 0x200000, leased, by decide +kernel⟩,
   ⟨0, 3, 0x1000, true, leased, by decide +kernel⟩,
   ⟨0, 3, 0x1000, true, withSr (fun r => { r with links := [] }) leased, by decide +kernel⟩,
   ⟨0, 0, 2, 0, reqBody, withSr (fun r =>
     { r with slots := [(2, { words := reqBody, served := 0, reply := [], busy := false })] }) leased,
     by decide +kernel⟩,
   ⟨0, 0, 2, withSr (fun r =>
     { r with carrying := none, slots := [(2, { words := reqBody, served := 0, reply := [], busy := false })] })
     leased, by decide +kernel⟩,
   ⟨0, 1, 9, List.replicate 32 3, 0, leased, by decide +kernel⟩,
   ⟨0, 0, 0, List.replicate 32 0, 0, logged5, by decide +kernel⟩,
   ⟨0, commit0 [], ([] : List Commit), withSr (fun r => { r with journal := [commit0 []] }) leased, by decide +kernel⟩,
   ⟨0, commit0 [bookNew 0x0703 0 1 2 3], ([] : List Commit), bookNew 0x0703 0 1 2 3, withSr (fun r =>
     { r with journal := [commit0 [bookNew 0x0703 0 1 2 3]], book := [{ seq := 0, ltime := 0, code := 1, src := 0, flags := 0, p0 := 0, p1 := 0, p2 := 0, check := [] }] })
     leased, by decide +kernel⟩,
   ⟨0, .session 0, 0, withSr (fun r =>
     { r with book := [{ seq := 0, ltime := 0, code := 1, src := 0, flags := 0, p0 := 0, p1 := 0, p2 := 0, check := [] }] })
     leased, by decide +kernel⟩,
   ⟨0, .session 0, 3, objPut 0x06005100 3 leased, by decide +kernel⟩,
   ⟨0, .session 0, 4, objPut 0x06005100 3 leased, by decide +kernel⟩⟩

/-- `StrongroomMeasures`: the premises of each clause hold together. -/
theorem met_StrongroomMeasures :
    (∃ t wd ok σ, At (.strongroomReset t wd ok) (fun _ => True) σ) ∧
    (∃ t v b σ, v < 2900 ∧ At (.switchToVbak t v b) (fun s => s.sr.onVbak = false) σ) ∧
    (∃ t v b σ, At (.switchToVbak t v b) (fun s => s.sr.onVbak = true ∨ 2900 ≤ v) σ) ∧
    (∃ t v b σ, 3000 ≤ v ∧ At (.returnToVsr t v b) (fun s => s.sr.onVbak = true ∧ s.sr.lowAt + 10000000 ≤ s.clk.now)
      σ) ∧
    (∃ t v b σ, At (.returnToVsr t v b) (fun s => s.sr.onVbak = false ∨ v < 3000 ∨ s.clk.now < s.sr.lowAt + 10000000)
      σ) ∧
    (∃ t m f σ, f < 2 ∧ bit m f = true ∧ At (.metrologyRestart t m) (fun s => s.sr.metro = true ∧ s.sr.discard = 0 ∧
      (feedGet s f).running = false ∧ (refChan s f = none ∨ refCrossed s f (s.sr.c0 + 640 * 31250) = true)) σ) ∧
    (∃ t c σ, At (.metrologySample t c) (fun s => s.sr.metro = true ∧ s.sr.c0 ≤ s.clk.now ∧ (s.clk.now - s.sr.c0) %
      31250 = 0 ∧ s.sr.sample ≤ (s.clk.now - s.sr.c0) / 31250 ∧ 0 < s.sr.discard) σ) ∧
    (∃ t c σ, At (.metrologySample t c) (fun s => s.sr.metro = true ∧ s.sr.c0 ≤ s.clk.now ∧ (s.clk.now - s.sr.c0) %
      31250 = 0 ∧ s.sr.sample ≤ (s.clk.now - s.sr.c0) / 31250 ∧ s.sr.discard = 0 ∧ s.cap = none) σ) ∧
    (∃ t c σ, At (.metrologySample t c) (fun s => s.sr.metro = false ∨ s.clk.now < s.sr.c0 ∨ (s.clk.now - s.sr.c0) %
      31250 ≠ 0 ∨ (s.clk.now - s.sr.c0) / 31250 < s.sr.sample) σ) ∧
    (∃ t f x σ, f < 2 ∧ At (.metrologyCycleEnd t f) (fun s => s.sr.metro = true ∧ x = feedGet s f ∧ x.running = true ∧
      x.samples ≠ [] ∧ (if (refChan s f).isSome then refCrossed s f x.begun = true else windowLen s x.round ≤
      x.samples.length)) σ) ∧
    (∃ t f σ, At (.metrologyCycleEnd t f) (fun s => (refChan s f).isSome = true ∧ refCrossed s f (feedGet s f).begun =
      false) σ) ∧
    (∃ t k l c σ, k < 4 ∧ At (.tamperInputChange t k l c) (fun s => bit (obj s (0x06003700 + k)) 0 = true ∧ c + bits
      (obj s (0x06003700 + k)) 15 8 * 1000000 ≤ s.clk.now ∧ (l == bit (obj s (0x06003700 + k)) 1) ≠ (obj s (0x06004000
      + k) == 1)) σ) ∧
    (∃ t k l c σ, k < 4 ∧ At (.tamperInputChange t k l c) (fun s => bit (obj s (0x06003700 + k)) 0 = false ∨ s.clk.now
      < c + bits (obj s (0x06003700 + k)) 15 8 * 1000000) σ) ∧
    (∃ t via n v a d σ, d.acc ≠ .ro ∧ d.acc ≠ .exec ∧ d.lev = .legal ∧ d.ty ≠ .octets ∧ n ≠ 0x07004000 ∧ n ≠
      0x08002000 ∧ At (.legalSet t via n v a) (fun s => reaches s via n = true ∧ keeperTakes s via (n / 16777216 * 256
      + 1) = true ∧ (objLookup s.part.wings n).2 = some d ∧ widthOk d v = true ∧ objInRange d v = true ∧ legalRange n
      v s = true ∧ noPower s = false ∧ legalReason n a s = 0) σ) ∧
    (∃ t via n v a d σ, d.acc ≠ .ro ∧ d.acc ≠ .exec ∧ d.lev = .legal ∧ n ≠ 0x07004000 ∧ n ≠ 0x08002000 ∧ At (.legalSet
      t via n v a) (fun s => reaches s via n = true ∧ keeperTakes s via (n / 16777216 * 256 + 1) = true ∧ (objLookup
      s.part.wings n).2 = some d ∧ widthOk d v = true ∧ objInRange d v = true ∧ legalRange n v s = true ∧ (noPower s =
      true ∨ legalReason n a s ≠ 0)) σ) ∧
    (∃ t via v a d σ, d.acc = .exec ∧ d.lev = .legal ∧ At (.legalExec t via 0x07006200 v a) (fun s => reaches s via
      0x07006200 = true ∧ keeperTakes s via 0x0702 = true ∧ (objLookup s.part.wings 0x07006200).2 = some d ∧ widthOk d
      v = true ∧ noPower s = false ∧ legalReason 0x07006200 a s = 0) σ) :=
  ⟨⟨0, true, true, metered, by decide +kernel⟩,
   ⟨0, 2800, 3000, metered, by decide +kernel⟩,
   ⟨0, 3000, 3000, metered, by decide +kernel⟩,
   ⟨0, 3100, 2900, withSr (fun r => { r with onVbak := true }) metered, by decide +kernel⟩,
   ⟨0, 2950, 3000, metered, by decide +kernel⟩,
   ⟨0, 2, 1, metered, by decide +kernel⟩,
   ⟨0, ([1] : List Int), withSr (fun r => { r with discard := 7 }) metered, by decide +kernel⟩,
   ⟨0, List.replicate 16 (100 : Int), metered, by decide +kernel⟩,
   ⟨0, List.replicate 16 (100 : Int), withSr (fun r => { r with c0 := 5 }) metered, by decide +kernel⟩,
   ⟨0, 0, feedGet metered 0, metered, by decide +kernel⟩,
   ⟨0, 0, chanSet 0 { chanDefault with half := true, validAt := 1 } metered, by decide +kernel⟩,
   ⟨0, 2, true, 5, objPut 0x06003702 0x0303 metered, by decide +kernel⟩,
   ⟨0, 2, true, 999999999999, objPut 0x06003702 0x0303 metered, by decide +kernel⟩,
   ⟨0, .session 0, 0x07000100, toBe 2 7, auth0 0x07000100, ((objLookup 8 0x07000100).2.getD odef), leased,
     by decide +kernel⟩,
   ⟨0, .session 0, 0x07000100, toBe 2 7, auth0 0x07000101, ((objLookup 8 0x07000100).2.getD odef), leased,
     by decide +kernel⟩,
   ⟨0, .session 0, toBe 1 0, auth0 0x07006200, ((objLookup 8 0x07006200).2.getD odef), leased, by decide +kernel⟩⟩

/-- `BillingFollowsTheTick`: the premises of each clause hold together. -/
theorem met_BillingFollowsTheTick :
    (∃ t f q σ, f < 2 ∧ q < 6 ∧ At (.keeperTick t) (fun s => ltimeNs s / 1000000 ≠ s.sr.tick ∧ 1 ≤ rateNow s ∧ rateNow
      s ≤ 8) σ) ∧
    (∃ t σ, At (.disciplineComparison t) (fun s => ltimeNs s / 1000000000 ≠ s.bill.second ∧ ltimeDisciplined s = true
      ∧ s.bill.withheld = false ∧ (clockOffset s).natAbs ≤ obj s 0x07007300 * 1000000000) σ) ∧
    (∃ t f σ, At (.disciplineComparison t) (fun s => ltimeNs s / 1000000000 = s.bill.second + 1 ∧ ltimeDisciplined s =
      true ∧ s.bill.withheld = false ∧ obj s 0x07007300 * 1000000000 < (clockOffset s).natAbs ∧ s.bill.first = some f
      ∧ f - 10000000 ≤ clockOffset s ∧ clockOffset s ≤ f + 10000000) σ) ∧
    (∃ t σ, At (.disciplineComparison t) (fun s => ltimeNs s / 1000000000 ≠ s.bill.second ∧ ltimeDisciplined s = true
      ∧ s.bill.withheld = true) σ) ∧
    (∃ t σ, At (.disciplineComparison t) (fun s => ltimeNs s / 1000000000 ≠ s.bill.second ∧ ltimeDisciplined s = false
      ∧ s.bill.slewLeft = none) σ) ∧
    (∃ t r σ, At (.disciplineComparison t) (fun s => ltimeNs s / 1000000000 ≠ s.bill.second ∧ ltimeDisciplined s =
      false ∧ s.bill.slewLeft = some r) σ) ∧
    (∃ t e σ, AtFrom tickPost (.clockStep t) (fun s => stepDue s = some e) σ) ∧
    (∃ t via x a e σ, At (.setLtime t via x a) (fun s => reaches s via 0x07007700 = true ∧ keeperTakes s via 0x0702 =
      true ∧ noPower s = false ∧ legalReason 0x07007700 a s = 0 ∧ e = sgn 64 (x + 2 ^ 64 - ltimeNs s) ∧ obj s
      0x07007300 * 1000000000 < e.natAbs) σ) ∧
    (∃ t via x a e σ, At (.setLtime t via x a) (fun s => reaches s via 0x07007700 = true ∧ keeperTakes s via 0x0702 =
      true ∧ noPower s = false ∧ legalReason 0x07007700 a s = 0 ∧ e = sgn 64 (x + 2 ^ 64 - ltimeNs s) ∧ e.natAbs ≤ obj
      s 0x07007300 * 1000000000) σ) ∧
    (∃ t b σ, AtFrom (fun s => tickDemand (tickStep (tickPost s))) (.profileIntervalEnd t) (fun s => b = boundaryAt s
      900 (tickNow s) ∧ gridDue s s.bill.iStart b s.bill.iGrid = true) σ) ∧
    (∃ t b σ, AtFrom (fun s => tickStep (tickPost s)) (.demandSubperiodEnd t) (fun s => b = boundaryAt s ((demandCfg
      s).1 * 60 / (demandCfg s).2) (tickNow s) ∧ gridDue s s.bill.sStart b s.bill.sGrid = true) σ) ∧
    (∃ t f d r σ, f < 2 ∧ d < 2 ∧ r < 9 ∧ AtFrom (fun s => tickProfile (tickDemand (tickStep (tickPost s))))
      (.billingPeriodEnd t) (fun s => periodDue s (tickNow s) = true) σ) ∧
    (∃ t a σ, AtFrom (fun s => tickProfile (tickDemand (tickStep (tickPost s)))) (.billingPeriodEnd t) (fun s =>
      periodDue s (tickNow s) = false ∧ s.bill.endNow = some a ∧ later64 (tickNow s) a = true) σ) ∧
    (∃ t via a σ, At (.endTheBillingPeriodNow t via a) (fun s => reaches s via 0x07006200 = true ∧ keeperTakes s via
      0x0702 = true ∧ noPower s = false ∧ legalReason 0x07006200 a s = 0) σ) ∧
    (∃ t σ, At (.repeatGenerationReset t) (fun s => obj s 0x07007A00 ≠ 0 ∧ notBefore64 (tickNow s) (obj s 0x07007900)
      = true) σ) ∧
    (∃ t m σ, At (.minutePublish t) (fun s => m = tickNow s / 60000000000 ∧ m ≠ s.bill.minute) σ) :=
  ⟨⟨0, 0, 3, tick1, by decide +kernel⟩,
   ⟨0, leased, by decide +kernel⟩,
   ⟨0, (900000000000 : Int), withBill (fun b => { b with first := some 900000000000, second := 99 })
     { leased with clk := { leased.clk with ltime := 100000000000 * nsFine } }, by decide +kernel⟩,
   ⟨0, withBill (fun b => { b with withheld := true }) leased, by decide +kernel⟩,
   ⟨0, withSr (fun r => { r with onVbak := true }) leased, by decide +kernel⟩,
   ⟨0, (70000 : Int), withBill (fun b => { b with slewLeft := some 70000 }) (withSr (fun r =>
     { r with onVbak := true }) leased), by decide +kernel⟩,
   ⟨0, (5000000 : Int), withBill (fun b => { b with step := some (5000000, 7) }) leased, by decide +kernel⟩,
   ⟨0, .session 0, 3000000000000, auth0 0x07007700, (2000000000000 : Int), leased, by decide +kernel⟩,
   ⟨0, .session 0, 1000000000007, auth0 0x07007700, (7 : Int), leased, by decide +kernel⟩,
   ⟨0, 937000000000, leased, by decide +kernel⟩,
   ⟨0, 937000000000, objPut 0x07000400 (15 + 256) leased, by decide +kernel⟩,
   ⟨0, 1, 0, 3, objPut (maxNum 1 0 3) 99 leased, by decide +kernel⟩,
   ⟨0, 7, withBill (fun b => { b with endNow := some 7, tLast := 900000000000 }) leased, by decide +kernel⟩,
   ⟨0, .session 0, auth0 0x07006200, leased, by decide +kernel⟩,
   ⟨0, objPut 0x07007A00 1 leased, by decide +kernel⟩,
   ⟨0, 16, leased, by decide +kernel⟩⟩

/-- `TariffsAndBillingReads`: the premises of each clause hold together. -/
theorem met_TariffsAndBillingReads :
    (∃ t σ, AtFrom tickEnds (.taiUtcChange t) (fun s => obj s 0x07003300 ≠ 0 ∧ notBefore64 (tickNow s) (obj s
      0x07003300) = true) σ) ∧
    (∃ t σ, AtFrom (fun s => tickOffset (tickEnds s)) (.calendarActivation t) (fun s => oct s 0x07004200 ≠ [] ∧
      notBefore64 (tickNow s) (calFrom (oct s 0x07004200)) = true) σ) ∧
    (∃ t σ, AtFrom (fun s => tickCalendar (tickOffset (tickEnds s))) (.tariffSwitch t) (fun s => rateDue s ≠ rateNow s
      ∧ noPower s = false) σ) ∧
    (∃ t σ, AtFrom (fun s => tickCalendar (tickOffset (tickEnds s))) (.tariffSwitch t) (fun s => rateDue s = rateNow
      s) σ) ∧
    (∃ t via b a σ, At (.calendarImageWrite t via b a) (fun s => reaches s via 0x07004000 = true ∧ keeperTakes s via
      0x0701 = true ∧ firstFail (calendarChecks b) = none ∧ noPower s = false ∧ legalReason 0x07004000 a s = 0) σ) ∧
    (∃ t via b a σ, b.length ≠ 1448 ∧ At (.calendarImageWrite t via b a) (fun s => reaches s via 0x07004000 = true ∧
      keeperTakes s via 0x0701 = true) σ) ∧
    (∃ t via a σ, At (.withdrawThePassiveCalendar t via a) (fun s => reaches s via 0x07004400 = true ∧ keeperTakes s
      via 0x0702 = true ∧ noPower s = false ∧ legalReason 0x07004400 a s = 0) σ) ∧
    (∃ t σ, AtFrom tickRates (.powerFailCapture t) (fun s => s.bill.failDue = true ∧ noPower s = false) σ) ∧
    (∃ t n σ, At (.powerUpCapture t) (fun s => s.bill.upDue = some n ∧ s.bill.failDue = false ∧ noPower s = false) σ) ∧
    (∃ t via l σ, At (.rateAndPriceAtAnLtime t via l) (fun s => reaches s via 0x07005300 = true) σ) ∧
    (∃ t via n b σ, n < 24 ∧ At (.readSnapshotByAge t via n) (fun s => reaches s via 0x07006000 = true ∧
      s.bill.snaps[n]? = some b) σ) ∧
    (∃ t via n σ, At (.readSnapshotByAge t via n) (fun s => reaches s via 0x07006000 = true ∧ (24 ≤ n ∨
      s.bill.snaps[n]? = none)) σ) ∧
    (∃ t via n σ, At (.readProfileRecords t via n) (fun s => reaches s via 0x07008000 = true ∧ notBeforeW 64 (obj s
      0x07008100) n = true) σ) ∧
    (∃ t via f σ, f < 2 ∧ At (.consistentRegisterSet t via f) (fun s => reaches s via (0x07009000 + f) = true) σ) :=
  ⟨⟨0, objPut 0x07003200 38 (objPut 0x07003300 5 leased), by decide +kernel⟩,
   ⟨0, octPut 0x07004200 (List.replicate 1448 0) leased, by decide +kernel⟩,
   ⟨0, objPut 0x07005000 5 (octPut 0x07004100 special leased), by decide +kernel⟩,
   ⟨0, objPut 0x07005000 0 (octPut 0x07004100 special leased), by decide +kernel⟩,
   ⟨0, .session 0, calImg, auth0 0x07004000, leased, by
     refine ⟨?_, ?_, calImg_checks, ?_, ?_⟩ <;> decide +kernel⟩,
   ⟨0, .session 0, List.replicate 1447 1, auth0 0x07004000, leased, by decide +kernel⟩,
   ⟨0, .session 0, auth0 0x07004400, octPut 0x07004200 [1] leased, by decide +kernel⟩,
   ⟨0, withBill (fun b => { b with failDue := true }) leased, by decide +kernel⟩,
   ⟨0, 5, withBill (fun b => { b with upDue := some 5 }) leased, by decide +kernel⟩,
   ⟨0, .session 0, 5, leased, by decide +kernel⟩,
   ⟨0, .session 0, 1, [3], withBill (fun b => { b with snaps := [[2], [3]] }) leased, by decide +kernel⟩,
   ⟨0, .session 0, 24, withBill (fun b => { b with snaps := [[2], [3]] }) leased, by decide +kernel⟩,
   ⟨0, .session 0, 1, objPut 0x07008100 2 (withBill (fun b => { b with recs := [[2], [3]] }) leased),
     by decide +kernel⟩,
   ⟨0, .session 0, 1, leased, by decide +kernel⟩⟩

/-- `AccountsAndVouchers`: the premises of each clause hold together. -/
theorem met_AccountsAndVouchers :
    (∃ t w x xs σ, At (.chargeSend t w) (fun s => w < s.part.wings ∧ (chargeGet s w).sent = false ∧ (srReach s).isSome
      = true ∧ (chargeGet s w).retryAt = none ∧ (chargeWaiting s w).take 8 = x :: xs ∧ (xs.length = 7 ∨ x.at_ + 10000
      ≤ s.clk.now)) σ) ∧
    (∃ t w r σ, At (.chargeSend t w) (fun s => w < s.part.wings ∧ (chargeGet s w).sent = false ∧ (srReach s).isSome =
      true ∧ (chargeGet s w).retryAt = some r ∧ r ≤ s.clk.now) σ) ∧
    (∃ t w d ds σ, d.slot = 4 * w + 3 ∧ At (.charge t w) (fun s => (chargeGet s w).sent = true ∧ s.sr.doors = d :: ds
      ∧ d.at_ ≤ s.clk.now ∧ noPower s = true) σ) ∧
    (∃ t w d ds q r a j σ, d.slot = 4 * w + 3 ∧ At (.charge t w) (fun s => (chargeGet s w).sent = true ∧ s.sr.doors =
      d :: ds ∧ d.at_ ≤ s.clk.now ∧ noPower s = false ∧ (chargeGet s w).items = [q] ∧ chargeOf 8 ((reqSlot s (4 * w +
      3)).words.drop 32) = [r] ∧ leAt r 8 4 = a ∧ judgeItem s (accGet s a) r = (0, j)) σ) ∧
    (∃ t via v a σ, At (.voucher t via v true) (fun s => reaches s via 0x08020000 = true ∧ keeperTakes s via 0x0882 =
      true ∧ firstFail (voucherChecks v true s) = none ∧ noPower s = false ∧ a = beAt v 24 4) σ) ∧
    (∃ t via v ok st σ, At (.voucher t via v ok) (fun s => reaches s via 0x08020000 = true ∧ keeperTakes s via 0x0882
      = true ∧ firstFail (voucherChecks v ok s) = some st) σ) ∧
    (∃ t via r a σ, beAt r 0 1 = 1 ∧ At (.openAccount t via r a) (fun s => reaches s via 0x08010000 = true ∧
      keeperTakes s via 0x0886 = true ∧ firstFail (accountOpChecks r) = none ∧ noPower s = false ∧ legalReason
      0x08010000 a s = 0 ∧ accState (accGet s (beAt r 4 4)) = 0) σ) ∧
    (∃ t via r a σ, beAt r 0 1 = 2 ∧ At (.closeAccount t via r a) (fun s => reaches s via 0x08010000 = true ∧
      keeperTakes s via 0x0886 = true ∧ firstFail (accountOpChecks r) = none ∧ noPower s = false ∧ legalReason
      0x08010000 a s = 0 ∧ (accState (accGet s (beAt r 4 4)) = 1 ∨ accState (accGet s (beAt r 4 4)) = 3)) σ) ∧
    (∃ t via r a σ, beAt r 0 1 = 2 ∧ At (.closeAccount t via r a) (fun s => reaches s via 0x08010000 = true ∧
      keeperTakes s via 0x0886 = true ∧ firstFail (accountOpChecks r) = none ∧ noPower s = false ∧ legalReason
      0x08010000 a s = 0 ∧ accState (accGet s (beAt r 4 4)) = 0) σ) ∧
    (∃ t via r a σ, beAt r 0 1 = 3 ∧ At (.setPlan t via r a) (fun s => reaches s via 0x08010000 = true ∧ keeperTakes s
      via 0x0886 = true ∧ firstFail (accountOpChecks r) = none ∧ noPower s = false ∧ legalReason 0x08010000 a s = 0 ∧
      accState (accGet s (beAt r 4 4)) ≠ 0) σ) ∧
    (∃ t via a σ, a < 262144 ∧ At (.readAccount t via a) (fun s => reaches s via 0x08010100 = true ∧ keeperTakes s via
      0x0886 = true) σ) ∧
    (∃ t via b a σ, At (.friendlyHoursWrite t via b a) (fun s => reaches s via 0x08002000 = true ∧ keeperTakes s via
      0x0801 = true ∧ firstFail (friendlyChecks b) = none ∧ noPower s = false ∧ legalReason 0x08002000 a s = 0) σ) :=
  ⟨⟨0, 0, ({ seq := 5, at_ := 999999000000, req := 6, conf := 0, body := none } : Unrel), ([] : List Unrel), staging
     1, by decide +kernel⟩,
   ⟨0, 0, 5,
     { staging 1 with prepay := { (staging 1).prepay with charges := [(0, { items := [5], sent := false, retryAt := some 5, last := 5 })] } },
     by decide +kernel⟩,
   ⟨1000000100000, 0, chargeDoor, ([] : List Door), withSr (fun r => { r with onVbak := true }) charging,
     by decide +kernel⟩,
   ⟨1000000100000, 0, chargeDoor, ([] : List Door), 5, chargeBytes (staged16 1), 33, (judgeItem charging (accGet
     charging 33) (chargeBytes (staged16 1))).2, charging, by decide +kernel⟩,
   ⟨0, .session 0, voucher0, 33, opened 1000 16 0 1 leased, by decide +kernel⟩,
   ⟨0, .session 0, voucher0, false, stSIGNATURE, opened 1000 16 0 1 leased, by decide +kernel⟩,
   ⟨0, .session 0, accOp 1 2 3 40 16, auth0 0x08010000, leased, by decide +kernel⟩,
   ⟨0, .session 0, accOp 2 2 3 33 16, auth0 0x08010000, opened 1000 16 0 1 leased, by decide +kernel⟩,
   ⟨0, .session 0, accOp 2 2 3 33 16, auth0 0x08010000, leased, by decide +kernel⟩,
   ⟨0, .session 0, accOp 3 2 3 33 16, auth0 0x08010000, opened 1000 16 0 1 leased, by decide +kernel⟩,
   ⟨0, .session 0, 33, opened 1000 16 0 1 leased, by decide +kernel⟩,
   ⟨0, .session 0, friendly0, auth0 0x08002000, octPut 0x08002000 [1] leased, by decide +kernel⟩⟩

/-- `SupplyIsAuthorised`: the premises of each clause hold together. -/
theorem met_SupplyIsAuthorised :
    (∃ t n σ, At (.dueScan t n) (fun s => keeperFree 0 0x0885 s = true) σ) ∧
    (∃ t0 t w a x ok g c v σ, a < 262144 ∧ ((x = 1 ∨ x = 2)) ∧ At (.supplyAuth t0 t w a x ok) (fun s => w <
      s.part.wings ∧ keeperFree w 0x0883 s = true ∧ g = leAt (entryOf s (accDir (accGet s a))) 160 8 ∧ (groupGet s
      g).cur = some c ∧ (gate w g s).1 = true ∧ v = spanEnd c (groupGet s g).next ∧ noPower (supplyAt t w g s) = false
      ∧ firstFail (supplyChecks x (accGet (supplyAt t w g s) a) (leaseHolds g (ptimeNs s) ok c v (supplyAt t w g s))
      (supplyAt t w g s)) = none) σ) ∧
    (∃ t0 t w a x ok g c v st σ, a < 262144 ∧ ((x = 1 ∨ x = 2)) ∧ At (.supplyAuth t0 t w a x ok) (fun s => w <
      s.part.wings ∧ keeperFree w 0x0883 s = true ∧ g = leAt (entryOf s (accDir (accGet s a))) 160 8 ∧ (groupGet s
      g).cur = some c ∧ (gate w g s).1 = true ∧ v = spanEnd c (groupGet s g).next ∧ firstFail (supplyChecks x (accGet
      (supplyAt t w g s) a) (leaseHolds g (ptimeNs s) ok c v (supplyAt t w g s)) (supplyAt t w g s)) = some st) σ) ∧
    (∃ t w a n r σ, r ≤ 1 ∧ At (.supplyConfirm t w a n r) (fun s => keeperFree w 0x0884 s = true ∧ noPower s = false ∧
      tabGet orderDefault s.prepay.orders a ≠ orderDefault ∧ n % 4294967296 = leAt (accGet s a) 36 4 ∧ accState
      (accGet s a) ≠ 0) σ) ∧
    (∃ t w a n r σ, At (.supplyConfirm t w a n r) (fun s => 1 < r ∨ n % 4294967296 ≠ leAt (accGet s a) 36 4 ∨ accState
      (accGet s a) = 0 ∨ noPower s = true) σ) ∧
    (∃ t a σ, At (.authorisationLapse t a) (fun s => (accState (accGet s a) = 2 ∨ accState (accGet s a) = 4) ∧
      notBefore64 (tickNow s) (tabGet orderDefault s.prepay.orders a).till = true) σ) :=
  ⟨⟨0, 2, opened 1000 16 0 1 leased, by decide +kernel⟩,
   ⟨0, 0, 0, 33, 1, true, 5, lease5, 9000000000000000, supplying, by decide +kernel⟩,
   ⟨0, 0, 0, 33, 1, false, 5, lease5, 9000000000000000, 14, supplying, by decide +kernel⟩,
   ⟨0, 0, 33, 0, 0, withOrders [(33, { number := 0, till := 3, action := 1 })] (opened 1000 16 0 2 leased),
     by decide +kernel⟩,
   ⟨0, 0, 33, 0, 2, withOrders [(33, { number := 0, till := 3, action := 1 })] (opened 1000 16 0 2 leased),
     by decide +kernel⟩,
   ⟨0, 33, withOrders [(33, { number := 0, till := 3, action := 1 })] (opened 1000 16 0 2 leased), by decide +kernel⟩⟩

/-- `FoldsAndAssignments`: the premises of each clause hold together. -/
theorem met_FoldsAndAssignments :
    (∃ t w x b σ, At (.intervalFold t w) (fun s => foldNext s w 1 32 = some (x, b) ∧ auditOn s w = false) σ) ∧
    (∃ t w x b k l m σ, 0 < k ∧ k < 5 ∧ At (.intervalFold t w) (fun s => foldNext s w 1 32 = some (x, b) ∧ auditOn s w
      = true ∧ foldJudge s (stagedRec s w x.seq) (ptimeAt s b) = (k, l, m)) σ) ∧
    (∃ t w x b l m σ, At (.intervalFold t w) (fun s => foldNext s w 1 32 = some (x, b) ∧ auditOn s w = true ∧
      foldJudge s (stagedRec s w x.seq) (ptimeAt s b) = (0, l, m)) σ) ∧
    (∃ t w x b l m r a e c σ, At (.intervalFold t w) (fun s => foldNext s w 1 32 = some (x, b) ∧ auditOn s w = true ∧
      r = stagedRec s w x.seq ∧ foldJudge s r (ptimeAt s b) = (0, l, m) ∧ e = auditCeil s (leAt r 40 8 / 1000000000) ∧
      a = assignAt s (leAt r 8 4) e ∧ leAt a 1 1 < 3 ∧ leAt a 3 1 = 255 ∧ tabGet [] s.audit.ints w = [c] ∧ c.ends = e)
      σ) ∧
    (∃ t w x b σ, At (.voltageFold t w) (fun s => foldNext s w 2 64 = some (x, b) ∧ auditOn s w = true ∧ leAt
      (assignAt s (leAt (stagedRec s w x.seq) 8 4) (auditCeil s (leAt (stagedRec s w x.seq) 40 8 / 1000000000))) 0 1 ≠
      255) σ) ∧
    (∃ t w x b r p σ, At (.voltageFold t w) (fun s => foldNext s w 2 64 = some (x, b) ∧ auditOn s w = true ∧ r =
      stagedRec s w x.seq ∧ leAt (assignAt s (leAt r 8 4) (auditCeil s (leAt r 40 8 / 1000000000))) 0 1 ≠ 255 ∧ leAt r
      48 2 = 1 ∧ minuteJudge s w (leAt r 8 4) (leAt r 40 8 / 1000000000) (ptimeAt s b / 1000000000) = (6, p) ∧ (ingGet
      s w).unrel = [x] ∧ (p + 2 ≤ stgBase s w + x.seq % 1048576 * 128 + 15 ∨ stgBase s w + x.seq % 1048576 * 128 + 16
      ≤ p)) σ) ∧
    (∃ t w x b σ, At (.voltageFold t w) (fun s => foldNext s w 2 64 = some (x, b) ∧ auditOn s w = true ∧ leAt
      (assignAt s (leAt (stagedRec s w x.seq) 8 4) (auditCeil s (leAt (stagedRec s w x.seq) 40 8 / 1000000000))) 0 1 =
      255) σ) ∧
    (∃ t via r σ, r.length = 16 ∧ At (.assignEndpoint t via r) (fun s => reaches s via 0x09010000 = true ∧
      assignLimits s r = true ∧ provisioned s (beAt r 0 4) = true ∧ bit (entFlags (entryOf s (beAt r 0 4))) 6 = true ∧
      assignBusy s (beAt r 0 4) = false) σ) ∧
    (∃ t via r σ, r.length = 16 ∧ At (.assignEndpoint t via r) (fun s => reaches s via 0x09010000 = true ∧
      assignLimits s r = true ∧ provisioned s (beAt r 0 4) = true ∧ (bit (entFlags (entryOf s (beAt r 0 4))) 6 = false
      ∨ assignBusy s (beAt r 0 4) = true)) σ) ∧
    (∃ t i a b σ, At (.assignmentEffect t i) (fun s => (s.audit.pend.find? (fun e => e.1 == i)).map (·.2) = some (a,
      b) ∧ b ≤ ptimeSec s) σ) ∧
    (∃ t via g σ, g < 2 ∧ At (.commitThePendingSegmentTable t via g) (fun s => reaches s via (0x09001100 + g) = true ∧
      (segPending s g).all (segOk s g (segPending s g)) = true ∧ noPower s = false ∧ LogRoom s 0 1) σ) ∧
    (∃ t via g σ, g < 2 ∧ At (.commitThePendingSegmentTable t via g) (fun s => reaches s via (0x09001100 + g) = true ∧
      (segPending s g).all (segOk s g (segPending s g)) = false) σ) :=
  ⟨⟨0, 0, ({ seq := 5, at_ := 999999000000, req := 6, conf := 0, body := none } : Unrel), 999999000000, regPutF (naCtl
     0) 0 0 0 (auditing 1), by decide +kernel⟩,
   ⟨0, 0, ({ seq := 5, at_ := 999999000000, req := 6, conf := 0, body := none } : Unrel), 999999000000, 3, 0, 0,
     auditing 1, by decide +kernel⟩,
   ⟨0, 0, ({ seq := 5, at_ := 999999000000, req := 6, conf := 0, body := none } : Unrel), 999999000000, 900000000000,
     1, objPut 0x09002000 3600 (assigned 1), by decide +kernel⟩,
   ⟨0, 0, unrelA, 999999000000, 900000000000, 1, staged16 1, [0, 1, 0, 255, 0, 0], auditCeil folding 900, int5,
     foldingInt, by decide +kernel⟩,
   ⟨0, 0, ({ seq := 5, at_ := 999999000000, req := 6, conf := 0, body := none } : Unrel), 999999000000, assigned 2,
     by decide +kernel⟩,
   ⟨0, 0, unrelA, 999999000000, minuteRec, (minuteJudge minuteOf 0 16 100000 100999).2, minuteOf, by decide +kernel⟩,
   ⟨0, 0, ({ seq := 5, at_ := 999999000000, req := 6, conf := 0, body := none } : Unrel), 999999000000, auditing 2,
     by decide +kernel⟩,
   ⟨0, .session 0, toBe 4 16 ++ [1, 1, 0, 255, 0, 3] ++ List.replicate 6 0, withAudit (fun a =>
     { a with segs := [(4096 + 3, { parent := 0, res := [0, 0, 0] })] }) (regPutF (naEpCfg 0) 63 30 2 (bookOf (ent16
     65))), by decide +kernel⟩,
   ⟨0, .session 0, toBe 4 16 ++ [1, 1, 0, 255, 0, 3] ++ List.replicate 6 0, withAudit (fun a =>
     { a with pend := [(16, ([], 5))], segs := [(4096 + 3, { parent := 0, res := [0, 0, 0] })] }) (regPutF (naEpCfg 0)
     63 30 2 (bookOf (ent16 65))), by decide +kernel⟩,
   ⟨0, 16, [0, 1, 0, 255, 0, 0], 7, withAudit (fun a => { a with pend := [(16, ([0, 1, 0, 255, 0, 0], 7))] })
     (auditing 1), by decide +kernel⟩,
   ⟨0, .session 0, 1, noSegments, by
     refine ⟨?_, ?_, by rw [show Instr.cycle _ = 0 from rfl, at0, noSegments_pending]; rfl, ?_, ?_⟩
       <;> decide +kernel⟩,
   ⟨0, .session 0, 1, objPut (segObj 1 3 0) 5 (objPut (segObj 1 3 4) 1 leased), by decide +kernel⟩⟩

/-- `AuditJobsRun`: the premises of each clause hold together. -/
theorem met_AuditJobsRun :
    (∃ t σ, At (.auditJobReady t) (fun s => s.audit.next ≠ 0 ∧ s.audit.window ≠ 0 ∧ s.audit.next ≤ s.audit.window ∧
      s.audit.next + auditHold s ≤ ptimeSec s) σ) ∧
    (∃ t σ, At (.auditJobReady t) (fun s => s.audit.next ≠ 0 ∧ s.audit.window ≠ 0 ∧ s.audit.window < s.audit.next ∧
      s.audit.window + auditHold s ≤ ptimeSec s) σ) ∧
    (∃ t j js σ, j.kind = 1 ∧ At (.closeJobStart t) (fun s => s.audit.jobs = j :: js ∧ s.audit.close = none ∧ noIdent
      s = true ∧ quiet s = false ∧ auditLanes s ≠ 0 ∧ s.clk.now % 64 = 0) σ) ∧
    (∃ t r σ, At (.closeJobEnd t) (fun s => s.audit.close = some r ∧ r.done ≤ s.clk.now) σ) ∧
    (∃ t w j σ, At (.identificationJobStart t w) (fun s => identFirst w s.audit.jobs = some j ∧ s.audit.close = none ∧
      tabGet none s.audit.ident w = none ∧ quiet s = false ∧ auditLanes s ≠ 0 ∧ ptimeSec s < j.ends + 86400) σ) ∧
    (∃ t w r σ, At (.identificationJobEnd t w) (fun s => tabGet none s.audit.ident w = some r ∧ r.done ≤ s.clk.now) σ) ∧
    (∃ t w j σ, w < 8 ∧ At (.identificationSkipped t w) (fun s => s.audit.jobs.find? (fun x => x.kind == 3 && x.who ==
      w && decide (x.ends + 86400 ≤ ptimeSec s)) = some j ∧ LogRoom s w 1) σ) ∧
    (∃ t via i σ, i < 1048576 ∧ At (.readEndpointAuditState t via i) (fun s => reaches s via 0x09010100 = true ∧
      provisioned s i = true) σ) ∧
    (∃ t via n f σ, At (.readResults t via n) (fun s => reaches s via 0x09020000 = true ∧ obj s 0x09020100 ≠ 0 ∧ f =
      max n (if 65536 ≤ obj s 0x09020100 then obj s 0x09020100 - 65535 else 1) ∧ notBeforeW 64 (obj s 0x09020100) f =
      true) σ) ∧
    (∃ t via n σ, At (.readLocalisationRecords t via n) (fun s => reaches s via 0x09021000 = true) σ) :=
  ⟨⟨0, later 90000000000000 (withAudit (fun a => { a with next := 5, window := 7 }) (auditing 1)), by decide +kernel⟩,
   ⟨0, later 90000000000000 (withAudit (fun a => { a with next := 7, window := 5 }) (auditing 1)), by decide +kernel⟩,
   ⟨0, job1, [job3], withAudit (fun a => { a with jobs := [job1, job3] }) (auditing 1), by decide +kernel⟩,
   ⟨0, ({ job := job1, done := 5, segs := [] } : AuditRun), withAudit (fun a =>
     { a with close := some { job := job1, done := 5, segs := [] } }) (auditing 1), by decide +kernel⟩,
   ⟨0, 0, job3, withAudit (fun a => { a with jobs := [job3] }) (auditing 1), by decide +kernel⟩,
   ⟨0, 0, ({ job := job3, done := 5, segs := [] } : AuditRun), withAudit (fun a =>
     { a with ident := [(0, some { job := job3, done := 5, segs := [] })] }) (auditing 1), by decide +kernel⟩,
   ⟨0, 0, { job3 with ends := 0 }, later 90000000000000 (withAudit (fun a =>
     { a with jobs := [{ job3 with ends := 0 }] }) (auditing 1)), by decide +kernel⟩,
   ⟨0, .session 0, 16, auditing 1, by decide +kernel⟩,
   ⟨0, .session 0, 1, 1, objPut 0x09020100 3 (auditing 1), by decide +kernel⟩,
   ⟨0, .session 0, 0, withAudit (fun a => { a with locs := 3 }) (auditing 1), by decide +kernel⟩⟩

set_option maxRecDepth 20000 in
/-- `StoreTakesProfiles`: the premises of each clause hold together. -/
theorem met_StoreTakesProfiles :
    (∃ t w σ, AtFrom (sealStart w) (.profileDecision t w) (fun s => profileWaiting s w = [] ∨ s.part.wings ≤ w ∨ ∃ x
      xs, profileWaiting s w = x :: xs ∧ (s.clk.now < max x.at_ ((storeGet s w).lastT + 16) + 240 ∨ (obj s 0x0A000100
      ≠ 0 ∧ regF s (nfcCtl w) 0 0 ≠ 0 ∧ storeState s w ≠ 4))) σ) ∧
    (∃ t w x xs σ, AtFrom (sealStart w) (.profileDecision t w) (fun s => profileWaiting s w = x :: xs ∧ w <
      s.part.wings ∧ max x.at_ ((storeGet s w).lastT + 16) + 240 ≤ s.clk.now ∧ (obj s 0x0A000100 = 0 ∨ regF s (nfcCtl
      w) 0 0 = 0)) σ) ∧
    (∃ t w x xs σ, AtFrom (sealStart w) (.profileDecision t w) (fun s => profileWaiting s w = x :: xs ∧ w <
      s.part.wings ∧ max x.at_ ((storeGet s w).lastT + 16) + 240 ≤ s.clk.now ∧ obj s 0x0A000100 ≠ 0 ∧ regF s (nfcCtl
      w) 0 0 ≠ 0 ∧ storeState s w = 4 ∧ pastRetention s (leAt (stagedRec s w x.seq) 48 2) (spanPos s (leAt (stagedRec
      s w x.seq) 40 8) (leAt (stagedRec s w x.seq) 48 2)).1 = true) σ) ∧
    (∃ t w x xs r mu n k v σ, AtFrom (sealStart w) (.profileDecision t w) (fun s => profileWaiting s w = x :: xs ∧ w <
      s.part.wings ∧ max x.at_ ((storeGet s w).lastT + 16) + 240 ≤ s.clk.now ∧ obj s 0x0A000100 ≠ 0 ∧ regF s (nfcCtl
      w) 0 0 ≠ 0 ∧ storeState s w = 4 ∧ r = stagedRec s w x.seq ∧ mu = leAt r 48 2 ∧ spanPos s (leAt r 40 8) mu = (n,
      k) ∧ pastRetention s mu n = false ∧ v = storeGet (sigmaStart w mu s) w ∧ spanSealed v mu n = false ∧ n ≤
      sealedTo v mu + 1) σ) ∧
    (∃ t w x xs mu n σ, AtFrom (sealStart w) (.profileDecision t w) (fun s => profileWaiting s w = x :: xs ∧ w <
      s.part.wings ∧ max x.at_ ((storeGet s w).lastT + 16) + 240 ≤ s.clk.now ∧ obj s 0x0A000100 ≠ 0 ∧ regF s (nfcCtl
      w) 0 0 ≠ 0 ∧ storeState s w = 4 ∧ mu = leAt (stagedRec s w x.seq) 48 2 ∧ n = (spanPos s (leAt (stagedRec s w
      x.seq) 40 8) mu).1 ∧ pastRetention s mu n = false ∧ spanSealed (storeGet (sigmaStart w mu s) w) mu n = true) σ) ∧
    (∃ t w x xs mu n v σ, AtFrom (sealStart w) (.profileDecision t w) (fun s => profileWaiting s w = x :: xs ∧ w <
      s.part.wings ∧ max x.at_ ((storeGet s w).lastT + 16) + 240 ≤ s.clk.now ∧ obj s 0x0A000100 ≠ 0 ∧ regF s (nfcCtl
      w) 0 0 ≠ 0 ∧ storeState s w = 4 ∧ mu = leAt (stagedRec s w x.seq) 48 2 ∧ n = (spanPos s (leAt (stagedRec s w
      x.seq) 40 8) mu).1 ∧ pastRetention s mu n = false ∧ spanSealed (storeGet (sigmaStart w mu s) w) mu n = false ∧ v
      = sealedTo (storeGet (sigmaStart w mu s) w) mu ∧ v + 1 < n) σ) ∧
    (∃ t w σ, At (.intakeUnitClose t w) (fun s => storeState s w = 4 ∧ (storeGet s w).intake ≠ [] ∧ 0 < unitPlaces s w
      ∧ (unitPlaces s w ≤ (storeGet s w).intake.length ∨ (storeGet s w).intakeAt + obj s 0x0A002000 * 1000 ≤
      s.clk.now)) σ) ∧
    (∃ t w σ, At (.intakeUnitClose t w) (fun s => storeState s w = 4 ∧ (storeGet s w).late ≠ [] ∧ 0 < unitPlaces s w ∧
      ((storeGet s w).intake = [] ∨ ((storeGet s w).intake.length < unitPlaces s w ∧ s.clk.now < (storeGet s
      w).intakeAt + obj s 0x0A002000 * 1000)) ∧ (unitPlaces s w ≤ (storeGet s w).late.length ∨ (storeGet s w).lateAt +
      obj s 0x0A002000 * 1000 ≤ s.clk.now)) σ) ∧
    (∃ t w n o b σ, o.blk = some b ∧ At (.programComplete t w true) (fun s => opIndex (opEnds s w 0) (storeGet s
      w).ops = some n ∧ (storeGet s w).ops[n]? = some o ∧ (blockGet (storeGet s w) b).st ≠ 0) σ) ∧
    (∃ t w n o b σ, o.blk = some b ∧ At (.programComplete t w false) (fun s => opIndex (opEnds s w 0) (storeGet s
      w).ops = some n ∧ (storeGet s w).ops[n]? = some o) σ) ∧
    (∃ t w ok σ, At (.programComplete t w ok) (fun s => opIndex (opEnds s w 0) (storeGet s w).ops = none) σ) ∧
    (∃ t w b p c o σ, p < 65536 ∧ c ≤ 120 ∧ At (.pageReadComplete t w (b * 65536 + p) true c) (fun s => w <
      s.part.wings ∧ p < (blockGet (storeGet s w) b).pages.length ∧ readEnds s w b p o ∧ (blockGet (storeGet s w)
      b).st ≠ 0) σ) ∧
    (∃ t w b p c o r σ, p < 65536 ∧ At (.pageReadComplete t w (b * 65536 + p) false c) (fun s => w < s.part.wings ∧ p
      < (blockGet (storeGet s w) b).pages.length ∧ readEnds s w b p o ∧ retryFrom s o.tries = some r) σ) ∧
    (∃ t w b p c o σ, p < 65536 ∧ At (.pageReadComplete t w (b * 65536 + p) false c) (fun s => w < s.part.wings ∧ p <
      (blockGet (storeGet s w) b).pages.length ∧ readEnds s w b p o ∧ retryFrom s o.tries = none) σ) ∧
    (∃ t w b n σ, At (.eraseComplete t w b true) (fun s => opIndex (fun o => o.kind == 2 && o.blk == some b && (match
      o.start with | some a => decide (a + 520 ≤ s.clk.now) | none => false)) (storeGet s w).ops = some n) σ) ∧
    (∃ t w b n σ, At (.eraseComplete t w b false) (fun s => opIndex (fun o => o.kind == 2 && o.blk == some b && (match
      o.start with | some a => decide (a + 520 ≤ s.clk.now) | none => false)) (storeGet s w).ops = some n) σ) ∧
    (∃ t w x xs σ, At (.latePath t w) (fun s => (storeGet s w).lateQ = x :: xs ∧ (storeGet s w).reading = false ∧
      storeState s w = 4 ∧ patchHas (storeGet s w) (lateFront s w x) = true) σ) ∧
    (∃ t w x xs e n σ, At (.latePath t w) (fun s => (storeGet s w).lateQ = x :: xs ∧ (storeGet s w).reading = false ∧
      storeState s w = 4 ∧ e = lateFront s w x ∧ n = (spanPos s (leAt e 8 8) (leAt e 6 2)).1 ∧ patchHas (storeGet s w)
      e = false ∧ (storeGet s w).sealing.any (fun j => j.mu == leAt e 6 2 && j.span == n) = false) σ) ∧
    (∃ t w σ, At (.latePath t w) (fun s => (storeGet s w).lateQ = [] ∨ (storeGet s w).reading = true ∨ storeState s w
      ≠ 4 ∨ ∃ x xs e, (storeGet s w).lateQ = x :: xs ∧ e = lateFront s w x ∧ patchHas (storeGet s w) e = false ∧
      (storeGet s w).sealing.any (fun j => j.mu == leAt e 6 2 && j.span == (spanPos s (leAt e 8 8) (leAt e 6 2)).1) =
      true) σ) ∧
    (∃ t via r σ, r.length = 12 ∧ beAt r 0 4 < 1048576 ∧ 1 ≤ beAt r 8 2 ∧ beAt r 10 2 = 0 ∧ At (.readASpan t via r)
      (fun s => reaches s via 0x0A010000 = true) σ) ∧
    (∃ t via r σ, At (.readASpan t via r) (fun s => reaches s via 0x0A010000 = true ∧ (r.length ≠ 12 ∨ 1048576 ≤ beAt
      r 0 4 ∨ beAt r 8 2 = 0 ∨ beAt r 10 2 ≠ 0)) σ) :=
  ⟨⟨0, 0, storeOn, Or.inl (by decide +kernel)⟩,
   ⟨0, 0, ({ seq := 6, at_ := 999999000000, req := 1, conf := 0, body := none } : Unrel), ([] : List Unrel), regPutF
     (nfcCtl 0) 0 0 0 (withIng (fun x =>
     { x with unrel := [{ seq := 6, at_ := 999999000000, req := 1, conf := 0, body := none }] }) storeOn),
     by decide +kernel⟩,
   ⟨0, 0, ({ seq := 5, at_ := 999999000000, req := 1, conf := 0, body := none } : Unrel), ([] : List Unrel), later
     900000000000000000 (withIng (fun x =>
     { x with unrel := [{ seq := 5, at_ := 999999000000, req := 1, conf := 0, body := none }] }) (objPut 0x0A000100 1
     storeOn)), by decide +kernel⟩,
   ⟨0, 0, ({ seq := 5, at_ := 999999000000, req := 1, conf := 0, body := none } : Unrel), ([] : List Unrel), staged2,
     15, pos2.1, pos2.2, storeGet (sigmaStart 0 15 storeIn2) 0, storeIn2, by decide +kernel⟩,
   ⟨0, 0, ({ seq := 5, at_ := 999999000000, req := 1, conf := 0, body := none } : Unrel), ([] : List Unrel), 15,
     (spanPos storeOn 900000000000 15).1, withStore (fun x =>
     { x with sigmas := [(15, (spanPos storeOn 900000000000 15).1 + 1)] }) (withIng (fun x =>
     { x with unrel := [{ seq := 5, at_ := 999999000000, req := 1, conf := 0, body := none }] }) (objPut 0x0A000100 1
     storeOn)), by decide +kernel⟩,
   ⟨0, 0, ({ seq := 5, at_ := 999999000000, req := 1, conf := 0, body := none } : Unrel), ([] : List Unrel), 15,
     pos2.1, pos2.1 - 2, withStore (fun x => { x with sigmas := [(15, pos2.1 - 2)] }) storeIn, by decide +kernel⟩,
   ⟨0, 0, withStore (fun x => { x with intake := [entry16], intakeAt := 0 }) storeOn, by decide +kernel⟩,
   ⟨0, 0, withStore (fun x => { x with late := [entry16], lateAt := 0 }) storeOn, by decide +kernel⟩,
   ⟨0, 0, (0 : Nat), (opOf 0 0 30 [page0] : NandOp), 30, withStore (fun x =>
     { x with blocks := [(30, blk0)], ops := [opOf 0 0 30 [page0]] }) storeOn, by decide +kernel⟩,
   ⟨0, 0, (0 : Nat), (opOf 0 0 30 [page0] : NandOp), 30, withStore (fun x =>
     { x with blocks := [(30, blk0)], ops := [opOf 0 0 30 [page0]] }) storeOn, by decide +kernel⟩,
   ⟨0, 0, true, withStore (fun x => { x with ops := [] }) storeOn, by decide +kernel⟩,
   ⟨0, 0, 30, 0, 3, readOp, withStore (fun x => { x with blocks := [(30, blk0)], ops := [readOp] }) storeOn, by
     refine ⟨?_, ?_, ?_, ?_, readEnds_at (n := 0) (a := 5) (by decide +kernel) (by decide +kernel), ?_⟩
       <;> decide +kernel⟩,
   ⟨0, 0, 30, 0, 3, readOp, 0, objPut 0x0A004500 7 (withStore (fun x =>
     { x with blocks := [(30, blk0)], ops := [readOp] }) storeOn), by
     refine ⟨?_, ?_, ?_, readEnds_at (n := 0) (a := 5) (by decide +kernel) (by decide +kernel), ?_⟩
       <;> decide +kernel⟩,
   ⟨0, 0, 30, 0, 3, readOp, withStore (fun x => { x with blocks := [(30, blk0)], ops := [readOp] }) storeOn, by
     refine ⟨?_, ?_, ?_, readEnds_at (n := 0) (a := 5) (by decide +kernel) (by decide +kernel), ?_⟩
       <;> decide +kernel⟩,
   ⟨0, 0, 30, (0 : Nat), withStore (fun x => { x with blocks := [(30, blk0)], ops := [opOf 2 0 30 []] }) storeOn,
     by decide +kernel⟩,
   ⟨0, 0, 30, (0 : Nat), withStore (fun x => { x with blocks := [(30, blk0)], ops := [opOf 2 0 30 []] }) storeOn,
     by decide +kernel⟩,
   ⟨0, 0, 5, [9], withStore (fun x => { x with lateQ := [5, 9], patches := [entry16] }) storeOn, by decide +kernel⟩,
   ⟨0, 0, 5, [9], lateFront storeIn2 0 5, pos2.1, withStore (fun x => { x with lateQ := [5, 9] }) storeIn2,
     by decide +kernel⟩,
   ⟨0, 0, storeOn, Or.inl (by decide +kernel)⟩,
   ⟨0, .session 0, toBe 4 16 ++ toBe 4 0 ++ toBe 2 15 ++ [0, 0], storeOn, by decide +kernel⟩,
   ⟨0, .session 0, ([] : Bytes), storeOn, by decide +kernel⟩⟩

/-- `StoreKeepsItself`: the premises of each clause hold together. -/
theorem met_StoreKeepsItself :
    (∃ t w j σ, At (.spanSeal t w) (fun s => storeState s w = 4 ∧ (storeGet s w).sealing = none ∧ noNewOps s = false ∧
      sealNext (sigmaStart w (obj s 0x05002200) s) w = some j) σ) ∧
    (∃ t w σ, At (.spanSeal t w) (fun s => storeState s w ≠ 4 ∨ (storeGet s w).sealing ≠ none ∨ noNewOps s = true) σ) ∧
    (∃ t w j σ, At (.sealDone t w) (fun s => (storeGet s w).sealing = some j ∧ j.listed = true ∧ taskQuiet (storeGet s
      w) j.task = true) σ) ∧
    (∃ t w σ, At (.sealDone t w) (fun s => ∀ j, (storeGet s w).sealing = some j → j.listed = false ∨ taskQuiet
      (storeGet s w) j.task = false) σ) ∧
    (∃ t w k σ, At (.patchMerge t w) (fun s => storeState s w = 4 ∧ ((storeGet s w).mergeDue = true ∨ 786432 ≤
      (storeGet s w).patches.length) ∧ (storeGet s w).tasks.any (fun k => k.kind == 5 || k.kind == 8) = false ∧
      noNewOps s = false ∧ oldestPatched s (storeGet s w) = some k) σ) ∧
    (∃ t w σ, At (.patchMerge t w) (fun s => storeState s w = 4 ∧ ((storeGet s w).mergeDue = true ∨ 786432 ≤ (storeGet
      s w).patches.length) ∧ (storeGet s w).tasks.any (fun k => k.kind == 5 || k.kind == 8) = false ∧ noNewOps s =
      false ∧ oldestPatched s (storeGet s w) = none) σ) ∧
    (∃ t w d σ, At (.dayExpiry t w) (fun s => oldestDay (storeGet s w) = some d ∧ (d : Int) ≤ presentDay s ∧ 4 ≤
      storeState s w ∧ storeState s w ≠ 6 ∧ noNewOps s = false ∧ ptimeLocked s = true ∧ (((d : Int) = presentDay s ∧
      (storeGet s w).dayLate < d) ∨ (storeGet s w).expAt = 0 ∨ (storeGet s w).expAt + 3600000000000 ≤ s.clk.now)) σ) ∧
    (∃ t w d σ, At (.dayExpiry t w) (fun s => oldestDay (storeGet s w) = some d ∧ (d : Int) ≤ presentDay s ∧ 4 ≤
      storeState s w ∧ storeState s w ≠ 6 ∧ noNewOps s = false ∧ ptimeLocked s = false) σ) ∧
    (∃ t w b σ, At (.garbageCollection t w) (fun s => (storeState s w = 4 ∨ storeState s w = 5) ∧ noNewOps s = false ∧
      freePool s w < 2 * spareReserve s w ∧ (storeGet s w).tasks.any (fun k => k.kind == 1) = false ∧ gcVictim
      (storeGet s w) = some b) σ) ∧
    (∃ t w σ, At (.wearMove t w) (fun s => (storeState s w = 4 ∨ storeState s w = 5) ∧ noNewOps s = false ∧ (storeGet
      s w).wearAt + 3600000000000 ≤ s.clk.now ∧ (eraseSpread (storeGet s w)).2 + obj s 0x0A003500 < (eraseSpread
      (storeGet s w)).1) σ) ∧
    (∃ t w ms σ, ms.length = 60 ∧ At (.bakeHours t w ms) (fun s => w < s.part.wings ∧ (storeGet s w).bakeAt +
      3600000000000 ≤ s.clk.now) σ) ∧
    (∃ t w b k σ, At (.refresh t w b) (fun s => (storeState s w = 4 ∨ storeState s w = 5) ∧ noNewOps s = false ∧ k =
      blockGet (storeGet s w) b ∧ (k.weak = true ∨ obj s 0x0A004200 * 2 ^ 32 ≤ k.bake) ∧ mayCopy (storeGet s w) (b, if
      k.st = 1 then { k with st := 2 } else k) = true) σ) ∧
    (∃ t w σ, At (.checkpoint t w) (fun s => w < s.part.wings ∧ ckptDue s w = true ∧ (energyCheck w 1 (ckptCost s w *
      1000000000) s).1 = true) σ) ∧
    (∃ t w σ, At (.checkpoint t w) (fun s => w < s.part.wings ∧ ckptDue s w = true ∧ (energyCheck w 1 (ckptCost s w *
      1000000000) s).1 = false) σ) ∧
    (∃ t w σ, At (.ckpt t w) (fun s => w < s.part.wings) σ) ∧
    (∃ t w σ, At (.stop t w) (fun s => w < s.part.wings ∧ storeState s w ≠ 4) σ) ∧
    (∃ t w σ, At (.stop t w) (fun s => w < s.part.wings ∧ storeState s w = 4 ∧ 0 < unitPlaces s w) σ) ∧
    (∃ t w ok path at_ σ, At (.storeStart t w ok) (fun s => w < s.part.wings ∧ released s w 4 = true ∧ 1 ≤ storeState
      s w ∧ storeState s w ≤ 3 ∧ regF s (nfcCtl w) 0 0 = 1 ∧ path = (if regF s (porStat w) 24 24 = 1 ∧ ok = true then
      1 else if (storeGet s w).clean = true then 2 else 3) ∧ at_ = tabGet 0 s.power.relAt (w * 8 + 4) - 1 ∧ (path = 3
      → at_ + rebuildLeast (storeGeometry w s) w ≤ s.clk.now)) σ) :=
  ⟨⟨0, 0, ({ mu := 15, span := 3, flags := 0, packed := false, listed := false, task := 0 } : SealJob), withStore (fun
     x =>
     { x with sigmas := [(15, 3)], sealQ := [{ mu := 15, span := 3, flags := 0, packed := false, listed := false, task := 0 }] })
     storeOn, by decide +kernel⟩,
   ⟨0, 0, storeStateSet 0 5 storeOn, by decide +kernel⟩,
   ⟨0, 0, ({ mu := 15, span := 3, flags := 0, packed := true, listed := true, task := 1 } : SealJob), withStore (fun x
     => { x with sealing := some { mu := 15, span := 3, flags := 0, packed := true, listed := true, task := 1 } })
     storeOn, by decide +kernel⟩,
   ⟨0, 0, storeOn, by decide +kernel⟩,
   ⟨0, 0, entrySpan storeOn entry16.data, withStore (fun x => { x with mergeDue := true, patches := [entry16] })
     storeOn, by decide +kernel⟩,
   ⟨0, 0, withStore (fun x => { x with mergeDue := true }) storeOn, by decide +kernel⟩,
   ⟨0, 0, 2, later 900000000000000000
     { (withStore (fun x => { x with blocks := [(30, { blk0 with stream := 0x8002, day := 2 })], dirs := [{ mu := 15, span := 1, day := 2, pages := 3 }] }) storeOn) with clk := { storeOn.clk with now := 7200000000000 } },
     by decide +kernel⟩,
   ⟨0, 0, 2, (fun s : State => { s with ptp := { s.ptp with dom := [] } }) (later 900000000000000000
     { (withStore (fun x => { x with blocks := [(30, { blk0 with stream := 0x8002, day := 2 })], dirs := [{ mu := 15, span := 1, day := 2, pages := 3 }] }) storeOn) with clk := { storeOn.clk with now := 7200000000000 } }),
     by decide +kernel⟩,
   ⟨0, 0, 30, withStore (fun x => { x with good := 6, image := 0, blocks := [(30, blk0)] }) storeOn,
     by decide +kernel⟩,
   ⟨0, 0,
     { (withStore (fun x => { x with blocks := [(30, blk0), (31, { blockDefault with erases := 5000 })] }) storeOn) with clk := { storeOn.clk with now := 7200000000000 } },
     by decide +kernel⟩,
   ⟨0, 0, List.replicate 60 300,
     { (withStore (fun x => { x with blocks := [(30, blk0)] }) storeOn) with clk := { storeOn.clk with now := 7200000000000 } },
     by decide +kernel⟩,
   ⟨0, 0, 30, { blk0 with weak := true }, withStore (fun x => { x with blocks := [(30, { blk0 with weak := true })] })
     storeOn, by decide +kernel⟩,
   ⟨0, 0, regPutF (nfcCtl 0) 1 1 1 storeOn, by
     refine ⟨?_, ?_, energy_waived (by decide +kernel)⟩ <;> decide +kernel⟩,
   ⟨0, 0, regPutF (porOpt 0 0) 25 25 1 (objPut 0x0C003000 100 (regPutF (nfcCtl 0) 1 1 1 storeOn)), by
     refine ⟨?_, ?_, energy_short (by decide +kernel) (by decide +kernel)⟩ <;> decide +kernel⟩,
   ⟨0, 0, storeOn, by decide +kernel⟩,
   ⟨0, 0, storeStateSet 0 5 storeOn, by decide +kernel⟩,
   ⟨0, 0, withStore (fun x => { x with intake := [entry16], late := [entry16] }) storeOn, by decide +kernel⟩,
   ⟨0, 0, true, 3, 0, started0, by decide +kernel⟩⟩

/-- `LogbookRecordsAndFlushes`: the premises of each clause hold together. -/
theorem met_LogbookRecordsAndFlushes :
    (∃ t w code src p0 p1 σ, At (.eventRaise t w code src p0 p1) (fun s => w < s.part.wings ∧ 1 ≤ code ∧ code ≤ 0x0FFF
      ∧ LogRoom s w 1) σ) ∧
    (∃ t w v σ, At (.logSwraise t w v) (fun s => w < s.part.wings ∧ 0xF000 ≤ bits v.toNat 31 16 ∧ LogRoom s w 1) σ) ∧
    (∃ t w v σ, At (.logSwraise t w v) (fun s => w < s.part.wings ∧ bits v.toNat 31 16 < 0xF000) σ) ∧
    (∃ t w σ, At (.logbookFlush t w) (fun s => w < s.part.wings ∧ s.log.active = none ∧ s.log.queue = [] ∧ gateOpen s
      w = true ∧ s.power.fail = none ∧ (energyCheck w 3 (obj s 0x0C003500 * flushTime (logGet s w).unflushed) s).1 =
      true) σ) ∧
    (∃ t w σ, At (.logbookFlush t w) (fun s => w < s.part.wings ∧ s.log.queue = [] ∧ (∃ f, s.log.active = some f ∧
      f.wing ≠ w) ∨ w < s.part.wings ∧ s.log.queue = [] ∧ s.log.active = none ∧ gateOpen s w = false) σ) ∧
    (∃ t w f σ, At (.logbookFlush t w) (fun s => w < s.part.wings ∧ s.log.active = some f ∧ f.wing = w) σ) ∧
    (∃ t w f n σ, w < 8 ∧ f.wing = w ∧ At (.flushComplete t) (fun s => s.log.active = some f ∧ n = (logGet s
      w).unflushed ∧ n ≤ (logGet s w).recs.length ∧ (logGet s w).recs.length + 2 ≤ 4096 ∧ f.at_ + flushTime (f.sent +
      n) ≤ s.clk.now) σ) ∧
    (∃ t σ, At (.flushComplete t) (fun s => (s.log.active = none ∧ s.log.queue = []) ∨ ∃ f, s.log.active = some f ∧
      s.clk.now < f.at_ + flushTime (f.sent + (logGet s f.wing).unflushed)) σ) ∧
    (∃ t via σ, At (.flushEveryWingNow t via) (fun s => reaches s via 0x0E000200 = true ∧ ∀ w, w < s.part.wings → errs
      s 0 (logCtl w) true = false) σ) ∧
    (∃ t via σ, At (.flushEveryWingNow t via) (fun s => reaches s via 0x0E000200 = true ∧ ∃ w, w < s.part.wings ∧ errs
      s 0 (logCtl w) true = true) σ) ∧
    (∃ t via x σ, At (.readRecordsFromMram t via x) (fun s => reaches s via 0x0E001000 = true ∧ x / 2 ^ 32 ≤ 8 ∧
      srOpen s = true) σ) ∧
    (∃ t via x σ, At (.readRecordsFromMram t via x) (fun s => reaches s via 0x0E001000 = true ∧ 8 < x / 2 ^ 32) σ) ∧
    (∃ t via x σ, At (.readRecordsFromMram t via x) (fun s => reaches s via 0x0E001000 = true ∧ x / 2 ^ 32 ≤ 8 ∧
      srOpen s = false) σ) :=
  ⟨⟨0, 0, 0x123, 70000, 1, 2, leased, by decide +kernel⟩,
   ⟨0, 0, 0x00000000F0010005, leased, by decide +kernel⟩,
   ⟨0, 0, 0x0000000000010005, leased, by decide +kernel⟩,
   ⟨0, 0, regPutF (porHoldup 0) 55 0 0xFFFFFFFFFFFF (withPow (fun p => { p with heldAt := [(0, 1000000000000)] })
     leased), by decide +kernel⟩,
   ⟨0, 0, { leased with log := { leased.log with active := some { wing := 1, at_ := 5, sent := 0 } } },
     by decide +kernel⟩,
   ⟨0, 0, ({ wing := 0, at_ := 5, sent := 0 } : Flush),
     { leased with log := { leased.log with active := some { wing := 0, at_ := 5, sent := 0 } } }, by decide +kernel⟩,
   ⟨0, 0, ({ wing := 0, at_ := 5, sent := 0 } : Flush), 2,
     { (raise 0 5 0 0 0 (raise 0 5 0 0 0 leased)) with log := { (raise 0 5 0 0 0 (raise 0 5 0 0 0 leased)).log with active := some { wing := 0, at_ := 5, sent := 0 } } },
     by decide +kernel⟩,
   ⟨0, leased, by decide +kernel⟩,
   ⟨0, .session 0, leased, by decide +kernel⟩,
   ⟨0, .session 0, linkSet 0 0 { linkDefault with down := true } leased, by decide +kernel⟩,
   ⟨0, .session 0, 0, logged5, by decide +kernel⟩,
   ⟨0, .session 0, 9 * 2 ^ 32, leased, by decide +kernel⟩,
   ⟨0, .session 0, 0, withSr (fun r => { r with carrying := none, links := [] }) leased, by decide +kernel⟩⟩

/-- `BellsRingAndTallyFreezes`: the premises of each clause hold together. -/
theorem met_BellsRingAndTallyFreezes :
    (∃ t w k σ, At (.bellBoardDelivery t w k) (fun s => sourcePresent s w k = true) σ) ∧
    (∃ t w k tw σ, At (.bellBoardDelivery t w k) (fun s => sourcePresent s w k = true ∧ regF s (flagOf w k).1 (flagOf
      w k).2 (flagOf w k).2 = 0 ∧ bits (regGet s (bbRoute w k)).toNat 15 15 = 1 ∧ tw = bits (regGet s (bbRoute w
      k)).toNat 10 8 ∧ tw < s.part.wings ∧ bit s.mode.parked tw = false ∧ s.power.graced = false ∧ pathUp s w tw =
      true) σ) ∧
    (∃ t w v i σ, i < 64 ∧ At (.bbSwset t w v) (fun s => w < s.part.wings) σ) ∧
    (∃ t w k v σ, k < 128 ∧ At (.bbRouteWrite t w k v) (fun s => w < s.part.wings) σ) ∧
    (∃ t w k v σ, w < 2 ∧ k < 32 ∧ At (.bbRouteWrite t w (128 + k) v) (fun s => w < s.part.wings) σ) ∧
    (∃ t w k v tw σ, k < 128 ∧ bit v.toNat 15 = true ∧ tw = bits v.toNat 10 8 ∧ At (.bbRouteWrite t w k v) (fun s => w
      < s.part.wings ∧ sentNow s w k = false ∧ regF s (bbRoute w k) 15 15 = 0 ∧ regF s (flagOf w k).1 (flagOf w k).2
      (flagOf w k).2 = 1 ∧ tw < s.part.wings ∧ bit s.mode.parked tw = false ∧ s.power.graced = false ∧ pathUp s w tw =
      true ∧ released s tw 5 = true) σ) ∧
    (∃ t w bank v hw σ, bank < 2 ∧ At (.bbFlagClear t w bank v hw) (fun s => w < s.part.wings) σ) ∧
    (∃ t w v hw σ, w < 2 ∧ At (.bbFlagClear t w 2 v hw) (fun s => w < s.part.wings) σ) ∧
    (∃ t k g σ, k < 32 ∧ At (.strongroomSourceArrival t k) (fun s => (∃ x ∈ s.bell.srGoing, x.1 = k ∧ x.2 ≤ s.clk.now)
      ∧ s.sr.carrying = some g) σ) ∧
    (∃ t k σ, At (.strongroomSourceArrival t k) (fun s => (∃ x ∈ s.bell.srGoing, x.1 = k ∧ x.2 ≤ s.clk.now) ∧
      s.sr.carrying = none) σ) ∧
    (∃ t k σ, At (.strongroomSourceArrival t k) (fun s => ∀ x ∈ s.bell.srGoing, x.1 = k → s.clk.now < x.2) σ) ∧
    (∃ t w σ, At (.pathReturnDelivery t w) (fun _ => True) σ) ∧
    (∃ t w k σ, At (.pathReturnDelivery t w) (fun s => s.bell.undeliv = [(w, k)] ∧ deliverable s w k = true ∧ regF s
      (flagOf w k).1 (flagOf w k).2 (flagOf w k).2 = 1 ∧ (routeOf s w k).1 = 1 ∧ s.power.graced = false) σ) ∧
    (∃ t w v σ, AtFrom freezesFire (.talFrzAtWrite t w v) (fun s => w < s.part.wings ∧ notBeforeW 64 (ptimeNs s +
      10000) v.toNat = false) σ) ∧
    (∃ t w v σ, AtFrom freezesFire (.talFrzAtWrite t w v) (fun s => w < s.part.wings ∧ notBeforeW 64 (ptimeNs s +
      10000) v.toNat = true) σ) ∧
    (∃ t via p σ, At (.armAFreezeOnEveryWing t via p) (fun s => reaches s via 0x0F000100 = true ∧ notBeforeW 64
      (ptimeNs s + 10000) (p % two64) = false ∧ notBeforeW 64 (ptimeNs s) (p % two64) = false ∧ ∀ w, w < s.part.wings
      → errs s 0 (talFrzAt w) true = false) σ) ∧
    (∃ t via p σ, At (.armAFreezeOnEveryWing t via p) (fun s => reaches s via 0x0F000100 = true ∧ ∃ w, w <
      s.part.wings ∧ errs s 0 (talFrzAt w) true = true) σ) ∧
    (∃ t w p σ, At (.freezeLatch t) (fun s => w < s.part.wings ∧ tabGet none s.tally.armed w = some p ∧ notBeforeW 64
      (ptimeNs s) p = true ∧ released s w 4 = true) σ) ∧
    (∃ t w v σ, At (.talSwinc t w v) (fun s => w < s.part.wings) σ) :=
  ⟨⟨0, 0, 23, leased, by decide +kernel⟩,
   ⟨0, 0, 23, 1, regPutF (bbRoute 0 23) 15 0 0x8100 leased, by decide +kernel⟩,
   ⟨0, 0, 6, 2, leased, by decide +kernel⟩,
   ⟨0, 0, 7, 0xFFFF, leased, by decide +kernel⟩,
   ⟨0, 0, 7, 0xFFFF, leased, by decide +kernel⟩,
   ⟨0, 0, 7, 0x8105, 1, regPutF (flagOf 0 7).1 (flagOf 0 7).2 (flagOf 0 7).2 1 leased, by decide +kernel⟩,
   ⟨0, 0, 1, 6, 4, regPutF (bbStat 0 1) 7 0 7 leased, by decide +kernel⟩,
   ⟨0, 0, 6, 4, regPutF (bbSrstat 0) 7 0 7 leased, by decide +kernel⟩,
   ⟨0, 5, 0, { leased with bell := { leased.bell with srGoing := [(5, 7), (5, 8)] } }, by decide +kernel⟩,
   ⟨0, 5, withSr (fun r => { r with carrying := none })
     { leased with bell := { leased.bell with srGoing := [(5, 7)] } }, by decide +kernel⟩,
   ⟨0, 5, leased, by decide +kernel⟩,
   ⟨0, 0, { leased with bell := { leased.bell with undeliv := [(0, 5), (1, 6)] } }, by decide +kernel⟩,
   ⟨0, 0, 23, regPutF (bbRoute 0 23) 15 0 0x8100 (regPutF (flagOf 0 23).1 (flagOf 0 23).2 (flagOf 0 23).2 1
     { leased with bell := { leased.bell with undeliv := [(0, 23)] } }), by decide +kernel⟩,
   ⟨0, 0, BitVec.ofNat 64 2000000000000, leased, by decide +kernel⟩,
   ⟨0, 0, BitVec.ofNat 64 1000000000000, leased, by decide +kernel⟩,
   ⟨0, .session 0, 2000000000000, leased, by decide +kernel⟩,
   ⟨0, .session 0, 2000000000000, linkSet 0 0 { linkDefault with down := true } leased, by decide +kernel⟩,
   ⟨0, 0, 5, { (count 0 3 leased) with tally := { leased.tally with armed := [(0, some 5)] } }, by decide +kernel⟩,
   ⟨0, 0, BitVec.ofNat 64 (5 * 2 ^ 32 + 7), leased, by decide +kernel⟩⟩

/-- `PowerFailRunsItsCourse`: the premises of each clause hold together. -/
theorem met_PowerFailRunsItsCourse :
    (∃ t rail σ, rail < 7 ∧ At (.railTrip t rail) (fun _ => True) σ) ∧
    (∃ t rail σ, rail < 7 ∧ At (.railTrip t rail) (fun s => s.power.fail = none ∧ s.power.quiet = 0) σ) ∧
    (∃ t σ, At (.wingRailsInRange t) (fun s => s.power.railsOut = true) σ) ∧
    (∃ t σ, At (.vanaTrip t) (fun _ => True) σ) ∧
    (∃ t σ, At (.vanaReturn t) (fun s => s.sr.onVbak = false ∧ s.sr.metro = false) σ) ∧
    (∃ t σ, At (.vanaReturn t) (fun s => s.sr.onVbak = true ∨ s.sr.metro = true) σ) ∧
    (∃ t σ, At (.strongroomPowerLost t) (fun _ => True) σ) ∧
    (∃ t since σ, At (.powerFailDeclared t since) (fun s => s.power.fail = none ∧ since + obj s 0x0C001000 * 1000 ≤
      s.clk.now) σ) ∧
    (∃ t since σ, At (.powerFailDeclared t since) (fun s => s.power.fail.isSome = true ∨ s.clk.now < since + obj s
      0x0C001000 * 1000) σ) ∧
    (∃ t σ, At (.thermalTrip t) (fun _ => True) σ) ∧
    (∃ t σ, At (.junctionBelowRecover t) (fun s => s.power.thermal = true) σ) ∧
    (∃ t d σ, At (.graceEnd t) (fun s => s.power.fail = some d ∧ s.power.graced = false ∧ d + obj s 0x0C001200 * 1000
      ≤ s.clk.now) σ) ∧
    (∃ t w σ, At (.powerFailFlush t w) (fun s => s.power.flush = none ∧ s.power.graced = true ∧ w = s.power.quiet ∧ w
      < s.part.wings ∧ opsBegun s = 0 ∧ released s w 4 = true ∧ s.power.noFlush = false ∧ s.sr.carrying.isSome = true
      ∧ obj s 0x0C003500 * flushTime (logGet s w).unflushed ≤ usableEnergy s w * 1000000) σ) ∧
    (∃ t w σ, At (.powerFailFlush t w) (fun s => s.power.flush = none ∧ s.power.graced = true ∧ w = s.power.quiet ∧ w
      < s.part.wings ∧ opsBegun s = 0 ∧ released s w 4 = true ∧ s.power.noFlush = false ∧ s.sr.carrying.isSome = true
      ∧ LogRoom s w 1 ∧ usableEnergy s w * 1000000 < obj s 0x0C003500 * flushTime (logGet s w).unflushed ∧
      energyWaived s w = true) σ) ∧
    (∃ t w σ, At (.powerFailFlush t w) (fun s => s.power.flush = none ∧ s.power.graced = true ∧ w = s.power.quiet ∧ w
      + 1 < s.part.wings ∧ opsBegun s = 0 ∧ (released s w 4 = false ∨ s.power.noFlush = true ∨ s.sr.carrying = none ∨
      (usableEnergy s w * 1000000 < obj s 0x0C003500 * flushTime (logGet s w).unflushed ∧ energyWaived s w = false)))
      σ) ∧
    (∃ t w e σ, At (.powerFailFlush t w) (fun s => s.power.flush = some (w, e) ∧ e ≤ s.clk.now ∧ w + 1 < s.part.wings
      ∧ (logGet s w).unflushed ≤ (logGet s w).recs.length) σ) ∧
    (∃ t w e σ, At (.powerFailFlush t w) (fun s => s.power.flush = some (w, e) ∧ e ≤ s.clk.now ∧ w + 1 = s.part.wings)
      σ) ∧
    (∃ t since σ, At (.powerFailRecovery t since) (fun s => s.power.fail.isSome = true ∧ s.part.wings ≤ s.power.quiet
      ∧ since + obj s 0x0C001100 * 1000000 ≤ s.clk.now) σ) ∧
    (∃ t since σ, At (.powerFailRecovery t since) (fun s => s.power.fail = none ∨ s.power.quiet < s.part.wings ∨
      s.clk.now < since + obj s 0x0C001100 * 1000000) σ) ∧
    (∃ t mv k σ, At (.holdupPublish t mv) (fun s => srReach s = some k) σ) ∧
    (∃ t mv σ, At (.holdupPublish t mv) (fun s => srReach s = none) σ) :=
  ⟨⟨0, 2, leased, by decide +kernel⟩,
   ⟨0, 2, raise 0 5 0 0 0 leased, by decide +kernel⟩,
   ⟨0, withPow (fun p => { p with railsOut := true }) leased, by decide +kernel⟩,
   ⟨0, metered, by decide +kernel⟩,
   ⟨0, withSr (fun r => { r with metro := false }) leased, by decide +kernel⟩,
   ⟨0, metered, by decide +kernel⟩,
   ⟨0, linked, by decide +kernel⟩,
   ⟨0, 0, storeOn, by decide +kernel⟩,
   ⟨0, 0, failed, by decide +kernel⟩,
   ⟨0, leased, by decide +kernel⟩,
   ⟨0, withPow (fun p => { p with thermal := true }) leased, by decide +kernel⟩,
   ⟨0, 5, withPow (fun p => { p with fail := some 5 }) leased, by decide +kernel⟩,
   ⟨0, 0, regPutF (porHoldup 0) 55 0 0xFFFFFFFFFFFF (withPow (fun p => { p with heldAt := [(0, 1000000000000)] })
     failed), by decide +kernel⟩,
   ⟨0, 0, objPut 0x0C003500 1000000000 (regPutF (porHoldup 0) 55 0 0 (raise 0 5 0 0 0 failed)), by decide +kernel⟩,
   ⟨0, 0, withPow (fun p => { p with noFlush := true }) failed, by decide +kernel⟩,
   ⟨0, 0, 5, withPow (fun p => { p with flush := some (0, 5) }) (raise 0 5 0 0 0 failed), by decide +kernel⟩,
   ⟨0, 7, 5, withPow (fun p => { p with flush := some (7, 5), quiet := 7 }) failed, by decide +kernel⟩,
   ⟨0, 0, withPow (fun p => { p with quiet := 8 }) failed, by decide +kernel⟩,
   ⟨0, 0, leased, by decide +kernel⟩,
   ⟨0, 12000, 0, objPut 0x0C003000 1000 leased, by decide +kernel⟩,
   ⟨0, 12000, withSr (fun r => { r with carrying := none, links := [] }) leased, by decide +kernel⟩⟩

/-- `ResetsAndTheStart`: the premises of each clause hold together. -/
theorem met_ResetsAndTheStart :
    (∃ t w σ, At (.warm t w) (fun s => w < s.part.wings ∧ s.power.fail = none ∧ s.power.quiesce = none) σ) ∧
    (∃ t w σ, At (.warm t w) (fun s => w < s.part.wings ∧ s.power.fail.isSome = true) σ) ∧
    (∃ t w σ, At (.warm t w) (fun s => w < s.part.wings ∧ s.power.fail = none ∧ s.power.quiesce.isSome = true) σ) ∧
    (∃ t w σ, At (.cold t w) (fun s => w < s.part.wings ∧ s.power.fail = none) σ) ∧
    (∃ t w σ, At (.cold t w) (fun s => w < s.part.wings ∧ s.power.fail.isSome = true) σ) ∧
    (∃ t via σ, At (.resetThePart t via 1) (fun s => viaLevel s via = 1 ∧ reaches s via 0x0C010000 = true ∧
      s.power.fail = none ∧ s.power.quiesce = none) σ) ∧
    (∃ t via σ, At (.resetThePart t via 2) (fun s => viaLevel s via = 1 ∧ reaches s via 0x0C010000 = true ∧
      s.power.fail = none) σ) ∧
    (∃ t via k σ, k ≠ 1 ∧ k ≠ 2 ∧ At (.resetThePart t via k) (fun s => reaches s via 0x0C010000 = true) σ) ∧
    (∃ t n σ, At (.rstnLow t n) (fun s => s.power.fail = none ∧ s.power.quiesce = none ∧ regF s (porOpt 0 0) 24 24 =
      0) σ) ∧
    (∃ t n σ, At (.rstnLow t n) (fun s => s.power.fail = none ∧ regF s (porOpt 0 0) 24 24 = 1) σ) ∧
    (∃ t w σ, At (.porterWatchdog t w) (fun s => w < s.part.wings ∧ regF s (porOpt w 1) 15 0 ≠ 0 ∧ s.power.fail = none
      ∧ s.power.quiesce = none) σ) ∧
    (∃ t w σ, At (.porterWatchdog t w) (fun s => regF s (porOpt w 1) 15 0 = 0 ∨ s.power.fail.isSome = true) σ) ∧
    (∃ t r a σ, At (.quiesceEnd t) (fun s => s.power.quiesce = some (r, a) ∧ opsBegun s = 0 ∧ a + 10000 ≤ s.clk.now)
      σ) ∧
    (∃ t σ, At (.quiesceEnd t) (fun s => ∀ r a, s.power.quiesce = some (r, a) → opsBegun s ≠ 0 ∨ s.clk.now < a +
      10000) σ) ∧
    (∃ t w pll σ, pll < 4 ∧ At (.pllLockLost t w pll) (fun s => w < s.part.wings ∧ regF s (porStat w) (16 + pll) (16 +
      pll) = 1 ∧ s.power.fail = none) σ) ∧
    (∃ t w pll σ, pll < 4 ∧ At (.pllLockLost t w pll) (fun s => w < s.part.wings ∧ regF s (porStat w) (16 + pll) (16 +
      pll) = 0 ∧ s.power.fail = none) σ) ∧
    (∃ t w pll σ, pll < 4 ∧ At (.pllLockLost t w pll) (fun s => w < s.part.wings ∧ s.power.fail.isSome = true ∧
      s.power.flush = none ∧ s.power.quiet ≤ w) σ) ∧
    (∃ t w k l σ, At (.domainRelease t w k l) (fun s => releaseReady s w k l = true) σ) ∧
    (∃ t w k l σ, At (.domainRelease t w k l) (fun s => releaseReady s w k l = false) σ) ∧
    (∃ t w l σ, At (.domainRelease t w 4 l) (fun s => releaseReady s w 4 l = true) σ) ∧
    (∃ t w l σ, At (.domainRelease t w 4 l) (fun s => releaseReady s w 4 l = true ∧ bit s.power.alone w = false ∧ ∀ v,
      v < s.part.wings → v ≠ w → released s v 4 = false) σ) ∧
    (∃ t w l σ, At (.domainRelease t w 6 l) (fun s => releaseReady s w 6 l = true ∧ s.power.started = false ∧ ∀ v, v <
      s.part.wings → v ≠ w → released s v 6 = true) σ) ∧
    (∃ t σ, At (.stretchEnd t) (fun s => s.power.driven = true ∧ (∀ w, w < s.part.wings → released s w 6 = true) ∧ max
      s.power.resetAt s.power.rstn + max 1 (regF s (porOpt 0 0) 23 16) * 1000000 ≤ s.clk.now) σ) ∧
    (∃ t w trcd taa trfc trc σ, At (.dramTrainingDone t w true trcd taa trfc trc) (fun s => w < s.part.wings ∧
      released s w 2 = true ∧ bit s.power.trained w = false ∧ regF s (porStat w) 24 24 = 0 ∧ ddrWin trfc ≤ 192 ∧ ddrLd
      s w trcd taa ≤ 208) σ) ∧
    (∃ t w ok trcd taa trfc trc σ, w < 8 ∧ At (.dramTrainingDone t w ok trcd taa trfc trc) (fun s => w < s.part.wings
      ∧ released s w 2 = true ∧ bit s.power.trained w = false ∧ regF s (porStat w) 24 24 = 0 ∧ (ok = false ∨ 192 <
      ddrWin trfc ∨ 208 < ddrLd s w trcd taa) ∧ LogRoom s w 1) σ) ∧
    (∃ t w ok trcd taa trfc trc σ, At (.dramTrainingDone t w ok trcd taa trfc trc) (fun s => released s w 2 = false ∨
      bit s.power.trained w = true ∨ regF s (porStat w) 24 24 = 1) σ) ∧
    (∃ t bad c g σ, AtFrom (optLost bad) (.optionLoad t bad) (fun s => optReady s = true ∧ keeperFree 0 0x0C02 s =
      true ∧ optPick s = some c ∧ g = s.power.optCopies.getD c []) σ) ∧
    (∃ t bad σ, AtFrom (optLost bad) (.optionLoad t bad) (fun s => optReady s = true ∧ keeperFree 0 0x0C02 s = true ∧
      optPick s = none) σ) ∧
    (∃ t σ, At (.optionLoadNoLink t) (fun s => released s 0 3 = true ∧ s.power.optDone = false ∧ s.power.optAt = none
      ∧ s.sr.carrying = none ∧ relAt s 0 3 + 100000000 ≤ s.clk.now) σ) ∧
    (∃ t via i v σ, i < 16 ∧ At (.optionWordSet t via i v) (fun s => reaches s via (0x0C020000 + i * 256) = true ∧
      noNewOps s = false ∧ srOpen s = true ∧ noPower s = false ∧ (energyCheck 0 4 (obj s 0x0C004100 * 1000000000) s).1
      = true) σ) ∧
    (∃ t via i v σ, i < 16 ∧ At (.optionWordSet t via i v) (fun s => reaches s via (0x0C020000 + i * 256) = true ∧
      (noNewOps s = true ∨ (energyCheck 0 4 (obj s 0x0C004100 * 1000000000) s).1 = false)) σ) ∧
    (∃ t hash σ, At (.imageHashDone t hash) (fun s => released s 0 2 = true ∧ regF s (porStat 0) 24 24 = 1 ∧
      s.power.image = none ∧ relAt s 0 2 + 2000 + ceilDiv (imageBytes s) 16 ≤ s.clk.now) σ) ∧
    (∃ t w mask σ, At (.releaseHeldPinGroups t none w mask) (fun s => w < s.part.wings) σ) ∧
    (∃ t via w mask σ, 8 ≤ mask ∧ At (.releaseHeldPinGroups t (some via) w mask) (fun s => reaches s via 0x0C010100 =
      true) σ) ∧
    (∃ t via v mask σ, mask < 8 ∧ At (.releaseHeldPinGroups t (some via) v mask) (fun s => reaches s via 0x0C010100 =
      true ∧ ∀ w, w < s.part.wings → errs s 0 (porPinhold w) true = false) σ) ∧
    (∃ t via v mask σ, mask < 8 ∧ At (.releaseHeldPinGroups t (some via) v mask) (fun s => reaches s via 0x0C010100 =
      true ∧ ∃ w, w < s.part.wings ∧ errs s 0 (porPinhold w) true = true) σ) :=
  ⟨⟨0, 2, leased, by decide +kernel⟩,
   ⟨0, 2, failed, by decide +kernel⟩,
   ⟨0, 2, withPow (fun p => { p with quiesce := some ({ cause := 5, cold := false, wing := 0 }, 5) }) leased,
     by decide +kernel⟩,
   ⟨0, 2, storeOn, by decide +kernel⟩,
   ⟨0, 2, failed, by decide +kernel⟩,
   ⟨0, .session 0, leased, by decide +kernel⟩,
   ⟨0, .session 0, storeOn, by decide +kernel⟩,
   ⟨0, .session 0, 3, leased, by decide +kernel⟩,
   ⟨0, 7, regPutF (porOpt 0 0) 24 24 0 leased, by decide +kernel⟩,
   ⟨0, 7, regPutF (porOpt 0 0) 24 24 1 leased, by decide +kernel⟩,
   ⟨0, 0, regPutF (porOpt 0 1) 15 0 7 leased, by decide +kernel⟩,
   ⟨0, 0, failed, by decide +kernel⟩,
   ⟨0, ({ cause := 5, cold := false, wing := 0 } : ResetReq), 5, withPow (fun p =>
     { p with quiesce := some ({ cause := 5, cold := false, wing := 0 }, 5) }) storeOn, by decide +kernel⟩,
   ⟨0, leased, none_pair (by decide +kernel)⟩,
   ⟨0, 2, 1, regPutF (porStat 2) 17 17 1 storeOn, by decide +kernel⟩,
   ⟨0, 2, 1, regPutF (porStat 2) 17 17 0 leased, by decide +kernel⟩,
   ⟨0, 2, 1, raise 2 5 0 0 0 failed, by decide +kernel⟩,
   ⟨0, 2, 3, 0, relMask 2 7 (withPow (fun p => { p with trained := 255 }) leased), by decide +kernel⟩,
   ⟨0, 2, 3, 0, leased, by decide +kernel⟩,
   ⟨0, 2, 0, relMask 2 15 (withPow (fun p => { p with trained := 255 }) leased), by decide +kernel⟩,
   ⟨0, 2, 0, (List.range 8).foldl (fun s w => relMask w 15 s) (withPow (fun p => { p with trained := 255 }) leased),
     by decide +kernel⟩,
   ⟨0, 2, 0, relMask 2 63 resetNow, by decide +kernel⟩,
   ⟨0, withPow (fun p => { p with driven := true }) leased, by decide +kernel⟩,
   ⟨0, 2, 14000, 14000, 130000, 46000, withPow (fun p => { p with trained := 0 }) leased, by decide +kernel⟩,
   ⟨0, 2, false, 14000, 14000, 350000, 46000, withPow (fun p => { p with trained := 0 }) leased, by decide +kernel⟩,
   ⟨0, 2, true, 14000, 14000, 350000, 46000, withPow (fun p => { p with trained := 255 }) leased, by decide +kernel⟩,
   ⟨0, ([] : List Nat), 0, (optWrite 3 9 linked).power.optCopies.getD 0 [], withPow (fun p =>
     { p with optDone := false }) (optWrite 3 9 linked), by decide +kernel⟩,
   ⟨0, ([] : List Nat), withPow (fun p => { p with optDone := false, optCopies := [] }) leased, by decide +kernel⟩,
   ⟨0, withSr (fun r => { r with carrying := none }) (withPow (fun p => { p with optDone := false }) leased),
     by decide +kernel⟩,
   ⟨0, .session 0, 3, 0x1234, leased, by decide +kernel⟩,
   ⟨0, .session 0, 3, 0x1234, withPow (fun p =>
     { p with quiesce := some ({ cause := 5, cold := false, wing := 0 }, 5) }) leased, by decide +kernel⟩,
   ⟨0, 7, regPutF (porStat 0) 24 24 1 booting, by decide +kernel⟩,
   ⟨0, 0, 5, regPutF (porPinhold 0) 2 0 7 leased, by decide +kernel⟩,
   ⟨0, .session 0, 0, 9, leased, by decide +kernel⟩,
   ⟨0, .session 0, 0, 5, leased, by decide +kernel⟩,
   ⟨0, .session 0, 0, 5, linkSet 0 0 { linkDefault with down := true } leased, by decide +kernel⟩⟩

/-- `MessagesReachTheConcierge`: the premises of each clause hold together. -/
theorem met_MessagesReachTheConcierge :
    (∃ t iface src c n σ, At (.dtlsHandshake t iface src c) (fun s => handshakeWhy s iface c = 0 ∧ (s.upd.shut = false
      ∨ iface = 8) ∧ (iface < s.part.wings ∨ iface = 8) ∧ freeSession s = some n ∧ anchorNow s = true) σ) ∧
    (∃ t iface src c n σ, At (.dtlsHandshake t iface src c) (fun s => handshakeWhy s iface c = 0 ∧ (s.upd.shut = false
      ∨ iface = 8) ∧ (iface < s.part.wings ∨ iface = 8) ∧ freeSession s = some n ∧ anchorNow s = false) σ) ∧
    (∃ t iface src c σ, At (.dtlsHandshake t iface src c) (fun s => handshakeWhy s iface c ≠ 0 ∧ (s.upd.shut = false ∨
      iface = 8) ∧ (iface < s.part.wings ∨ iface = 8) ∧ LogRoom s 0 1) σ) ∧
    (∃ t iface src c σ, iface ≠ 8 ∧ At (.dtlsHandshake t iface src c) (fun s => s.upd.shut = true ∨ s.part.wings ≤
      iface) σ) ∧
    (∃ t n why σ, At (.sessionEnd t n why) (fun s => (sessGet s n).isOpen = true ∧ (why = 1 ∨ why = 3 ∨ (why = 2 ∧
      (sessGet s n).last + obj s 0x0D020200 * 1000000000 ≤ s.clk.now))) σ) ∧
    (∃ t n g σ, n < 16 ∧ g.kind = 6 ∧ segmentOk g = true ∧ At (.segmentReceive t n g) (fun s => (sessGet s n).isOpen =
      true) σ) ∧
    (∃ t n g r σ, n < 16 ∧ ((g.kind ≠ 6 ∨ segmentOk g = false)) ∧ At (.segmentReceive t n g) (fun s => (sessGet s
      n).isOpen = true ∧ (sessGet s n).stored.find? (fun r => r.reqId == g.reqId) = some r) σ) ∧
    (∃ t n g σ, n < 16 ∧ ((g.kind ≠ 6 ∨ segmentOk g = false)) ∧ At (.segmentReceive t n g) (fun s => (sessGet s
      n).isOpen = true ∧ (∀ r ∈ (sessGet s n).stored, r.reqId ≠ g.reqId) ∧ ∃ m ∈ s.emp.queue, m.via = .session n ∧
      m.reqId = g.reqId) σ) ∧
    (∃ t n g σ, n < 16 ∧ g.kind ≠ 6 ∧ segmentOk g = true ∧ g.count = 1 ∧ At (.segmentReceive t n g) (fun s => (sessGet
      s n).isOpen = true ∧ (∀ r ∈ (sessGet s n).stored, r.reqId ≠ g.reqId) ∧ (∀ p ∈ (sessGet s n).parts, p.reqId ≠
      g.reqId) ∧ s.emp.queue.length < 64 ∧ ∀ m ∈ s.emp.queue, m.via ≠ .session n ∨ m.reqId ≠ g.reqId) σ) ∧
    (∃ t n g σ, n < 16 ∧ g.kind ≠ 6 ∧ segmentOk g = true ∧ 1 < g.count ∧ At (.segmentReceive t n g) (fun s => (sessGet
      s n).isOpen = true ∧ (∀ r ∈ (sessGet s n).stored, r.reqId ≠ g.reqId) ∧ (∀ p ∈ (sessGet s n).parts, p.reqId ≠
      g.reqId) ∧ ∀ m ∈ s.emp.queue, m.via ≠ .session n ∨ m.reqId ≠ g.reqId) σ) ∧
    (∃ t n g p l σ, n < 16 ∧ 1 ≤ g.kind ∧ g.kind ≤ 5 ∧ segmentOk g = true ∧ At (.segmentReceive t n g) (fun s =>
      (sessGet s n).isOpen = true ∧ (∀ r ∈ (sessGet s n).stored, r.reqId ≠ g.reqId) ∧ (sessGet s n).parts.find? (fun p
      => p.reqId == g.reqId) = some p ∧ segmentFits p g = true ∧ l = tabIns g.index g.body p.segs ∧ l.length = p.count
      ∧ (l.flatMap (·.2)).length ≤ 65600 ∧ s.emp.queue.length < 64 ∧ ∀ m ∈ s.emp.queue, m.via ≠ .session n ∨ m.reqId ≠
      g.reqId) σ) ∧
    (∃ t n g σ, n < 16 ∧ 1 ≤ g.kind ∧ g.kind ≤ 5 ∧ segmentOk g = true ∧ g.count = 1 ∧ At (.segmentReceive t n g) (fun
      s => (sessGet s n).isOpen = true ∧ (∀ r ∈ (sessGet s n).stored, r.reqId ≠ g.reqId) ∧ (∀ p ∈ (sessGet s n).parts,
      p.reqId ≠ g.reqId) ∧ s.emp.queue.length = 64 ∧ ∀ m ∈ s.emp.queue, m.at_ < s.clk.now ∧ (m.via ≠ .session n ∨
      m.reqId ≠ g.reqId)) σ) ∧
    (∃ t n g σ, n < 16 ∧ At (.segmentReceive t n g) (fun s => (segmentOk g = false ∨ (g.kind ≠ 6 ∧ ∃ p, (sessGet s
      n).parts.find? (fun p => p.reqId == g.reqId) = some p ∧ segmentFits p g = false)) ∧ (sessGet s n).isOpen = true
      ∧ (∀ r ∈ (sessGet s n).stored, r.reqId ≠ g.reqId) ∧ ∀ m ∈ s.emp.queue, m.via ≠ .session n ∨ m.reqId ≠ g.reqId)
      σ) ∧
    (∃ t n i p σ, At (.incomplete t n i) (fun s => (sessGet s n).parts.find? (fun p => p.reqId == i && decide (p.since
      + 2000000000 ≤ s.clk.now)) = some p) σ) ∧
    (∃ t w k σ, k < 4 ∧ At (.mailboxGo t w k) (fun s => w < s.part.wings ∧ (released s 0 5 = false ∨ ∃ m ∈
      s.emp.queue, m.via = .mailbox w k)) σ) ∧
    (∃ t w k a n b σ, k < 4 ∧ 16 ≤ n ∧ n ≤ 65616 ∧ At (.mailboxGo t w k) (fun s => w < s.part.wings ∧ released s 0 5 =
      true ∧ (∀ m ∈ s.emp.queue, m.via ≠ .mailbox w k) ∧ s.emp.queue.length < 64 ∧ a = regF s (mbxReq w k) 63 6 * 64 ∧
      n = regF s (mbxLen w k) 31 0 ∧ dramIn s w (regF s (mbxRsp w k) 63 6 * 64) 65616 = true ∧ dramIn s w a n = true ∧
      b = dramRead s a n ∧ beAt b 0 1 = 1 ∧ beAt b 2 2 = 1 ∧ 1 ≤ beAt b 1 1 ∧ beAt b 1 1 ≤ 3 ∧ beAt b 12 2 < 2) σ) ∧
    (∃ t w k a r n b bad σ, k < 4 ∧ At (.mailboxGo t w k) (fun s => w < s.part.wings ∧ released s 0 5 = true ∧ (∀ m ∈
      s.emp.queue, m.via ≠ .mailbox w k) ∧ a = regF s (mbxReq w k) 63 6 * 64 ∧ n = regF s (mbxLen w k) 31 0 ∧ r = regF
      s (mbxRsp w k) 63 6 * 64 ∧ dramIn s w r 65616 = true ∧ dramIn s w a (max 16 (min n 65616)) = true ∧ b = dramRead
      s a (min n 65616) ∧ bad = decide (n < 16 ∨ 65616 < n) ∧ (bad = true ∨ beAt b 0 1 ≠ 1 ∨ beAt b 2 2 ≠ 1 ∨ beAt b 1
      1 = 0 ∨ 3 < beAt b 1 1 ∨ 2 ≤ beAt b 12 2)) σ) ∧
    (∃ t w k σ, k < 4 ∧ At (.mailboxGo t w k) (fun s => w < s.part.wings ∧ released s 0 5 = true ∧ (∀ m ∈ s.emp.queue,
      m.via ≠ .mailbox w k) ∧ (dramIn s w (regF s (mbxRsp w k) 63 6 * 64) 65616 = false ∨ dramIn s w (regF s (mbxReq w
      k) 63 6 * 64) (max 16 (min (regF s (mbxLen w k) 31 0) 65616)) = false)) σ) :=
  ⟨⟨0, 1, 7, chain0, 1, objPut 0x0D020101 1 (octPut 0x0D020001 [1] leased), by decide +kernel⟩,
   ⟨0, 8, 7, chain0, 0, sess sessionDefault leased, by decide +kernel⟩,
   ⟨0, 1, 7, ({ chain0 with certs := 0 } : ClientChain), leased, by decide +kernel⟩,
   ⟨0, 9, 7, chain0, leased, by decide +kernel⟩,
   ⟨0, 0, 2, leased, by decide +kernel⟩,
   ⟨0, 0, ({ seg0 with kind := 6 } : EmpSegment), sess { sess0 with unacked := [notif 7, notif 8] } leased,
     by decide +kernel⟩,
   ⟨0, 0, seg0, ({ reqId := 7, obj := 5, status := 0, body := [2] } : Stored), sess
     { sess0 with stored := [{ reqId := 7, obj := 5, status := 0, body := [2] }] } leased, by decide +kernel⟩,
   ⟨0, 0, ({ seg0 with version := 2 } : EmpSegment), withMsgs [msgOf 0 5] leased, by decide +kernel⟩,
   ⟨0, 0, seg0, leased, by decide +kernel⟩,
   ⟨0, 0, ({ seg0 with count := 2 } : EmpSegment), leased, by decide +kernel⟩,
   ⟨0, 0, ({ seg0 with count := 2, index := 1 } : EmpSegment), part0 [(0, [5])], [(0, [5]), (1, [1])], sess
     { sess0 with parts := [part0 [(0, [5])]] } leased, by decide +kernel⟩,
   ⟨0, 0, seg0, withMsgs (List.replicate 64 (msgOf 1 5)) leased, by decide +kernel⟩,
   ⟨0, 0, { seg0 with version := 2 }, leased, by decide +kernel⟩,
   ⟨0, 0, 7, ({ reqId := 7, kind := 1, count := 2, obj := 5, flags := 0, segs := [], since := 5 } : Partial), sess
     { sess0 with parts := [{ reqId := 7, kind := 1, count := 2, obj := 5, flags := 0, segs := [], since := 5 }] }
     leased, by decide +kernel⟩,
   ⟨0, 0, 1, relMask 0 31 leased, by decide +kernel⟩,
   ⟨0, 0, 1, 0x4000, 20, dramRead (mbox 20) 0x4000 20, mbox 20, by decide +kernel⟩,
   ⟨0, 0, 1, 0x4000, 0x400000, 5, dramRead (mbox 5) 0x4000 5, true, mbox 5, by decide +kernel⟩,
   ⟨0, 0, 1, regPutF (mbxRsp 0 1) 63 6 0x3FFFFFFFFFFFF (mbox 20), by decide +kernel⟩⟩

/-- `ObjectsAreServed`: the premises of each clause hold together. -/
theorem met_ObjectsAreServed :
    (∃ t via n st σ, At (.getObj t via n) (fun s => viaOpen s via = true ∧ viaFits s n via = true ∧ objChecked s n =
      (st, none)) σ) ∧
    (∃ t via n st d σ, At (.getObj t via n) (fun s => viaOpen s via = true ∧ viaFits s n via = true ∧ objChecked s n =
      (st, some d) ∧ (d.acc = .ro ∨ d.acc = .rw) ∧ readFails s n = false) σ) ∧
    (∃ t via n st d σ, At (.getObj t via n) (fun s => viaOpen s via = true ∧ viaFits s n via = true ∧ objChecked s n =
      (st, some d) ∧ (d.acc = .ro ∨ d.acc = .rw) ∧ readFails s n = true) σ) ∧
    (∃ t via n st d σ, At (.getObj t via n) (fun s => viaOpen s via = true ∧ viaFits s n via = true ∧ objChecked s n =
      (st, some d) ∧ d.acc ≠ .ro ∧ d.acc ≠ .rw) σ) ∧
    (∃ t via n st d v σ, n / 1048576 ≠ 0x021 ∧ n / 256 ≠ 0x040020 ∧ n / 256 ≠ 0x040021 ∧ n ≠ 0x04002200 ∧ ((n / 65536
      ≠ 0x0C02 ∨ 0x210 ≤ objIdx n)) ∧ At (.setObj t via n v) (fun s => viaOpen s via = true ∧ viaFits s n via = true ∧
      loaderHides s n false = false ∧ objChecked s n = (st, some d) ∧ (d.acc = .rw ∨ d.acc = .wo) ∧ (d.lev = .engineer
      ∨ d.lev = .operator) ∧ (d.lev = .engineer → viaLevel s via = 1) ∧ widthOk d v = true ∧ objInRange d v = true ∧
      setRange n v s = true) σ) ∧
    (∃ t via n st d v x σ, At (.setObj t via n v) (fun s => viaOpen s via = true ∧ viaFits s n via = true ∧
      loaderHides s n false = false ∧ objChecked s n = (st, some d) ∧ firstFail [(decide (d.acc = .rw ∨ d.acc = .wo),
      stACCESS), (decide (d.lev ≠ .factory) && (decide (d.lev ≠ .engineer) || viaLevel s via == 1), stLEVEL), (widthOk
      d v, stTYPE), (objInRange d v && setRange n v s, stRANGE), (decide (d.lev ≠ .legal), stAUTH)] = some x) σ) ∧
    (∃ t via n st v σ, At (.setObj t via n v) (fun s => viaOpen s via = true ∧ viaFits s n via = true ∧ loaderHides s
      n false = false ∧ objChecked s n = (st, none)) σ) ∧
    (∃ t n o b σ, At (.subscribe t n o b) (fun s => (sessGet s n).isOpen = true ∧ viaOpen s (.session n) = true ∧
      firstFail (subChecks n o (objChecked s o).2 b s) = none) σ) ∧
    (∃ t n o b x σ, At (.subscribe t n o b) (fun s => viaOpen s (.session n) = true ∧ firstFail (subChecks n o
      (objChecked s o).2 b s) = some x) σ) ∧
    (∃ t n i σ, At (.unsubscribe t n i) (fun s => viaOpen s (.session n) = true ∧ ∃ y ∈ (sessGet s n).subs, y.id = i)
      σ) ∧
    (∃ t n i σ, At (.unsubscribe t n i) (fun s => viaOpen s (.session n) = true ∧ ∀ y ∈ (sessGet s n).subs, y.id ≠ i)
      σ) ∧
    (∃ t n i σ, At (.ack t n i) (fun s => (sessGet s n).isOpen = true) σ) ∧
    (∃ t n σ, At (.notify t n) (fun s => (sessGet s n).isOpen = true) σ) ∧
    (∃ t n y σ, At (.notify t n) (fun s => (sessGet s n).isOpen = true ∧ (sessGet s n).subs = [] ∧ (sessGet s n).queue
      = [y] ∧ (sessGet s n).unacked.length < 16) σ) ∧
    (∃ t n y b σ, At (.notify t n) (fun s => (sessGet s n).isOpen = true ∧ (sessGet s n).subs = [y] ∧ (subDue s y).1 =
      [b] ∧ (sessGet s n).queue = [] ∧ (sessGet s n).unacked.length < 16) σ) ∧
    (∃ t n i y σ, At (.notifyRetransmit t n i) (fun s => (sessGet s n).unacked.find? (fun y => y.seq == i && decide
      (y.sentAt + 1000000000 ≤ s.clk.now)) = some y ∧ y.tries < 3) σ) ∧
    (∃ t n i y σ, At (.notifyRetransmit t n i) (fun s => (sessGet s n).unacked.find? (fun y => y.seq == i && decide
      (y.sentAt + 1000000000 ≤ s.clk.now)) = some y ∧ 3 ≤ y.tries ∧ (sessGet s n).queue = []) σ) ∧
    (∃ t via n σ, At (.unreachable t via n) (fun s => viaOpen s via = true) σ) :=
  ⟨⟨0, .session 0, 0x12345678, stNO_OBJECT, leased, by decide +kernel⟩,
   ⟨0, .session 0, 0x0C003100, stDONE, ((objChecked leased 0x0C003100).2.getD odef), leased, by decide +kernel⟩,
   ⟨0, .session 0, 0x02000500, stDONE, ((objChecked leased 0x02000500).2.getD odef), withSr (fun r =>
     { r with carrying := none, links := [] }) leased, by decide +kernel⟩,
   ⟨0, .session 0, 0x0C010000, stDONE, ((objChecked leased 0x0C010000).2.getD odef), leased, by decide +kernel⟩,
   ⟨0, .session 0, 0x0D020200, stDONE, ((objChecked leased 0x0D020200).2.getD odef), toBe 4 200, leased,
     by decide +kernel⟩,
   ⟨0, .session 0, 0x0C003100, stDONE, ((objChecked leased 0x0C003100).2.getD odef), toBe 7 7, stTYPE, leased,
     by decide +kernel⟩,
   ⟨0, .session 0, 0x12345678, stNO_OBJECT, toBe 4 200, leased, by decide +kernel⟩,
   ⟨0, 0, 0, [2, 0] ++ toBe 2 0 ++ toBe 2 0 ++ [0, 0] ++ toBe 4 1000, leased, by decide +kernel⟩,
   ⟨0, 0, 0, [3, 0] ++ toBe 2 0 ++ toBe 2 0 ++ [0, 0] ++ toBe 4 1000, stRANGE, leased, by decide +kernel⟩,
   ⟨0, 0, 3, sess { sess0 with subs := [sub1] } leased, by decide +kernel⟩,
   ⟨0, 0, 4, sess { sess0 with subs := [sub1] } leased, by decide +kernel⟩,
   ⟨0, 0, 7, sess { sess0 with unacked := [notif 7, notif 8] } leased, by decide +kernel⟩,
   ⟨0, 0, sess { sess0 with subs := [sub1], queue := List.replicate 300 (notif 3) } (raise 0 5 0 0 0 leased),
     by decide +kernel⟩,
   ⟨0, 0, notif 0, sess { sess0 with queue := [notif 0], unacked := [notif 2], seq := 5 } leased, by decide +kernel⟩,
   ⟨0, 0, sub1, (subDue subRaised sub1).1.headD (notif 0), subRaised, by decide +kernel⟩,
   ⟨0, 0, 7, notif 7, sess { sess0 with unacked := [notif 7] } leased, by decide +kernel⟩,
   ⟨0, 0, 7, { notif 7 with tries := 3 }, sess { sess0 with unacked := [{ notif 7 with tries := 3 }] } leased,
     by decide +kernel⟩,
   ⟨0, .session 0, 5, leased, by decide +kernel⟩⟩

/-- `FirmwareIsTriedAndConfirmed`: the premises of each clause hold together. -/
theorem met_FirmwareIsTriedAndConfirmed :
    (∃ t σ, At (.warmTokenCheck t) (fun s => srOpen s = true ∧ keeperFree 0 0x0C01 s = true ∧ s.power.hash.isSome =
      true ∧ s.power.image = none ∧ s.upd.verdict = none) σ) ∧
    (∃ t σ, At (.warmTokenCheck t) (fun s => srOpen s = false ∨ keeperFree 0 0x0C01 s = false ∨ s.power.hash = none ∨
      s.power.image.isSome = true ∨ s.upd.verdict.isSome = true) σ) ∧
    (∃ c k σ, (((∃ t via h, c = Instr.beginDownload t via h) ∧ k = 0x0D06) ∨ ((∃ t via, c = Instr.abandonDownload t
      via) ∧ k = 0x0D06) ∨ ((∃ t via, c = Instr.verify t via) ∧ k = 0x0D01) ∨ ((∃ t via, c = Instr.commitTheActivation
      t via) ∧ k = 0x0D03)) ∧ At c (fun s => keeperFree 0 k s = false) σ) ∧
    (∃ t via h σ, At (.beginDownload t via h) (fun s => keeperFree 0 0x0D06 s = true ∧ mayUpdate s via 0x0D010000 true
      = true ∧ noPower s = false ∧ firstCheck (headChecks s h) = none) σ) ∧
    (∃ t via h σ, At (.beginDownload t via h) (fun s => keeperFree 0 0x0D06 s = true ∧ mayUpdate s via 0x0D010000 true
      = true ∧ (noPower s = true ∨ firstCheck (headChecks s h) ≠ none)) σ) ∧
    (∃ t via c d σ, At (.writeChunk t via c d) (fun s => chunkTaken via (chunkStatus c d s) c s = true ∧
      s.upd.chunks.any (fun y => y.via == via) = false) σ) ∧
    (∃ t via c d σ, At (.writeChunk t via c d) (fun s => s.upd.chunks.any (fun y => y.via == via) = true) σ) ∧
    (∃ t n o b y σ, o.blk = some b ∧ o.stream = 4 ∧ o.src = [] ∧ At (.programComplete t 0 true) (fun s => opIndex
      (opEnds s 0 0) (storeGet s 0).ops = some n ∧ (storeGet s 0).ops[n]? = some o ∧ chunkEnding s o.day y ∧
      chunkAnswer s = stDONE) σ) ∧
    (∃ t via c d σ, At (.writeChunk t via c d) (fun s => mayUpdate s via 0x0D010100 true = true ∧ chunkStatus c d s =
      stDONE ∧ chunkHeld s c = true) σ) ∧
    (∃ t via c d σ, At (.writeChunk t via c d) (fun s => mayUpdate s via 0x0D010100 true = true ∧ chunkStatus c d s =
      stDONE ∧ chunkHeld s c = false ∧ s.upd.shut = true ∧ noPower s = false) σ) ∧
    (∃ t via c d σ, At (.writeChunk t via c d) (fun s => mayUpdate s via 0x0D010100 true = true ∧ chunkStatus c d s ≠
      stDONE) σ) ∧
    (∃ t via σ, At (.abandonDownload t via) (fun s => keeperFree 0 0x0D06 s = true ∧ mayUpdate s via 0x0D010300 true =
      true) σ) ∧
    (∃ t via σ, At (.verify t via) (fun s => keeperFree 0 0x0D01 s = true ∧ mayUpdate s via 0x0D011000 true = true) σ) ∧
    (∃ t h g σ, At (.verifyHead t h g) (fun s => srOpen s = true ∧ keeperFree 0 0x0D01 s = true) σ) ∧
    (∃ t g σ, At (.verifyLms t g) (fun s => srOpen s = true ∧ keeperFree 0 0x0D02 s = true) σ) ∧
    (∃ t h σ, At (.downloadRecord t h) (fun s => srOpen s = true ∧ keeperFree 0 0x0D06 s = true) σ) ∧
    (∃ t σ, At (.counterRead t) (fun s => srOpen s = true ∧ keeperFree 0 0x0D07 s = true) σ) ∧
    (∃ c k σ, ((∃ t h g, c = Instr.verifyHead t h g ∧ k = 0x0D01) ∨ (∃ t g, c = Instr.verifyLms t g ∧ k = 0x0D02) ∨ (∃
      t h, c = Instr.downloadRecord t h ∧ k = 0x0D06) ∨ (∃ t, c = Instr.counterRead t ∧ k = 0x0D07)) ∧ At c (fun s =>
      srOpen s = false ∨ keeperFree 0 k s = false) σ) ∧
    (∃ t via σ, At (.startTheSlotWrite t via) (fun s => mayUpdate s via 0x0D012000 false = true ∧ s.upd.verified =
      true ∧ ptrConfirmed (ptr s) = true) σ) ∧
    (∃ t via σ, At (.startTheSlotWrite t via) (fun s => mayUpdate s via 0x0D012000 false = true ∧ (s.upd.verified =
      false ∨ ptrConfirmed (ptr s) = false)) σ) ∧
    (∃ t slot a σ, At (.slotWriteDone t) (fun s => s.upd.writing = some (slot, a) ∧ a + slotWriteLeast s slot ≤
      s.clk.now ∧ srOpen s = true) σ) ∧
    (∃ t σ, At (.slotWriteDone t) (fun s => ∀ slot a, s.upd.writing = some (slot, a) → s.clk.now < a + slotWriteLeast
      s slot ∨ srOpen s = false) σ) ∧
    (∃ t via slot σ, At (.commitTheActivation t via) (fun s => keeperFree 0 0x0D03 s = true ∧ mayUpdate s via
      0x0D012100 true = true ∧ s.upd.done = some slot ∧ noPower s = false ∧ noNewOps s = false ∧ (energyCheck 0 2 (obj
      s 0x0C004000 * 1000000000) s).1 = true) σ) ∧
    (∃ t via slot σ, At (.commitTheActivation t via) (fun s => keeperFree 0 0x0D03 s = true ∧ mayUpdate s via
      0x0D012100 true = true ∧ s.upd.done = some slot ∧ (noPower s = true ∨ noNewOps s = true ∨ (energyCheck 0 2 (obj
      s 0x0C004000 * 1000000000) s).1 = false)) σ) ∧
    (∃ t via σ, At (.commitTheActivation t via) (fun s => keeperFree 0 0x0D03 s = true ∧ mayUpdate s via 0x0D012100
      true = true ∧ s.upd.done = none) σ) ∧
    (∃ t a σ, At (.activationReset t) (fun s => s.upd.actAt = some a ∧ a ≤ s.clk.now) σ) ∧
    (∃ t σ, At (.activationReset t) (fun s => ∀ a, s.upd.actAt = some a → s.clk.now < a) σ) ∧
    (∃ t a b bad n σ, AtFrom (fun s => startRead bad (slotGiven 2 b (slotGiven 1 a s))) (.start t a b bad) (fun s =>
      imageStepDue s = true ∧ keeperFree 0 0x0D04 s = true ∧ noPower s = false ∧ regF s (porStat 0) 24 24 = 0 ∧
      s.upd.verdict = none ∧ ptrConfirmed (ptr s) = true ∧ n = ptrActive (ptr s)) σ) ∧
    (∃ t a b bad n σ, AtFrom (fun s => startRead bad (slotGiven 2 b (slotGiven 1 a s))) (.start t a b bad) (fun s =>
      imageStepDue s = true ∧ keeperFree 0 0x0D04 s = true ∧ noPower s = false ∧ regF s (porStat 0) 24 24 = 1 ∧
      s.power.hash.isSome = true ∧ ptrConfirmed (ptr s) = true ∧ n = ptrActive (ptr s) ∧ s.upd.verdict ≠ some false ∧
      tokenMatches s = true) σ) ∧
    (∃ t a b bad n σ, AtFrom (fun s => startRead bad (slotGiven 2 b (slotGiven 1 a s))) (.start t a b bad) (fun s =>
      imageStepDue s = true ∧ keeperFree 0 0x0D04 s = true ∧ noPower s = false ∧ regF s (porStat 0) 24 24 = 0 ∧
      s.upd.verdict = none ∧ ptrConfirmed (ptr s) = false ∧ n = ptrActive (ptr s) ∧ ptrTrials (ptr s) < 3) σ) ∧
    (∃ t a b bad n σ, AtFrom (fun s => startRead bad (slotGiven 2 b (slotGiven 1 a s))) (.start t a b bad) (fun s =>
      imageStepDue s = true ∧ keeperFree 0 0x0D04 s = true ∧ noPower s = false ∧ regF s (porStat 0) 24 24 = 0 ∧
      s.upd.verdict = none ∧ ptrConfirmed (ptr s) = false ∧ ptrActive (ptr s) ≠ 0 ∧ 3 ≤ ptrTrials (ptr s) ∧ n =
      ptrPrev (ptr s)) σ) ∧
    (∃ t a b bad n σ, AtFrom (fun s => startRead bad (slotGiven 2 b (slotGiven 1 a s))) (.start t a b bad) (fun s =>
      imageStepDue s = true ∧ keeperFree 0 0x0D04 s = true ∧ noPower s = false ∧ regF s (porStat 0) 24 24 = 0 ∧
      s.upd.verdict = none ∧ ptrConfirmed (ptr s) = true ∧ (slotCheck s (ptrActive (ptr s))).1 = false ∧ n = ptrPrev
      (ptr s) ∧ ptrPrevFailed (ptr s) = false) σ) ∧
    (∃ t a b bad σ, AtFrom (fun s => startRead bad (slotGiven 2 b (slotGiven 1 a s))) (.start t a b bad) (fun s =>
      imageStepDue s = true ∧ keeperFree 0 0x0D04 s = true ∧ noPower s = false ∧ regF s (porStat 0) 24 24 = 0 ∧
      s.upd.verdict = none ∧ (ptrConfirmed (ptr s) = true ∨ ptrActive (ptr s) = 0) ∧ (slotCheck s (ptrActive (ptr
      s))).1 = false ∧ (ptrPrev (ptr s) = 0 ∨ ptrPrevFailed (ptr s) = true ∨ (slotCheck s (ptrPrev (ptr s))).1 =
      false)) σ) ∧
    (∃ t a b bad σ, AtFrom (fun s => startRead bad (slotGiven 2 b (slotGiven 1 a s))) (.start t a b bad) (fun s =>
      imageStepDue s = true ∧ keeperFree 0 0x0D04 s = true ∧ noPower s = true ∧ regF s (porStat 0) 24 24 = 0 ∧ mramOf
      (imageStep s) ≠ mramOf s) σ) ∧
    (∃ t d σ, At (.trialTimeEnd t) (fun s => s.upd.trial = some d ∧ d + obj s 0x0D013100 * 1000000000 ≤ s.clk.now) σ) ∧
    (∃ t σ, At (.trialTimeEnd t) (fun s => ∀ d, s.upd.trial = some d → s.clk.now < d + obj s 0x0D013100 * 1000000000)
      σ) ∧
    (∃ t n x σ, x ≤ 1 ∧ At (.confirm t (.session n) x) (fun s => keeperFree 0 0x0D05 s = true ∧ updWaits s = false ∧
      reaches s (.session n) 0x0D013000 = true ∧ s.upd.writing = none ∧ ptrConfirmed (ptr s) = false ∧ s.power.started
      = true ∧ (fallBack s = true → x = 1) ∧ srOpen s = true ∧ noPower s = false) σ) ∧
    (∃ t n x σ, x ≤ 1 ∧ At (.confirm t (.session n) x) (fun s => keeperFree 0 0x0D05 s = true ∧ updWaits s = false ∧
      reaches s (.session n) 0x0D013000 = true ∧ s.upd.writing = none ∧ (ptrConfirmed (ptr s) = true ∨ s.power.started
      = false ∨ (fallBack s = true ∧ x = 0))) σ) ∧
    (∃ t via x σ, ((∀ n, via ≠ .session n)) ∧ At (.confirm t via x) (fun s => viaOpen s via = true ∧ viaFits s
      0x0D013000 via = true) σ) ∧
    (∃ t a b σ, At (.shuttered t) (fun s => s.upd.noSlot = some (a, b) ∧ s.power.fail = none ∧ 0 < s.part.wings) σ) ∧
    (∃ t c σ, At (.shuttered t) (fun s => s.upd.noSlot = some c ∧ s.power.fail.isSome = true) σ) ∧
    (∃ t σ, At (.shuttered t) (fun s => s.upd.noSlot = none) σ) ∧
    (∃ t via σ, At (.enterTheRecoveryLoader t via) (fun s => mayUpdate s via 0x0D014000 false = true ∧ viaLevel s via
      = 1 ∧ s.upd.shut = false ∧ s.power.fail = none ∧ 0 < s.part.wings) σ) ∧
    (∃ t via σ, At (.enterTheRecoveryLoader t via) (fun s => viaOpen s via = true ∧ viaFits s 0x0D014000 via = true ∧
      updWaits s = false ∧ servicePath s via = false) σ) :=
  ⟨⟨0, withPow (fun p => { p with hash := some [1] }) booting, by decide +kernel⟩,
   ⟨0, booting, by decide +kernel⟩,
   ⟨Instr.verify 0 (.session 0), 0x0D01, withSr (fun r =>
     { r with doors := [{ slot := 1, kind := 0x0D02, at_ := 5 }] }) staged1, Or.inr (Or.inr (Or.inl ⟨⟨0, .session 0,
     rfl⟩, rfl⟩)), by decide +kernel⟩,
   ⟨0, .session 0, hdr, keyed, by decide +kernel⟩,
   ⟨0, .session 0, hdr.take 511, keyed, by decide +kernel⟩,
   ⟨0, .session 0, 0, List.replicate 2476 (3 : Byte), staged1, by decide +kernel⟩,
   ⟨0, .session 0, 0, List.replicate 2476 (3 : Byte), withUpd (fun x =>
     { x with chunks := [{ c := 0, via := .session 0, serial := 1, left := 1 }] }) staged1, by decide +kernel⟩,
   ⟨0, (0 : Nat), ({ opOf 0 4 30 [page0] with day := 1 } : NandOp), 30,
     ({ c := 0, via := .session 0, serial := 1, left := 1 } : ChunkWait), withStore (fun x =>
     { x with blocks := [(30, blk0)], ops := [{ opOf 0 4 30 [page0] with day := 1 }] }) (withUpd (fun x =>
     { x with chunks := [{ c := 0, via := .session 0, serial := 1, left := 1 }] }) staged1), by
     refine ⟨?_, ?_, ?_, ?_, ?_, by unfold chunkEnding; decide +kernel, ?_⟩ <;> decide +kernel⟩,
   ⟨0, .session 0, 0, List.replicate 2476 3, octPut 0x0D010500 [0x80] staged1, by decide +kernel⟩,
   ⟨0, .session 0, 0, List.replicate 2476 (3 : Byte), withUpd (fun x => { x with shut := true }) staged1,
     by decide +kernel⟩,
   ⟨0, .session 0, 0, List.replicate 2475 3, staged1, by decide +kernel⟩,
   ⟨0, .session 0, staged1, by decide +kernel⟩,
   ⟨0, .session 0, octPut 0x0D010500 [0x80] staged1, by decide +kernel⟩,
   ⟨0, [1], [2], staged1, by decide +kernel⟩,
   ⟨0, [2], withUpd (fun x => { x with head := some ([1], [2]) }) staged1, by decide +kernel⟩,
   ⟨0, hdr, keyed, by decide +kernel⟩,
   ⟨0, staged1, by decide +kernel⟩,
   ⟨Instr.counterRead 0, 0x0D07, withSr (fun r => { r with carrying := none, links := [] }) staged1, Or.inr (Or.inr
     (Or.inr ⟨0, rfl, rfl⟩)), by decide +kernel⟩,
   ⟨0, .session 0, withUpd (fun x => { x with verified := true }) staged1, by decide +kernel⟩,
   ⟨0, .session 0, staged1, by decide +kernel⟩,
   ⟨0, 2, 0, withUpd (fun x => { x with writing := some (2, 0) }) staged1, by decide +kernel⟩,
   ⟨0, staged1, none_pair (by decide +kernel)⟩,
   ⟨0, .session 0, 2, withUpd (fun x => { x with done := some 2 }) staged1, by decide +kernel⟩,
   ⟨0, .session 0, 2, withPow (fun p => { p with quiesce := some ({ cause := 5, cold := false, wing := 0 }, 5) })
     (withUpd (fun x => { x with done := some 2 }) staged1), by decide +kernel⟩,
   ⟨0, .session 0, staged1, by decide +kernel⟩,
   ⟨0, 5, withUpd (fun x => { x with actAt := some 5 }) staged1, by decide +kernel⟩,
   ⟨0, staged1, by decide +kernel⟩,
   ⟨0, [], [], ([] : List Nat), 1, booting, by decide +kernel⟩,
   ⟨0, [], [], ([] : List Nat), 1, withPow (fun p =>
     { p with hash := some [9], token := some { hash := [9], slot := 1, gen := ptrGen (ptr booting) } }) (regPutF
     (porStat 0) 24 24 1 booting), by decide +kernel⟩,
   ⟨0, [], [], ([] : List Nat), 2, objPut 0x0D012300 0x0000002A00000012 booting, by decide +kernel⟩,
   ⟨0, [], [], ([] : List Nat), 1, objPut 0x0D012300 0x0000002A00030012 booting, by decide +kernel⟩,
   ⟨0, [], [], ([] : List Nat), 2, objPut 0x0D012300 0x121 booting, by decide +kernel⟩,
   ⟨0, [], [], ([] : List Nat), booting, by decide +kernel⟩,
   ⟨0, [], [], ([] : List Nat), noKeeper (objPut 0x0D012300 0x0000002A00000012 booting), by decide +kernel⟩,
   ⟨0, 5, withUpd (fun x => { x with trial := some 5 }) (objPut 0x0D013100 1 staged1), by decide +kernel⟩,
   ⟨0, staged1, by decide +kernel⟩,
   ⟨0, 0, 1, withUpd (fun x => { x with run := hdr }) (objPut 0x0D012300 0x0000002A00030012 staged1),
     by decide +kernel⟩,
   ⟨0, 0, 1, staged1, by decide +kernel⟩,
   ⟨0, .mailbox 0 1, 1, staged1, nofun, by decide +kernel⟩,
   ⟨0, 7, 8, withUpd (fun x => { x with noSlot := some (7, 8) }) booting, by decide +kernel⟩,
   ⟨0, ((7, 8) : Nat × Nat), withUpd (fun x => { x with noSlot := some (7, 8) }) failed, by decide +kernel⟩,
   ⟨0, staged1, by decide +kernel⟩,
   ⟨0, .session 0, staged1, by decide +kernel⟩,
   ⟨0, .mailbox 0 1, staged1, by decide +kernel⟩⟩

end Sys2Proof.Tests
end

section
namespace Sys2Proof.Proofs.LaterThan

open Sys2Proof.Machine

/-- The difference `laterW` forms in `Nat`, with `2 ^ w` added against the borrow, is the bit vectors' own. -/
theorem toNat_ofNat_sub_ofNat (w a b : Nat) :
    (BitVec.ofNat w a - BitVec.ofNat w b).toNat = (a + 2 ^ w - b % 2 ^ w) % 2 ^ w := by
  have hb : b % 2 ^ w < 2 ^ w := Nat.mod_lt b (Nat.two_pow_pos w)
  rw [BitVec.toNat_sub, BitVec.toNat_ofNat, BitVec.toNat_ofNat, Nat.add_mod_mod]
  congr 1
  omega

theorem laterW_iff (w a b : Nat) :
    laterW w a b = true ↔
      0 < (BitVec.ofNat w a - BitVec.ofNat w b).toNat ∧
        (BitVec.ofNat w a - BitVec.ofNat w b).toNat < 2 ^ (w - 1) := by
  simp only [laterW, decide_eq_true_eq, toNat_ofNat_sub_ofNat]

/-- The half `2 ^ (w - 1)` itself is excluded: it reads as the most negative number. The library's
`BitVec.toInt_pos_iff` is about `0 ≤ x.toInt`. -/
theorem zero_lt_toInt_iff {w : Nat} (hw : 0 < w) (x : BitVec w) :
    0 < x.toInt ↔ 0 < x.toNat ∧ x.toNat < 2 ^ (w - 1) := by
  have hhalf : 2 ^ (w - 1) * 2 = 2 ^ w := Nat.pow_pred_mul hw
  have hx : x.toNat < 2 ^ w := x.isLt
  rw [BitVec.toInt_eq_toNat_cond]
  split <;> omega

/-- Settles O11: the model's test on the difference's magnitude is the sign test of R6. -/
theorem laterIsBySignedDifference : Obligations.LaterIsBySignedDifference := by
  intro w a b hw
  rw [laterW_iff, zero_lt_toInt_iff hw]

end Sys2Proof.Proofs.LaterThan
end

section
namespace Sys2Proof.Proofs.Routes

open Sys2Proof.Machine

/-- The set bits among the three ports of a wing, ascending: the dimensions a route still has to cross. -/
def setBits (d : Nat) : List Nat := (List.range 3).filter d.testBit

theorem mem_setBits {d p : Nat} : p ∈ setBits d ↔ p < 3 ∧ d.testBit p = true := by
  simp [setBits]

theorem length_setBits_le (d : Nat) : (setBits d).length ≤ 3 :=
  List.length_filter_le _ _

theorem head_of_setBits_cons {d p : Nat} {ps : List Nat} (h : setBits d = p :: ps) :
    p < 3 ∧ d.testBit p = true :=
  mem_setBits.1 (by simp [h])

theorem find?_range_three (q : Nat → Bool) :
    (List.range 3).find? q = if q 0 then some 0 else if q 1 then some 1 else if q 2 then some 2 else none := by
  rw [show List.range 3 = [0, 1, 2] from rfl]
  cases h0 : q 0 with
  | true => simp [h0]
  | false => cases h1 : q 1 <;> cases h2 : q 2 <;> simp [h0, h1, h2]

theorem firstPort_eq_head? (a b : Nat) : firstPort a b = (setBits (a ^^^ b)).head? := by
  rw [setBits, List.head?_filter, find?_range_three]
  rfl

/-- Crossing the first port clears its bit and leaves the later ones. -/
theorem setBits_xor_two_pow {d p : Nat} {ps : List Nat} (h : setBits d = p :: ps) :
    setBits (d ^^^ 2 ^ p) = ps := by
  have hp : d.testBit p = true := (head_of_setBits_cons h).2
  have hnodup : (p :: ps).Nodup := h ▸ List.nodup_range.filter _
  have hbit : (d ^^^ 2 ^ p).testBit = fun i => (i != p) && d.testBit i := by
    funext i
    by_cases hi : i = p
    · simp [hi, hp]
    · simp [Nat.testBit_two_pow_of_ne (Ne.symm hi), hi]
  calc setBits (d ^^^ 2 ^ p)
      = (setBits d).filter (· != p) := by simp [setBits, hbit, List.filter_filter]
    _ = ps.filter (· != p) := by simp [h]
    _ = ps := List.filter_eq_self.2 fun i hi => by
        simpa using fun heq : i = p => (List.nodup_cons.1 hnodup).1 (heq ▸ hi)

theorem eq_of_setBits_eq_nil {a b : Nat} (ha : a < 8) (hb : b < 8) (h : setBits (a ^^^ b) = []) :
    a = b := by
  refine Nat.eq_of_testBit_eq fun i => ?_
  by_cases hi : i < 3
  · have hmem : i ∉ setBits (a ^^^ b) := h ▸ List.not_mem_nil
    have hxor : (a ^^^ b).testBit i = false := by
      cases hbit : (a ^^^ b).testBit i with
      | false => rfl
      | true => exact absurd (mem_setBits.2 ⟨hi, hbit⟩) hmem
    rw [Nat.testBit_xor] at hxor
    exact bne_eq_false_iff_eq.1 hxor
  · have h8 : 2 ^ 3 ≤ 2 ^ i := Nat.pow_le_pow_right (by decide) (Nat.le_of_not_lt hi)
    rw [Nat.testBit_lt_two_pow (Nat.lt_of_lt_of_le ha h8), Nat.testBit_lt_two_pow (Nat.lt_of_lt_of_le hb h8)]

theorem route_of_setBits_nil {a b : Nat} (h : setBits (a ^^^ b) = []) (f : Nat) : route f a b = [] := by
  cases f <;> simp [route, firstPort_eq_head?, h]

theorem route_of_setBits_cons {a b p : Nat} {ps : List Nat} (h : setBits (a ^^^ b) = p :: ps) (f : Nat) :
    route (f + 1) a b = (min a (a ^^^ 2 ^ p), p) :: route f (a ^^^ 2 ^ p) b := by
  simp [route, firstPort_eq_head?, h]

theorem setBits_next_wing {a b p : Nat} {ps : List Nat} (h : setBits (a ^^^ b) = p :: ps) :
    setBits ((a ^^^ 2 ^ p) ^^^ b) = ps := by
  rw [Nat.xor_assoc, Nat.xor_comm (2 ^ p) b, ← Nat.xor_assoc]
  exact setBits_xor_two_pow h

theorem next_wing_lt {a b p : Nat} {ps : List Nat} (ha : a < 8) (h : setBits (a ^^^ b) = p :: ps) :
    a ^^^ 2 ^ p < 8 :=
  Nat.xor_lt_two_pow (n := 3) ha (Nat.pow_lt_pow_right (by decide) (head_of_setBits_cons h).1)

theorem route_ports {b : Nat} (ps : List Nat) {a f : Nat} (h : setBits (a ^^^ b) = ps) (hf : ps.length ≤ f) :
    (route f a b).map (·.2) = ps := by
  induction ps generalizing a f with
  | nil => simp [route_of_setBits_nil h]
  | cons p ps ih =>
    obtain ⟨f, rfl⟩ : ∃ g, f = g + 1 := Nat.exists_eq_add_one.2 (by simp at hf; omega)
    simp [route_of_setBits_cons h, ih (setBits_next_wing h) (by simpa using hf)]

/-- The wing reached from `a` after crossing links in turn. -/
def wingAfter (a : Nat) (links : List (Nat × Nat)) : Nat := links.foldl (fun w l => w ^^^ 2 ^ l.2) a

@[simp] theorem wingAfter_nil (a : Nat) : wingAfter a [] = a := rfl

@[simp] theorem wingAfter_cons (a : Nat) (l : Nat × Nat) (ls : List (Nat × Nat)) :
    wingAfter a (l :: ls) = wingAfter (a ^^^ 2 ^ l.2) ls := rfl

theorem wingAfter_route {b : Nat} (hb : b < 8) (ps : List Nat) {a f : Nat} (ha : a < 8)
    (h : setBits (a ^^^ b) = ps) (hf : ps.length ≤ f) : wingAfter a (route f a b) = b := by
  induction ps generalizing a f with
  | nil => rw [route_of_setBits_nil h, wingAfter_nil, eq_of_setBits_eq_nil ha hb h]
  | cons p ps ih =>
    obtain ⟨f, rfl⟩ : ∃ g, f = g + 1 := Nat.exists_eq_add_one.2 (by simp at hf; omega)
    simp [route_of_setBits_cons h, ih (next_wing_lt ha h) (setBits_next_wing h) (by simpa using hf)]

/-- Each link is named by the lower of the wing reached before it and the wing it leads to. -/
theorem route_link_lower_wing {f a b i : Nat} {l : Nat × Nat} (h : (route f a b)[i]? = some l) :
    l.1 = min (wingAfter a ((route f a b).take i)) (wingAfter a ((route f a b).take i) ^^^ 2 ^ l.2) := by
  induction f generalizing a i with
  | zero => simp [route] at h
  | succ f ih =>
    cases hd : setBits (a ^^^ b) with
    | nil => simp [route_of_setBits_nil hd] at h
    | cons p ps =>
      rw [route_of_setBits_cons hd] at h ⊢
      cases i with
      | zero =>
        obtain rfl : _ = l := by simpa using h
        rfl
      | succ i => simpa using ih (by simpa using h)

/-- Settles O14: each crossing removes the head of `setBits (a ^^^ b)`, and no bit is left when the list is empty. -/
theorem routeIsDimensionOrder : Obligations.RouteIsDimensionOrder := by
  intro a b ha hb
  have hlen := length_setBits_le (a ^^^ b)
  exact ⟨route_ports _ rfl hlen, rfl, wingAfter_route hb _ ha rfl hlen, fun _ _ => route_link_lower_wing⟩

end Sys2Proof.Proofs.Routes
end

section
namespace Sys2Proof.Proofs.MessageTimes

open Sys2Proof.Machine

/-- The wait `(o - t) mod s`, formed in `Nat` with `s` added against the borrow, ends in phase `o`. -/
theorem add_wait_mod {o s : Nat} (ho : o < s) (t : Nat) : (t + (o + s - t % s) % s) % s = o := by
  have ht : t % s < s := Nat.mod_lt t (by omega)
  have hsplit : s * (t / s) + t % s = t := Nat.div_add_mod t s
  calc (t + (o + s - t % s) % s) % s
      = (t + (o + s - t % s)) % s := Nat.add_mod_mod ..
    _ = (o + s + s * (t / s)) % s := by congr 1; omega
    _ = o := by rw [Nat.add_mul_mod_self_left, Nat.add_mod_right, Nat.mod_eq_of_lt ho]

/-- Table 1-3: each class's offset is one of its own phases. -/
theorem slotOffset_lt_slotSpacing (c : FabClass) : slotOffset c < slotSpacing c := by
  cases c <;> decide

theorem slotSpacing_pos (c : FabClass) : 0 < slotSpacing c :=
  Nat.zero_lt_of_lt (slotOffset_lt_slotSpacing c)

theorem add_slotWait_mod (c : FabClass) (t : Nat) : (t + slotWait c t) % slotSpacing c = slotOffset c :=
  add_wait_mod (slotOffset_lt_slotSpacing c) t

theorem slotWait_lt (c : FabClass) (t : Nat) : slotWait c t < slotSpacing c :=
  Nat.mod_lt _ (slotSpacing_pos c)

theorem add_forwardWait_mod (c : FabClass) : (24 + forwardWait c) % slotSpacing c = 0 := by
  simpa [forwardWait] using add_wait_mod (slotSpacing_pos c) 24

theorem forwardWait_lt (c : FabClass) : forwardWait c < slotSpacing c :=
  Nat.mod_lt _ (slotSpacing_pos c)

theorem forwardWait_of_short {c : FabClass} (h : slotSpacing c = 2 ∨ slotSpacing c = 8) : forwardWait c = 0 := by
  obtain h | h := h <;> simp [forwardWait, h]

theorem forwardWait_of_long {c : FabClass} (h : slotSpacing c = 16 ∨ slotSpacing c = 32) : forwardWait c = 8 := by
  obtain h | h := h <;> simp [forwardWait, h]

theorem messageTime_of_pos {h : Nat} (hh : 1 ≤ h) (c : FabClass) (b t : Nat) :
    messageTime c b h t = slotWait c t + (b - 1) * slotSpacing c + 24 + (h - 1) * (24 + forwardWait c) :=
  if_neg (by omega)

/-- Settles O15: both waits are one modular fact, and over at least one hop the time is R18's sum. -/
theorem messageTimeFormula : Obligations.MessageTimeFormula := by
  intro c b h t _ hh
  exact ⟨add_slotWait_mod c t, slotWait_lt c t, add_forwardWait_mod c, forwardWait_lt c, forwardWait_of_short,
    forwardWait_of_long, messageTime_of_pos hh c b t⟩

end Sys2Proof.Proofs.MessageTimes
end
